-- ==== Sys2Proof/Word.lean ====
section
/-! DEFINITION. The byte of the ZS8's structures. Every multi-byte field of the manual is a list of these, read and
written by the codecs of `Machine/Bytes.lean`. -/

namespace Sys2Proof

/-- One byte of a ring entry, payload, record, permit or buffer. -/
abbrev Byte := BitVec 8

end Sys2Proof
end

