-- ==== Sys2Proof/Syntax.lean ====
section
/-! DEFINITION. The commands of the ZS8: one constructor per row of the opcode table. A host command carries the request
as its entry and BLK data give it; a row for something that happens (an edge, a tick, a received message, a completion)
carries what the environment supplies with it. -/

namespace Sys2Proof

/-- A request whose entry passed the entry checks of Table HR-10: the ring's slot, the CMD index, whether it carried a
tag that verified, its body, and the BLK data attached to it. -/
structure Request where
  slot : Nat := 0
  ref : Nat := 0
  tagged : Bool := false
  body : List Byte := []
  blkAttached : Bool := false
  blk : List Byte := []
  deriving DecidableEq, Repr, Inhabited

/-- What an accounting step of the ledger finds (R220): VSYS in mV, POWER_1MS of the eight X chains in 1/64 dB of full scale, the
1 ms mean codes of P0 to P7, B0 and B1 with the marks of an invalid window, and the battery energy in µJ of the paired samples,
positive for discharge. -/
structure StepSample where
  vsys : Nat := 12000
  power : List Int := []
  means : List Int := []
  invalid : List Bool := []
  battery : Int := 0
  deriving DecidableEq, Repr, Inhabited

/-- What a pack answers on SMBus (R222): RemainingCapacity and FullChargeCapacity in 10 mWh, SerialNumber and DeviceName as
SMBUS_PACK carries them, and ManufacturerData. -/
structure SmbusPack where
  remaining : Nat := 0
  full : Nat := 0
  names : List Byte := []
  data : List Byte := []
  deriving DecidableEq, Repr, Inhabited

/-- What a configurable averager found in a window (R327, R329): the exact sum of the power words, the valid samples, the
samples summed when the sum passed 2^64 − 1, and whether a summed sample carried SAT. -/
structure Window where
  sum : Nat := 0
  valid : Nat := 0
  overAt : Nat := 0
  clipped : Bool := false
  deriving DecidableEq, Repr, Inhabited

/-- What a convoy's control sample finds newly measured; an absent reading is not due or invalid (R351). `power` is P_in
at the receive antenna port and `feedback` the power at Ln_FB_IN, in 1/64 dBm over the last 1 ms; `paMw` the P-chain
power over the last accounting step; `source` the quantity D7 reads. -/
structure Readings where
  power : Option Int := none
  feedback : Option Int := none
  paMw : Option Nat := none
  source : Option Int := none
  deriving DecidableEq, Repr, Inhabited

/-- A lane segment of a bale's payload (Table CL-4): its lane_flags and scale, and whether it came after the instant of its
sum (R425). -/
structure Segment where
  flags : Nat := 0
  scale : Int := 0
  late : Bool := false
  deriving DecidableEq, Repr, Inhabited

/-- A detection of a band's synchronisation signal (R448, R452): the time-stamp of its start at the lane's input pin, the
strongest cell's physical identity, whether it is NR, its reference power in 1/64 dBm and its offset in ppt. -/
structure Sighting where
  sync : Nat := 0
  pci : Nat := 0
  nr : Bool := false
  power : Int := 0
  offset : Int := 0
  deriving DecidableEq, Repr, Inhabited

/-- What a SCAN or lane capture of one segment measured (R478): the level of each of its points in 1/64 dBm, whether SAT was
seen, and for an invalid segment its cause: 0 unlock, 1 gap, 2 fault. -/
structure ScanCapture where
  levels : List Int := []
  clipped : Bool := false
  invalid : Option Nat := none
  deriving DecidableEq, Repr, Inhabited

/-- A cell that the synchronisation detector found in a capture (R479, R482). -/
structure CellFound where
  identity : Nat := 0
  block : Nat := 0
  timing : Nat := 0
  power : Int := 0
  sinr : Int := 0
  offset : Int := 0
  detections : Nat := 0
  period : Nat := 0
  deriving DecidableEq, Repr, Inhabited

/-- A cell search's capture: the cells found and whether SAT was seen. -/
structure CellCapture where
  cells : List CellFound := []
  clipped : Bool := false
  deriving DecidableEq, Repr, Inhabited

/-- The cross-correlation of a probe (R487): its peaks as lag in ns and correlated power in 1/64 dBm at the receive port, the
correlation noise, the noise in dBm/MHz, and whether SAT or more than in_max was received. -/
structure ProbeCapture where
  peaks : List (Nat × Int) := []
  corrNoise : Int := 0
  noise : Int := 0
  clipped : Bool := false
  overload : Bool := false
  deriving DecidableEq, Repr, Inhabited

/-- The moments of the metering samples of a cycle or an interval, before calibration: the sample count, per chain M0 to M3
the sum and the sum of squares of its outputs, and the sums of the products of M0 with M1 and with M2, all aligned at the M0
time-stamps (R495). `gaps` counts samples whose M0 or M1 carries GAP; `clipped` has bit 0 or 1 set where an M0
or M1 stage set SAT. -/
structure MeterSums where
  n : Nat := 1000
  sums : List Int := [0, 0, 0, 0]
  squares : List Nat := [0, 0, 0, 0]
  vi : Int := 0
  vn : Int := 0
  gaps : Nat := 0
  clipped : Nat := 0
  deriving DecidableEq, Repr, Inhabited

/-- The commands, in the order of the opcode table. -/
inductive Instr where
  /-- A quad-SPI transaction that breaks an instruction, region, count or alignment rule is discarded or read as zeros, and one host error is counted (R91). -/
  | qspiTransactionRejected (instr addr count : Nat)
  /-- A write to an HRW field that has no row of its own: a mask, HOST_CTRL, an RO field, a reserved byte or the ring window; RO and reserved writes count a host error (R95). -/
  | hrwWrite (addr : Nat) (bytes : List Byte)
  /-- A write to RING_CFG[n] stores, enables or disables a ring under the enable, layout and session rules, or is refused with a host error (R99). -/
  | ringCfgWrite (ring value : Nat)
  /-- A DOORBELL write advances a host index when the advance fits the available entries, each BLK half on its own; it is latched before READY and in SLEEP (R102). -/
  | doorbellWrite (ring value : Nat)
  /-- Writing 1s to RING_IRQ clears those bits, except bits the ZS8 sets in the same instant (R97). -/
  | ringIrqClear (mask : Nat)
  /-- Writing 1s to DEV_IRQ clears those bits, except bits the ZS8 sets in the same instant (R97). -/
  | devIrqClear (mask : Nat)
  /-- At SET_CONFIGURATION all 32 rings are enabled with depth 64 at BASE n × 64 (R122). -/
  | usbSetConfiguration (fullSpeed : Bool)
  /-- An OUT packet is accepted or NAKed, and its entries are routed by kind to the CMD ring or the BLK down half (R123). -/
  | usbOutPacket (slot : Nat) (bytes : List Byte)
  /-- The host's acknowledgement of an IN packet advances the host consumer index of each ring or half it carried (R123). -/
  | usbInAck (slot n : Nat)
  /-- An EP0 HRW_READ or HRW_WRITE request is served, or an invalid one is answered with STALL and a host error (R122). -/
  | usbEp0Request (requestType request value length : Nat) (data : List Byte)
  /-- A bus reset, a suspend or the loss of USB_VBUS ends no session and changes no ring; unacknowledged IN entries are sent again (R124). -/
  | usbBusReset (kind : Nat)
  /-- USB resume signalled by the host wakes the ZS8 from SLEEP (R191). -/
  | usbResume
  /-- A HOST_WAKE rising edge held for 10 µs returns the ZS8 from SLEEP, or starts it from WATCH (R119). -/
  | hostWakeEdge (held : Nat)
  /-- Once an entry is due, the ZS8 consumes the next CMD entry of a ring within 200 µs and applies the entry checks; slots are ordered by rotation (R110). -/
  | cmdEntryConsume
  /-- A response, with its up-half blocks, is written once the RSP ring and the up half have room (R108). -/
  | responseWrite (slot : Nat)
  /-- For a long command with a bound above 1 s, a PROGRESS entry is written at most 1,000 ms after the previous one (R148). -/
  | progressEntry (slot ref permille : Nat) (detail : List Byte)
  /-- An event is written to the EVT ring of each receiving session whose mask enables it, after the first response of the command that caused it (R113). -/
  | eventDelivery
  /-- Returns the request body unchanged (R154). -/
  | nop (r : Request)
  /-- Exchanges nonces and creates the slot's pending challenge, or answers NOT_YET during a lockout (R137). -/
  | helloPhase1 (r : Request)
  /-- Checks host_proof against the pending challenge and opens the session with device_proof, or answers DENIED and counts a failure (R138). -/
  | helloPhase2 (r : Request)
  /-- The HELLO lockout of a slot ends when its time runs out (R87). -/
  | helloLockoutExpiry (slot : Nat)
  /-- A pending challenge lapses 1,000 ms after its phase 1 response is written (R137). -/
  | helloChallengeLapse (slot : Nat)
  /-- Ends the session after its response, which is the last entry tagged under K_s (R141). -/
  | bye (r : Request)
  /-- Returns one parameter value with its type code, after the ID, index and access checks (R143). -/
  | paramGet (r : Request)
  /-- Writes one parameter value as a whole, checking its type, size and qfrac; an NVM parameter completes once the journal holds it (R144). -/
  | paramSet (r : Request)
  /-- Returns up to 8 parameter descriptors of one class in ascending ID order (R146). -/
  | paramList (r : Request)
  /-- Replaces, enables or disables bits of the session's event mask for one class (R152). -/
  | eventMaskSet (r : Request)
  /-- Returns the unit's mode, topology, clock, session and device flags (R154). -/
  | statusGet (r : Request)
  /-- Accepts a change of unit mode while every lane is muted, and from then refuses lane unmutes until completion (R23). -/
  | modeSet (r : Request)
  /-- Completes the mode change, mutes every lane convoy, zeroes drover states, restarts supervisors and raises MODE_CHANGED (R23). -/
  | modeSetComplete
  /-- Requests ACTIVE, SLEEP or WATCH; SLEEP follows its completion, and WATCH runs the orderly shutdown sequence (R214). -/
  | powerStateSet (r : Request)
  /-- Resets the device through the orderly sequence, or restarts Quire C alone, unless a band bridges (R215). -/
  | reset (r : Request)
  /-- Returns the variant, stepping, counts, serial, quire versions and USB IDs (R213). -/
  | infoGet (r : Request)
  /-- Returns the temperature sensors, the thermal threshold, the warning level and the thermal state (R213). -/
  | tempGet (r : Request)
  /-- Accepts a full provision of an EMPTY or REVOKED slot, or an update of keys, shares and overhead of an ACTIVE slot (R80). -/
  | slotProvision (r : Request)
  /-- Completes a provision: erases the partition, creates a vault key, sets the quota, resets the HELLO count and raises SLOT_PROVISIONED (R80). -/
  | slotProvisionComplete (slot ref : Nat)
  /-- Accepts the revocation of a tenant slot (R81). -/
  | slotRevoke (r : Request)
  /-- Ends the session, withdraws the lanes, destroys the vault key, credential, keys and permits, zeroes quota and shares, and records SLOT_REVOKED (R81). -/
  | slotRevokeComplete (slot ref : Nat)
  /-- Verifies a permit in the order of Table TI-4 and stores it in a free or matching entry, raising PERMIT_STATE_CHANGED (R58). -/
  | permitLoad (r : Request)
  /-- Returns the state and fields of one permit-table entry (R79). -/
  | permitStatus (r : Request)
  /-- Frees a permit entry unless a started band or a running job uses it (R82). -/
  | permitRemove (r : Request)
  /-- Gives a lane and its ranges to a slot; a move away ends the lane's band and restores the convoy defaults (R65). -/
  | laneAssign (r : Request)
  /-- Returns a vault object, or answers FAULT, marks the object empty and raises VAULT_OBJECT_LOST when its tag fails (R88). -/
  | vaultRead (r : Request)
  /-- Accepts an encrypted write or a deletion of a vault object within the slot's NVM share (R76). -/
  | vaultWrite (r : Request)
  /-- Once the journal holds the object, the completion is written with the new write counter (R76). -/
  | vaultWriteComplete (slot ref : Nat)
  /-- Replaces the slot's credential with the one decrypted under K_s, and moves an enrolment slot to ACTIVE (R54). -/
  | slotRekey (r : Request)
  /-- At every whole wall second and every change of wall time, permit states are evaluated against the effective time E (R59). -/
  | permitEvaluation
  /-- At each 250 µs tick, the requests that became pending are appended to the resource queues, within share first, in rotation order (R69). -/
  | schedulerTick
  /-- At each 1 s frame, reservations renew and queued requests beyond share are classified again (R70). -/
  | frameStart
  /-- Returns the ledger mode, levels, battery energy, pool and the slot's available energy (R240). -/
  | ledgerGet (r : Request)
  /-- Sets or adds to a tenant's grant and balance, and its exhaustion action (R242). -/
  | quotaSet (r : Request)
  /-- Returns the estimate and rate of a job without admitting it (R240). -/
  | jobEstimate (r : Request)
  /-- Admits a job when its reservation fits the slot's available energy, and returns a handle (R232). -/
  | jobAdmit (r : Request)
  /-- Stores a slot's planned end as a TKC value, or clears it (R237). -/
  | planEndSet (r : Request)
  /-- Releases an admitted job that has not started (R240). -/
  | jobRelease (r : Request)
  /-- A job admitted and not started within 10 s is released (R234). -/
  | jobAdmissionExpiry (slot handle : Nat)
  /-- Sets the host VCORE ceiling and floor, which apply once the journal holds them (R185). -/
  | pacePolicySet (r : Request)
  /-- Every 1 ms the ledger adds battery and mains energy, attributes energy to slots, debits quotas and evaluates tiers and exhaustion (R220). -/
  | accountingStep (m : StepSample)
  /-- Within 100 ms of READY the ledger estimates battery energy from the restored value, SMBus or the OCV table, and leaves cold budget (R222). -/
  | firstBatteryEstimate (smbus : Option SmbusPack)
  /-- After 20 min at low current, BAT_ENERGY is re-anchored to the OCV estimate when the two differ by more than 2 % (R223). -/
  | ledgerReanchored
  /-- A VSYS fall of 300 mV within 10 ms at low battery current measures the hold-up capacitance (R227). -/
  | holdupMeasured (v1 v2 us energy : Nat)
  /-- Every 1 s, and on each balance, plan or lane change, the ENERGY targets of a slot's bridging lanes are recomputed (R237). -/
  | energyTargetUpdate (slot : Nat)
  /-- Every 10 s the balances, grants, totals and plan ends are written to the journal (R238). -/
  | ledgerJournalSave
  /-- After 60 s of HARD_HOLD at a start with MAINS_OK low, the ZS8 enters WATCH (R226). -/
  | hardHoldTimeout
  /-- A work unit completing with slack below T raises VCORE by 5 mV (R166). -/
  | workUnitComplete (domain : Nat) (slack : Int)
  /-- At the end of each 1 ms window SLACK_MIN is reported, and the pace loop may lower VCORE by 5 mV (R164). -/
  | slackWindowEnd
  /-- Every 100 µs VCORE is lowered by 5 mV towards a lowered ceiling_eff (R173). -/
  | ceilingDescentStep
  /-- A mutual-exclusion grant that resolves beyond 20 ns is counted in ARB_LONG_COUNT (R177). -/
  | arbLongGrant
  /-- A detection of a fault source of Table SF-3 or Table FD-3 takes that source's recovery action and is counted (R180). -/
  | faultDetection (source : Nat) (object : Nat) (detail : Nat) (lost : Option (Nat × Nat)) (spoiled : Option (Nat × Nat))
  /-- After 10 s in PHASE=FAULT with a recoverable cause, the ZS8 resets with cause 0x09 (R569). -/
  | faultResetTimer
  /-- Reset is released once VSYS has stayed at or above 4.6 V with RESET_N high for 2 ms, and start-up begins (R193). -/
  | resetRelease (vsys : Nat) (hostSel : Bool)
  /-- Within 20 ms of reset release the HRW becomes readable and GNSS buffering starts (R194). -/
  | hrwReadable
  /-- Quire B verifies Quires C and M, Quire M runs, and PHASE becomes QUIRES or FAULT (R568). -/
  | phaseQuires (cOk mOk otherOk factoryOk : Bool) (lost : List (Nat × Nat))
  /-- Quire M resumes from its newest valid save, records METER_GAP and starts integration (R522). -/
  | meteringStart (saveValid : Bool)
  /-- Quire C runs, PHASE becomes READY, and the first pending entry of each CMD ring is consumed in slot order (R196). -/
  | phaseReady
  /-- TX_DISABLE is released on each port with a module, after READY or on acceptance of a module (R407). -/
  | txDisableRelease
  /-- Baseline lane calibration completes, and lane commands stop answering NOT_YET (R194). -/
  | laneCalibrationComplete
  /-- Raised when every applicable start step is reached, or at 1,200 ms (R216). -/
  | startComplete
  /-- Every 100 µs the junction is sampled and THERMAL_STATE moves between NORMAL, WARNING and SHUTDOWN (R207). -/
  | thermalSample (temps : List (Option Int))
  /-- At S + 6 °C the hardware removes VCORE and the radio rails within 100 µs without a flush, and holds as in WATCH (R211). -/
  | hardAbort (temps : List (Option Int))
  /-- When the junction falls below S − 15 °C after a hard abort, the unit starts with cause 0x06 (R211). -/
  | hardAbortRelease (junction : Int)
  /-- The shutdown flush finishes writing staged records, pending journal entries and the flush flag (R205). -/
  | shutdownFlushComplete
  /-- VSYS below 4.5 V mutes every lane, abandons any erase, completes the page in flight and starts the flush (R202). -/
  | brownOutWarning (vsys : Nat)
  /-- VSYS below 3.0 V resets the ZS8 with cause 0x02 (R201). -/
  | brownOutReset (vsys : Nat)
  /-- VSYS below 2.5 V loses the always-on domain, so the next start is cause 0x01 (R201). -/
  | alwaysOnLoss (vsys : Nat)
  /-- VSYS at or above 4.6 V for 5 ms after the flush ends the brown-out hold (R203). -/
  | brownOutRecovered (vsys : Nat)
  /-- The orderly sequence ends in WATCH or in a reset, after muting lanes, completing long commands, flushing and ending sessions (R206). -/
  | orderlyShutdownEnd
  /-- The ZS8 enters SLEEP: lanes in DOZE, SFP transmitters disabled, doorbells latched (R189). -/
  | sleepEntry
  /-- A wake source returns the ZS8 from SLEEP to ACTIVE within 2 ms and sets DEV_IRQ[3] (R191). -/
  | sleepReturn
  /-- A level change of MAINS_OK wakes the ZS8 from WATCH or SLEEP and informs the ledger (R190). -/
  | mainsOkChange (level : Bool)
  /-- RESET_N low for at least 10 µs resets the ZS8 at once with cause 0x03, without a flush (R598). -/
  | resetPin (lowNs : Nat) (still : Bool)
  /-- VIO entering its range sets the VIO mode and lets the HRW become readable (R591). -/
  | vioValid (high : Bool)
  /-- VIO out of range for 10 µs runs the brown-out sequence with every VIO output high-impedance (R592). -/
  | vioLoss
  /-- Stores a centre frequency and rate in READY, or retunes a lane in LISTEN through LOCK (R275). -/
  | laneTune (r : Request)
  /-- Moves a lane to OFF, DOZE, READY or LISTEN (R276). -/
  | laneStateSet (r : Request)
  /-- Accepts a calibration run over a list of permitted channels (R277). -/
  | calRun (r : Request)
  /-- Each channel is calibrated in loopback and stored, and the lane returns to its state before the run (R277). -/
  | calRunComplete (slot ref done : Nat)
  /-- Returns one calibration store entry (R274). -/
  | calStoreGet (r : Request)
  /-- Sets CLOSED or OPEN transmit power mode, with its backoff (R269). -/
  | txpowerModeSet (r : Request)
  /-- Assembles a PA table from segments, checks it and commits it at the last segment (R278). -/
  | paTableLoad (r : Request)
  /-- At the scheduled instants the switch pins change and Ln_PA_EN rises, and the lane enters SPEAK or THROUGH (R261). -/
  | burstStart (lane : Nat) (downlink : Bool)
  /-- At burst end Ln_PA_EN falls, the switch pins return, and the lane returns to its rest state (R255). -/
  | burstEnd (lane : Nat)
  /-- A synthesiser loss of lock mutes the lane, recalibrates it and returns it to its state within 200 µs (R253). -/
  | synthUnlock (lane synth : Nat)
  /-- A synthesiser not locked 400 µs after LOCK places the lane in READY and fails the tune or channel (R283). -/
  | synthLockTimeout (lane synth channel : Nat)
  /-- A background calibration step runs in a guard interval; a completed 24-step cycle refines the store entry (R256). -/
  | bgcalStep (lane : Nat) (plausible : Bool)
  /-- An FDD lane that has drifted more than 8 °C runs one calibration cycle in a 120 µs window (R257). -/
  | bgcalFddWindow (lane : Nat) (plausible : Bool)
  /-- A quiet feedback detector for 10 ms switches the lane to OPEN with a 3 dB backoff (R284). -/
  | feedbackLost (lane : Nat)
  /-- Every 1 ms the temperature and supply compensation of the TX entries is recomputed (R264). -/
  | paCompUpdate
  /-- Accepts a regional profile with its power table (R311). -/
  | courierProfileSet (r : Request)
  /-- Every channel of the profile is calibrated, and the profile replaces the old one and is journalled (R303). -/
  | courierProfileSetComplete (slot : Nat) (ref : Nat) (failed : List Nat)
  /-- Queues a DATA packet or a WAKE train to a unit of the chain (R306). -/
  | courierSend (r : Request)
  /-- A send completes when it is acknowledged, its retries are exhausted, or the woken target answers (R297). -/
  | courierSendComplete (slot : Nat) (ref : Nat)
  /-- Sets the courier state and its return state (R311). -/
  | courierStateSet (r : Request)
  /-- Returns courier packet, retry and failure counts for the device or the slot (R310). -/
  | courierStatsGet (r : Request)
  /-- At each 50 ms hop slot the radio moves to the slot's channel and starts queued packets that fit (R294). -/
  | hopSlotStart (rssi : Int)
  /-- After a busy channel or a backoff, the random deferral ends and the channel is measured again (R296). -/
  | courierDeferExpiry (rssi : Int)
  /-- After each packet and its ACK exchange, the radio returns to COURIER_RETURN_STATE within 100 µs (R302). -/
  | courierPacketEnd
  /-- A received packet is checked and accepted, or discarded and counted by cause (R293). -/
  | courierPacketReceive (air : List Byte) (rssi : Int) (antennaB : Bool) (sync : Nat)
  /-- No ACK in time schedules a retry with a raised power step, up to COURIER_RETRIES (R297). -/
  | courierAckTimeout
  /-- While the link is up, the head sends a BEACON every 1 s (R298). -/
  | beaconSend
  /-- Every sniff interval the radio samples each wake channel for 250 µs (R307). -/
  | sniffCycle (heard : Option (List Byte × Int))
  /-- After a wake whose check failed, the ZS8 enters WATCH again after 10 s unless a session has opened or another source fired (R308). -/
  | courierWakeRewatch
  /-- Between packets the most drifted channel is recalibrated (R303). -/
  | courierCalStep (ok : Bool) (lost : Bool)
  /-- A chain peer whose link is down, silent for 5 s and then every 60 s, is reported (R312). -/
  | courierPeerSilent (unit : Nat)
  /-- During a link loss, every 2 s FALLBACK packets carry STATUS up and CLOCK down (R436). -/
  | fallbackStatusTimer
  /-- Sets the preset, T preset and averager of an X chain (R336). -/
  | chainConfig (r : Request)
  /-- Writes a custom FIR to a shadow bank of an X or SC chain (R337). -/
  | firLoad (r : Request)
  /-- Arms, changes or disables a chain threshold (R338). -/
  | threshSet (r : Request)
  /-- Returns a chain's averager, threshold and saturation status, optionally clearing its SAT flags (R335). -/
  | chainStatusGet (r : Request)
  /-- Returns the X, T and path delays of a lane preset and rate (R339). -/
  | delayGet (r : Request)
  /-- A configurable averager window ends and reports its mean, sum, valid count and status (R327). -/
  | avgWindowEnd (chain : Nat) (m : Window)
  /-- A threshold fires or clears once its dwell count completes, signalling the Convoy engine or the host (R331). -/
  | thresholdCrossed (chain thr : Nat) (value : Int)
  /-- A clipping stage sets its sticky SAT flag and counts, reported once per stage between clears (R326). -/
  | chainSaturated (chain stage clips : Nat)
  /-- A 1-bit input with no transition for 1,024 bits marks later outputs GAP (R342). -/
  | chainInputStuck (chain level : Nat)
  /-- The first transition of a stuck input resumes the chain after its fill (R342). -/
  | chainInputResume (chain : Nat)
  /-- Takes a drover out of the convoy rule, or mutes the convoy for D3 or D4 (R366). -/
  | droverOpen (r : Request)
  /-- Returns a drover to the rule bumplessly with its new coefficients (R367). -/
  | droverClose (r : Request)
  /-- Sets the coefficients, rate and setpoint of an OPEN drover (R368). -/
  | droverCoefSet (r : Request)
  /-- Returns a convoy's output, winner, drover outputs and mute sources (R364). -/
  | convoyStatusGet (r : Request)
  /-- Sets a drover saturation limit or a convoy starvation limit (R361). -/
  | supervisorSet (r : Request)
  /-- Returns a lane's isolation estimate, state and loop delay (R364). -/
  | isolationGet (r : Request)
  /-- Each control sample steps due drovers, takes the lowest output, tracks the losers and outputs G or MUTE (R345). -/
  | controlSample (convoy : Nat) (m : Readings)
  /-- Every 1 ms each transmitting lane's composite allocation and POWER setpoint are recomputed (R352). -/
  | compositePowerUpdate
  /-- No REMOTE value for 50 ms makes D1 MUTE at a follower (R346). -/
  | remoteAged (convoy : Nat)
  /-- A protective drover or REMOTE holding the output below HOST_CEILING for 100 ms is reported (R356). -/
  | convoyLimited (convoy : Nat)
  /-- A drover at a limit longer than SUPERVISOR_LIMIT is reported once per episode (R361). -/
  | droverSaturated (convoy drover : Nat)
  /-- A started lane convoy muted longer than STARVE_LIMIT is reported once per episode (R361). -/
  | convoyStarved (convoy : Nat)
  /-- Every 10 ms the estimator correlates receive and reference samples and updates I_est, the state and I_eff (R357). -/
  | isolationWindow (lane validPercent : Nat) (reference : Int) (estimate : Option Int) (delay : Nat)
  /-- A declared oscillation mutes the path directly, marks the estimate STALE, and climbs the ladder (R359). -/
  | oscillationDetected (lane criterion : Nat)
  /-- After the back-off the convoy releases at the lower of its default G_start and LADDER (R360). -/
  | oscBackoffExpiry (lane : Nat)
  /-- After 300 s without a detection the rung returns to 0 and LADDER retires (R360). -/
  | oscLadderReset (lane : Nat)
  /-- Sets a reference's enable, priority, QL, qualification time and mode (R401). -/
  | refConfig (r : Request)
  /-- Returns a reference's state, QL, offset and failure history (R398). -/
  | refStatusGet (r : Request)
  /-- Sets the tracking and acquisition bandwidth codes of a reference (R382). -/
  | clockBwSet (r : Request)
  /-- Drives the steering word by software, or returns to automatic selection (R400). -/
  | steerSet (r : Request)
  /-- Sets wall time from the host, subject to the forward-jump limit (R399). -/
  | walltimeSet (r : Request)
  /-- Forces a qualified reference, or releases the force (R380). -/
  | refForce (r : Request)
  /-- Every 1 ms the RCU checks each reference and selects, switches, or enters HOLDOVER or FREE_RUN (R379). -/
  | selectionStep (delta : Int)
  /-- A selected reference still failed at the end of HOLD_OFF becomes FAILED (R377). -/
  | holdOffExpiry
  /-- A reference good for REF_QUAL_TIME, or through WAIT_TO_RESTORE, becomes QUALIFIED (R376). -/
  | refQualified (ref : Nat)
  /-- A FAILED reference leaves qualification after HOLDOVER_WINDOW (R378). -/
  | failedWindowExpiry (ref : Nat)
  /-- A phase error within the lock window for 10 time constants declares LOCKED and moves to the tracking code (R381). -/
  | lockDeclared
  /-- A phase error beyond four lock windows for 1 s returns the loop to ACQUIRING (R381). -/
  | lockLost
  /-- HOLDOVER_WINDOW ending without a candidate moves the RCU to FREE_RUN (R383). -/
  | holdoverExpired
  /-- Every 1 s in FREE_RUN the steering word is recomputed from the learned XO table (R384). -/
  | freeRunUpdate
  /-- Once per minute while locked to a good reference, the XO table bin is updated (R385). -/
  | xoTableLearn
  /-- Every 10 min the XO table is journalled (R385). -/
  | xoTableJournal
  /-- The output monitor declares LOST, moving the TKC to the low-rate oscillator and holding CLK_REF_OUT low (R388). -/
  | clockLost (cause : Nat)
  /-- After 100 ms without the LOST condition the RCU enters FREE_RUN (R388). -/
  | lostExit
  /-- A PPS edge with its NMEA label drives wall time while GNSS qualifies (R393). -/
  | gnssPpsEdge (offset : Int) (phase : Int)
  /-- A ZDA or RMC sentence supplies a PPS label and the GNSS level (R393). -/
  | nmeaSentence (label : Nat) (second60 : Bool) (statusV : Bool) (size : Nat)
  /-- Every 60 s the high-water mark is journalled (R395). -/
  | wallHighWaterSave
  /-- Sets a port's rate, FEC, asymmetry and fibre figure; a rate or FEC change retrains the port (R433). -/
  | linkConfig (r : Request)
  /-- Returns a port's state, delays, bales missed and module diagnostics (R432). -/
  | linkStatusGet (r : Request)
  /-- Starts a join as head or follower with the join secret (R417). -/
  | chainJoin (r : Request)
  /-- Leaves the chain when no band bridges and no unit below is joined (R433). -/
  | chainLeave (r : Request)
  /-- Replaces bales with PRBS31 in PAIRED or LOOPBACK mode for the requested duration (R428). -/
  | linkTestStart (r : Request)
  /-- At the end of the duration bales resume, counts are exchanged and the completion is written (R428). -/
  | linkTestEnd (port bits errors rtt : Nat) (locked : Bool)
  /-- Returns the result of the last completed test on a port (R433). -/
  | linkTestResult (r : Request)
  /-- After MOD_ABS has been low for 100 ms, the module's A0h data are read and the module is accepted or refused (R405). -/
  | sfpModuleIdentify (port : Nat) (a0 : Option (List Byte))
  /-- Block lock and a valid bale header bring a port UP (R407). -/
  | portUp (port count source tag : Nat)
  /-- A detected link loss mutes downlink lanes below, removes uplink contributions, and sends BREAK (R435). -/
  | linkLoss (port cause : Nat)
  /-- A received bale is checked; a missed bale has its payload discarded and is counted (R410). -/
  | baleReceive (port : Nat) (headerBlock : Bool) (header : List Byte) (waybill : List Byte) (segments : List Segment)
  /-- A CLOCK message delivers the QL, clock state and wall time from the unit above (R415). -/
  | clockMessage (body : List Byte)
  /-- Every 10 ms the upper unit marks a bale and sends PROBE (R421). -/
  | probeSend (port t1 : Nat)
  /-- The lower unit answers a PROBE with PROBE_REPLY within 1 ms (R421). -/
  | probeMessage (body : List Byte) (t2 t3 : Nat)
  /-- The upper unit computes round-trip and one-way delays and sends DELAY (R421). -/
  | probeReplyMessage (port : Nat) (body : List Byte) (t4 : Nat)
  /-- The lower unit takes the delays, computes its TKC offset and feeds its LINK detector (R422). -/
  | delayMessage (body : List Byte)
  /-- A TKC step deferred during a burst is taken once no TDD lane is in or near a burst (R422). -/
  | tkcStepDeferred
  /-- A REMOTE message gives a follower lane its D1 ceiling and uplink reference from its first_ts (R31). -/
  | remoteMessage (body : List Byte)
  /-- A TDD message gives a follower the anchor, delay and pattern for its bursts (R451). -/
  | tddMessage (body : List Byte)
  /-- A follower receiving BAND ANNOUNCE answers with BAND STATE and its reason code (R441). -/
  | bandAnnounce (body : List Byte)
  /-- A follower named in BAND START runs its own start checks and answers within 500 ms (R443). -/
  | bandStartMessage (body : List Byte)
  /-- A follower receiving BAND STOP mutes the band within 5 ms and places it in IDLE (R446). -/
  | bandStopMessage (body : List Byte)
  /-- The head gathers a follower's STATE answer into the band's set (R444). -/
  | bandStateMessage (body : List Byte)
  /-- A follower receiving BREAK mutes its downlink lanes and relays the message (R435). -/
  | breakMessage (body : List Byte)
  /-- A follower's STATUS is relayed up and kept by the head (R415). -/
  | statusMessage (body : List Byte)
  /-- A follower's X and T delays and front-end delays reach the head for the band delay (R320). -/
  | delayFigMessage (body : List Byte)
  /-- The head checks the proof and capacity and answers JOIN_ACK with a unit number (R417). -/
  | joinReq (port : Nat) (body : List Byte)
  /-- The follower checks the head's proof, takes its number and format, steps its TKC and completes CHAIN_JOIN (R417). -/
  | joinAck (body : List Byte)
  /-- The head releases the leaving follower's number (R415). -/
  | leaveMessage (body : List Byte)
  /-- A TEST message requests, accepts or ends a paired medium test (R428). -/
  | testMessage (port : Nat) (body : List Byte)
  /-- Every 1 ms each unit originates a CLOCK message to its downstream ports (R415). -/
  | clockMessageSend
  /-- Every 10 ms each follower originates a STATUS message (R415). -/
  | statusMessageSend
  /-- On change and at least every 1 ms the head sends each follower its REMOTE ceiling (R457). -/
  | remoteMessageSend
  /-- On an anchor change and at least every 10 ms the head sends the TDD message (R451). -/
  | tddMessageSend
  /-- Every 1 s while a band exists, the head sends BAND ANNOUNCE (R441). -/
  | bandAnnounceSend
  /-- On change and every 1 s, a follower sends DELAY_FIG per configured lane (R415). -/
  | delayFigSend
  /-- Every 10 ms the head raises a lane's SUM_BACKOFF by 3 dB when over 1 % of its segments saturated (R427). -/
  | sumSatWindow (lane segments flagged : Nat)
  /-- After each 1 s without saturation the backoff falls by 1 dB (R427). -/
  | sumBackoffDecay (lane : Nat)
  /-- A member without STATUS by link or courier for 5 s, and then every 60 s, is reported (R436). -/
  | unitUnreachable (unit : Nat)
  /-- After a rejoin a follower resumes a band once LINK is LOCKED and the path delay fits, releasing from last − 20 dB (R437). -/
  | bandResumeAfterRejoin (band : Nat)
  /-- Creates, replaces or clears a band and tunes its lanes to LISTEN (R439). -/
  | bandConfig (r : Request)
  /-- Checks a band at the head, answers ACCEPTED, mutes its lanes and sends BAND START down (R442). -/
  | bridgeStart (r : Request)
  /-- After the set is fixed, a cell is detected and the pattern matches, the schedule is sent, the convoys release and the band is BRIDGING (R444). -/
  | bridgeStartComplete (band : Nat)
  /-- At 500 ms the band's set and delay are fixed from the answers received (R444). -/
  | followerAnswerTimeout (band : Nat)
  /-- No cell within 2,000 ms ends the start with STATE, reason 1 (R445). -/
  | startNoCellTimeout (band : Nat)
  /-- Mutes a band, sends BAND STOP, places it in IDLE and ends its standing jobs (R446). -/
  | bridgeStop (r : Request)
  /-- Returns a TDD band's pattern, anchor and last verdict (R463). -/
  | tddPatternGet (r : Request)
  /-- Returns a lane's band, triggers, rung and protective figures (R463). -/
  | protectionStatusGet (r : Request)
  /-- Every 20 ms the synchronisation detector runs on the band's downlink channel, updating presence and the TDD anchor (R452). -/
  | cellDetectorRun (band : Nat) (found : Option Sighting)
  /-- 2 s without a detection trips NO_CELL on the band at every unit (R452). -/
  | noCell (band : Nat)
  /-- A follower with no valid TDD message for 50 ms trips TDD_TIMING (R459). -/
  | tddMessageTimeout (band : Nat)
  /-- Every TDD_VERIFY_INTERVAL, or every 10 s while held, a learning window starts, with UL bursts suspended (R454). -/
  | tddVerifyStart (band : Nat)
  /-- At the end of a learning window the pattern is judged to match or mismatch the air (R453). -/
  | learningWindowEnd (band : Nat) (powers : List (List Int))
  /-- Every 1 ms the uplink noise at the donor antenna is estimated for D4 (R456). -/
  | ulNoiseUpdate
  /-- Every 1 ms D4 of a downlink lane tracks the input above DL_INPUT_LIMIT (R458). -/
  | dlOverloadUpdate
  /-- When a band's back-off ends with every trigger cleared, the convoy releases (R460). -/
  | restartBackoffExpiry (band : Nat)
  /-- After 300 s of bridging without a trip the band rung returns to 0 (R460). -/
  | bandRungReset (band : Nat)
  /-- Accepts a spectrum scan on the SCAN lane or a lane receiver (R476). -/
  | scanStart (r : Request)
  /-- Accepts a capture at one frequency that searches for LTE or NR cells (R482). -/
  | cellSearch (r : Request)
  /-- Accepts a 100 ms probe transmission that measures isolation within one unit (R483). -/
  | isolationProbe (r : Request)
  /-- Ends an open survey job within 5 ms, keeping its partial results (R490). -/
  | surveyAbort (r : Request)
  /-- Returns a range of a completed job's result data through the BLK up half (R475). -/
  | resultFetch (r : Request)
  /-- A granted SCAN capture of one segment completes and its points are formed (R477). -/
  | scanSegmentDone (slot ref : Nat) (m : ScanCapture)
  /-- A survey job writes its completion and keeps its results in the slot's store (R472). -/
  | surveyJobComplete (slot ref : Nat) (m : CellCapture)
  /-- A job not finished by its bound ends with BUSY, keeping its results (R472). -/
  | surveyBoundExpiry (slot ref : Nat)
  /-- A probe ends after 100 ms, or on a mute source or permit expiry, and asserts the mute path (R485). -/
  | probeEnd (slot ref : Nat) (m : ProbeCapture)
  /-- Every 100 ms an S0 SCAN capture measures the CELL reference (R481). -/
  | cellRefCapture (offset : Option Int) (phase : Int)
  /-- Loads a tariff table as pending, or active at once (R506). -/
  | tariffLoad (r : Request)
  /-- Returns an open or closed device or slot register block (R524). -/
  | registersGet (r : Request)
  /-- Closes the open billing period by command (R507). -/
  | periodClose (r : Request)
  /-- Returns the seal value, Quire M version, metrology event count and identifiers (R518). -/
  | sealValueGet (r : Request)
  /-- Returns each tamper condition's state and counts, and the bypass evidence (R524). -/
  | tamperStatusGet (r : Request)
  /-- Enables or disables a slot's attribution recording and sets its contract_ref (R511). -/
  | attributionSet (r : Request)
  /-- Accepts a signed calibration record that closes the period and takes effect from the next interval (R520). -/
  | meterCalLoad (r : Request)
  /-- Every 250 ms the interval's energy is added to the registers at the tariff in force, after metrology time is evaluated (R497). -/
  | integrationIntervalEnd (m : MeterSums)
  /-- Each accepted mains cycle yields rms values, mean power and frequency (R496). -/
  | mainsCycleEnd (milliHz : Nat) (m : MeterSums)
  /-- Each 0.1 Wh of import sends a 30 ms pulse on METER_PULSE, with a backlog at the maximum rate (R501). -/
  | meterPulse
  /-- A tamper condition holding for its time starts an episode (R515). -/
  | tamperStart (code : Nat)
  /-- A tamper condition absent for its time ends the episode (R515). -/
  | tamperEnd (code : Nat)
  /-- Every 24 h Quire M recomputes the seal value over its code (R517). -/
  | sealRecompute (computed : List Byte)
  /-- Every 1 s Quire M saves its registers and state to the journal (R522). -/
  | quireMSave
  /-- Flushes a partition's staging, then freezes it for up to 10 s (R544). -/
  | logFreeze (r : Request)
  /-- Thaws a partition, records FREEZE_LOST, and for partition 8 releases records up to release_to (R543). -/
  | logThaw (r : Request)
  /-- Returns up to count records in ascending sequence, skipping records whose check fails (R546). -/
  | logRead (r : Request)
  /-- Returns a partition's capacity, stored count, sequence range and flags (R549). -/
  | logInfo (r : Request)
  /-- A freeze ends by itself when its duration runs out (R544). -/
  | freezeExpiry (part : Nat)
  /-- At each frame start, or when half full, a partition's staged records are stored in NVM (R537). -/
  | colophonFlush (part : Nat)
  /-- A page program completes, advancing a journal entry's copies towards the new version (R555). -/
  | pageProgramComplete (retired : Option (Nat × Nat))
  /-- A sector erase completes and the sector joins the erased pool (R562). -/
  | eraseComplete (count : Nat) (retired : Option Nat)
  /-- A half with fewer than 16 erased sectors moves its tail's live entries to the head and erases the tail (R560). -/
  | compaction (half : Nat) (live : Nat)
  /-- Opens, writes, verifies or discards a staged firmware image in the inactive slot (R575). -/
  | fwStage (r : Request)
  /-- An open or verify of a staged image completes (R575). -/
  | fwStageComplete (slot : Nat) (ref : Nat)
  /-- Selects the verified image through the journal, then runs the orderly sequence and resets with cause 0x08 (R576). -/
  | fwCommit (r : Request)
  /-- Returns erase permission, spare sectors, wear and free pages (R578). -/
  | nvmStatus (r : Request)
  /-- Returns the factory serial, steering, calibration and key identifiers (R578). -/
  | factoryDataGet (r : Request)
  /-- Returns up to 8 fault source counters (R578). -/
  | faultCountersGet (r : Request)
  /-- Starts the chosen SRAM, NVM, arbitration and FIFO tests (R578). -/
  | selftestRun (r : Request)
  /-- The self-test completes and reports the tests run and failed (R578). -/
  | selftestComplete (slot : Nat) (ref : Nat) (failed : Nat) (arbLong : Nat) (sramFail : Nat) (scrubbed : Nat) (corrected : Nat)
  /-- Returns the shock source, episode state and the last recheck (R578). -/
  | shockStatusGet (r : Request)
  /-- Every 312.5 µs the accelerometer is read and a shock is detected above the threshold (R571). -/
  | accelRead (sample : Option (List Byte))
  /-- A SHOCK_IN high of at least 2 µs is a shock detection (R571). -/
  | shockInEdge (highNs : Nat)
  /-- 50 ms after the last detection the episode ends (R572). -/
  | shockEpisodeEnd
  /-- 100 ms after an episode, each SFP port's module is read again and compared (R573). -/
  | sfpRecheck (reads : List (Option (List Byte)))
  /-- The IDCODE instruction shifts out the device identification (R609). -/
  | tapIdcode
  /-- BYPASS, or any unlisted instruction, selects the 1-bit bypass register (R607). -/
  | tapBypass (code : Nat)
  /-- SAMPLE/PRELOAD samples the boundary cells, and preloads them only while allowed (R608). -/
  | tapSamplePreload (pins preload : List Bool)
  /-- EXTEST drives the pins from the boundary register while RESET_N is low or the port is unlocked (R608). -/
  | tapExtest (cells : List Bool)
  /-- CLAMP holds the boundary outputs while allowed (R608). -/
  | tapClamp
  /-- HIGHZ places the scanned outputs in high impedance while allowed (R608). -/
  | tapHighz
  /-- Shifts out the debug port's lock, challenge and lockout state (R610). -/
  | dbgStatus
  /-- Shifts out a fresh nonce and the serial, making a challenge pending (R611). -/
  | dbgChallenge
  /-- Unlocks the debug port when the token and expiry check out; otherwise counts a failure (R611). -/
  | dbgUnlock (expiry : Nat) (token : List Byte)
  /-- Carries one raw sequencer operation per register update while the port is unlocked (R613). -/
  | dbgAccess (lane op arg : Nat)
  /-- Locks the port, mutes every lane, ends pin overrides and restores each lane's settings (R614). -/
  | dbgRelock
  /-- TRST_N low selects IDCODE and locks the debug port (R610). -/
  | trstNLow
  /-- The debug port relocks when the effective time reaches its expiry (R614). -/
  | dbgExpiry
  /-- A pending debug challenge lapses after 60 s (R611). -/
  | dbgChallengeLapse
  /-- The 600 s lockout after three failed unlocks ends (R612). -/
  | dbgLockoutExpiry
  /-- Once per 1 s in WATCH the always-on domain samples battery voltage and current for the ledger and senses the junction (R187). -/
  | watchSample (energy : Int) (junction : Int)
  /-- By 600 ms after reset release, or 10 ms after return from SLEEP, the courier radio is enabled, SUBSYS_UP bit 4 is set and COURIER_SEND stops answering NOT_YET (R194). -/
  | courierEnable (failed : List Nat)
  /-- A follower's CHAIN_JOIN that receives no JOIN_ACK within 2,000 ms completes with STATE (R433). -/
  | joinAckTimeout
  /-- An EXT_REF_IN edge, or a 10 kHz phase-detector update in 10 MHz mode, feeds the RCU loop with EXT's phase error and its signal check (R381). -/
  | extRefUpdate (pps : Bool) (present : Bool) (offset : Int) (phase : Int)
  /-- When a hop of a lane's path has had no valid DELAY for 50 ms, PATH_DELAY reads 0xFFFF_FFFF, which trips TDD_TIMING at a follower (R423). -/
  | pathDelayTimeout (port : Nat)
  deriving DecidableEq, Repr, Inhabited

end Sys2Proof
end

