-- ==== Sys2Proof/WellFormed.lean ====
section
/-! DEFINITION. Which commands the block's interfaces can carry: slots, lanes, ports and rings that exist, a body of at most 40
bytes, BLK data only where they are attached, a 24-bit quad-SPI address, and fields of the width their registers, packets or
messages give them. -/

namespace Sys2Proof

/-- A request as an entry can carry it: one of eight slots, a 16-bit index, at most 40 bytes of body, and BLK data only with
BLK_ATTACHED, at most 40 bytes for each of the 128 entries of the largest half (Table HR-9, R101). -/
def Request.wf (r : Request) : Bool :=
  decide (r.slot < 8) && decide (r.ref < 65536) && decide (r.body.length ≤ 40) && (r.blkAttached || decide (r.blk = [])) &&
    decide (r.blk.length ≤ 5120)

/-- The chain codes of Table FC-1. -/
def chainCode (c : Nat) : Bool :=
  decide (c ≤ 24) || decide (c = 32) || (decide (40 ≤ c) && decide (c ≤ 43)) || decide (c = 48) || decide (c = 49)

/-- A list of bytes of at most a length. -/
def bytesUpTo (n : Nat) (b : List Byte) : Bool := decide (b.length ≤ n)

/-- Whether the interfaces can carry a command. -/
def Instr.wf : Instr → Bool
  | .qspiTransactionRejected instr addr _ => decide (instr < 256) && decide (addr < 16777216)
  | .hrwWrite addr bytes => decide (addr < 16777216) && bytesUpTo 512 bytes
  | .ringCfgWrite ring value => decide (ring < 32) && decide (value < 65536)
  | .doorbellWrite ring value => decide (ring < 32) && decide (value < 65536)
  | .ringIrqClear mask => decide (mask < 4294967296)
  | .devIrqClear mask => decide (mask < 65536)
  | .usbSetConfiguration _ => true
  | .usbOutPacket slot bytes => decide (slot < 8) && bytesUpTo 512 bytes
  | .usbInAck slot n => decide (slot < 8) && decide (n < 9)
  | .usbEp0Request requestType request value length data => decide (requestType < 256) && decide (request < 256) && decide (value < 65536) && decide (length < 65536) && bytesUpTo 256 data
  | .usbBusReset kind => decide (kind < 3)
  | .usbResume => true
  | .hostWakeEdge _ => true
  | .cmdEntryConsume => true
  | .responseWrite slot => decide (slot < 8)
  | .progressEntry slot ref permille detail => decide (slot < 8) && decide (ref < 65536) && decide (permille < 65536) && bytesUpTo 32 detail
  | .eventDelivery => true
  | .nop r => r.wf
  | .helloPhase1 r => r.wf
  | .helloPhase2 r => r.wf
  | .helloLockoutExpiry slot => decide (slot < 8)
  | .helloChallengeLapse slot => decide (slot < 8)
  | .bye r => r.wf
  | .paramGet r => r.wf
  | .paramSet r => r.wf
  | .paramList r => r.wf
  | .eventMaskSet r => r.wf
  | .statusGet r => r.wf
  | .modeSet r => r.wf
  | .modeSetComplete => true
  | .powerStateSet r => r.wf
  | .reset r => r.wf
  | .infoGet r => r.wf
  | .tempGet r => r.wf
  | .slotProvision r => r.wf
  | .slotProvisionComplete slot ref => decide (slot < 8) && decide (ref < 65536)
  | .slotRevoke r => r.wf
  | .slotRevokeComplete slot ref => decide (slot < 8) && decide (ref < 65536)
  | .permitLoad r => r.wf
  | .permitStatus r => r.wf
  | .permitRemove r => r.wf
  | .laneAssign r => r.wf
  | .vaultRead r => r.wf
  | .vaultWrite r => r.wf
  | .vaultWriteComplete slot ref => decide (slot < 8) && decide (ref < 65536)
  | .slotRekey r => r.wf
  | .permitEvaluation => true
  | .schedulerTick => true
  | .frameStart => true
  | .ledgerGet r => r.wf
  | .quotaSet r => r.wf
  | .jobEstimate r => r.wf
  | .jobAdmit r => r.wf
  | .planEndSet r => r.wf
  | .jobRelease r => r.wf
  | .jobAdmissionExpiry slot handle => decide (slot < 8) && decide (handle < 65536)
  | .pacePolicySet r => r.wf
  | .accountingStep _ => true
  | .firstBatteryEstimate _ => true
  | .ledgerReanchored => true
  | .holdupMeasured _ _ _ _ => true
  | .energyTargetUpdate slot => decide (slot < 8)
  | .ledgerJournalSave => true
  | .hardHoldTimeout => true
  | .workUnitComplete domain _ => decide (domain < 5)
  | .slackWindowEnd => true
  | .ceilingDescentStep => true
  | .arbLongGrant => true
  | .faultDetection _ _ _ _ _ => true
  | .faultResetTimer => true
  | .resetRelease vsys _ => decide (vsys < 65536)
  | .hrwReadable => true
  | .phaseQuires _ _ _ _ _ => true
  | .meteringStart _ => true
  | .phaseReady => true
  | .txDisableRelease => true
  | .laneCalibrationComplete => true
  | .startComplete => true
  | .thermalSample _ => true
  | .hardAbort _ => true
  | .hardAbortRelease _ => true
  | .shutdownFlushComplete => true
  | .brownOutWarning vsys => decide (vsys < 65536)
  | .brownOutReset vsys => decide (vsys < 65536)
  | .alwaysOnLoss vsys => decide (vsys < 65536)
  | .brownOutRecovered vsys => decide (vsys < 65536)
  | .orderlyShutdownEnd => true
  | .sleepEntry => true
  | .sleepReturn => true
  | .mainsOkChange _ => true
  | .resetPin _ _ => true
  | .vioValid _ => true
  | .vioLoss => true
  | .laneTune r => r.wf
  | .laneStateSet r => r.wf
  | .calRun r => r.wf
  | .calRunComplete slot ref _ => decide (slot < 8) && decide (ref < 65536)
  | .calStoreGet r => r.wf
  | .txpowerModeSet r => r.wf
  | .paTableLoad r => r.wf
  | .burstStart lane _ => decide (lane < 8)
  | .burstEnd lane => decide (lane < 8)
  | .synthUnlock lane _ => decide (lane < 8)
  | .synthLockTimeout lane _ _ => decide (lane < 8)
  | .bgcalStep lane _ => decide (lane < 8)
  | .bgcalFddWindow lane _ => decide (lane < 8)
  | .feedbackLost lane => decide (lane < 8)
  | .paCompUpdate => true
  | .courierProfileSet r => r.wf
  | .courierProfileSetComplete slot ref _ => decide (slot < 8) && decide (ref < 65536)
  | .courierSend r => r.wf
  | .courierSendComplete slot ref => decide (slot < 8) && decide (ref < 65536)
  | .courierStateSet r => r.wf
  | .courierStatsGet r => r.wf
  | .hopSlotStart _ => true
  | .courierDeferExpiry _ => true
  | .courierPacketEnd => true
  | .courierPacketReceive air _ _ _ => bytesUpTo 255 air
  | .courierAckTimeout => true
  | .beaconSend => true
  | .sniffCycle _ => true
  | .courierWakeRewatch => true
  | .courierCalStep _ _ => true
  | .courierPeerSilent unit => decide (unit < 8)
  | .fallbackStatusTimer => true
  | .chainConfig r => r.wf
  | .firLoad r => r.wf
  | .threshSet r => r.wf
  | .chainStatusGet r => r.wf
  | .delayGet r => r.wf
  | .avgWindowEnd chain _ => chainCode chain
  | .thresholdCrossed chain thr _ => chainCode chain && decide (thr < 4)
  | .chainSaturated chain _ _ => chainCode chain
  | .chainInputStuck chain _ => chainCode chain
  | .chainInputResume chain => chainCode chain
  | .droverOpen r => r.wf
  | .droverClose r => r.wf
  | .droverCoefSet r => r.wf
  | .convoyStatusGet r => r.wf
  | .supervisorSet r => r.wf
  | .isolationGet r => r.wf
  | .controlSample convoy _ => decide (convoy < 10)
  | .compositePowerUpdate => true
  | .remoteAged convoy => decide (convoy < 10)
  | .convoyLimited convoy => decide (convoy < 10)
  | .droverSaturated convoy drover => decide (convoy < 10) && decide (drover < 8)
  | .convoyStarved convoy => decide (convoy < 10)
  | .isolationWindow lane _ _ _ _ => decide (lane < 8)
  | .oscillationDetected lane _ => decide (lane < 8)
  | .oscBackoffExpiry lane => decide (lane < 8)
  | .oscLadderReset lane => decide (lane < 8)
  | .refConfig r => r.wf
  | .refStatusGet r => r.wf
  | .clockBwSet r => r.wf
  | .steerSet r => r.wf
  | .walltimeSet r => r.wf
  | .refForce r => r.wf
  | .selectionStep _ => true
  | .holdOffExpiry => true
  | .refQualified ref => decide (ref < 4)
  | .failedWindowExpiry ref => decide (ref < 4)
  | .lockDeclared => true
  | .lockLost => true
  | .holdoverExpired => true
  | .freeRunUpdate => true
  | .xoTableLearn => true
  | .xoTableJournal => true
  | .clockLost _ => true
  | .lostExit => true
  | .gnssPpsEdge _ _ => true
  | .nmeaSentence _ _ _ _ => true
  | .wallHighWaterSave => true
  | .linkConfig r => r.wf
  | .linkStatusGet r => r.wf
  | .chainJoin r => r.wf
  | .chainLeave r => r.wf
  | .linkTestStart r => r.wf
  | .linkTestEnd port _ _ _ _ => decide (port < 2)
  | .linkTestResult r => r.wf
  | .sfpModuleIdentify port _ => decide (port < 2)
  | .portUp port _ _ _ => decide (port < 2)
  | .linkLoss port _ => decide (port < 2)
  | .baleReceive port _ header waybill _ => decide (port < 2) && bytesUpTo 8 header && bytesUpTo 128 waybill
  | .clockMessage body => bytesUpTo 128 body
  | .probeSend port _ => decide (port < 2)
  | .probeMessage body _ _ => bytesUpTo 128 body
  | .probeReplyMessage port body _ => decide (port < 2) && bytesUpTo 128 body
  | .delayMessage body => bytesUpTo 128 body
  | .tkcStepDeferred => true
  | .remoteMessage body => bytesUpTo 128 body
  | .tddMessage body => bytesUpTo 128 body
  | .bandAnnounce body => bytesUpTo 128 body
  | .bandStartMessage body => bytesUpTo 128 body
  | .bandStopMessage body => bytesUpTo 128 body
  | .bandStateMessage body => bytesUpTo 128 body
  | .breakMessage body => bytesUpTo 128 body
  | .statusMessage body => bytesUpTo 128 body
  | .delayFigMessage body => bytesUpTo 128 body
  | .joinReq port body => decide (port < 2) && bytesUpTo 128 body
  | .joinAck body => bytesUpTo 128 body
  | .leaveMessage body => bytesUpTo 128 body
  | .testMessage port body => decide (port < 2) && bytesUpTo 128 body
  | .clockMessageSend => true
  | .statusMessageSend => true
  | .remoteMessageSend => true
  | .tddMessageSend => true
  | .bandAnnounceSend => true
  | .delayFigSend => true
  | .sumSatWindow lane _ _ => decide (lane < 8)
  | .sumBackoffDecay lane => decide (lane < 8)
  | .unitUnreachable unit => decide (unit < 8)
  | .bandResumeAfterRejoin band => decide (band < 64)
  | .bandConfig r => r.wf
  | .bridgeStart r => r.wf
  | .bridgeStartComplete band => decide (band < 64)
  | .followerAnswerTimeout band => decide (band < 64)
  | .startNoCellTimeout band => decide (band < 64)
  | .bridgeStop r => r.wf
  | .tddPatternGet r => r.wf
  | .protectionStatusGet r => r.wf
  | .cellDetectorRun band _ => decide (band < 64)
  | .noCell band => decide (band < 64)
  | .tddMessageTimeout band => decide (band < 64)
  | .tddVerifyStart band => decide (band < 64)
  | .learningWindowEnd band _ => decide (band < 64)
  | .ulNoiseUpdate => true
  | .dlOverloadUpdate => true
  | .restartBackoffExpiry band => decide (band < 64)
  | .bandRungReset band => decide (band < 64)
  | .scanStart r => r.wf
  | .cellSearch r => r.wf
  | .isolationProbe r => r.wf
  | .surveyAbort r => r.wf
  | .resultFetch r => r.wf
  | .scanSegmentDone slot ref _ => decide (slot < 8) && decide (ref < 65536)
  | .surveyJobComplete slot ref _ => decide (slot < 8) && decide (ref < 65536)
  | .surveyBoundExpiry slot ref => decide (slot < 8) && decide (ref < 65536)
  | .probeEnd slot ref _ => decide (slot < 8) && decide (ref < 65536)
  | .cellRefCapture _ _ => true
  | .tariffLoad r => r.wf
  | .registersGet r => r.wf
  | .periodClose r => r.wf
  | .sealValueGet r => r.wf
  | .tamperStatusGet r => r.wf
  | .attributionSet r => r.wf
  | .meterCalLoad r => r.wf
  | .integrationIntervalEnd _ => true
  | .mainsCycleEnd _ _ => true
  | .meterPulse => true
  | .tamperStart _ => true
  | .tamperEnd _ => true
  | .sealRecompute computed => bytesUpTo 4 computed
  | .quireMSave => true
  | .logFreeze r => r.wf
  | .logThaw r => r.wf
  | .logRead r => r.wf
  | .logInfo r => r.wf
  | .freezeExpiry part => decide (part < 9)
  | .colophonFlush part => decide (part < 9)
  | .pageProgramComplete _ => true
  | .eraseComplete _ _ => true
  | .compaction half _ => decide (half < 2)
  | .fwStage r => r.wf
  | .fwStageComplete slot ref => decide (slot < 8) && decide (ref < 65536)
  | .fwCommit r => r.wf
  | .nvmStatus r => r.wf
  | .factoryDataGet r => r.wf
  | .faultCountersGet r => r.wf
  | .selftestRun r => r.wf
  | .selftestComplete slot ref _ _ _ _ _ => decide (slot < 8) && decide (ref < 65536)
  | .shockStatusGet r => r.wf
  | .accelRead _ => true
  | .shockInEdge _ => true
  | .shockEpisodeEnd => true
  | .sfpRecheck _ => true
  | .tapIdcode => true
  | .tapBypass code => decide (code < 32)
  | .tapSamplePreload _ _ => true
  | .tapExtest _ => true
  | .tapClamp => true
  | .tapHighz => true
  | .dbgStatus => true
  | .dbgChallenge => true
  | .dbgUnlock expiry token => decide (expiry < 4294967296) && bytesUpTo 16 token
  | .dbgAccess lane op arg => decide (lane < 16) && decide (op < 16) && decide (arg < 18446744073709551616)
  | .dbgRelock => true
  | .trstNLow => true
  | .dbgExpiry => true
  | .dbgChallengeLapse => true
  | .dbgLockoutExpiry => true
  | .watchSample _ _ => true
  | .courierEnable _ => true
  | .joinAckTimeout => true
  | .extRefUpdate _ _ _ _ => true
  | .pathDelayTimeout port => decide (port < 2)

end Sys2Proof
end

