-- ==== Sys2Proof/Decode.lean ====
section
/-! DEFINITION. The command a table word spells. The table of this hardware gives no row any bits: a command is a host access, an
entry of a ring or something that happens, never a numbered word; so no word spells one. -/

namespace Sys2Proof

/-- No row of the table has bits, so a word spells no command. -/
def decodeTableWord (_nbits _w : Nat) : Option Instr := none

end Sys2Proof
end

