-- ==== Sys2Proof/Machine/Bytes.lean ====
section
/-! DEFINITION. Byte order and fixed-width fields (R11, R13, R14): every multi-byte field travels least significant byte
first, signed values in two's complement. -/

namespace Sys2Proof.Machine

/-- The `n` low bytes of `v`, least significant first (R11). -/
def leBytes : Nat → Nat → List Byte
  | 0, _ => []
  | n + 1, v => BitVec.ofNat 8 v :: leBytes n (v / 256)

/-- The unsigned value of bytes stored least significant first (R11). -/
def leNat : List Byte → Nat
  | [] => 0
  | b :: bs => b.toNat + 256 * leNat bs

/-- The unsigned value of bytes stored most significant first (permit and image signatures). -/
def beNat (bs : List Byte) : Nat := leNat bs.reverse

/-- The `n` low bytes of `v`, most significant first. -/
def beBytes (n v : Nat) : List Byte := (leBytes n v).reverse

/-- A value as the two's complement number of `8 * n` bits. -/
def wrapInt (n : Nat) (v : Int) : Nat := (v % (256 ^ n : Nat)).toNat

/-- The signed value of an `n`-byte two's complement field. -/
def signExt (n : Nat) (v : Nat) : Int := if 2 * v < 256 ^ n then v else (v : Int) - (256 ^ n : Nat)

def e8 (v : Nat) : List Byte := leBytes 1 v
def e16 (v : Nat) : List Byte := leBytes 2 v
def e32 (v : Nat) : List Byte := leBytes 4 v
def e48 (v : Nat) : List Byte := leBytes 6 v
def e64 (v : Nat) : List Byte := leBytes 8 v
def s8 (v : Int) : List Byte := leBytes 1 (wrapInt 1 v)
def s16 (v : Int) : List Byte := leBytes 2 (wrapInt 2 v)
def s32 (v : Int) : List Byte := leBytes 4 (wrapInt 4 v)
def s64 (v : Int) : List Byte := leBytes 8 (wrapInt 8 v)
/-- A boolean field (R15). -/
def eb (b : Bool) : List Byte := e8 b.toNat
/-- `n` reserved bytes, written as zero (R12). -/
def zs (n : Nat) : List Byte := List.replicate n 0

/-- The bytes of `bs` from offset `o`, `n` of them, short where `bs` ends. -/
def slice (bs : List Byte) (o n : Nat) : List Byte := (bs.drop o).take n

/-- The unsigned little-endian field of `n` bytes at offset `o`. -/
def fld (bs : List Byte) (o n : Nat) : Nat := leNat (slice bs o n)

/-- The signed little-endian field of `n` bytes at offset `o`. -/
def fldS (bs : List Byte) (o n : Nat) : Int := signExt n (fld bs o n)

/-- Bytes padded with zeros, or cut, to `n` bytes. -/
def padTo (n : Nat) (bs : List Byte) : List Byte := (bs ++ zs n).take n

/-- The ASCII bytes of a label. -/
def ascii (cs : List Nat) : List Byte := cs.map (BitVec.ofNat 8)

/-- The lowest offset in `[o, o + n)` whose byte is not zero: a set reserved bit (R12, R623). -/
def firstNonZero (bs : List Byte) (o : Nat) : Nat → Option Nat
  | 0 => none
  | n + 1 => if fld bs o 1 ≠ 0 then some o else firstNonZero bs (o + 1) n

/-- Bit `k` of a value. -/
def bit (v k : Nat) : Bool := v.testBit k

/-- A set of flags written as a number. -/
def flags : List Bool → Nat
  | [] => 0
  | b :: bs => b.toNat + 2 * flags bs

/-- A value held at its saturating limit. -/
def sat (lim v : Nat) : Nat := min lim v

/-- Saturating increment of a 32-bit counter. -/
def inc32 (v : Nat) : Nat := min 4294967295 (v + 1)

/-- Clamp to a closed range. -/
def clampI (lo hi v : Int) : Int := max lo (min hi v)

/-- Round half away from zero of `n / d`, `d` positive. -/
def roundDiv (n d : Int) : Int := if 0 ≤ n then (2 * n + d) / (2 * d) else -((-(2 * n) + d) / (2 * d))

/-- Element `i` of a fixed collection, the type's default beyond its end. -/
def nth {α : Type} [Inhabited α] (l : List α) (i : Nat) : α := l.getD i default

/-- Element `i` of a fixed collection changed by `f`; beyond the end nothing changes. -/
def upd {α : Type} (l : List α) (i : Nat) (f : α → α) : List α := l.modify i f

end Sys2Proof.Machine
end

