-- ==== Sys2Proof/Machine/Crypto.lean ====
section
/-! DEFINITION. The checks and ciphers the manual names by standard: CRC-16, CRC-8 and CRC-32 of R620, SHA-256 and
HMAC-SHA-256 (R104, R136, R611), AES-256-GCM (R54, R76, R80) and ECDSA P-256 over SHA-256 (R58, R568, R575). The
standards' own constants are used (FIPS 180-4, FIPS 197, FIPS 186-4, SP 800-38D, RFC 2104); log entry 6. -/

namespace Sys2Proof.Machine

/-- One bit step of a CRC processed most significant bit first. -/
def crcStep (w poly : Nat) : Nat → Nat → Nat
  | 0, r => r
  | n + 1, r =>
    let r' := if r.testBit (w - 1) then ((2 * r) ^^^ poly) % 2 ^ w else (2 * r) % 2 ^ w
    crcStep w poly n r'

/-- CRC of width `w`, most significant bit first, not reflected (R620). -/
def crcMsb (w poly init : Nat) (bs : List Byte) : Nat :=
  bs.foldl (fun r b => crcStep w poly 8 (r ^^^ (b.toNat * 2 ^ (w - 8)))) init

/-- CRC-16 of R620: polynomial 0x1021, initial value 0xFFFF. -/
def crc16 (bs : List Byte) : Nat := crcMsb 16 0x1021 0xFFFF bs

/-- CRC-8 of R620: polynomial 0x07, initial value 0xFF. -/
def crc8 (bs : List Byte) : Nat := crcMsb 8 0x07 0xFF bs

/-- One bit step of the reflected CRC-32. -/
def crc32Step : Nat → Nat → Nat
  | 0, r => r
  | n + 1, r => crc32Step n (if r.testBit 0 then (r / 2) ^^^ 0xEDB88320 else r / 2)

/-- CRC-32 of R620: the frame check sequence of IEEE 802.3. -/
def crc32 (bs : List Byte) : Nat :=
  (bs.foldl (fun r b => crc32Step 8 (r ^^^ b.toNat)) 0xFFFFFFFF) ^^^ 0xFFFFFFFF

/-- A 32-bit word of SHA-256. -/
def rotr32 (x n : Nat) : Nat := (x >>> n) ||| ((x <<< (32 - n)) % 4294967296)

/-- The round constants of SHA-256. -/
def sha256K : List Nat :=
  [0x428a2f98, 0x71374491, 0xb5c0fbcf, 0xe9b5dba5, 0x3956c25b, 0x59f111f1, 0x923f82a4, 0xab1c5ed5,
   0xd807aa98, 0x12835b01, 0x243185be, 0x550c7dc3, 0x72be5d74, 0x80deb1fe, 0x9bdc06a7, 0xc19bf174,
   0xe49b69c1, 0xefbe4786, 0x0fc19dc6, 0x240ca1cc, 0x2de92c6f, 0x4a7484aa, 0x5cb0a9dc, 0x76f988da,
   0x983e5152, 0xa831c66d, 0xb00327c8, 0xbf597fc7, 0xc6e00bf3, 0xd5a79147, 0x06ca6351, 0x14292967] ++
  [0x27b70a85, 0x2e1b2138, 0x4d2c6dfc, 0x53380d13, 0x650a7354, 0x766a0abb, 0x81c2c92e, 0x92722c85,
   0xa2bfe8a1, 0xa81a664b, 0xc24b8b70, 0xc76c51a3, 0xd192e819, 0xd6990624, 0xf40e3585, 0x106aa070,
   0x19a4c116, 0x1e376c08, 0x2748774c, 0x34b0bcb5, 0x391c0cb3, 0x4ed8aa4a, 0x5b9cca4f, 0x682e6ff3,
   0x748f82ee, 0x78a5636f, 0x84c87814, 0x8cc70208, 0x90befffa, 0xa4506ceb, 0xbef9a3f7, 0xc67178f2]

/-- The message schedule, newest word first: from 16 words, 48 more. -/
def shaExtend : Nat → List Nat → List Nat
  | 0, w => w
  | n + 1, w =>
    let w2 := w.getD 1 0
    let w7 := w.getD 6 0
    let w15 := w.getD 14 0
    let w16 := w.getD 15 0
    let s0 := rotr32 w15 7 ^^^ rotr32 w15 18 ^^^ (w15 >>> 3)
    let s1 := rotr32 w2 17 ^^^ rotr32 w2 19 ^^^ (w2 >>> 10)
    shaExtend n (((w16 + s0 + w7 + s1) % 4294967296) :: w)

/-- The eight chaining words of SHA-256. -/
structure ShaState where
  (a b c d e f g h : Nat)
  deriving DecidableEq, Repr, Inhabited

/-- One round of SHA-256 with schedule word and constant summed in `kw`. -/
def shaRound (s : ShaState) (kw : Nat) : ShaState :=
  let s1 := rotr32 s.e 6 ^^^ rotr32 s.e 11 ^^^ rotr32 s.e 25
  let ch := (s.e &&& s.f) ^^^ ((s.e ^^^ 0xFFFFFFFF) &&& s.g)
  let t1 := s.h + s1 + ch + kw
  let s0 := rotr32 s.a 2 ^^^ rotr32 s.a 13 ^^^ rotr32 s.a 22
  let mj := (s.a &&& s.b) ^^^ (s.a &&& s.c) ^^^ (s.b &&& s.c)
  { a := (t1 + s0 + mj) % 4294967296, b := s.a, c := s.b, d := s.c
    e := (s.d + t1) % 4294967296, f := s.e, g := s.f, h := s.g }

/-- One 64-byte block of SHA-256, as 16 big-endian words oldest first. -/
def shaBlock (s : ShaState) (ws : List Nat) : ShaState :=
  let sched := (shaExtend 48 ws.reverse).reverse
  let r := (sched.zip sha256K).foldl (fun t p => shaRound t (p.1 + p.2)) s
  let m := 4294967296
  { a := (s.a + r.a) % m, b := (s.b + r.b) % m, c := (s.c + r.c) % m, d := (s.d + r.d) % m
    e := (s.e + r.e) % m, f := (s.f + r.f) % m, g := (s.g + r.g) % m, h := (s.h + r.h) % m }

/-- Big-endian 32-bit words of a byte string, `n` of them. -/
def beWords : Nat → List Byte → List Nat
  | 0, _ => []
  | n + 1, bs => beNat (bs.take 4) :: beWords n (bs.drop 4)

/-- The blocks of a padded message, `n` of them. -/
def shaBlocks : Nat → List Byte → ShaState → ShaState
  | 0, _, s => s
  | n + 1, bs, s => shaBlocks n (bs.drop 64) (shaBlock s (beWords 16 (bs.take 64)))

/-- SHA-256 of a byte string. -/
def sha256 (msg : List Byte) : List Byte :=
  let l := msg.length
  let blocks := (l + 9 + 63) / 64
  let padded := msg ++ [0x80] ++ zs (blocks * 64 - l - 9) ++ beBytes 8 (8 * l)
  let r := shaBlocks blocks padded
    { a := 0x6a09e667, b := 0xbb67ae85, c := 0x3c6ef372, d := 0xa54ff53a
      e := 0x510e527f, f := 0x9b05688c, g := 0x1f83d9ab, h := 0x5be0cd19 }
  beBytes 4 r.a ++ beBytes 4 r.b ++ beBytes 4 r.c ++ beBytes 4 r.d ++
    beBytes 4 r.e ++ beBytes 4 r.f ++ beBytes 4 r.g ++ beBytes 4 r.h

/-- HMAC-SHA-256 under `key`. -/
def hmac (key msg : List Byte) : List Byte :=
  let k := padTo 64 (if key.length ≤ 64 then key else sha256 key)
  sha256 (k.map (· ^^^ 0x5c) ++ sha256 (k.map (· ^^^ 0x36) ++ msg))

/-- Doubling in the field of AES. -/
def aesXtime (x : Nat) : Nat := if x < 128 then 2 * x else ((2 * x) ^^^ 0x11b) % 256

/-- The substitution box of AES: sixteen rows of sixteen bytes, as FIPS 197 tables them. -/
def aesSboxRows : List Nat :=
  [0x637c777bf26b6fc53001672bfed7ab76, 0xca82c97dfa5947f0add4a2af9ca472c0,
   0xb7fd9326363ff7cc34a5e5f171d83115, 0x04c723c31896059a071280e2eb27b275,
   0x09832c1a1b6e5aa0523bd6b329e32f84, 0x53d100ed20fcb15b6acbbe394a4c58cf,
   0xd0efaafb434d338545f9027f503c9fa8, 0x51a3408f929d38f5bcb6da2110fff3d2,
   0xcd0c13ec5f974417c4a77e3d645d1973, 0x60814fdc222a908846eeb814de5e0bdb,
   0xe0323a0a4906245cc2d3ac629195e479, 0xe7c8376d8dd54ea96c56f4ea657aae08,
   0xba78252e1ca6b4c6e8dd741f4bbd8b8a, 0x703eb5664803f60e613557b986c11d9e,
   0xe1f8981169d98e949b1e87e9ce5528df, 0x8ca1890dbfe6426841992d0fb054bb16]

/-- A byte through the substitution box. -/
def aesSbox (x : Nat) : Nat := (aesSboxRows.getD (x / 16) 0 >>> (8 * (15 - x % 16))) % 256

/-- Four bytes of an AES word, XORed. -/
def xor4 (a b : List Nat) : List Nat := List.zipWith (· ^^^ ·) a b

/-- The key schedule of AES-256: words newest first, index `i` of the next word, `n` words to go. -/
def aesExpand : Nat → Nat → Nat → List (List Nat) → List (List Nat)
  | 0, _, _, ws => ws
  | n + 1, i, rcon, ws =>
    let prev := ws.getD 0 []
    let old := ws.getD 7 []
    let t :=
      if i % 8 = 0 then xor4 ((prev.drop 1 ++ prev.take 1).map aesSbox) [rcon, 0, 0, 0]
      else if i % 8 = 4 then prev.map aesSbox else prev
    aesExpand n (i + 1) (if i % 8 = 0 then aesXtime rcon else rcon) (xor4 old t :: ws)

/-- A byte list in chunks of `k`, `n` of them. -/
def chunks {α : Type} (k : Nat) : Nat → List α → List (List α)
  | 0, _ => []
  | n + 1, l => l.take k :: chunks k n (l.drop k)

/-- The 15 round keys of AES-256, 16 bytes each. -/
def aesKeys (key : List Byte) : List (List Nat) :=
  let ws := chunks 4 8 (key.map BitVec.toNat)
  chunks 16 15 ((aesExpand 52 8 1 ws.reverse).reverse.flatten)

/-- ShiftRows over the 16 bytes of the state, column by column. -/
def aesShift (s : List Nat) : List Nat :=
  [0, 5, 10, 15, 4, 9, 14, 3, 8, 13, 2, 7, 12, 1, 6, 11].map (fun i => s.getD i 0)

/-- MixColumns of one column. -/
def aesMixCol (c : List Nat) : List Nat :=
  let a := c.getD 0 0
  let b := c.getD 1 0
  let e := c.getD 2 0
  let f := c.getD 3 0
  let x := aesXtime
  [x a ^^^ (x b ^^^ b) ^^^ e ^^^ f, a ^^^ x b ^^^ (x e ^^^ e) ^^^ f,
   a ^^^ b ^^^ x e ^^^ (x f ^^^ f), (x a ^^^ a) ^^^ b ^^^ e ^^^ x f]

/-- The middle rounds of AES over the remaining round keys; the last key ends the cipher. -/
def aesRounds : List (List Nat) → List Nat → List Nat
  | [], s => s
  | [k], s => xor4 (aesShift (s.map aesSbox)) k
  | k :: ks, s => aesRounds ks (xor4 ((chunks 4 4 (aesShift (s.map aesSbox))).flatMap aesMixCol) k)

/-- AES-256 of one 16-byte block. -/
def aesBlock (key blk : List Byte) : List Byte :=
  match aesKeys key with
  | [] => blk
  | k :: ks => (aesRounds ks (xor4 (blk.map BitVec.toNat) k)).map (BitVec.ofNat 8)

/-- The product of GHASH in GF(2^128), bit 127 first, over the low `n` bits counted. -/
def gfMul : Nat → Nat → Nat → Nat → Nat
  | 0, _, _, z => z
  | n + 1, x, v, z =>
    let z' := if x.testBit n then z ^^^ v else z
    gfMul n x (if v.testBit 0 then (v / 2) ^^^ (0xE1 <<< 120) else v / 2) z'

/-- GHASH over 16-byte blocks, `n` of them. -/
def ghash (h : Nat) : Nat → List Byte → Nat → Nat
  | 0, _, y => y
  | n + 1, bs, y => ghash h n (bs.drop 16) (gfMul 128 (y ^^^ beNat (padTo 16 (bs.take 16))) h 0)

/-- The counter-mode key stream of GCM: `n` blocks from counter `c`. -/
def gcmStream (key iv : List Byte) : Nat → Nat → List Byte
  | _, 0 => []
  | c, n + 1 => aesBlock key (iv ++ beBytes 4 c) ++ gcmStream key iv (c + 1) n

/-- Bytes up to a multiple of 16 with zeros. -/
def pad16 (bs : List Byte) : List Byte := bs ++ zs ((16 - bs.length % 16) % 16)

/-- AES-256-GCM keystream XOR (encryption and decryption are the same) under a 12-byte IV. -/
def gcmXor (key iv data : List Byte) : List Byte :=
  List.zipWith (· ^^^ ·) data (gcmStream key iv 2 ((data.length + 15) / 16))

/-- The 16-byte tag of AES-256-GCM over associated data and ciphertext. -/
def gcmTag (key iv aad ct : List Byte) : List Byte :=
  let h := beNat (aesBlock key (zs 16))
  let m := pad16 aad ++ pad16 ct ++ beBytes 8 (8 * aad.length) ++ beBytes 8 (8 * ct.length)
  let s := ghash h (m.length / 16) m 0
  List.zipWith (· ^^^ ·) (beBytes 16 s) (aesBlock key (iv ++ beBytes 4 1))

/-- AES-256-GCM decryption: the plaintext when the tag matches. -/
def gcmOpen (key iv aad ct tag : List Byte) : Option (List Byte) :=
  if gcmTag key iv aad ct = tag then some (gcmXor key iv ct) else none

/-- The prime of P-256. -/
def p256P : Nat := 2 ^ 256 - 2 ^ 224 + 2 ^ 192 + 2 ^ 96 - 1
/-- The order of the base point of P-256. -/
def p256N : Nat := 0xffffffff00000000ffffffffffffffffbce6faada7179e84f3b9cac2fc632551
/-- The coefficient b of P-256. -/
def p256B : Nat := 0x5ac635d8aa3a93e7b3ebbd55769886bc651d06b0cc53b0f63bce3c3e27d2604b
def p256Gx : Nat := 0x6b17d1f2e12c4247f8bce6e563a440f277037d812deb33a0f4a13945d898c296
def p256Gy : Nat := 0x4fe342e2fe1a7f9b8ee7eb4a7c0f9e162bce33576b315ececbb6406837bf51f5

/-- `b ^ e mod m` over the low `n` bits of `e`. -/
def powMod (m : Nat) : Nat → Nat → Nat → Nat → Nat
  | 0, _, _, acc => acc
  | n + 1, b, e, acc => powMod m n (b * b % m) (e / 2) (if e.testBit 0 then acc * b % m else acc)

/-- The inverse of `a` modulo the prime `m`. -/
def invMod (m a : Nat) : Nat := powMod m 256 (a % m) (m - 2) 1

/-- A point in Jacobian coordinates; `z = 0` is the point at infinity. -/
structure JPoint where
  (x y z : Nat)
  deriving DecidableEq, Repr, Inhabited

/-- Twice a point of P-256. -/
def jDouble (q : JPoint) : JPoint :=
  let p := p256P
  if q.z = 0 ∨ q.y = 0 then ⟨1, 1, 0⟩ else
  let zz := q.z * q.z % p
  let s := 4 * q.x * (q.y * q.y % p) % p
  let m := 3 * ((q.x + (p - zz)) * (q.x + zz)) % p
  let x := (m * m + 2 * (p - s)) % p
  let y4 := (q.y * q.y % p) * (q.y * q.y % p) % p
  ⟨x, (m * (s + (p - x)) + 8 * (p - y4)) % p, 2 * q.y * q.z % p⟩

/-- The sum of two points of P-256. -/
def jAdd (a b : JPoint) : JPoint :=
  let p := p256P
  if a.z = 0 then b else if b.z = 0 then a else
  let za := a.z * a.z % p
  let zb := b.z * b.z % p
  let u1 := a.x * zb % p
  let u2 := b.x * za % p
  let s1 := a.y * (b.z * zb % p) % p
  let s2 := b.y * (a.z * za % p) % p
  if u1 = u2 then (if s1 = s2 then jDouble a else ⟨1, 1, 0⟩) else
  let h := (u2 + (p - u1)) % p
  let r := (s2 + (p - s1)) % p
  let hh := h * h % p
  let hhh := h * hh % p
  let v := u1 * hh % p
  let x := (r * r + (p - hhh) + 2 * (p - v)) % p
  ⟨x, (r * (v + (p - x)) + (p - s1 * hhh % p)) % p, a.z * b.z % p * h % p⟩

/-- The multiple of a point by the low `n` bits of `k`. -/
def jMul : Nat → Nat → JPoint → JPoint → JPoint
  | 0, _, _, acc => acc
  | n + 1, k, q, acc => jMul n (k / 2) (jDouble q) (if k.testBit 0 then jAdd acc q else acc)

/-- Whether (x, y) is a point of P-256. -/
def onCurve (x y : Nat) : Bool :=
  x < p256P && y < p256P && (y * y % p256P == (x * x % p256P * x + (p256P - 3) * x + p256B) % p256P)

/-- ECDSA P-256 verification over the SHA-256 digest `e`, public key (x, y), signature (r, s). -/
def ecdsaVerify (x y e r s : Nat) : Bool :=
  let n := p256N
  if !onCurve x y || r = 0 || r ≥ n || s = 0 || s ≥ n then false else
  let w := invMod n s
  let q := jAdd (jMul 256 (e * w % n) ⟨p256Gx, p256Gy, 1⟩ ⟨1, 1, 0⟩) (jMul 256 (r * w % n) ⟨x, y, 1⟩ ⟨1, 1, 0⟩)
  if q.z = 0 then false else
  let zi := invMod p256P q.z
  q.x * (zi * zi % p256P) % p256P % n == r

/-- ECDSA P-256 over SHA-256: a 64-byte key (x then y) and a 64-byte signature (r then s), all big-endian. -/
def ecdsaCheck (key msg sig : List Byte) : Bool :=
  ecdsaVerify (beNat (key.take 32)) (beNat (slice key 32 32)) (beNat (sha256 msg))
    (beNat (sig.take 32)) (beNat (slice sig 32 32))

end Sys2Proof.Machine
end

