-- ==== Sys2Proof/Config.lean ====
section
/-! DEFINITION. What the manual leaves open: the free values. Each is an opaque constant with no body, applied to the
counter `Dev.free` that the drawing command reads and advances (log entry 4), or to the operands it depends on, so
nothing can be proved of its value. -/

namespace Sys2Proof.Config

/-- Byte `i` of draw `n` of the ZS8's random source: nonces, vault keys and deferrals (R137, R76, R296, R611). -/
opaque randomByte : Nat → Nat → Byte

/-- An analogue result the manual states no number for, drawn at count `n`: calibration corrections and synthesiser
codes (R274), and the fresh values of other measurements that no operand carries. -/
opaque analogue : Nat → Nat → Int

/-- `10 * log10` of a ratio `n / d` in 1/64 dB. The manual fixes no rounding of this conversion (log entry 12). -/
opaque dB64 : Nat → Nat → Int

/-- The output of the reference loop filter: at a bandwidth code, for a phase error in ps (a frequency error in ppt for
CELL) and the steering word in force. The manual states its order and damping, no coefficients (log entry 13). -/
opaque loopFilter : Nat → Int → Int → Int

/-- The power of ten that `x` in 1/64 dB stands for, as a numerator over 2^32 (log entry 12). -/
opaque linear32 : Int → Nat

/-- The group delay in 1/256 tick of the FIR that Quire M loads on the M chains (Table FC-2), whose length the manual does
not state (log entry 23). -/
opaque meterFirDelay : Nat

/-- The measured delay in ps of the hops beyond the first on the way to unit `u`, at 10 ms measurement `n`: no message of
Table CL-5 carries it to the unit that needs it (log entry 24). -/
opaque farDelay : Nat → Nat → Nat

/-- The head's share in ns of a lane's delay as a follower takes it at measurement `n`: no message of Table CL-5 carries
the head's figures down (log entry 24). -/
opaque headFigure : Nat → Nat → Nat

/-- The 64-bit result of a raw sequencer operation from what it finds: R613 names what a read returns, not where its fields
lie (log entry 62). -/
opaque rawResult : Nat → List Nat → Nat

/-- The code of the record that an open THERM_N leaves: the manual names the record, not its code (log entry 48). -/
opaque fallbackCode : Nat

/-- Byte `i` of the payload of that record (log entry 48). -/
opaque fallbackByte : Nat → Byte

end Sys2Proof.Config
end

