-- ==== Sys2Proof/Machine/Params.lean ====
section
/-! DEFINITION. The parameters of the manual: every row of every chapter's parameter table, with its ID, type, indexing,
range, default, access and NVM mark (R18 to R20, R142 to R146). The store that holds their values is `Dev.par`. -/

namespace Sys2Proof.Machine

/-- The type tokens of Table CM-6 that a parameter uses. -/
inductive PType where
  | u8 | u16 | u32 | u64 | s8 | s16 | s32 | s64 | bool | enum | enum16 | bits8 | bits16 | bits
  | gain | freq | ppt | temp | mJ | mW | ts | wall | dur
  | bytes (n : Nat)
  deriving DecidableEq, Repr, Inhabited

/-- The type code of Table CM-6. -/
def PType.code : PType → Nat
  | .u8 => 0x01 | .u16 => 0x02 | .u32 => 0x03 | .u64 => 0x04 | .s8 => 0x05 | .s16 => 0x06 | .s32 => 0x07
  | .s64 => 0x08 | .bool => 0x09 | .enum => 0x0A | .enum16 => 0x0B | .bits8 => 0x0C | .bits16 => 0x0D
  | .bits => 0x0E | .gain => 0x10 | .freq => 0x11 | .ppt => 0x12 | .temp => 0x13 | .mJ => 0x14 | .mW => 0x15
  | .ts => 0x16 | .wall => 0x17 | .dur => 0x18 | .bytes _ => 0x1A

/-- The size in bytes of Table CM-6. -/
def PType.size : PType → Nat
  | .u8 | .s8 | .bool | .enum | .bits8 => 1
  | .u16 | .s16 | .enum16 | .bits16 | .gain | .temp => 2
  | .u32 | .s32 | .bits | .ppt | .mW | .wall | .dur => 4
  | .u64 | .s64 | .freq | .mJ | .ts => 8
  | .bytes n => n

/-- Whether the type's value is two's complement (Table SC-3, Table CM-6). -/
def PType.signed : PType → Bool
  | .s8 | .s16 | .s32 | .s64 | .gain | .ppt | .temp | .mJ => true
  | _ => false

/-- What a parameter's index counts (R19's Indexing, and the chapters' own indexing rules). -/
inductive PIdx where
  | dev | slot | slot17 | lane | port | ref | convoy | convoy8 | drover | chain | chainX | chainXSC | chainPB
  | chainMPB | domain | peer | unit17 | laneState | source | slotKind | slotPortDir | slotSub | band | partition
  | part8 | quire
  deriving DecidableEq, Repr, Inhabited

/-- The access codes of Table SC-5. -/
inductive PAccess where
  | s0 | any | own | m | ro
  deriving DecidableEq, Repr, Inhabited

/-- Descriptor code of an access (Table CM-9). -/
def PAccess.code : PAccess → Nat
  | .s0 => 0 | .any => 1 | .own => 2 | .m => 3 | .ro => 4

/-- One row of a parameter table. -/
structure ParamRow where
  id : Nat
  ty : PType
  idx : PIdx
  lo : Int
  hi : Int
  access : PAccess
  nvm : Bool
  tenantPrivate : Bool
  dflt : Nat → Int
  extra : Int → Bool := fun _ => true

/-- The chain codes of Table FC-1. -/
def isChain (c : Nat) : Bool := c ≤ 24 || c = 32 || (40 ≤ c && c ≤ 43) || c = 48 || c = 49

/-- Whether `i` is an index of the kind (R143). -/
def PIdx.valid (k : PIdx) (i : Nat) : Bool :=
  match k with
  | .dev => i = 0
  | .slot | .lane | .convoy8 | .peer | .laneState => i < 8
  | .slot17 | .unit17 => 1 ≤ i && i < 8
  | .port | .quire => i < 2
  | .ref => i < 4
  | .convoy => i < 10
  | .drover => i < 80
  | .chain => isChain i
  | .chainX => i < 8
  | .chainXSC => i < 8 || i = 24
  | .chainPB => (16 ≤ i && i < 24) || i = 48 || i = 49
  | .chainMPB => (16 ≤ i && i < 24) || (40 ≤ i && i < 44) || i = 48 || i = 49
  | .domain => i < 5
  | .source => 1 ≤ i && i ≤ 15
  | .slotKind => i < 64 && i % 8 ≠ 7
  | .slotPortDir | .slotSub => i < 32
  | .band => i < 64
  | .partition => i < 9
  | .part8 => i = 8

/-- The highest output of a convoy (Table CV-1), the default of HOST_CEILING: gain lanes, charge current, fan. -/
def convoyOutMax (c : Nat) : Int := if c < 8 then 6080 else if c = 8 then 10000 else 1000

/-- The default drover states of Table CV-6, index convoy * 8 + slot: 0 UNUSED, 1 CLOSED, 2 OPEN. -/
def droverStateDefault (i : Nat) : Int := 
  if i % 8 = 7 then 2 else if i % 8 = 0 || i % 8 = 5 then 1 else if i < 64 && 2 ≤ i % 8 then 1 else 0

/-- The default presets of Table FC-5. -/
def chainPresetDefault (c : Nat) : Int :=
  if c < 16 then 1 else if c < 24 then 4 else if c = 24 then 3 else if c < 48 then 3 else 4

/-- The lane core rates of Table EL-2, in mW, by lane state (R231). -/
def laneCoreRate (i : Nat) : Int := ([0, 0, 60, 160, 380, 440, 780, 300] : List Int).getD i 0

/-- The default of BAT_OCV_TABLE as one little-endian number: 16 values of 16 bits. -/
def ocvTableDefault : Int :=
  (([3000, 3450, 3580, 3640, 3680, 3710, 3740, 3770, 3800, 3840, 3880, 3930, 3990, 4050, 4110, 4180] : List Nat).foldr
    (fun v acc => v + 65536 * acc) 0 : Nat)

/-- Entry `i` of an OCV table value. -/
def ocvEntry (v : Int) (i : Nat) : Nat := (v.toNat / 65536 ^ i) % 65536

/-- Whether the 16 entries of an OCV table ascend strictly. -/
def ocvAscending (v : Int) : Bool := (List.range 15).all (fun i => ocvEntry v i < ocvEntry v (i + 1))

/-- MODE. -/
abbrev pMode : Nat := 0x0101
/-- TOPOLOGY. -/
abbrev pTopology : Nat := 0x0102
/-- UNIT_NUMBER. -/
abbrev pUnitNumber : Nat := 0x0103
/-- UNIT_COUNT. -/
abbrev pUnitCount : Nat := 0x0104
/-- LINK_BUDGET. -/
abbrev pLinkBudget : Nat := 0x0105
/-- LINK_SHARE_USED. -/
abbrev pLinkShareUsed : Nat := 0x0106
/-- PATH_DELAY. -/
abbrev pPathDelay : Nat := 0x0107
/-- SLOT_STATE. -/
abbrev pSlotState : Nat := 0x0201
/-- SESSION_OPEN. -/
abbrev pSessionOpen : Nat := 0x0202
/-- LANE_OWNER. -/
abbrev pLaneOwner : Nat := 0x0203
/-- COMPOSITE_TX_LIMIT. -/
abbrev pCompositeTxLimit : Nat := 0x0204
/-- SHARE. -/
abbrev pShare : Nat := 0x0205
/-- OVERHEAD_RATE. -/
abbrev pOverheadRate : Nat := 0x0206
/-- PERMITS_USED. -/
abbrev pPermitsUsed : Nat := 0x0207
/-- HELLO_FAILS. -/
abbrev pHelloFails : Nat := 0x0208
/-- HELLO_LOCKOUT. -/
abbrev pHelloLockout : Nat := 0x0209
/-- NVM_WRITE_BUDGET. -/
abbrev pNvmWriteBudget : Nat := 0x020A
/-- VAULT_USED. -/
abbrev pVaultUsed : Nat := 0x020B
/-- HOST_TRANSPORT. -/
abbrev pHostTransport : Nat := 0x0041
/-- HOST_ERROR_COUNT. -/
abbrev pHostErrorCount : Nat := 0x0042
/-- EVT_DROPPED. -/
abbrev pEvtDropped : Nat := 0x0043
/-- RSP_STALLS. -/
abbrev pRspStalls : Nat := 0x0044
/-- RSP_STALL_TIME. -/
abbrev pRspStallTime : Nat := 0x0045
/-- CMD_MODEL_VERSION. -/
abbrev pCmdModelVersion : Nat := 0x0001
/-- LONG_CMDS_OPEN. -/
abbrev pLongCmdsOpen : Nat := 0x0002
/-- LONG_CMDS_MAX. -/
abbrev pLongCmdsMax : Nat := 0x0003
/-- HELLO_CHALLENGE_LIFE. -/
abbrev pHelloChallengeLife : Nat := 0x0004
/-- PACE_TARGET_SLACK. -/
abbrev pPaceTargetSlack : Nat := 0x0360
/-- VCORE. -/
abbrev pVcore : Nat := 0x0361
/-- VCORE_CEILING_HOST. -/
abbrev pVcoreCeilingHost : Nat := 0x0362
/-- VCORE_FLOOR_HOST. -/
abbrev pVcoreFloorHost : Nat := 0x0363
/-- VCORE_CAP_LEDGER. -/
abbrev pVcoreCapLedger : Nat := 0x0364
/-- VCORE_CEILING_EFF. -/
abbrev pVcoreCeilingEff : Nat := 0x0365
/-- PACE_OVERRIDE. -/
abbrev pPaceOverride : Nat := 0x0366
/-- SLACK_MIN. -/
abbrev pSlackMin : Nat := 0x0367
/-- SLACK_LOW_WATER. -/
abbrev pSlackLowWater : Nat := 0x0368
/-- DEADLINE_MISSES. -/
abbrev pDeadlineMisses : Nat := 0x0369
/-- OVERRIDE_COUNT. -/
abbrev pOverrideCount : Nat := 0x036A
/-- OVERRIDE_TIME. -/
abbrev pOverrideTime : Nat := 0x036B
/-- ARB_LONG_COUNT. -/
abbrev pArbLongCount : Nat := 0x036C
/-- FAULT_SOURCE_COUNT. -/
abbrev pFaultSourceCount : Nat := 0x036D
/-- RESET_CAUSE. -/
abbrev pResetCause : Nat := 0x0108
/-- RESET_COUNT. -/
abbrev pResetCount : Nat := 0x0109
/-- START_READY_TIME. -/
abbrev pStartReadyTime : Nat := 0x010A
/-- SUBSYS_UP. -/
abbrev pSubsysUp : Nat := 0x010B
/-- WATCH_COURIER_SNIFF. -/
abbrev pWatchCourierSniff : Nat := 0x010C
/-- SLEEP_WAKE_SOURCES. -/
abbrev pSleepWakeSources : Nat := 0x010D
/-- THERMAL_SHUTDOWN. -/
abbrev pThermalShutdown : Nat := 0x010E
/-- THERMAL_STATE. -/
abbrev pThermalState : Nat := 0x010F
/-- VSYS_NOW. -/
abbrev pVsysNow : Nat := 0x0110
/-- VSYS_DIP_MIN. -/
abbrev pVsysDipMin : Nat := 0x0111
/-- BROWN_OUT_COUNT. -/
abbrev pBrownOutCount : Nat := 0x0112
/-- GNSS_EARLY_OVERFLOW. -/
abbrev pGnssEarlyOverflow : Nat := 0x0113
/-- JUNCTION_PEAK. -/
abbrev pJunctionPeak : Nat := 0x0114
/-- LEDGER_MODE. -/
abbrev pLedgerMode : Nat := 0x0301
/-- COLD_BUDGET. -/
abbrev pColdBudget : Nat := 0x0302
/-- LEDGER_LEVEL. -/
abbrev pLedgerLevel : Nat := 0x0303
/-- BAT_ENERGY. -/
abbrev pBatEnergy : Nat := 0x0304
/-- BAT_FLOW. -/
abbrev pBatFlow : Nat := 0x0305
/-- BAT_SOURCE. -/
abbrev pBatSource : Nat := 0x0306
/-- HARD_RESERVE. -/
abbrev pHardReserve : Nat := 0x0307
/-- OWNER_RESERVE. -/
abbrev pOwnerReserve : Nat := 0x0308
/-- ECONOMY_LEVEL. -/
abbrev pEconomyLevel : Nat := 0x0309
/-- LEDGER_VCORE_CAP. -/
abbrev pLedgerVcoreCap : Nat := 0x030A
/-- BAT_CELLS. -/
abbrev pBatCells : Nat := 0x030B
/-- BAT_ENERGY_FULL. -/
abbrev pBatEnergyFull : Nat := 0x030C
/-- BAT_OCV_TABLE. -/
abbrev pBatOcvTable : Nat := 0x030D
/-- BAT_RINT. -/
abbrev pBatRint : Nat := 0x030E
/-- CHARGE_ENABLE. -/
abbrev pChargeEnable : Nat := 0x030F
/-- MAINS_POWER. -/
abbrev pMainsPower : Nat := 0x0310
/-- HOLDUP_C_DECLARED. -/
abbrev pHoldupCDeclared : Nat := 0x0311
/-- OTHER_LOAD_DECLARED. -/
abbrev pOtherLoadDeclared : Nat := 0x0312
/-- HOLDUP_C. -/
abbrev pHoldupC : Nat := 0x0313
/-- HOLDUP_ENERGY. -/
abbrev pHoldupEnergy : Nat := 0x0314
/-- OWNER_RESIDUAL. -/
abbrev pOwnerResidual : Nat := 0x0315
/-- QUOTA_GRANT. -/
abbrev pQuotaGrant : Nat := 0x0316
/-- QUOTA_BALANCE. -/
abbrev pQuotaBalance : Nat := 0x0317
/-- QUOTA_RESERVED. -/
abbrev pQuotaReserved : Nat := 0x0318
/-- EXHAUST_ACTION. -/
abbrev pExhaustAction : Nat := 0x0319
/-- PLAN_END. -/
abbrev pPlanEnd : Nat := 0x031A
/-- ATTRIB_POWER. -/
abbrev pAttribPower : Nat := 0x031B
/-- ATTRIB_TOTAL. -/
abbrev pAttribTotal : Nat := 0x031C
/-- JOBS_OPEN. -/
abbrev pJobsOpen : Nat := 0x031D
/-- LANE_CORE_RATE. -/
abbrev pLaneCoreRate : Nat := 0x031E
/-- SCAN_CORE_RATE. -/
abbrev pScanCoreRate : Nat := 0x031F
/-- PA_SUPPLY_MV. -/
abbrev pPaSupplyMv : Nat := 0x0320
/-- ENERGY_WEIGHT. -/
abbrev pEnergyWeight : Nat := 0x0321
/-- ENERGY_TARGET. -/
abbrev pEnergyTarget : Nat := 0x0322
/-- LANE_STATE. -/
abbrev pLaneState : Nat := 0x0401
/-- LANE_FREQ. -/
abbrev pLaneFreq : Nat := 0x0402
/-- LANE_RATE. -/
abbrev pLaneRate : Nat := 0x0403
/-- REST_STATE. -/
abbrev pRestState : Nat := 0x0404
/-- FE_RX_DELAY. -/
abbrev pFeRxDelay : Nat := 0x0405
/-- FE_TX_DELAY. -/
abbrev pFeTxDelay : Nat := 0x0406
/-- FE_PA_LEAD. -/
abbrev pFePaLead : Nat := 0x0407
/-- FE_SW_LEAD. -/
abbrev pFeSwLead : Nat := 0x0408
/-- PIN_POLARITY. -/
abbrev pPinPolarity : Nat := 0x0409
/-- BGCAL_FDD_WINDOW. -/
abbrev pBgcalFddWindow : Nat := 0x040A
/-- PA_TEMP_SOURCE. -/
abbrev pPaTempSource : Nat := 0x040B
/-- TXPOWER_MODE. -/
abbrev pTxpowerMode : Nat := 0x040C
/-- PA_TABLE_VALID. -/
abbrev pPaTableValid : Nat := 0x040D
/-- RX_ENTRY. -/
abbrev pRxEntry : Nat := 0x040E
/-- TX_ENTRY. -/
abbrev pTxEntry : Nat := 0x040F
/-- DIGITAL_GAIN. -/
abbrev pDigitalGain : Nat := 0x0410
/-- PA_OUT_POWER. -/
abbrev pPaOutPower : Nat := 0x0411
/-- CAL_DRIFT_NOW. -/
abbrev pCalDriftNow : Nat := 0x0412
/-- BGCAL_WINDOWS. -/
abbrev pBgcalWindows : Nat := 0x0413
/-- CAL_STORE_USED. -/
abbrev pCalStoreUsed : Nat := 0x0414
/-- SYNTH_UNLOCKS. -/
abbrev pSynthUnlocks : Nat := 0x0415
/-- COURIER_PROFILE. -/
abbrev pCourierProfile : Nat := 0x0501
/-- COURIER_RATE. -/
abbrev pCourierRate : Nat := 0x0502
/-- COURIER_NET_ID. -/
abbrev pCourierNetId : Nat := 0x0503
/-- COURIER_SNIFF_INTERVAL. -/
abbrev pCourierSniffInterval : Nat := 0x0504
/-- COURIER_STATE. -/
abbrev pCourierState : Nat := 0x0505
/-- COURIER_RETURN_STATE. -/
abbrev pCourierReturnState : Nat := 0x0506
/-- COURIER_DIVERSITY. -/
abbrev pCourierDiversity : Nat := 0x0507
/-- COURIER_PREAMBLE. -/
abbrev pCourierPreamble : Nat := 0x0508
/-- COURIER_RETRIES. -/
abbrev pCourierRetries : Nat := 0x0509
/-- COURIER_START_STEP. -/
abbrev pCourierStartStep : Nat := 0x050A
/-- COURIER_DEVICE_RESERVE. -/
abbrev pCourierDeviceReserve : Nat := 0x050B
/-- COURIER_STEP. -/
abbrev pCourierStep : Nat := 0x050C
/-- COURIER_RSSI. -/
abbrev pCourierRssi : Nat := 0x050D
/-- COURIER_ANTENNA. -/
abbrev pCourierAntenna : Nat := 0x050E
/-- COURIER_AIRTIME_USED. -/
abbrev pCourierAirtimeUsed : Nat := 0x050F
/-- COURIER_CAL_VALID. -/
abbrev pCourierCalValid : Nat := 0x0510
/-- CHAIN_PRESET. -/
abbrev pChainPreset : Nat := 0x0601
/-- CHAIN_DECIMATION. -/
abbrev pChainDecimation : Nat := 0x0602
/-- CHAIN_OUT_PERIOD. -/
abbrev pChainOutPeriod : Nat := 0x0603
/-- CHAIN_GROUP_DELAY. -/
abbrev pChainGroupDelay : Nat := 0x0604
/-- CHAIN_FIR_TAPS. -/
abbrev pChainFirTaps : Nat := 0x0605
/-- AVG_WINDOW. -/
abbrev pAvgWindow : Nat := 0x0606
/-- AVG_SHIFT. -/
abbrev pAvgShift : Nat := 0x0607
/-- AVG_POWER. -/
abbrev pAvgPower : Nat := 0x0608
/-- AVG_STATUS. -/
abbrev pAvgStatus : Nat := 0x0609
/-- POWER_1MS. -/
abbrev pPower1ms : Nat := 0x060A
/-- MEAN_1MS. -/
abbrev pMean1ms : Nat := 0x060B
/-- CHAIN_FS_UNITS. -/
abbrev pChainFsUnits : Nat := 0x060C
/-- SAT_FLAGS. -/
abbrev pSatFlags : Nat := 0x060D
/-- GUARD_OVF_COUNT. -/
abbrev pGuardOvfCount : Nat := 0x060E
/-- THRESH_STATE. -/
abbrev pThreshState : Nat := 0x060F
/-- INPUT_STUCK_COUNT. -/
abbrev pInputStuckCount : Nat := 0x0610
/-- CONVOY_OUTPUT. -/
abbrev pConvoyOutput : Nat := 0x0701
/-- CONVOY_WINNER. -/
abbrev pConvoyWinner : Nat := 0x0702
/-- CONVOY_PERIOD. -/
abbrev pConvoyPeriod : Nat := 0x0703
/-- HOST_CEILING. -/
abbrev pHostCeiling : Nat := 0x0704
/-- HOST_RISE_RATE. -/
abbrev pHostRiseRate : Nat := 0x0705
/-- DROVER_STATE. -/
abbrev pDroverState : Nat := 0x0706
/-- DROVER_OUTPUT. -/
abbrev pDroverOutput : Nat := 0x0707
/-- ISO_MARGIN. -/
abbrev pIsoMargin : Nat := 0x0708
/-- ISO_ESTIMATE. -/
abbrev pIsoEstimate : Nat := 0x0709
/-- ISO_STATE. -/
abbrev pIsoState : Nat := 0x070A
/-- ISO_I_EFF. -/
abbrev pIsoIEff : Nat := 0x070B
/-- ISO_LOOP_DELAY. -/
abbrev pIsoLoopDelay : Nat := 0x070C
/-- OSC_RUNG. -/
abbrev pOscRung : Nat := 0x070D
/-- OSC_COUNT. -/
abbrev pOscCount : Nat := 0x070E
/-- POWER_LIMIT. -/
abbrev pPowerLimit : Nat := 0x070F
/-- COMPOSITE_ALLOC. -/
abbrev pCompositeAlloc : Nat := 0x0710
/-- CHG_I_FULLSCALE. -/
abbrev pChgIFullscale : Nat := 0x0711
/-- SAT_TIME. -/
abbrev pSatTime : Nat := 0x0712
/-- STARVE_TIME. -/
abbrev pStarveTime : Nat := 0x0713
/-- SUPERVISOR_LIMIT. -/
abbrev pSupervisorLimit : Nat := 0x0714
/-- STARVE_LIMIT. -/
abbrev pStarveLimit : Nat := 0x0715
/-- CLOCK_STATE. -/
abbrev pClockState : Nat := 0x0801
/-- SELECTED_REF. -/
abbrev pSelectedRef : Nat := 0x0802
/-- OUTPUT_QL. -/
abbrev pOutputQl : Nat := 0x0803
/-- REF_ENABLE. -/
abbrev pRefEnable : Nat := 0x0804
/-- REF_PRIORITY. -/
abbrev pRefPriority : Nat := 0x0805
/-- REF_QL. -/
abbrev pRefQl : Nat := 0x0806
/-- REF_QUAL_TIME. -/
abbrev pRefQualTime : Nat := 0x0807
/-- REVERTIVE. -/
abbrev pRevertive : Nat := 0x0808
/-- HOLD_OFF. -/
abbrev pHoldOff : Nat := 0x0809
/-- WAIT_TO_RESTORE. -/
abbrev pWaitToRestore : Nat := 0x080A
/-- HOLDOVER_WINDOW. -/
abbrev pHoldoverWindow : Nat := 0x080B
/-- PULL_LIMIT. -/
abbrev pPullLimit : Nat := 0x080C
/-- STEER_RAMP. -/
abbrev pSteerRamp : Nat := 0x080D
/-- STEER_WORD. -/
abbrev pSteerWord : Nat := 0x080E
/-- STEER_MODE. -/
abbrev pSteerMode : Nat := 0x080F
/-- FACTORY_STEER. -/
abbrev pFactorySteer : Nat := 0x0810
/-- XO_TEMP_SOURCE. -/
abbrev pXoTempSource : Nat := 0x0811
/-- XO_BINS_LEARNED. -/
abbrev pXoBinsLearned : Nat := 0x0812
/-- EXT_MODE. -/
abbrev pExtMode : Nat := 0x0813
/-- CELL_SOURCE. -/
abbrev pCellSource : Nat := 0x0814
/-- CELL_FREQ. -/
abbrev pCellFreq : Nat := 0x0815
/-- GNSS_BAUD. -/
abbrev pGnssBaud : Nat := 0x0816
/-- NMEA_PPS_ALIGN. -/
abbrev pNmeaPpsAlign : Nat := 0x0817
/-- CLK_REF_OUT_EN. -/
abbrev pClkRefOutEn : Nat := 0x0818
/-- WALL_TIME. -/
abbrev pWallTime : Nat := 0x0819
/-- WALL_SOURCE. -/
abbrev pWallSource : Nat := 0x081A
/-- WALL_HIGH_WATER. -/
abbrev pWallHighWater : Nat := 0x081B
/-- WALL_UNCERTAINTY. -/
abbrev pWallUncertainty : Nat := 0x081C
/-- WALL_UNC_LIMIT. -/
abbrev pWallUncLimit : Nat := 0x081D
/-- WALL_FWD_LIMIT. -/
abbrev pWallFwdLimit : Nat := 0x081E
/-- LAST_PHASE_STEP. -/
abbrev pLastPhaseStep : Nat := 0x081F
/-- SWITCH_COUNT. -/
abbrev pSwitchCount : Nat := 0x0820
/-- LEAP_PENDING. -/
abbrev pLeapPending : Nat := 0x0821
/-- PORT_STATE. -/
abbrev pPortState : Nat := 0x0901
/-- LINK_RATE_CFG. -/
abbrev pLinkRateCfg : Nat := 0x0902
/-- LINK_RATE. -/
abbrev pLinkRate : Nat := 0x0903
/-- LINK_FEC. -/
abbrev pLinkFec : Nat := 0x0904
/-- IQ_FORMAT. -/
abbrev pIqFormat : Nat := 0x0905
/-- CHAIN_ID. -/
abbrev pChainId : Nat := 0x0906
/-- CHAIN_ROLE. -/
abbrev pChainRole : Nat := 0x0907
/-- CHAIN_MEMBERS. -/
abbrev pChainMembers : Nat := 0x0908
/-- HOP_RTT. -/
abbrev pHopRtt : Nat := 0x0909
/-- HOP_DELAY_DOWN. -/
abbrev pHopDelayDown : Nat := 0x090A
/-- HOP_DELAY_UP. -/
abbrev pHopDelayUp : Nat := 0x090B
/-- FIBRE_ASYMMETRY. -/
abbrev pFibreAsymmetry : Nat := 0x090C
/-- FIBRE_PS_PER_M. -/
abbrev pFibrePsPerM : Nat := 0x090D
/-- TKC_OFFSET. -/
abbrev pTkcOffset : Nat := 0x090E
/-- BALES_MISSED. -/
abbrev pBalesMissed : Nat := 0x090F
/-- WAYBILL_ERRORS. -/
abbrev pWaybillErrors : Nat := 0x0910
/-- LINK_DOWN_COUNT. -/
abbrev pLinkDownCount : Nat := 0x0911
/-- SUM_SAT_COUNT. -/
abbrev pSumSatCount : Nat := 0x0912
/-- SUM_BACKOFF. -/
abbrev pSumBackoff : Nat := 0x0913
/-- LATE_COUNT. -/
abbrev pLateCount : Nat := 0x0914
/-- REJOIN_AUTO. -/
abbrev pRejoinAuto : Nat := 0x0915
/-- BAND_STATE. -/
abbrev pBandState : Nat := 0x0A01
/-- BAND_TRIGGERS. -/
abbrev pBandTriggers : Nat := 0x0A02
/-- BAND_RUNG. -/
abbrev pBandRung : Nat := 0x0A03
/-- BAND_UNITS. -/
abbrev pBandUnits : Nat := 0x0A04
/-- BAND_PERMIT. -/
abbrev pBandPermit : Nat := 0x0A05
/-- UL_NOISE_EST. -/
abbrev pUlNoiseEst : Nat := 0x0A06
/-- UL_NOISE_MARGIN. -/
abbrev pUlNoiseMargin : Nat := 0x0A07
/-- UL_WEIGHT. -/
abbrev pUlWeight : Nat := 0x0A08
/-- DL_INPUT_LIMIT. -/
abbrev pDlInputLimit : Nat := 0x0A09
/-- TDD_VERIFY_INTERVAL. -/
abbrev pTddVerifyInterval : Nat := 0x0A0A
/-- EIRP_LIMIT. -/
abbrev pEirpLimit : Nat := 0x0A0B
/-- ACTIVE_FOLLOWERS. -/
abbrev pActiveFollowers : Nat := 0x0A0C
/-- SURVEY_OPEN. -/
abbrev pSurveyOpen : Nat := 0x0B01
/-- RESULT_STORE_USED. -/
abbrev pResultStoreUsed : Nat := 0x0B02
/-- SCAN_PATH_GAIN. -/
abbrev pScanPathGain : Nat := 0x0B03
/-- PROBE_RX_NF. -/
abbrev pProbeRxNf : Nat := 0x0B04
/-- PROBE_MAX_LEVEL. -/
abbrev pProbeMaxLevel : Nat := 0x0B05
/-- CELL_REF_MISSES. -/
abbrev pCellRefMisses : Nat := 0x0B06
/-- METER_STATE. -/
abbrev pMeterState : Nat := 0x0C01
/-- MAINS_V_RMS. -/
abbrev pMainsVRms : Nat := 0x0C02
/-- MAINS_IL_RMS. -/
abbrev pMainsIlRms : Nat := 0x0C03
/-- MAINS_IN_RMS. -/
abbrev pMainsInRms : Nat := 0x0C04
/-- MAINS_VNPE_RMS. -/
abbrev pMainsVnpeRms : Nat := 0x0C05
/-- MAINS_FREQ. -/
abbrev pMainsFreq : Nat := 0x0C06
/-- MAINS_P_ACTIVE. -/
abbrev pMainsPActive : Nat := 0x0C07
/-- MAINS_PF. -/
abbrev pMainsPf : Nat := 0x0C08
/-- BILLING_MODE. -/
abbrev pBillingMode : Nat := 0x0C09
/-- BILLING_BOUNDARY. -/
abbrev pBillingBoundary : Nat := 0x0C0A
/-- PERIOD_NUMBER. -/
abbrev pPeriodNumber : Nat := 0x0C0B
/-- TARIFF_ACTIVE. -/
abbrev pTariffActive : Nat := 0x0C0C
/-- TARIFF_TABLE_ID. -/
abbrev pTariffTableId : Nat := 0x0C0D
/-- TARIFF_PENDING_ID. -/
abbrev pTariffPendingId : Nat := 0x0C0E
/-- METRO_EVENT_COUNT. -/
abbrev pMetroEventCount : Nat := 0x0C0F
/-- CAL_ID. -/
abbrev pCalId : Nat := 0x0C10
/-- TAMPER_FLAGS. -/
abbrev pTamperFlags : Nat := 0x0C11
/-- METER_TIME. -/
abbrev pMeterTime : Nat := 0x0C12
/-- METER_GAP_TOTAL. -/
abbrev pMeterGapTotal : Nat := 0x0C13
/-- OVERRANGE_TIME. -/
abbrev pOverrangeTime : Nat := 0x0C14
/-- PULSE_BACKLOG. -/
abbrev pPulseBacklog : Nat := 0x0C15
/-- SEAL_VALUE. -/
abbrev pSealValue : Nat := 0x0C16
/-- LOG_NEXT_SEQ. -/
abbrev pLogNextSeq : Nat := 0x0D01
/-- LOG_OLDEST_SEQ. -/
abbrev pLogOldestSeq : Nat := 0x0D02
/-- LOG_STORED. -/
abbrev pLogStored : Nat := 0x0D03
/-- LOG_FROZEN. -/
abbrev pLogFrozen : Nat := 0x0D04
/-- LOG_LOST. -/
abbrev pLogLost : Nat := 0x0D05
/-- LOG_CORRUPT. -/
abbrev pLogCorrupt : Nat := 0x0D06
/-- METRO_FREE. -/
abbrev pMetroFree : Nat := 0x0D07
/-- METRO_OVERFLOW. -/
abbrev pMetroOverflow : Nat := 0x0D08
/-- NVM_ERASE_PERMITTED. -/
abbrev pNvmErasePermitted : Nat := 0x0E01
/-- NVM_SPARE_SECTORS. -/
abbrev pNvmSpareSectors : Nat := 0x0E02
/-- NVM_ERASE_MAX. -/
abbrev pNvmEraseMax : Nat := 0x0E03
/-- NVM_BARRED_TIME. -/
abbrev pNvmBarredTime : Nat := 0x0E04
/-- FW_STAGE_STATE. -/
abbrev pFwStageState : Nat := 0x0E05
/-- SHOCK_SOURCE. -/
abbrev pShockSource : Nat := 0x0F01
/-- SHOCK_THRESHOLD. -/
abbrev pShockThreshold : Nat := 0x0F02
/-- ACCEL_I2C_ADDR. -/
abbrev pAccelI2cAddr : Nat := 0x0F03
/-- ACCEL_DATA_REG. -/
abbrev pAccelDataReg : Nat := 0x0F04
/-- ACCEL_LSB_UG. -/
abbrev pAccelLsbUg : Nat := 0x0F05
/-- ACCEL_FLAGS. -/
abbrev pAccelFlags : Nat := 0x0F06
/-- SHOCK_COUNT. -/
abbrev pShockCount : Nat := 0x0F07
/-- LEDGER_INVALID_STEPS. -/
abbrev pLedgerInvalidSteps : Nat := 0x0F08
/-- FAULT_RESET_COUNT. -/
abbrev pFaultResetCount : Nat := 0x0F09
/-- The parameters of class 0x00. -/
def paramTable00 : List ParamRow :=
  [ { id := pCmdModelVersion, ty := .u16, idx := .dev, lo := 0, hi := 65535, access := .ro, nvm := false, tenantPrivate := false, dflt := fun _ => 256 }
  , { id := pLongCmdsOpen, ty := .u8, idx := .slot, lo := 0, hi := 255, access := .ro, nvm := false, tenantPrivate := true, dflt := fun _ => 0 }
  , { id := pLongCmdsMax, ty := .u8, idx := .dev, lo := 0, hi := 255, access := .ro, nvm := false, tenantPrivate := false, dflt := fun _ => 8 }
  , { id := pHelloChallengeLife, ty := .dur, idx := .dev, lo := 0, hi := 4294967295, access := .ro, nvm := false, tenantPrivate := false, dflt := fun _ => 1000000 }
  , { id := pHostTransport, ty := .enum, idx := .dev, lo := 0, hi := 255, access := .ro, nvm := false, tenantPrivate := false, dflt := fun _ => 0 }
  , { id := pHostErrorCount, ty := .u32, idx := .dev, lo := 0, hi := 4294967295, access := .ro, nvm := false, tenantPrivate := false, dflt := fun _ => 0 }
  , { id := pEvtDropped, ty := .u32, idx := .slot, lo := 0, hi := 4294967295, access := .ro, nvm := false, tenantPrivate := true, dflt := fun _ => 0 }
  , { id := pRspStalls, ty := .u32, idx := .slot, lo := 0, hi := 4294967295, access := .ro, nvm := false, tenantPrivate := true, dflt := fun _ => 0 }
  , { id := pRspStallTime, ty := .dur, idx := .slot, lo := 0, hi := 4294967295, access := .ro, nvm := false, tenantPrivate := true, dflt := fun _ => 0 } ]

/-- The parameters of class 0x01. -/
def paramTable01 : List ParamRow :=
  [ { id := pMode, ty := .enum, idx := .dev, lo := 0, hi := 255, access := .ro, nvm := false, tenantPrivate := false, dflt := fun _ => 1 }
  , { id := pTopology, ty := .enum, idx := .dev, lo := 0, hi := 255, access := .ro, nvm := false, tenantPrivate := false, dflt := fun _ => 0 }
  , { id := pUnitNumber, ty := .u8, idx := .dev, lo := 0, hi := 255, access := .ro, nvm := false, tenantPrivate := false, dflt := fun _ => 0 }
  , { id := pUnitCount, ty := .u8, idx := .dev, lo := 0, hi := 255, access := .ro, nvm := false, tenantPrivate := false, dflt := fun _ => 1 }
  , { id := pLinkBudget, ty := .u32, idx := .port, lo := 0, hi := 4294967295, access := .ro, nvm := false, tenantPrivate := false, dflt := fun _ => 0 }
  , { id := pLinkShareUsed, ty := .u32, idx := .slotPortDir, lo := 0, hi := 4294967295, access := .ro, nvm := false, tenantPrivate := true, dflt := fun _ => 0 }
  , { id := pPathDelay, ty := .u32, idx := .lane, lo := 0, hi := 4294967295, access := .ro, nvm := false, tenantPrivate := false, dflt := fun _ => 4294967295 }
  , { id := pResetCause, ty := .enum, idx := .dev, lo := 0, hi := 255, access := .ro, nvm := false, tenantPrivate := false, dflt := fun _ => 1 }
  , { id := pResetCount, ty := .u32, idx := .dev, lo := 0, hi := 4294967295, access := .ro, nvm := true, tenantPrivate := false, dflt := fun _ => 0 }
  , { id := pStartReadyTime, ty := .dur, idx := .dev, lo := 0, hi := 4294967295, access := .ro, nvm := false, tenantPrivate := false, dflt := fun _ => 0 }
  , { id := pSubsysUp, ty := .bits, idx := .dev, lo := 0, hi := 4294967295, access := .ro, nvm := false, tenantPrivate := false, dflt := fun _ => 0 }
  , { id := pWatchCourierSniff, ty := .bool, idx := .dev, lo := 0, hi := 1, access := .s0, nvm := true, tenantPrivate := false, dflt := fun _ => 0 }
  , { id := pSleepWakeSources, ty := .bits8, idx := .dev, lo := 0, hi := 15, access := .s0, nvm := true, tenantPrivate := false, dflt := fun _ => 15 }
  , { id := pThermalShutdown, ty := .temp, idx := .dev, lo := 1520, hi := 1888, access := .s0, nvm := true, tenantPrivate := false, dflt := fun _ => 1792 }
  , { id := pThermalState, ty := .enum, idx := .dev, lo := 0, hi := 255, access := .ro, nvm := false, tenantPrivate := false, dflt := fun _ => 0 }
  , { id := pVsysNow, ty := .u16, idx := .dev, lo := 0, hi := 65535, access := .ro, nvm := false, tenantPrivate := false, dflt := fun _ => 0 }
  , { id := pVsysDipMin, ty := .u16, idx := .dev, lo := 0, hi := 65535, access := .ro, nvm := false, tenantPrivate := false, dflt := fun _ => 65535 }
  , { id := pBrownOutCount, ty := .u32, idx := .dev, lo := 0, hi := 4294967295, access := .ro, nvm := true, tenantPrivate := false, dflt := fun _ => 0 }
  , { id := pGnssEarlyOverflow, ty := .u32, idx := .dev, lo := 0, hi := 4294967295, access := .ro, nvm := false, tenantPrivate := false, dflt := fun _ => 0 }
  , { id := pJunctionPeak, ty := .temp, idx := .dev, lo := -32768, hi := 32767, access := .ro, nvm := false, tenantPrivate := false, dflt := fun _ => -32768 } ]

/-- The parameters of class 0x02. -/
def paramTable02 : List ParamRow :=
  [ { id := pSlotState, ty := .enum, idx := .slot, lo := 0, hi := 255, access := .ro, nvm := true, tenantPrivate := false, dflt := fun i => if i = 0 then 1 else 0 }
  , { id := pSessionOpen, ty := .bool, idx := .slot, lo := 0, hi := 1, access := .ro, nvm := false, tenantPrivate := false, dflt := fun _ => 0 }
  , { id := pLaneOwner, ty := .u8, idx := .lane, lo := 0, hi := 255, access := .ro, nvm := true, tenantPrivate := false, dflt := fun _ => 0 }
  , { id := pCompositeTxLimit, ty := .mW, idx := .dev, lo := 0, hi := 1000000, access := .s0, nvm := true, tenantPrivate := false, dflt := fun _ => 2000 }
  , { id := pShare, ty := .u16, idx := .slotKind, lo := 0, hi := 65535, access := .ro, nvm := true, tenantPrivate := false, dflt := fun i => if i < 7 then 1000 else 0 }
  , { id := pOverheadRate, ty := .mW, idx := .slot, lo := 0, hi := 4294967295, access := .ro, nvm := true, tenantPrivate := false, dflt := fun _ => 0 }
  , { id := pPermitsUsed, ty := .u8, idx := .slot, lo := 0, hi := 255, access := .ro, nvm := true, tenantPrivate := true, dflt := fun _ => 0 }
  , { id := pHelloFails, ty := .u16, idx := .slot, lo := 0, hi := 65535, access := .ro, nvm := true, tenantPrivate := false, dflt := fun _ => 0 }
  , { id := pHelloLockout, ty := .dur, idx := .slot, lo := 0, hi := 4294967295, access := .ro, nvm := false, tenantPrivate := false, dflt := fun _ => 0 }
  , { id := pNvmWriteBudget, ty := .u32, idx := .dev, lo := 0, hi := 4294967295, access := .ro, nvm := false, tenantPrivate := false, dflt := fun _ => 400 }
  , { id := pVaultUsed, ty := .u32, idx := .slot, lo := 0, hi := 4294967295, access := .ro, nvm := true, tenantPrivate := true, dflt := fun _ => 0 } ]

/-- The parameters of class 0x03. -/
def paramTable03 : List ParamRow :=
  [ { id := pLedgerMode, ty := .enum, idx := .dev, lo := 0, hi := 255, access := .ro, nvm := false, tenantPrivate := false, dflt := fun _ => 0 }
  , { id := pColdBudget, ty := .bool, idx := .dev, lo := 0, hi := 1, access := .ro, nvm := false, tenantPrivate := false, dflt := fun _ => 1 }
  , { id := pLedgerLevel, ty := .bits8, idx := .dev, lo := 0, hi := 255, access := .ro, nvm := false, tenantPrivate := false, dflt := fun _ => 0 }
  , { id := pBatEnergy, ty := .mJ, idx := .dev, lo := -9223372036854775808, hi := 9223372036854775807, access := .ro, nvm := false, tenantPrivate := false, dflt := fun _ => 0 }
  , { id := pBatFlow, ty := .s32, idx := .dev, lo := -2147483648, hi := 2147483647, access := .ro, nvm := false, tenantPrivate := false, dflt := fun _ => 0 }
  , { id := pBatSource, ty := .enum, idx := .dev, lo := 0, hi := 255, access := .ro, nvm := false, tenantPrivate := false, dflt := fun _ => 0 }
  , { id := pHardReserve, ty := .mJ, idx := .dev, lo := 4000, hi := 60000, access := .s0, nvm := true, tenantPrivate := false, dflt := fun _ => 6000 }
  , { id := pOwnerReserve, ty := .mJ, idx := .dev, lo := 0, hi := 1000000000, access := .s0, nvm := true, tenantPrivate := false, dflt := fun _ => 20000000 }
  , { id := pEconomyLevel, ty := .mJ, idx := .dev, lo := 0, hi := 1000000000, access := .s0, nvm := true, tenantPrivate := false, dflt := fun _ => 20000000 }
  , { id := pLedgerVcoreCap, ty := .u16, idx := .dev, lo := 550, hi := 900, access := .s0, nvm := true, tenantPrivate := false, dflt := fun _ => 800, extra := fun v => v % 5 = 0 }
  , { id := pBatCells, ty := .u8, idx := .dev, lo := 2, hi := 4, access := .s0, nvm := true, tenantPrivate := false, dflt := fun _ => 3 }
  , { id := pBatEnergyFull, ty := .mJ, idx := .dev, lo := 1000000, hi := 2000000000, access := .s0, nvm := true, tenantPrivate := false, dflt := fun _ => 150000000 }
  , { id := pBatOcvTable, ty := .bytes 32, idx := .dev, lo := 0, hi := 115792089237316195423570985008687907853269984665640564039457584007913129639935, access := .s0, nvm := true, tenantPrivate := false, dflt := fun _ => ocvTableDefault, extra := ocvAscending }
  , { id := pBatRint, ty := .u16, idx := .dev, lo := 0, hi := 2000, access := .s0, nvm := true, tenantPrivate := false, dflt := fun _ => 120 }
  , { id := pChargeEnable, ty := .bool, idx := .dev, lo := 0, hi := 1, access := .s0, nvm := true, tenantPrivate := false, dflt := fun _ => 1 }
  , { id := pMainsPower, ty := .mW, idx := .dev, lo := 0, hi := 4294967295, access := .ro, nvm := false, tenantPrivate := false, dflt := fun _ => 0 }
  , { id := pHoldupCDeclared, ty := .u32, idx := .dev, lo := 1000, hi := 1000000, access := .s0, nvm := true, tenantPrivate := false, dflt := fun _ => 7200 }
  , { id := pOtherLoadDeclared, ty := .mW, idx := .dev, lo := 0, hi := 100000, access := .s0, nvm := true, tenantPrivate := false, dflt := fun _ => 0 }
  , { id := pHoldupC, ty := .u32, idx := .dev, lo := 0, hi := 4294967295, access := .ro, nvm := false, tenantPrivate := false, dflt := fun _ => 0 }
  , { id := pHoldupEnergy, ty := .mJ, idx := .dev, lo := -9223372036854775808, hi := 9223372036854775807, access := .ro, nvm := false, tenantPrivate := false, dflt := fun _ => 0 }
  , { id := pOwnerResidual, ty := .mJ, idx := .dev, lo := -9223372036854775808, hi := 9223372036854775807, access := .ro, nvm := false, tenantPrivate := false, dflt := fun _ => 0 }
  , { id := pQuotaGrant, ty := .mJ, idx := .slot17, lo := -9223372036854775808, hi := 9223372036854775807, access := .ro, nvm := true, tenantPrivate := false, dflt := fun _ => 0 }
  , { id := pQuotaBalance, ty := .mJ, idx := .slot17, lo := -9223372036854775808, hi := 9223372036854775807, access := .ro, nvm := true, tenantPrivate := true, dflt := fun _ => 0 }
  , { id := pQuotaReserved, ty := .mJ, idx := .slot, lo := -9223372036854775808, hi := 9223372036854775807, access := .ro, nvm := false, tenantPrivate := true, dflt := fun _ => 0 }
  , { id := pExhaustAction, ty := .enum, idx := .slot17, lo := 0, hi := 255, access := .ro, nvm := true, tenantPrivate := false, dflt := fun _ => 1 }
  , { id := pPlanEnd, ty := .ts, idx := .slot, lo := 0, hi := 18446744073709551615, access := .ro, nvm := true, tenantPrivate := true, dflt := fun _ => 0 }
  , { id := pAttribPower, ty := .mW, idx := .slot, lo := 0, hi := 4294967295, access := .ro, nvm := false, tenantPrivate := true, dflt := fun _ => 0 }
  , { id := pAttribTotal, ty := .mJ, idx := .slot, lo := -9223372036854775808, hi := 9223372036854775807, access := .ro, nvm := true, tenantPrivate := true, dflt := fun _ => 0 }
  , { id := pJobsOpen, ty := .u8, idx := .slot, lo := 0, hi := 255, access := .ro, nvm := false, tenantPrivate := true, dflt := fun _ => 0 }
  , { id := pLaneCoreRate, ty := .mW, idx := .laneState, lo := 0, hi := 4294967295, access := .ro, nvm := false, tenantPrivate := false, dflt := laneCoreRate }
  , { id := pScanCoreRate, ty := .mW, idx := .dev, lo := 0, hi := 4294967295, access := .ro, nvm := false, tenantPrivate := false, dflt := fun _ => 1350 }
  , { id := pPaSupplyMv, ty := .u16, idx := .lane, lo := 0, hi := 60000, access := .s0, nvm := true, tenantPrivate := false, dflt := fun _ => 0 }
  , { id := pEnergyWeight, ty := .u8, idx := .lane, lo := 1, hi := 100, access := .own, nvm := true, tenantPrivate := false, dflt := fun _ => 1 }
  , { id := pEnergyTarget, ty := .mW, idx := .lane, lo := 0, hi := 4294967295, access := .ro, nvm := false, tenantPrivate := false, dflt := fun _ => 4294967295 }
  , { id := pPaceTargetSlack, ty := .u16, idx := .dev, lo := 100, hi := 400, access := .s0, nvm := true, tenantPrivate := false, dflt := fun _ => 200 }
  , { id := pVcore, ty := .u16, idx := .dev, lo := 0, hi := 65535, access := .ro, nvm := false, tenantPrivate := false, dflt := fun _ => 900 }
  , { id := pVcoreCeilingHost, ty := .u16, idx := .dev, lo := 0, hi := 65535, access := .ro, nvm := true, tenantPrivate := false, dflt := fun _ => 900 }
  , { id := pVcoreFloorHost, ty := .u16, idx := .dev, lo := 0, hi := 65535, access := .ro, nvm := true, tenantPrivate := false, dflt := fun _ => 550 }
  , { id := pVcoreCapLedger, ty := .u16, idx := .dev, lo := 0, hi := 65535, access := .ro, nvm := false, tenantPrivate := false, dflt := fun _ => 900 }
  , { id := pVcoreCeilingEff, ty := .u16, idx := .dev, lo := 0, hi := 65535, access := .ro, nvm := false, tenantPrivate := false, dflt := fun _ => 900 }
  , { id := pPaceOverride, ty := .bool, idx := .dev, lo := 0, hi := 1, access := .ro, nvm := false, tenantPrivate := false, dflt := fun _ => 0 }
  , { id := pSlackMin, ty := .u16, idx := .domain, lo := 0, hi := 65535, access := .ro, nvm := false, tenantPrivate := false, dflt := fun _ => 1000 }
  , { id := pSlackLowWater, ty := .u16, idx := .domain, lo := 0, hi := 65535, access := .ro, nvm := false, tenantPrivate := false, dflt := fun _ => 1000 }
  , { id := pDeadlineMisses, ty := .u32, idx := .domain, lo := 0, hi := 4294967295, access := .ro, nvm := false, tenantPrivate := false, dflt := fun _ => 0 }
  , { id := pOverrideCount, ty := .u32, idx := .dev, lo := 0, hi := 4294967295, access := .ro, nvm := false, tenantPrivate := false, dflt := fun _ => 0 }
  , { id := pOverrideTime, ty := .u32, idx := .dev, lo := 0, hi := 4294967295, access := .ro, nvm := false, tenantPrivate := false, dflt := fun _ => 0 }
  , { id := pArbLongCount, ty := .u32, idx := .dev, lo := 0, hi := 4294967295, access := .ro, nvm := false, tenantPrivate := false, dflt := fun _ => 0 }
  , { id := pFaultSourceCount, ty := .u32, idx := .source, lo := 0, hi := 4294967295, access := .ro, nvm := false, tenantPrivate := false, dflt := fun _ => 0 } ]

/-- The parameters of class 0x04. -/
def paramTable04 : List ParamRow :=
  [ { id := pLaneState, ty := .enum, idx := .lane, lo := 0, hi := 255, access := .ro, nvm := false, tenantPrivate := false, dflt := fun _ => 0 }
  , { id := pLaneFreq, ty := .freq, idx := .lane, lo := 0, hi := 18446744073709551615, access := .ro, nvm := false, tenantPrivate := false, dflt := fun _ => 0 }
  , { id := pLaneRate, ty := .enum, idx := .lane, lo := 0, hi := 255, access := .ro, nvm := false, tenantPrivate := false, dflt := fun _ => 255 }
  , { id := pRestState, ty := .enum, idx := .lane, lo := 1, hi := 4, access := .own, nvm := false, tenantPrivate := false, dflt := fun _ => 4, extra := fun v => v = 1 || v = 2 || v = 4 }
  , { id := pFeRxDelay, ty := .u32, idx := .lane, lo := 0, hi := 2000, access := .s0, nvm := true, tenantPrivate := false, dflt := fun _ => 0 }
  , { id := pFeTxDelay, ty := .u32, idx := .lane, lo := 0, hi := 2000, access := .s0, nvm := true, tenantPrivate := false, dflt := fun _ => 0 }
  , { id := pFePaLead, ty := .u32, idx := .lane, lo := 0, hi := 10000, access := .s0, nvm := true, tenantPrivate := false, dflt := fun _ => 500 }
  , { id := pFeSwLead, ty := .u32, idx := .lane, lo := 0, hi := 10000, access := .s0, nvm := true, tenantPrivate := false, dflt := fun _ => 800 }
  , { id := pPinPolarity, ty := .bits8, idx := .lane, lo := 0, hi := 15, access := .s0, nvm := true, tenantPrivate := false, dflt := fun _ => 0 }
  , { id := pBgcalFddWindow, ty := .bool, idx := .lane, lo := 0, hi := 1, access := .s0, nvm := true, tenantPrivate := false, dflt := fun _ => 1 }
  , { id := pPaTempSource, ty := .enum, idx := .lane, lo := 0, hi := 1, access := .s0, nvm := true, tenantPrivate := false, dflt := fun _ => 0 }
  , { id := pTxpowerMode, ty := .enum, idx := .lane, lo := 0, hi := 255, access := .ro, nvm := true, tenantPrivate := false, dflt := fun _ => 1 }
  , { id := pPaTableValid, ty := .bool, idx := .lane, lo := 0, hi := 1, access := .ro, nvm := true, tenantPrivate := false, dflt := fun _ => 0 }
  , { id := pRxEntry, ty := .u8, idx := .lane, lo := 0, hi := 255, access := .ro, nvm := false, tenantPrivate := false, dflt := fun _ => 255 }
  , { id := pTxEntry, ty := .u8, idx := .lane, lo := 0, hi := 255, access := .ro, nvm := false, tenantPrivate := false, dflt := fun _ => 255 }
  , { id := pDigitalGain, ty := .gain, idx := .lane, lo := -32768, hi := 32767, access := .ro, nvm := false, tenantPrivate := false, dflt := fun _ => 0 }
  , { id := pPaOutPower, ty := .gain, idx := .lane, lo := -32768, hi := 32767, access := .ro, nvm := false, tenantPrivate := false, dflt := fun _ => -32768 }
  , { id := pCalDriftNow, ty := .temp, idx := .lane, lo := -32768, hi := 32767, access := .ro, nvm := false, tenantPrivate := false, dflt := fun _ => 0 }
  , { id := pBgcalWindows, ty := .u32, idx := .lane, lo := 0, hi := 4294967295, access := .ro, nvm := false, tenantPrivate := false, dflt := fun _ => 0 }
  , { id := pCalStoreUsed, ty := .u8, idx := .lane, lo := 0, hi := 255, access := .ro, nvm := false, tenantPrivate := false, dflt := fun _ => 0 }
  , { id := pSynthUnlocks, ty := .u32, idx := .lane, lo := 0, hi := 4294967295, access := .ro, nvm := false, tenantPrivate := false, dflt := fun _ => 0 } ]

/-- The parameters of class 0x05. -/
def paramTable05 : List ParamRow :=
  [ { id := pCourierProfile, ty := .enum, idx := .dev, lo := 0, hi := 255, access := .ro, nvm := true, tenantPrivate := false, dflt := fun _ => 0 }
  , { id := pCourierRate, ty := .enum, idx := .dev, lo := 0, hi := 255, access := .ro, nvm := true, tenantPrivate := false, dflt := fun _ => 0 }
  , { id := pCourierNetId, ty := .u16, idx := .dev, lo := 0, hi := 65535, access := .ro, nvm := true, tenantPrivate := false, dflt := fun _ => 0 }
  , { id := pCourierSniffInterval, ty := .dur, idx := .dev, lo := 0, hi := 4294967295, access := .ro, nvm := true, tenantPrivate := false, dflt := fun _ => 500000 }
  , { id := pCourierState, ty := .enum, idx := .dev, lo := 0, hi := 255, access := .ro, nvm := false, tenantPrivate := false, dflt := fun _ => 0 }
  , { id := pCourierReturnState, ty := .enum, idx := .dev, lo := 0, hi := 255, access := .ro, nvm := true, tenantPrivate := false, dflt := fun _ => 2 }
  , { id := pCourierDiversity, ty := .bool, idx := .dev, lo := 0, hi := 1, access := .s0, nvm := true, tenantPrivate := false, dflt := fun _ => 1 }
  , { id := pCourierPreamble, ty := .u8, idx := .dev, lo := 16, hi := 255, access := .s0, nvm := true, tenantPrivate := false, dflt := fun _ => 32 }
  , { id := pCourierRetries, ty := .u8, idx := .dev, lo := 0, hi := 7, access := .s0, nvm := true, tenantPrivate := false, dflt := fun _ => 3 }
  , { id := pCourierStartStep, ty := .u8, idx := .dev, lo := 0, hi := 15, access := .s0, nvm := true, tenantPrivate := false, dflt := fun _ => 8 }
  , { id := pCourierDeviceReserve, ty := .u16, idx := .dev, lo := 50, hi := 500, access := .s0, nvm := true, tenantPrivate := false, dflt := fun _ => 200 }
  , { id := pCourierStep, ty := .u8, idx := .peer, lo := 0, hi := 255, access := .ro, nvm := false, tenantPrivate := false, dflt := fun _ => 8 }
  , { id := pCourierRssi, ty := .gain, idx := .peer, lo := -32768, hi := 32767, access := .ro, nvm := false, tenantPrivate := false, dflt := fun _ => -32768 }
  , { id := pCourierAntenna, ty := .u8, idx := .peer, lo := 0, hi := 255, access := .ro, nvm := false, tenantPrivate := false, dflt := fun _ => 0 }
  , { id := pCourierAirtimeUsed, ty := .u32, idx := .slotSub, lo := 0, hi := 4294967295, access := .ro, nvm := false, tenantPrivate := true, dflt := fun _ => 0 }
  , { id := pCourierCalValid, ty := .bytes 8, idx := .dev, lo := 0, hi := 18446744073709551615, access := .ro, nvm := false, tenantPrivate := false, dflt := fun _ => 0 } ]

/-- The parameters of class 0x06. -/
def paramTable06 : List ParamRow :=
  [ { id := pChainPreset, ty := .enum, idx := .chain, lo := 0, hi := 255, access := .ro, nvm := false, tenantPrivate := true, dflt := chainPresetDefault }
  , { id := pChainDecimation, ty := .u16, idx := .chain, lo := 0, hi := 65535, access := .ro, nvm := false, tenantPrivate := true, dflt := fun _ => 0 }
  , { id := pChainOutPeriod, ty := .u32, idx := .chain, lo := 0, hi := 4294967295, access := .ro, nvm := false, tenantPrivate := true, dflt := fun _ => 0 }
  , { id := pChainGroupDelay, ty := .u32, idx := .chain, lo := 0, hi := 4294967295, access := .ro, nvm := false, tenantPrivate := true, dflt := fun _ => 0 }
  , { id := pChainFirTaps, ty := .u16, idx := .chain, lo := 0, hi := 65535, access := .ro, nvm := false, tenantPrivate := true, dflt := fun _ => 0 }
  , { id := pAvgWindow, ty := .u32, idx := .chainXSC, lo := 0, hi := 4294967295, access := .ro, nvm := false, tenantPrivate := true, dflt := fun i => if i < 8 then 122880 else 122880 }
  , { id := pAvgShift, ty := .u8, idx := .chainXSC, lo := 0, hi := 255, access := .ro, nvm := false, tenantPrivate := true, dflt := fun _ => 0 }
  , { id := pAvgPower, ty := .gain, idx := .chainXSC, lo := -32768, hi := 32767, access := .ro, nvm := false, tenantPrivate := true, dflt := fun _ => -32768 }
  , { id := pAvgStatus, ty := .enum, idx := .chain, lo := 0, hi := 255, access := .ro, nvm := false, tenantPrivate := true, dflt := fun _ => 255 }
  , { id := pPower1ms, ty := .gain, idx := .chainX, lo := -32768, hi := 32767, access := .ro, nvm := false, tenantPrivate := true, dflt := fun _ => -32768 }
  , { id := pMean1ms, ty := .s32, idx := .chainPB, lo := -2147483648, hi := 2147483647, access := .ro, nvm := false, tenantPrivate := true, dflt := fun _ => 0 }
  , { id := pChainFsUnits, ty := .u32, idx := .chainPB, lo := 1, hi := 100000, access := .s0, nvm := true, tenantPrivate := true, dflt := fun i => if i = 48 then 20000 else if i = 49 then 10000 else 5000 }
  , { id := pSatFlags, ty := .bits8, idx := .chain, lo := 0, hi := 255, access := .ro, nvm := false, tenantPrivate := true, dflt := fun _ => 0 }
  , { id := pGuardOvfCount, ty := .u32, idx := .chain, lo := 0, hi := 4294967295, access := .ro, nvm := false, tenantPrivate := true, dflt := fun _ => 0 }
  , { id := pThreshState, ty := .bits8, idx := .chain, lo := 0, hi := 255, access := .ro, nvm := false, tenantPrivate := true, dflt := fun _ => 0 }
  , { id := pInputStuckCount, ty := .u32, idx := .chainMPB, lo := 0, hi := 4294967295, access := .ro, nvm := false, tenantPrivate := true, dflt := fun _ => 0 } ]

/-- The parameters of class 0x07. -/
def paramTable07 : List ParamRow :=
  [ { id := pConvoyOutput, ty := .s16, idx := .convoy, lo := -32768, hi := 32767, access := .ro, nvm := false, tenantPrivate := true, dflt := fun i => if i < 8 then -32768 else 0 }
  , { id := pConvoyWinner, ty := .enum, idx := .convoy, lo := 0, hi := 255, access := .ro, nvm := false, tenantPrivate := true, dflt := fun _ => 255 }
  , { id := pConvoyPeriod, ty := .enum, idx := .convoy, lo := 0, hi := 7, access := .s0, nvm := true, tenantPrivate := false, dflt := fun _ => 2 }
  , { id := pHostCeiling, ty := .s16, idx := .convoy, lo := -32768, hi := 32767, access := .own, nvm := false, tenantPrivate := true, dflt := convoyOutMax }
  , { id := pHostRiseRate, ty := .u16, idx := .convoy, lo := 1, hi := 10000, access := .own, nvm := false, tenantPrivate := true, dflt := fun i => if i < 8 then 20 else if i = 8 then 1000 else 100 }
  , { id := pDroverState, ty := .enum, idx := .drover, lo := 0, hi := 255, access := .ro, nvm := false, tenantPrivate := true, dflt := droverStateDefault }
  , { id := pDroverOutput, ty := .s16, idx := .drover, lo := -32768, hi := 32767, access := .ro, nvm := false, tenantPrivate := true, dflt := fun _ => -32768 }
  , { id := pIsoMargin, ty := .gain, idx := .lane, lo := 384, hi := 1920, access := .s0, nvm := true, tenantPrivate := false, dflt := fun _ => 960 }
  , { id := pIsoEstimate, ty := .gain, idx := .lane, lo := -32768, hi := 32767, access := .ro, nvm := false, tenantPrivate := true, dflt := fun _ => -32768 }
  , { id := pIsoState, ty := .enum, idx := .lane, lo := 0, hi := 255, access := .ro, nvm := false, tenantPrivate := true, dflt := fun _ => 0 }
  , { id := pIsoIEff, ty := .gain, idx := .lane, lo := -32768, hi := 32767, access := .ro, nvm := false, tenantPrivate := true, dflt := fun _ => -32768 }
  , { id := pIsoLoopDelay, ty := .u32, idx := .lane, lo := 0, hi := 4294967295, access := .ro, nvm := false, tenantPrivate := true, dflt := fun _ => 4294967295 }
  , { id := pOscRung, ty := .u8, idx := .lane, lo := 0, hi := 255, access := .ro, nvm := false, tenantPrivate := true, dflt := fun _ => 0 }
  , { id := pOscCount, ty := .u32, idx := .lane, lo := 0, hi := 4294967295, access := .ro, nvm := false, tenantPrivate := true, dflt := fun _ => 0 }
  , { id := pPowerLimit, ty := .gain, idx := .lane, lo := -32768, hi := 32767, access := .ro, nvm := false, tenantPrivate := true, dflt := fun _ => -32768 }
  , { id := pCompositeAlloc, ty := .mW, idx := .lane, lo := 0, hi := 4294967295, access := .ro, nvm := false, tenantPrivate := true, dflt := fun _ => 0 }
  , { id := pChgIFullscale, ty := .u16, idx := .dev, lo := 100, hi := 10000, access := .s0, nvm := true, tenantPrivate := false, dflt := fun _ => 3000 }
  , { id := pSatTime, ty := .u32, idx := .drover, lo := 0, hi := 4294967295, access := .ro, nvm := false, tenantPrivate := true, dflt := fun _ => 0 }
  , { id := pStarveTime, ty := .u32, idx := .convoy8, lo := 0, hi := 4294967295, access := .ro, nvm := false, tenantPrivate := true, dflt := fun _ => 0 }
  , { id := pSupervisorLimit, ty := .u32, idx := .drover, lo := 0, hi := 4294967295, access := .ro, nvm := true, tenantPrivate := true, dflt := fun _ => 5000 }
  , { id := pStarveLimit, ty := .u32, idx := .convoy8, lo := 0, hi := 4294967295, access := .ro, nvm := true, tenantPrivate := true, dflt := fun _ => 5000 } ]

/-- The parameters of class 0x08. -/
def paramTable08 : List ParamRow :=
  [ { id := pClockState, ty := .enum, idx := .dev, lo := 0, hi := 255, access := .ro, nvm := false, tenantPrivate := false, dflt := fun _ => 0 }
  , { id := pSelectedRef, ty := .u8, idx := .dev, lo := 0, hi := 255, access := .ro, nvm := false, tenantPrivate := false, dflt := fun _ => 255 }
  , { id := pOutputQl, ty := .u8, idx := .dev, lo := 0, hi := 255, access := .ro, nvm := false, tenantPrivate := false, dflt := fun _ => 11 }
  , { id := pRefEnable, ty := .bool, idx := .ref, lo := 0, hi := 1, access := .s0, nvm := true, tenantPrivate := false, dflt := fun _ => 1 }
  , { id := pRefPriority, ty := .u8, idx := .ref, lo := 0, hi := 7, access := .s0, nvm := true, tenantPrivate := false, dflt := fun i => i }
  , { id := pRefQl, ty := .u8, idx := .ref, lo := 0, hi := 255, access := .s0, nvm := true, tenantPrivate := false, dflt := fun i => if i = 0 then 2 else if i = 2 then 8 else if i = 3 then 4 else 15, extra := fun v => v = 2 || v = 4 || v = 8 || v = 11 || v = 15 }
  , { id := pRefQualTime, ty := .dur, idx := .ref, lo := 100000, hi := 60000000, access := .s0, nvm := true, tenantPrivate := false, dflt := fun i => if i = 0 then 3000000 else if i = 1 then 1000000 else if i = 2 then 5000000 else 2000000 }
  , { id := pRevertive, ty := .bool, idx := .dev, lo := 0, hi := 1, access := .s0, nvm := true, tenantPrivate := false, dflt := fun _ => 1 }
  , { id := pHoldOff, ty := .dur, idx := .dev, lo := 0, hi := 10000000, access := .s0, nvm := true, tenantPrivate := false, dflt := fun _ => 300000, extra := fun v => v % 100000 = 0 }
  , { id := pWaitToRestore, ty := .u32, idx := .dev, lo := 0, hi := 720, access := .s0, nvm := true, tenantPrivate := false, dflt := fun _ => 300 }
  , { id := pHoldoverWindow, ty := .u32, idx := .dev, lo := 1, hi := 86400, access := .s0, nvm := true, tenantPrivate := false, dflt := fun _ => 14400 }
  , { id := pPullLimit, ty := .ppt, idx := .dev, lo := 1000, hi := 10000000, access := .s0, nvm := true, tenantPrivate := false, dflt := fun _ => 50000 }
  , { id := pSteerRamp, ty := .ppt, idx := .dev, lo := 100, hi := 1000000, access := .s0, nvm := true, tenantPrivate := false, dflt := fun _ => 10000 }
  , { id := pSteerWord, ty := .ppt, idx := .dev, lo := -2147483648, hi := 2147483647, access := .ro, nvm := false, tenantPrivate := false, dflt := fun _ => 0 }
  , { id := pSteerMode, ty := .enum, idx := .dev, lo := 0, hi := 255, access := .ro, nvm := false, tenantPrivate := false, dflt := fun _ => 0 }
  , { id := pFactorySteer, ty := .ppt, idx := .dev, lo := -250000000, hi := 250000000, access := .ro, nvm := false, tenantPrivate := false, dflt := fun _ => 0 }
  , { id := pXoTempSource, ty := .enum, idx := .dev, lo := 0, hi := 1, access := .s0, nvm := true, tenantPrivate := false, dflt := fun _ => 0 }
  , { id := pXoBinsLearned, ty := .u8, idx := .dev, lo := 0, hi := 255, access := .ro, nvm := true, tenantPrivate := false, dflt := fun _ => 0 }
  , { id := pExtMode, ty := .enum, idx := .dev, lo := 0, hi := 2, access := .s0, nvm := true, tenantPrivate := false, dflt := fun _ => 0 }
  , { id := pCellSource, ty := .u8, idx := .dev, lo := 0, hi := 255, access := .s0, nvm := true, tenantPrivate := false, dflt := fun _ => 255, extra := fun v => v ≤ 7 || v = 255 }
  , { id := pCellFreq, ty := .freq, idx := .dev, lo := 0, hi := 18446744073709551615, access := .s0, nvm := true, tenantPrivate := false, dflt := fun _ => 0, extra := fun v => v = 0 || (380000000 ≤ v && v ≤ 7125000000) }
  , { id := pGnssBaud, ty := .u32, idx := .dev, lo := 4800, hi := 921600, access := .s0, nvm := true, tenantPrivate := false, dflt := fun _ => 9600 }
  , { id := pNmeaPpsAlign, ty := .enum, idx := .dev, lo := 0, hi := 1, access := .s0, nvm := true, tenantPrivate := false, dflt := fun _ => 0 }
  , { id := pClkRefOutEn, ty := .bool, idx := .dev, lo := 0, hi := 1, access := .s0, nvm := true, tenantPrivate := false, dflt := fun _ => 0 }
  , { id := pWallTime, ty := .wall, idx := .dev, lo := 0, hi := 4294967295, access := .ro, nvm := false, tenantPrivate := false, dflt := fun _ => 0 }
  , { id := pWallSource, ty := .enum, idx := .dev, lo := 0, hi := 255, access := .ro, nvm := false, tenantPrivate := false, dflt := fun _ => 0 }
  , { id := pWallHighWater, ty := .wall, idx := .dev, lo := 0, hi := 4294967295, access := .ro, nvm := true, tenantPrivate := false, dflt := fun _ => 0 }
  , { id := pWallUncertainty, ty := .u32, idx := .dev, lo := 0, hi := 4294967295, access := .ro, nvm := false, tenantPrivate := false, dflt := fun _ => 0 }
  , { id := pWallUncLimit, ty := .u32, idx := .dev, lo := 10, hi := 60000, access := .s0, nvm := true, tenantPrivate := false, dflt := fun _ => 1000 }
  , { id := pWallFwdLimit, ty := .u32, idx := .dev, lo := 60, hi := 2592000, access := .s0, nvm := true, tenantPrivate := false, dflt := fun _ => 172800 }
  , { id := pLastPhaseStep, ty := .s32, idx := .dev, lo := -2147483648, hi := 2147483647, access := .ro, nvm := false, tenantPrivate := false, dflt := fun _ => -2147483648 }
  , { id := pSwitchCount, ty := .u32, idx := .dev, lo := 0, hi := 4294967295, access := .ro, nvm := false, tenantPrivate := false, dflt := fun _ => 0 }
  , { id := pLeapPending, ty := .s8, idx := .dev, lo := -128, hi := 127, access := .ro, nvm := false, tenantPrivate := false, dflt := fun _ => 0 } ]

/-- The parameters of class 0x09. -/
def paramTable09 : List ParamRow :=
  [ { id := pPortState, ty := .enum, idx := .port, lo := 0, hi := 255, access := .ro, nvm := false, tenantPrivate := false, dflt := fun _ => 0 }
  , { id := pLinkRateCfg, ty := .enum, idx := .port, lo := 0, hi := 2, access := .s0, nvm := true, tenantPrivate := false, dflt := fun _ => 0 }
  , { id := pLinkRate, ty := .enum, idx := .port, lo := 0, hi := 255, access := .ro, nvm := false, tenantPrivate := false, dflt := fun _ => 0 }
  , { id := pLinkFec, ty := .bool, idx := .port, lo := 0, hi := 1, access := .s0, nvm := true, tenantPrivate := false, dflt := fun _ => 0 }
  , { id := pIqFormat, ty := .enum, idx := .dev, lo := 0, hi := 1, access := .s0, nvm := true, tenantPrivate := false, dflt := fun _ => 0 }
  , { id := pChainId, ty := .u32, idx := .dev, lo := 0, hi := 4294967295, access := .ro, nvm := true, tenantPrivate := false, dflt := fun _ => 0 }
  , { id := pChainRole, ty := .enum, idx := .dev, lo := 0, hi := 255, access := .ro, nvm := true, tenantPrivate := false, dflt := fun _ => 0 }
  , { id := pChainMembers, ty := .bits8, idx := .dev, lo := 0, hi := 255, access := .ro, nvm := true, tenantPrivate := false, dflt := fun _ => 0 }
  , { id := pHopRtt, ty := .u32, idx := .port, lo := 0, hi := 4294967295, access := .ro, nvm := false, tenantPrivate := false, dflt := fun _ => 4294967295 }
  , { id := pHopDelayDown, ty := .u32, idx := .port, lo := 0, hi := 4294967295, access := .ro, nvm := false, tenantPrivate := false, dflt := fun _ => 4294967295 }
  , { id := pHopDelayUp, ty := .u32, idx := .port, lo := 0, hi := 4294967295, access := .ro, nvm := false, tenantPrivate := false, dflt := fun _ => 4294967295 }
  , { id := pFibreAsymmetry, ty := .s32, idx := .port, lo := -1000000, hi := 1000000, access := .s0, nvm := true, tenantPrivate := false, dflt := fun _ => 0 }
  , { id := pFibrePsPerM, ty := .u16, idx := .port, lo := 3000, hi := 6000, access := .s0, nvm := true, tenantPrivate := false, dflt := fun _ => 4900 }
  , { id := pTkcOffset, ty := .s32, idx := .dev, lo := -2147483648, hi := 2147483647, access := .ro, nvm := false, tenantPrivate := false, dflt := fun _ => 0 }
  , { id := pBalesMissed, ty := .u32, idx := .port, lo := 0, hi := 4294967295, access := .ro, nvm := false, tenantPrivate := false, dflt := fun _ => 0 }
  , { id := pWaybillErrors, ty := .u32, idx := .port, lo := 0, hi := 4294967295, access := .ro, nvm := false, tenantPrivate := false, dflt := fun _ => 0 }
  , { id := pLinkDownCount, ty := .u32, idx := .port, lo := 0, hi := 4294967295, access := .ro, nvm := true, tenantPrivate := false, dflt := fun _ => 0 }
  , { id := pSumSatCount, ty := .u32, idx := .lane, lo := 0, hi := 4294967295, access := .ro, nvm := false, tenantPrivate := true, dflt := fun _ => 0 }
  , { id := pSumBackoff, ty := .gain, idx := .lane, lo := -32768, hi := 32767, access := .ro, nvm := false, tenantPrivate := true, dflt := fun _ => 0 }
  , { id := pLateCount, ty := .u32, idx := .lane, lo := 0, hi := 4294967295, access := .ro, nvm := false, tenantPrivate := true, dflt := fun _ => 0 }
  , { id := pRejoinAuto, ty := .bool, idx := .dev, lo := 0, hi := 1, access := .s0, nvm := true, tenantPrivate := false, dflt := fun _ => 1 } ]

/-- The parameters of class 0x0A. -/
def paramTable0A : List ParamRow :=
  [ { id := pBandState, ty := .enum, idx := .band, lo := 0, hi := 255, access := .ro, nvm := false, tenantPrivate := true, dflt := fun _ => 0 }
  , { id := pBandTriggers, ty := .bits, idx := .band, lo := 0, hi := 4294967295, access := .ro, nvm := false, tenantPrivate := true, dflt := fun _ => 0 }
  , { id := pBandRung, ty := .u8, idx := .band, lo := 0, hi := 255, access := .ro, nvm := false, tenantPrivate := true, dflt := fun _ => 0 }
  , { id := pBandUnits, ty := .bits8, idx := .band, lo := 0, hi := 255, access := .ro, nvm := false, tenantPrivate := true, dflt := fun _ => 0 }
  , { id := pBandPermit, ty := .u8, idx := .band, lo := 0, hi := 255, access := .ro, nvm := false, tenantPrivate := true, dflt := fun _ => 255 }
  , { id := pUlNoiseEst, ty := .gain, idx := .lane, lo := -32768, hi := 32767, access := .ro, nvm := false, tenantPrivate := false, dflt := fun _ => -32768 }
  , { id := pUlNoiseMargin, ty := .gain, idx := .dev, lo := 0, hi := 1280, access := .s0, nvm := true, tenantPrivate := false, dflt := fun _ => 192 }
  , { id := pUlWeight, ty := .u8, idx := .unit17, lo := 1, hi := 100, access := .s0, nvm := true, tenantPrivate := false, dflt := fun _ => 1 }
  , { id := pDlInputLimit, ty := .gain, idx := .lane, lo := -3840, hi := 0, access := .s0, nvm := true, tenantPrivate := false, dflt := fun _ => -1920 }
  , { id := pTddVerifyInterval, ty := .u32, idx := .dev, lo := 10, hi := 600, access := .s0, nvm := true, tenantPrivate := false, dflt := fun _ => 60 }
  , { id := pEirpLimit, ty := .gain, idx := .lane, lo := -32768, hi := 32767, access := .ro, nvm := false, tenantPrivate := false, dflt := fun _ => -32768 }
  , { id := pActiveFollowers, ty := .u8, idx := .lane, lo := 0, hi := 255, access := .ro, nvm := false, tenantPrivate := false, dflt := fun _ => 0 } ]

/-- The parameters of class 0x0B. -/
def paramTable0B : List ParamRow :=
  [ { id := pSurveyOpen, ty := .u8, idx := .slot, lo := 0, hi := 255, access := .ro, nvm := false, tenantPrivate := true, dflt := fun _ => 0 }
  , { id := pResultStoreUsed, ty := .u32, idx := .slot, lo := 0, hi := 4294967295, access := .ro, nvm := false, tenantPrivate := true, dflt := fun _ => 0 }
  , { id := pScanPathGain, ty := .gain, idx := .dev, lo := -1920, hi := 1280, access := .s0, nvm := true, tenantPrivate := false, dflt := fun _ => 0 }
  , { id := pProbeRxNf, ty := .gain, idx := .lane, lo := 0, hi := 1920, access := .s0, nvm := true, tenantPrivate := false, dflt := fun _ => 512 }
  , { id := pProbeMaxLevel, ty := .gain, idx := .dev, lo := -5120, hi := -1920, access := .s0, nvm := true, tenantPrivate := false, dflt := fun _ => -1920 }
  , { id := pCellRefMisses, ty := .u32, idx := .dev, lo := 0, hi := 4294967295, access := .ro, nvm := false, tenantPrivate := false, dflt := fun _ => 0 } ]

/-- The parameters of class 0x0C. -/
def paramTable0C : List ParamRow :=
  [ { id := pMeterState, ty := .enum, idx := .dev, lo := 0, hi := 255, access := .m, nvm := false, tenantPrivate := false, dflt := fun _ => 0 }
  , { id := pMainsVRms, ty := .u32, idx := .dev, lo := 0, hi := 4294967295, access := .m, nvm := false, tenantPrivate := false, dflt := fun _ => 0 }
  , { id := pMainsIlRms, ty := .u32, idx := .dev, lo := 0, hi := 4294967295, access := .m, nvm := false, tenantPrivate := false, dflt := fun _ => 0 }
  , { id := pMainsInRms, ty := .u32, idx := .dev, lo := 0, hi := 4294967295, access := .m, nvm := false, tenantPrivate := false, dflt := fun _ => 0 }
  , { id := pMainsVnpeRms, ty := .u32, idx := .dev, lo := 0, hi := 4294967295, access := .m, nvm := false, tenantPrivate := false, dflt := fun _ => 0 }
  , { id := pMainsFreq, ty := .u32, idx := .dev, lo := 0, hi := 4294967295, access := .m, nvm := false, tenantPrivate := false, dflt := fun _ => 0 }
  , { id := pMainsPActive, ty := .s32, idx := .dev, lo := -2147483648, hi := 2147483647, access := .m, nvm := false, tenantPrivate := false, dflt := fun _ => 0 }
  , { id := pMainsPf, ty := .s16, idx := .dev, lo := -32768, hi := 32767, access := .m, nvm := false, tenantPrivate := false, dflt := fun _ => 0 }
  , { id := pBillingMode, ty := .enum, idx := .dev, lo := 0, hi := 2, access := .s0, nvm := true, tenantPrivate := false, dflt := fun _ => 0 }
  , { id := pBillingBoundary, ty := .u16, idx := .dev, lo := 0, hi := 1439, access := .s0, nvm := true, tenantPrivate := false, dflt := fun _ => 0 }
  , { id := pPeriodNumber, ty := .u32, idx := .dev, lo := 0, hi := 4294967295, access := .m, nvm := true, tenantPrivate := false, dflt := fun _ => 1 }
  , { id := pTariffActive, ty := .u8, idx := .dev, lo := 0, hi := 255, access := .m, nvm := false, tenantPrivate := false, dflt := fun _ => 1 }
  , { id := pTariffTableId, ty := .u32, idx := .dev, lo := 0, hi := 4294967295, access := .m, nvm := true, tenantPrivate := false, dflt := fun _ => 0 }
  , { id := pTariffPendingId, ty := .u32, idx := .dev, lo := 0, hi := 4294967295, access := .m, nvm := true, tenantPrivate := false, dflt := fun _ => 0 }
  , { id := pMetroEventCount, ty := .u32, idx := .dev, lo := 0, hi := 4294967295, access := .m, nvm := true, tenantPrivate := false, dflt := fun _ => 0 }
  , { id := pCalId, ty := .u32, idx := .dev, lo := 0, hi := 4294967295, access := .m, nvm := true, tenantPrivate := false, dflt := fun _ => 0 }
  , { id := pTamperFlags, ty := .bits8, idx := .dev, lo := 0, hi := 255, access := .m, nvm := false, tenantPrivate := false, dflt := fun _ => 0 }
  , { id := pMeterTime, ty := .wall, idx := .dev, lo := 0, hi := 4294967295, access := .m, nvm := true, tenantPrivate := false, dflt := fun _ => 0 }
  , { id := pMeterGapTotal, ty := .u32, idx := .dev, lo := 0, hi := 4294967295, access := .m, nvm := true, tenantPrivate := false, dflt := fun _ => 0 }
  , { id := pOverrangeTime, ty := .u32, idx := .dev, lo := 0, hi := 4294967295, access := .m, nvm := true, tenantPrivate := false, dflt := fun _ => 0 }
  , { id := pPulseBacklog, ty := .u32, idx := .dev, lo := 0, hi := 4294967295, access := .m, nvm := false, tenantPrivate := false, dflt := fun _ => 0 }
  , { id := pSealValue, ty := .bytes 4, idx := .dev, lo := 0, hi := 4294967295, access := .m, nvm := false, tenantPrivate := false, dflt := fun _ => 0 } ]

/-- The parameters of class 0x0D. -/
def paramTable0D : List ParamRow :=
  [ { id := pLogNextSeq, ty := .u64, idx := .partition, lo := 0, hi := 18446744073709551615, access := .ro, nvm := true, tenantPrivate := true, dflt := fun _ => 1 }
  , { id := pLogOldestSeq, ty := .u64, idx := .partition, lo := 0, hi := 18446744073709551615, access := .ro, nvm := true, tenantPrivate := true, dflt := fun _ => 0 }
  , { id := pLogStored, ty := .u32, idx := .partition, lo := 0, hi := 4294967295, access := .ro, nvm := true, tenantPrivate := true, dflt := fun _ => 0 }
  , { id := pLogFrozen, ty := .bool, idx := .partition, lo := 0, hi := 1, access := .ro, nvm := false, tenantPrivate := true, dflt := fun _ => 0 }
  , { id := pLogLost, ty := .u32, idx := .partition, lo := 0, hi := 4294967295, access := .ro, nvm := true, tenantPrivate := true, dflt := fun _ => 0 }
  , { id := pLogCorrupt, ty := .u32, idx := .partition, lo := 0, hi := 4294967295, access := .ro, nvm := false, tenantPrivate := true, dflt := fun _ => 0 }
  , { id := pMetroFree, ty := .u16, idx := .part8, lo := 0, hi := 65535, access := .ro, nvm := true, tenantPrivate := false, dflt := fun _ => 4096 }
  , { id := pMetroOverflow, ty := .u32, idx := .part8, lo := 0, hi := 4294967295, access := .ro, nvm := true, tenantPrivate := false, dflt := fun _ => 0 } ]

/-- The parameters of class 0x0E. -/
def paramTable0E : List ParamRow :=
  [ { id := pNvmErasePermitted, ty := .bool, idx := .dev, lo := 0, hi := 1, access := .ro, nvm := false, tenantPrivate := false, dflt := fun _ => 0 }
  , { id := pNvmSpareSectors, ty := .u16, idx := .dev, lo := 0, hi := 65535, access := .ro, nvm := true, tenantPrivate := false, dflt := fun _ => 4494 }
  , { id := pNvmEraseMax, ty := .u32, idx := .dev, lo := 0, hi := 4294967295, access := .ro, nvm := true, tenantPrivate := false, dflt := fun _ => 0 }
  , { id := pNvmBarredTime, ty := .u32, idx := .dev, lo := 0, hi := 4294967295, access := .ro, nvm := false, tenantPrivate := false, dflt := fun _ => 0 }
  , { id := pFwStageState, ty := .enum, idx := .quire, lo := 0, hi := 255, access := .ro, nvm := false, tenantPrivate := false, dflt := fun _ => 0 } ]

/-- The parameters of class 0x0F. -/
def paramTable0F : List ParamRow :=
  [ { id := pShockSource, ty := .enum, idx := .dev, lo := 0, hi := 2, access := .s0, nvm := true, tenantPrivate := false, dflt := fun _ => 0 }
  , { id := pShockThreshold, ty := .u16, idx := .dev, lo := 20, hi := 2000, access := .s0, nvm := true, tenantPrivate := false, dflt := fun _ => 250 }
  , { id := pAccelI2cAddr, ty := .u8, idx := .dev, lo := 8, hi := 119, access := .s0, nvm := true, tenantPrivate := false, dflt := fun _ => 24 }
  , { id := pAccelDataReg, ty := .u8, idx := .dev, lo := 0, hi := 255, access := .s0, nvm := true, tenantPrivate := false, dflt := fun _ => 0 }
  , { id := pAccelLsbUg, ty := .u16, idx := .dev, lo := 1, hi := 65535, access := .s0, nvm := true, tenantPrivate := false, dflt := fun _ => 49000 }
  , { id := pAccelFlags, ty := .bits8, idx := .dev, lo := 0, hi := 1, access := .s0, nvm := true, tenantPrivate := false, dflt := fun _ => 0 }
  , { id := pShockCount, ty := .u32, idx := .dev, lo := 0, hi := 4294967295, access := .ro, nvm := true, tenantPrivate := false, dflt := fun _ => 0 }
  , { id := pLedgerInvalidSteps, ty := .u32, idx := .dev, lo := 0, hi := 4294967295, access := .ro, nvm := false, tenantPrivate := false, dflt := fun _ => 0 }
  , { id := pFaultResetCount, ty := .u32, idx := .dev, lo := 0, hi := 4294967295, access := .ro, nvm := true, tenantPrivate := false, dflt := fun _ => 0 } ]

/-- Every parameter of the firmware, ascending (R146). -/
def paramTable : List ParamRow :=
  paramTable00 ++ paramTable01 ++ paramTable02 ++ paramTable03 ++ paramTable04 ++ paramTable05 ++ paramTable06 ++ paramTable07 ++ paramTable08 ++ paramTable09 ++ paramTable0A ++ paramTable0B ++ paramTable0C ++ paramTable0D ++ paramTable0E ++ paramTable0F

/-- The row of a parameter ID; none for an unassigned ID (R143). -/
def paramRow (id : Nat) : Option ParamRow := paramTable.find? (fun r => r.id == id)

/-- The value a parameter has while the store lists none for it: its default. -/
def paramDefault (id idx : Nat) : Int :=
  match paramRow id with
  | some r => r.dflt idx
  | none => 0

end Sys2Proof.Machine
end

