-- ==== Sys2Proof/Machine/State.lean ====
section
/-! DEFINITION. The state of the ZS8 as plain data: one structure per subsystem, every field with the value it has right
after power-on reset. Parameters (the tables of `Machine/Params.lean`) stand in the store `Dev.par`; everything else the
manual gives the machine is a field here. -/

namespace Sys2Proof.Machine

/-- Ring-window bytes and other addressed bytes: strictly rising offsets, no entry equal to what an unlisted offset
reads as (`Memory.unlisted`). -/
abbrev Memory := List Host.Cell

/-- The parameter store: key `id * 65536 + index`, strictly rising, no entry equal to the parameter's default. -/
abbrev ParStore := List (Nat × Int)

/-- The status codes of Table CM-10. -/
inductive Status where
  | ok | accepted | notYet | busy | badArg | badLen | unknownOp | unsupported | denied | noSession | noPermit
  | permitExpired | exhausted | wouldExceed | state | openRequired | frozen | fault | thermal | internal
  deriving DecidableEq, Repr, Inhabited

/-- What a command answers: a status, the response body, and the data it returns through the BLK up half. -/
structure Reply where
  status : Status := .ok
  body : List Byte := []
  blk : List Byte := []
  deriving DecidableEq, Repr, Inhabited

/-- The kinds of entry the RSP ring carries (Table CM-1). -/
inductive EntryKind where
  | response | progress | completion
  deriving DecidableEq, Repr, Inhabited

/-- What happens at the moment a response is written (R137, R139, R141, R215, R576). -/
inductive AfterWrite where
  | nothing
  | challenge (nh nd : List Byte)
  | openSession (kind : Nat) (key : List Byte)
  | bye
  | orderly (target : Nat) (cause : Nat)
  | restartQuireC
  | param (id idx : Nat) (value : Int) (nvm : Bool)
  | mask (cls bits : Nat)
  deriving DecidableEq, Repr, Inhabited

/-- An entry produced and not yet written to its RSP ring (R108, R114, R118). -/
structure OutEntry where
  slot : Nat := 0
  kind : EntryKind := .response
  code : Nat := 0
  ref : Nat := 0
  tagged : Bool := false
  reply : Reply := {}
  after : AfterWrite := .nothing
  deriving DecidableEq, Repr, Inhabited

/-- A Colophon record (Table CO-2); the check is computed from the other fields. `bad` marks a stored record whose
check no longer agrees (R546). -/
structure Record where
  seq : Nat := 0
  code : Nat := 0
  source : Nat := 0
  flags : Nat := 0
  payload : List Byte := []
  bad : Bool := false
  deriving DecidableEq, Repr, Inhabited

/-- An event waiting for its EVT rings (R112, R113, R151). `dest` lists the slots whose sessions, open when it occurred, it is
delivered to; `cause` is the slot and CMD index of the command that caused it. -/
structure OutEvent where
  ts : Nat := 0
  entry : Record := {}
  dest : List Nat := []
  cause : Option (Nat × Nat) := none
  deriving DecidableEq, Repr, Inhabited

/-- An event that occurred before PHASE=READY and is recorded at READY with the LATCHED flag (R195, R534, R541). -/
structure LatchedEvent where
  ts : Nat := 0
  part : Nat := 0
  onlyS0 : Bool := false
  agent : Nat := 0
  code : Nat := 0
  payload : List Byte := []
  deriving DecidableEq, Repr, Inhabited

/-- A run of consecutive losses of one cause that waits for its RECORDS_LOST (R540). -/
structure LossRun where
  cause : Nat := 0
  first : Nat := 0
  last : Nat := 0
  count : Nat := 0
  deriving DecidableEq, Repr, Inhabited

/-- A freeze in force (R544). -/
structure Freeze where
  ends : Nat := 0
  lost : Nat := 0
  first : Nat := 0
  last : Nat := 0
  deriving DecidableEq, Repr, Inhabited

/-- One Colophon partition (R531 to R545). `next` and the loss runs stand in the always-on domain, `stored` and
`reserved` in NVM, `staged` in SRAM. -/
structure Partition where
  next : Nat := 1
  reserved : Nat := 1024
  stored : List Record := []
  staged : List Record := []
  curFill : Nat := 0
  erasedAhead : Bool := true
  sectorsFull : Nat := 0
  allotUsed : Nat := 0
  losses : List LossRun := []
  freeze : Option Freeze := none
  thawedAt : Option Nat := none
  overflowRun : Option LossRun := none
  released : Nat := 0
  readout : Bool := false
  thawLost : Option LossRun := none
  storedLast : Nat := 0
  deriving DecidableEq, Repr, Inhabited

/-- A permit band entry (Table TI-3). -/
structure PermitBand where
  fStart : Nat := 0
  fStop : Nat := 0
  direction : Nat := 0
  duplex : Nat := 0
  maxEirp : Int := 0
  ulNoise : Int := 0
  minGain : Int := 0
  period : Nat := 0
  slots : Nat := 0
  pattern : Nat := 0
  deriving DecidableEq, Repr, Inhabited

/-- The states of a permit (Table TI-9): 0 PENDING, 1 ACTIVE, 2 EXPIRED, 3 REVOKED. -/
inductive PermitState where
  | pending | active | expired | revoked
  deriving DecidableEq, Repr, Inhabited

/-- A stored permit (Table TI-2). -/
structure Permit where
  state : PermitState := .pending
  topologies : Nat := 0
  keyId : List Byte := []
  validFrom : Nat := 0
  validUntil : Nat := 0
  delayCeiling : Nat := 0
  permitId : Nat := 0
  bands : List PermitBand := []
  deriving DecidableEq, Repr, Inhabited

/-- A vault object: ciphertext, tag and the write counter of its nonce (R76). -/
structure VaultObject where
  counter : Nat := 0
  cipher : List Byte := []
  tag : List Byte := []
  deriving DecidableEq, Repr, Inhabited

/-- What the journal keeps of a slot (R53 to R58, R76, R87). -/
structure SlotNv where
  credential : List Byte := []
  keys : List (List Byte) := []
  permits : List (Option Permit) := List.replicate 8 none
  vaultKey : Option (List Byte) := none
  vault : List (Option VaultObject) := List.replicate 32 none
  vaultCounter : Nat := 0
  deriving DecidableEq, Repr, Inhabited

/-- A session (R136 to R141, R152). -/
structure Session where
  full : Bool := true
  key : List Byte := []
  mask : List Nat := List.replicate 16 (2 ^ 128 - 1)
  cmdN : Nat := 0
  rspN : Nat := 0
  evtN : Nat := 0
  downN : Nat := 0
  upN : Nat := 0
  readMax : Nat := 0
  deriving DecidableEq, Repr, Inhabited

/-- A pending HELLO challenge (R137): the two nonces and the time its response was written. -/
structure Challenge where
  nh : List Byte := []
  nd : List Byte := []
  since : Nat := 0
  deriving DecidableEq, Repr, Inhabited

/-- The run-time state of a slot's host side. `due` marks the first round of R196 and `dueTick` the tick in which the next CMD
entry became due (R111); `awaiting` is the CMD index whose first response is still to be written (R109). -/
structure SlotRt where
  session : Option Session := none
  challenge : Option Challenge := none
  lockEnd : Option Nat := none
  dropRun : Nat := 0
  stallSince : Option Nat := none
  due : Bool := false
  dueTick : Option Nat := none
  awaiting : Option Nat := none
  deriving DecidableEq, Repr, Inhabited

/-- A long command between ACCEPTED and COMPLETION (R147 to R149). -/
structure LongCmd where
  slot : Nat := 0
  ref : Nat := 0
  opcode : Nat := 0
  since : Nat := 0
  bound : Nat := 0
  lastProgress : Nat := 0
  body : List Byte := []
  blk : List Byte := []
  deriving DecidableEq, Repr, Inhabited

/-- PHASE of STATUS (Table HR-5). -/
inductive Phase where
  | boot | quires | ready | fault
  deriving DecidableEq, Repr, Inhabited

/-- The host register window and its rings (Table HR-4, R99, R101). -/
structure HostPort where
  readable : Bool := false
  usb : Bool := false
  usbConfigured : Bool := false
  usbFullSpeed : Bool := false
  usbWakeEnabled : Bool := false
  usbSuspended : Bool := false
  usbIn : List (Nat × Nat) := []
  usbWake : Bool := false
  ringIrq : Nat := 0
  ringIrqMask : Nat := 0
  devIrq : Nat := 0
  devIrqMask : Nat := 0
  hostErrCount : Nat := 0
  hostErrCode : Nat := 0
  hostCtrl : Nat := 0
  ringCfg : List Nat := List.replicate 32 0
  doorbell : List Nat := List.replicate 32 0
  devIndex : List Nat := List.replicate 32 0
  earlyErrors : Nat := 0
  outbox : List OutEntry := []
  longs : List LongCmd := []
  events : List OutEvent := []
  deriving DecidableEq, Repr, Inhabited

/-- The four resources shared in time (R69). -/
inductive Resource where
  | scan | courier | nvm | probe
  deriving DecidableEq, Repr, Inhabited

/-- A request for a shared resource (R69, R70): `need` in the resource's unit of share. -/
structure SchedReq where
  res : Resource := .scan
  slot : Nat := 0
  ref : Nat := 0
  need : Nat := 0
  tick : Nat := 0
  within : Bool := false
  granted : Bool := false
  grantTick : Nat := 0
  deriving DecidableEq, Repr, Inhabited

/-- The scheduler (R69, R70): requests that became pending since the last tick, the queues, and the part of each
reservation used in this frame (key resource code * 8 + slot). -/
structure Sched where
  fresh : List SchedReq := []
  queue : List SchedReq := []
  used : List Nat := List.replicate 32 0
  beyondUsed : List Nat := List.replicate 4 0
  reserve : List Nat := List.replicate 32 0
  deriving DecidableEq, Repr, Inhabited

/-- What a journal entry does once both copies hold the new version (R145, R555). -/
inductive JournalAct where
  | none
  | setParam (slot ref : Nat) (tagged : Bool) (id idx : Nat) (value : Int)
  | respond (slot ref : Nat) (tagged : Bool) (opcode : Nat) (reply : Reply)
  | vault (slot ref object : Nat)
  | table (slot ref : Nat) (tagged : Bool) (lane : Nat) (bytes : List Byte)
  | pace (slot ref : Nat) (tagged : Bool) (ceiling floor : Nat)
  deriving DecidableEq, Repr, Inhabited

/-- A journal entry being written (R554, R555): pages still to program of each copy. -/
structure JournalEntry where
  typ : Nat := 0
  inst : Nat := 0
  gen : Nat := 0
  pages : Nat := 1
  left0 : Nat := 1
  left1 : Nat := 1
  slot : Nat := 0
  ref : Nat := 0
  hostWrite : Bool := false
  granted : Bool := true
  act : JournalAct := .none
  deriving DecidableEq, Repr, Inhabited

/-- What an erase works on (R559). -/
inductive EraseKind where
  | journal (half : Nat)
  | colophon (part : Nat)
  | stage (quire : Nat)
  deriving DecidableEq, Repr, Inhabited

/-- The NVM (R553 to R563). `wear` counts the sectors of the wear pool by their erase count, rising. -/
structure Nvm where
  par : ParStore := []
  queue : List JournalEntry := []
  gens : List (Nat × Nat) := []
  erase : Option EraseKind := none
  eraseWanted : List EraseKind := []
  erasePending : Nat := 0
  freePages : List Nat := [32768, 32768]
  wear : List (Nat × Nat) := [(0, 9072)]
  pagesProgrammed : Nat := 0
  erases : Nat := 0
  barred : Nat := 0
  barredSince : Option Nat := some 0
  deriving DecidableEq, Repr, Inhabited

/-- The factory data (Table FD-7, R53): values of the part, not of its state; reset values are log entry 3's. -/
structure Factory where
  variantH : Bool := false
  stepping : Nat := 1
  serial : List Byte := List.replicate 16 0
  steer : Int := 0
  calId : Nat := 0
  metrologyKey : List Byte := List.replicate 64 0
  wileskoKey : List Byte := List.replicate 64 0
  manufactured : Nat := 0
  versionB : Nat := 1
  versionC : Nat := 1
  versionM : Nat := 1
  usbVid : Nat := 0
  usbPid : Nat := 0
  deriving DecidableEq, Repr, Inhabited

/-- The pace loop (R166 to R174) and the recoveries counted by R181. -/
structure Pace where
  windowMin : List Nat := [1000, 1000, 1000, 1000, 1000]
  raised : Bool := false
  lastRaise : Option Nat := none
  recent : Nat := 1000
  overrideAt : Option Nat := none
  peak : Nat := 0
  calm : Nat := 0
  headroomAt : Option Nat := none
  recoveries : List (Nat × Nat × Nat) := []
  deriving DecidableEq, Repr, Inhabited

/-- The power states of Table PS-1. `hardHold` is the hold of R211, which holds as WATCH does. -/
inductive PowerState where
  | off | watch | sleep | active | hardHold
  deriving DecidableEq, Repr, Inhabited

/-- A shutdown sequence in progress (R202, R206, R208): what it ends in. -/
inductive SequenceKind where
  | brownOut
  | orderly (target : Nat) (cause : Nat)
  | thermal
  deriving DecidableEq, Repr, Inhabited

/-- A running shutdown sequence: its start, whether its flush has completed, for POWER_STATE_SET the request to complete, for the
thermal one the sensor and temperature that reached S, and for a brown-out the lowest VSYS since (R203, R206, R208, R214, R218). -/
structure Sequence where
  kind : SequenceKind := .thermal
  since : Nat := 0
  flushed : Bool := false
  flushedAt : Nat := 0
  nvm : Nat := 0
  request : Option (Nat × Nat) := none
  sensor : Nat := 0
  temp : Int := 0
  low : Nat := 65535
  deriving DecidableEq, Repr, Inhabited

/-- The power and start-up state of chapter 06. -/
structure Power where
  state : PowerState := .off
  phase : Phase := .boot
  faultCause : Nat := 0
  faultSince : Nat := 0
  faultResets : List Nat := []
  releaseAt : Nat := 0
  readyAt : Option Nat := none
  sleepReturnAt : Option Nat := none
  startComplete : Bool := false
  lanesCal : Bool := false
  courierUp : Bool := false
  thresholdLoaded : Bool := false
  startHeld : Option Nat := none
  heldTotal : Nat := 0
  heldPeak : Int := -2048
  shutdownSince : Nat := 0
  vsys : Nat := 12000
  vsysLow : Nat := 65535
  vioValid : Bool := false
  vioMode : Option Bool := none
  vioGoodSince : Option Nat := none
  temps : List (Option Int) := List.replicate 8 none
  sequence : Option Sequence := none
  thermalSeq : Option Sequence := none
  modeSet : Option (Nat × Nat × Nat) := none
  sleepReq : Option (Nat × Nat × Nat) := none
  orderlyWake : Option Nat := none
  gnssBuffer : List (Nat × Bool × Bool) := []
  gnssBytes : Nat := 0
  longEnded : Nat := 0
  resetAt : Option Nat := none
  cause : Nat := 1
  wakePend : Option Nat := none
  vioLost : Bool := false
  abortS : Int := 1792
  restartC : Bool := false
  deriving DecidableEq, Repr, Inhabited

/-- The always-on domain (Table PS-1, R200, R610, R612). -/
structure AlwaysOn where
  flushFlag : Bool := false
  stateBefore : Nat := 0
  lowestVsys : Nat := 65535
  junctionPeak : Int := -2048
  wakeSource : Nat := 0
  hardEntry : Bool := false
  dbgFails : Nat := 0
  dbgLockEnd : Option Nat := none
  wallHw : Nat := 0
  deriving DecidableEq, Repr, Inhabited

/-- The pins the environment drives and the outputs of Table EC-3 whose level a rule of the manual sets. -/
structure Pins where
  resetN : Bool := true
  mainsOk : Bool := false
  hostSel : Bool := false
  trstN : Bool := true
  usbVbus : Bool := false
  hostIrqN : Bool := true
  txDisable : List Bool := [true, true]
  chgEn : Bool := false
  chgPwm : Nat := 0
  fanPwm : Nat := 0
  meterPulse : Bool := false
  meterMclk : Bool := false
  clkRefOut : Bool := false
  crPaEn : Bool := false
  crTxRx : Bool := false
  deriving DecidableEq, Repr, Inhabited

/-- A job (R232 to R235): admitted, and running once `started` is set. Energies in mJ, `consumed` in µJ. -/
structure Job where
  opcode : Nat := 0
  standing : Bool := false
  estimate : Nat := 0
  rate : Nat := 0
  duration : Nat := 0
  admitted : Nat := 0
  started : Option Nat := none
  consumed : Int := 0
  lanes : List Nat := []
  scan : Bool := false
  deriving DecidableEq, Repr, Inhabited

/-- The energy ledger (R220 to R244), in µJ. `mainsSince` tells since when MAINS_OK is high, `chgDownAt` and `vlnLowAt` when CHG_EN
was last low and V_LN last below 80 V, and `gridStep` the mode of the last step; `second` and `laneSecond` gather the second in
progress, `lanePower1s` holds the PA power in µW over the last one; `exhausted` and `low` are the crossings already reported; the
`saved` fields are its last journal entry (R238) and `watchEntry` the BAT_ENERGY journalled at the entry into WATCH (R222). -/
structure Ledger where
  bat : Int := 0
  residual : Int := 0
  balance : List Int := List.replicate 8 0
  total : List Int := List.replicate 8 0
  jobs : List (List (Option Job)) := List.replicate 8 (List.replicate 16 none)
  mainsSince : Option Nat := none
  chgDownAt : Option Nat := none
  vlnLowAt : Option Nat := none
  disagreeSince : Option Nat := none
  disagreed : Bool := false
  gridStep : Bool := false
  estimated : Bool := false
  watchDrain : Int := 0
  hardHoldAt : Option Nat := none
  quietSince : Option Nat := none
  invalidRun : Nat := 0
  invalidHold : Bool := false
  validSince : Option Nat := none
  lastPower : Int := 0
  lanePower : List Nat := List.replicate 8 0
  paInvalidSince : List (Option Nat) := List.replicate 8 none
  second : List Int := List.replicate 8 0
  flowSum : Int := 0
  steps : Nat := 0
  exhausted : List Bool := List.replicate 8 false
  low : List Bool := List.replicate 8 false
  laneSecond : List Int := List.replicate 8 0
  lanePower1s : List Int := List.replicate 8 0
  holdupShort : Bool := false
  holdupMeasured : Option Nat := none
  packOcv : Option (List Byte) := none
  mainsCount : Int := 0
  savedBalance : List Int := List.replicate 8 0
  savedTotal : List Int := List.replicate 8 0
  savedPower : List Nat := List.replicate 8 0
  savedAwake : List Bool := List.replicate 8 false
  watchEntry : Option Int := none
  deriving DecidableEq, Repr, Inhabited

/-- A calibration store entry (Table RL-3). `pinned` names the slot that pinned it; `corr` holds the eight corrections
from offset 20 on; `used` orders entries by last use. -/
structure CalEntry where
  freq : Nat := 0
  rxSynth : Nat := 0
  txSynth : Nat := 0
  calTemp : Int := 0
  rate : Nat := 0
  pinned : Option Nat := none
  refined : Bool := false
  corr : List Int := List.replicate 8 0
  calCount : Nat := 0
  used : Nat := 0
  deriving DecidableEq, Repr, Inhabited

/-- An RX entry of a PA table (Table RL-5). -/
structure RxEntry where
  gRx : Int := 0
  inMax : Int := 0
  rfCode : Nat := 0
  lna : Bool := false
  deriving DecidableEq, Repr, Inhabited

/-- A TX entry of a PA table (Table RL-5). -/
structure TxEntry where
  gTx : Int := 0
  pMax : Int := 0
  rfAtten : Nat := 0
  paOff : Bool := false
  tempCoef : Int := 0
  supplyCoef : Int := 0
  idle : Nat := 0
  full : Nat := 0
  deriving DecidableEq, Repr, Inhabited

/-- A PA table (Table RL-5). -/
structure PaTable where
  flags : Nat := 0
  antDonor : Int := 0
  antService : Int := 0
  vRef : Nat := 0
  fbCoupling : Int := 0
  rx : List RxEntry := []
  tx : List TxEntry := []
  deriving DecidableEq, Repr, Inhabited

/-- A CAL_RUN in progress (R277, R281). -/
structure CalRun where
  slot : Nat := 0
  ref : Nat := 0
  job : Nat := 0
  before : Nat := 2
  failed : List Nat := []
  withdrawn : Bool := false
  deriving DecidableEq, Repr, Inhabited

/-- What a LANE_TUNE changed, until its response is written: the entry its full calibration replaced (R283). -/
structure TuneUndo where
  slot : Nat := 0
  ref : Nat := 0
  op : Nat := 0x0401
  entry : Option (Nat × Option CalEntry) := none
  deriving DecidableEq, Repr, Inhabited

/-- The logical levels of a lane's front-end pins (Table RL-4). -/
structure LanePins where
  paEn : Bool := false
  tr : Bool := false
  lnaEn : Bool := false
  antRx : Bool := false
  antTx : Bool := false
  deriving DecidableEq, Repr, Inhabited

/-- A radio lane (chapter 08). `role` is (receive on service, transmit on service); `comp` holds c of R264 for each TX
entry in 1/16,384,000 dB; `pIn` is the power of R265. -/
structure Lane where
  cal : List (Option CalEntry) := List.replicate 64 none
  calCount : Nat := 0
  useClock : Nat := 0
  active : Option Nat := none
  table : Option PaTable := none
  partialTable : Option (Nat × List Byte) := none
  backoff : Int := 0
  comp : List Int := []
  pIn : Option Int := none
  gRxRemote : Option Int := none
  pins : LanePins := {}
  role : Bool × Bool := (false, true)
  tdd : Bool := false
  burst : Bool := false
  calRun : Option CalRun := none
  undo : Option TuneUndo := none
  escHold : Bool := false
  fbQuiet : Option Nat := none
  bgSteps : Nat := 0
  bgDiscards : Nat := 0
  bgStopped : Bool := false
  bgWindow : Option Nat := none
  driftSteps : Nat := 0
  survey : Option (Nat × Nat) := none
  probing : Bool := false
  thermTold : Bool := false
  deriving DecidableEq, Repr, Inhabited

/-- A courier packet from its queueing to its end (R291, R297, R306). `device` marks device traffic, `kind` is its type; `tries`
counts its transmissions, `notBefore` ends a deferral or backoff, `train` ends a WAKE train; `channel`, `step`, `acked`, `rssi`
and `used` (µs charged) fill the completion. -/
structure Packet where
  device : Bool := true
  kind : Nat := 0
  slot : Nat := 0
  ref : Nat := 0
  dest : Nat := 0
  broadcast : Bool := false
  ackReq : Bool := false
  payload : List Byte := []
  counter : Nat := 0
  tries : Nat := 0
  granted : Bool := true
  notBefore : Nat := 0
  airUs : Nat := 0
  channel : Nat := 0
  step : Nat := 0
  acked : Bool := false
  rssi : Int := -32768
  used : Nat := 0
  deriving DecidableEq, Repr, Inhabited

/-- A peer unit: first-try ACKs in a row, when a packet from it was last accepted, when its silence was last reported, and when a
WAKE from it was last reported (R300, R312, R313). -/
structure Peer where
  firstTries : Nat := 0
  heard : Nat := 0
  silentAt : Option Nat := none
  wakeAt : Option Nat := none
  deriving DecidableEq, Repr, Inhabited

/-- The counts of COURIER_STATS_GET (Table CU-10). -/
structure CourierStats where
  tx : Nat := 0
  rx : Nat := 0
  retries : Nat := 0
  crcFail : Nat := 0
  tagFail : Nat := 0
  deferrals : Nat := 0
  lostToCal : Nat := 0
  deriving DecidableEq, Repr, Inhabited

/-- The courier radio (chapter 09). `table`, `counter` and `highest` stand in NVM; `cal` holds each channel's calibration
temperature; `waiting` is the packet whose ACK is awaited; `ended` the sends that have only their completion left; airtime is
kept as (traffic class, sub-band, one-minute bin or 1 s frame, µs), with class 8 the device's; the counts of `stats` are of the
slots' DATA and, at index 8, of the device; `wake` is the WAKE packet that woke the unit, with its RSSI (R308), and `sent` the body last put on air. -/
structure Courier where
  table : List Byte := []
  counter : Nat := 0
  highest : List (Option Nat) := List.replicate 8 none
  cal : List (Option Int) := List.replicate 64 none
  peers : List Peer := List.replicate 8 {}
  queue : List Packet := []
  air : Option Packet := none
  waiting : Option Packet := none
  ended : List Packet := []
  hop : Nat := 0
  hopAt : Nat := 0
  hopOffset : Int := 0
  airtime : List (Nat × Nat × Nat × Nat) := []
  limited : List (Nat × Nat × Nat) := []
  reserve : Nat := 200
  stats : List CourierStats := List.replicate 9 {}
  wake : Option (List Byte × Int) := none
  rewatch : Option Nat := none
  sent : List Byte := []
  deriving DecidableEq, Repr, Inhabited

/-- A FIR bank (R321, R337): `delay` in input samples with 8 fractional bits. -/
structure Fir where
  taps : Nat := 0
  delay : Nat := 0
  decim : Nat := 1
  coefs : List Int := []
  deriving DecidableEq, Repr, Inhabited

/-- A threshold of a chain (R331): `count` is the dwell of the window evaluations. -/
structure Threshold where
  qty : Nat := 0
  flags : Nat := 0
  level : Int := 0
  hyst : Nat := 0
  dwell : Nat := 1
  count : Nat := 0
  fired : Bool := false
  deriving DecidableEq, Repr, Inhabited

/-- A filter chain (chapter 10): the FIR in use and the shadow bank of an X chain, the last window, the saturation
counters and the thresholds. -/
structure Chain where
  fir : Option Fir := none
  shadow : Option Fir := none
  sum : Int := 0
  valid : Nat := 0
  endTs : Nat := 0
  sat : List Nat := List.replicate 6 0
  thr : List Threshold := List.replicate 4 {}
  stuck : Bool := false
  deriving DecidableEq, Repr, Inhabited

/-- The record a survey job gives SC (Table FC-6), and the slot of the job that has a capture on it. -/
structure ScRecord where
  preset : Nat := 3
  order : Nat := 1
  firDecim : Nat := 1
  loaded : Bool := false
  decim : Nat := 1
  slot : Nat := 0
  job : Option Nat := none
  deriving DecidableEq, Repr, Inhabited

/-- A drover (R344, R345). `i`, `d`, `xPrev`, `u` and `v` hold 24 fractional bits of the output unit. -/
structure Drover where
  kp : Int := 0
  ki : Int := 0
  kd : Int := 0
  tf : Int := 0
  kt : Int := 0
  rate : Nat := 1
  onMeasure : Bool := false
  setpoint : Int := 0
  srcChain : Nat := 0
  srcQty : Nat := 0
  srcThr : Nat := 0
  i : Int := 0
  d : Int := 0
  xPrev : Option Int := none
  u : Option Int := none
  v : Option Int := none
  stepped : Option Nat := none
  satSince : Option Nat := none
  satHigh : Bool := false
  satReported : Bool := false
  lastE : Int := 0
  track : Int := 0
  deriving DecidableEq, Repr, Inhabited

/-- The isolation estimator of a lane (R357, R358). -/
structure Iso where
  running : Bool := false
  last : Option Int := none
  target : Int := -32768
  windowEnd : Option Nat := none
  refPower : Int := -32768
  heldSince : Option Nat := none
  staleAt : Option Nat := none
  fresh : Bool := true
  riseAt : Option Nat := none
  riseFrom : Int := 0
  deriving DecidableEq, Repr, Inhabited

/-- A convoy (chapter 11). `ramp` and `gPrev` hold 24 fractional bits; `hold` is the set of causes of mute source bit 7;
`energyAt` when D6 last won, `restart` the G_start (1/64 dB) and rate (dB/s) that a restart path names for the next release. -/
structure Convoy where
  dr : List Drover := List.replicate 8 {}
  ramp : Option Int := none
  rampRate : Nat := 6
  ladder : Option Int := none
  backoffEnd : Option Nat := none
  oscBackoff : Nat := 0
  exhausted : Bool := false
  oscAt : Option Nat := none
  muted : Bool := true
  hold : Nat := 1
  restart : Option (Int × Nat) := none
  lastOut : Option Int := none
  gPrev : Int := 0
  u0 : Option Int := none
  iEffPrev : Option Int := none
  winnerAt : Nat := 0
  limitedSince : Option Nat := none
  limitedAt : Option Nat := none
  starveSince : Option Nat := none
  starveReported : Bool := false
  remote : Option Int := none
  remoteAt : Nat := 0
  ref : Int := 0
  aged : Bool := false
  d4 : Option (Int × Int) := none
  d4d : Option (Int × Int) := none
  energyAt : Option Nat := none
  gRef : Option Int := none
  iso : Iso := {}
  deriving DecidableEq, Repr, Inhabited

/-- The coefficients of a loop drover after reset (Table CV-6), in Q8.24. -/
def droverDefault (c k : Nat) : Drover :=
  if c < 8 then
    if k = 2 then { ki := 4194304, kt := 4194304, rate := 10000 }
    else if k = 3 then { ki := 4194304, kt := 4194304, rate := 60 }
    else if k = 4 then { ki := 1677722, kt := 1677722, rate := 20 }
    else if k = 5 then { kp := 8388608, ki := 335544, kt := 335544, rate := 10, setpoint := 1520 }
    else if k = 6 then { kp := 838861, ki := 335544, kt := 335544, rate := 1 }
    else {}
  else if k = 5 then
    if c = 8 then { kp := 1677721600, ki := 83886080, kt := 838861, rate := 1000, setpoint := 1600 }
    else { kp := -838860800, ki := -8388608, kt := 838861, rate := 100, setpoint := 1280 }
  else {}

/-- A convoy after reset (Table CV-6): C0 to C7 hold MUTE, since no band bridges; C8 and C9 never output MUTE. -/
def convoyDefault (c : Nat) : Convoy :=
  { dr := (List.range 8).map (droverDefault c), muted := c < 8, hold := if c < 8 then 1 else 0 }

/-- The reference states of Table RC-3. -/
inductive RefState where
  | disabled | absent | qualifying | qualified | waitToRestore | failed | holdOff
  deriving DecidableEq, Repr, Inhabited

/-- One reference of the RCU (Table RC-1, R375 to R378, R398). `level` is LINK's code as last received; `lastEdge` the
time of its last edge, update or measurement. -/
structure Ref where
  state : RefState := .absent
  since : Nat := 0
  signal : Bool := false
  lastEdge : Option Nat := none
  level : Nat := 15
  levelAt : Option Nat := none
  offset : Int := 0
  phase : Int := 0
  failedEver : Bool := false
  failCount : Nat := 0
  lastCause : Nat := 0
  lastFail : Nat := 0
  failedAt : Nat := 0
  pps : Bool := false
  deriving DecidableEq, Repr, Inhabited

/-- The clock states of Table RC-4a. -/
inductive ClockState where
  | freeRun | acquiring | locked | holdover | lost
  deriving DecidableEq, Repr, Inhabited

/-- The reference control unit (chapter 12). `codes` holds each reference's tracking and acquisition codes (R382);
`trace` the steering word and XO temperature with the times they took effect, newest first (R383). -/
structure Clock where
  state : ClockState := .freeRun
  refs : List Ref := List.replicate 4 {}
  selected : Option Nat := none
  forced : Option Nat := none
  codes : List (Nat × Nat) := [(3, 7), (16, 20), (5, 9), (10, 16)]
  ppsCodes : Nat × Nat := (3, 7)
  word : Int := 0
  target : Int := 0
  trace : List (Nat × Int × Int) := []
  lockedSince : Option Nat := none
  wasLocked10 : Bool := false
  inWindow : Option Nat := none
  outWindow : Option Nat := none
  holdStart : Nat := 0
  failTime : Nat := 0
  heldRef : Nat := 255
  lostClear : Option Nat := none
  xo : List (Option Int) := List.replicate 76 none
  xoSaved : List (Option Int) := List.replicate 76 none
  lastLearn : Nat := 0
  wallSet : Bool := false
  anchorTkc : Nat := 0
  anchorWall : Nat := 0
  unc : Nat := 0
  uncAt : Nat := 0
  aligned : Bool := false
  lastLabel : Option (Nat × Nat) := none
  labelled : Bool := false
  waiting : Option (Nat × Nat × Bool) := none
  lastSentence : Option Nat := none
  statusV : Bool := false
  deriving DecidableEq, Repr, Inhabited

/-- A waybill message waiting in a port's queue (R415). -/
structure WaybillMsg where
  port : Nat := 0
  typ : Nat := 0
  body : List Byte := []
  deriving DecidableEq, Repr, Inhabited

/-- A follower's figures of a lane as its DELAY_FIG carries them: X and T delay in 1/256 ticks, front-end delays in ns
(Table CL-5). -/
structure Fig where
  x : Nat := 0
  t : Nat := 0
  rx : Nat := 0
  tx : Nat := 0
  deriving DecidableEq, Repr, Inhabited

/-- A chain member as the head holds it (R418): the serial its number is reserved to, the port it joined through, its
figures, its last STATUS body, when it was last heard and last reported silent, and when each lane's contribution last
entered the head's sum (R457). -/
structure Member where
  serial : List Byte := []
  port : Nat := 0
  joined : Bool := true
  figs : List (Option Fig) := List.replicate 8 none
  status : List Byte := []
  heard : Nat := 0
  silentAt : Option Nat := none
  contrib : List (Option Nat) := List.replicate 8 none
  deriving DecidableEq, Repr, Inhabited

/-- A medium test in progress (R428). -/
structure LinkTest where
  slot : Nat := 0
  ref : Nat := 0
  job : Nat := 65535
  mode : Nat := 0
  duration : Nat := 0
  since : Nat := 0
  running : Bool := false
  deriving DecidableEq, Repr, Inhabited

/-- A link port (R404 to R410, R421, R428). `ident` holds A0h bytes 0 to 95 as last read; `joined` tells whether the unit
at the other end is of the chain; `probeT1` and `t2` pair a probe's sequence number with its time-stamp. -/
structure LinkPort where
  module : Bool := false
  accepted : Bool := false
  refused : Bool := false
  ident : List Byte := []
  los : Bool := false
  released : Option Nat := none
  peer : Option Nat := none
  joined : Bool := false
  hopAt : Option Nat := none
  baleCount : Option Nat := none
  missRun : Nat := 0
  badWaybills : Nat := 0
  probeSeq : Nat := 0
  probeT1 : Option (Nat × Nat) := none
  t2 : Option (Nat × Nat) := none
  waybillAt : Nat := 0
  test : Option LinkTest := none
  result : Option (List Byte) := none
  downSince : Option Nat := none
  deriving DecidableEq, Repr, Inhabited

/-- A join handshake in progress (R417, R437). `host` names the long CHAIN_JOIN of the host, if one waits; `ack` is the
accepted JOIN_ACK body while the first DELAY after UP is still awaited. -/
structure Joining where
  host : Option (Nat × Nat) := none
  since : Nat := 0
  secret : List Byte := []
  nonce : List Byte := []
  number : Nat := 255
  ack : Option (List Byte) := none
  deriving DecidableEq, Repr, Inhabited

/-- The backoff of a head lane's uplink sum (R427): when a segment last carried SUM_SAT, when UPLINK_SUM_SATURATED was last
raised, and when the backoff last fell. -/
structure SumState where
  satAt : Option Nat := none
  reportAt : Option Nat := none
  decayAt : Option Nat := none
  deriving DecidableEq, Repr, Inhabited

/-- The Caravan link (chapter 13). `pathLost` tells that the unit has lost its path to the head and `breakDue` is the BREAK its
first FALLBACK carries (R436). `secret`, `format` and the serials of `members` stand in the journal. `offset` is the
last offset of R422 in ps with its time; `stepDue` a TKC step that waits for the end of a burst. -/
structure Link where
  out : List WaybillMsg := []
  ports : List LinkPort := List.replicate 2 {}
  members : List (Option Member) := List.replicate 8 none
  secret : Option (List Byte) := none
  format : Nat := 0
  joining : Option Joining := none
  offset : Option (Int × Nat) := none
  stepDue : Option Int := none
  sums : List SumState := List.replicate 8 {}
  pathLost : Bool := false
  breakDue : Option (List Byte) := none
  deriving DecidableEq, Repr, Inhabited

/-- A band's configuration (Table BP-8). -/
structure BandCfg where
  tdd : Bool := false
  unitMask : Nat := 0
  dlLane : Nat := 0
  ulLane : Nat := 255
  dlRate : Nat := 0
  ulRate : Nat := 0
  dlFreq : Nat := 0
  ulFreq : Nat := 0
  syncOffset : Nat := 0
  deriving DecidableEq, Repr, Inhabited

/-- A band (chapter 14). BAND_STATE, BAND_TRIGGERS, BAND_RUNG, BAND_UNITS and BAND_PERMIT stand in the parameter
store; `trig` lists each trigger that holds with its lane. -/
structure Band where
  cfg : BandCfg := {}
  job : Nat := 65535
  delay : Nat := 0
  start : Option (Nat × Nat) := none
  startAt : Nat := 0
  answers : List (Nat × Nat) := []
  setFixed : Bool := false
  setUnits : Nat := 0
  detectedAt : Option Nat := none
  cellUp : Bool := false
  cellPci : Nat := 0
  cellNr : Bool := false
  cellPower : Int := -32768
  cellOffset : Int := 0
  anchor : Option Nat := none
  anchorSent : Nat := 0
  badDetections : Nat := 0
  verdict : Nat := 0
  learning : Option Nat := none
  learnAgainAt : Option Nat := none
  misSlots : Nat := 0
  pDl : Int := -32768
  worstUl : Int := -32768
  windowEnd : Option Nat := none
  matched : Nat := 0
  episodes : Nat := 0
  trips : Nat := 0
  lastTrip : Nat := 0
  lastTrigger : Nat := 0
  tripAt : Option Nat := none
  mutedAt : List (Nat × Nat) := []
  lastCleared : Nat := 0
  waited : Nat := 0
  backoffEnd : Option Nat := none
  waitCell : Bool := false
  overCeiling : Nat := 0
  tddValidAt : Option Nat := none
  tddSeq : Nat := 0
  verifyAt : Nat := 0
  restored : Nat := 0
  sched : Bool := false
  mustLearn : Bool := false
  ulSuspended : Bool := false
  trig : List (Nat × Nat) := []
  ladder : Bool := false
  ulPowers : List Int := []
  pattern : Nat := 0
  slots : Nat := 0
  period : Nat := 0
  resume : Nat := 0
  deriving DecidableEq, Repr, Inhabited

/-- An open survey command (R470 to R492): `rx` 255 is the SCAN lane; `kind` 1 scan, 2 cell search, 3 probe. `need` is the
ticks of its next SCAN or probe request, `total` those of the job; `held` gives the lanes it took with the state, f_c and
rate they return to; `start` when its capture or transmission in progress began, and `clock` the state code, reference
and steering word then; `permit` the permit and entry a probe is covered by. `result` is a probe's completion figures
from offset 4 on. -/
structure Survey where
  slot : Nat := 0
  ref : Nat := 0
  id : Nat := 1
  kind : Nat := 1
  job : Nat := 0
  since : Nat := 0
  bound : Nat := 0
  rx : Nat := 255
  tx : Nat := 255
  body : List Byte := []
  need : Nat := 0
  total : Nat := 0
  used : Nat := 0
  segments : Nat := 1
  done : Nat := 0
  held : List (Nat × Nat × Nat × Nat) := []
  start : Option Nat := none
  clock : Nat × Nat × Int := (0, 255, 0)
  firstStart : Option Nat := none
  absolute : Bool := false
  permit : Nat := 255
  entry : Nat := 0
  points : Nat := 0
  data : List Byte := []
  flags : Nat := 0
  cells : Nat := 0
  result : List Byte := []
  shock : Bool := false
  ended : Bool := false
  withdrawn : Bool := false
  deriving DecidableEq, Repr, Inhabited

/-- A completed job's result data (R475). -/
structure Result where
  id : Nat := 0
  kind : Nat := 0
  data : List Byte := []
  deriving DecidableEq, Repr, Inhabited

/-- The survey state: the open jobs; per slot the result store, oldest first, and the next survey_id; and the CELL
captures not served (R481). -/
structure Surveys where
  jobs : List Survey := []
  results : List (List Result) := List.replicate 8 []
  next : List Nat := List.replicate 8 1
  misses : List Nat := []
  missedAt : Option Nat := none
  deriving DecidableEq, Repr, Inhabited

/-- A slot's Tollbook registers (R511 to R514): attribution in µJ per tariff, service in ms per lane. -/
structure SlotRegs where
  enabled : Bool := false
  contract : Nat := 0
  attribution : List Int := List.replicate 8 0
  service : List Nat := List.replicate 8 0
  gaps : Nat := 0
  deriving DecidableEq, Repr, Inhabited

/-- A tamper condition's registers (R516): episodes and whole seconds. -/
structure TamperRegs where
  episodes : Nat := 0
  seconds : Nat := 0
  deriving DecidableEq, Repr, Inhabited

/-- What Quire M saves (R522): the legal registers in µJ (1 µWh is 3,600 µJ) with what they carry, the open period and its
next boundary, the tamper, evidence and slot registers, MT_MARK, and the pulses. Gap and overrange times in 1/4 ms. -/
structure TollRegs where
  imports : List Nat := List.replicate 8 0
  exported : Nat := 0
  evidence : Nat := 0
  tamper : List TamperRegs := List.replicate 3 {}
  slots : List SlotRegs := List.replicate 8 {}
  mtMark : Nat := 0
  pulseCarry : Nat := 0
  backlog : Nat := 0
  period : Nat := 1
  opened : Nat := 0
  boundary : Option Nat := some 86400
  cause : Nat := 1
  flags : Nat := 0
  gap : Nat := 0
  gapTotal : Nat := 0
  overrange : Nat := 0
  power : Int := 0
  deriving DecidableEq, Repr, Inhabited

/-- A period's snapshot (R508): the device register block's figures and each slot's. -/
structure Snapshot where
  period : Nat := 0
  opened : Nat := 0
  closed : Nat := 0
  cause : Nat := 0
  flags : Nat := 0
  imports : List Nat := []
  exported : Nat := 0
  tableId : Nat := 0
  events : Nat := 0
  sealId : List Byte := []
  gap : Nat := 0
  deriving DecidableEq, Repr, Inhabited

/-- A slot's snapshot (R508). -/
structure SlotSnapshot where
  period : Nat := 0
  regs : SlotRegs := {}
  deriving DecidableEq, Repr, Inhabited

/-- A tamper condition being judged (R515): since when it holds or is absent, its running episode's start and sub-cause,
and the evidence register when the episode started. -/
structure Tamper where
  held : Option Nat := none
  absent : Option Nat := none
  start : Option Nat := none
  sub : Nat := 0
  evidenceAt : Nat := 0
  deriving DecidableEq, Repr, Inhabited

/-- A lane whose service a protective trigger has ended (R513): the wall second and time it ended, and the trigger. -/
structure ServiceGap where
  wall : Nat := 0
  since : Nat := 0
  code : Nat := 0
  deriving DecidableEq, Repr, Inhabited

/-- Quire M (chapter 16). `regs` runs; `saved` is its newest journal save. Tariff tables, the calibration record, the
snapshots (newest first) and `sealId` stand in NVM; `calNext` is a loaded calibration record until the next interval (R520). -/
structure Toll where
  regs : TollRegs := {}
  saved : Option TollRegs := some {}
  devSnaps : List Snapshot := []
  slotSnaps : List (List SlotSnapshot) := List.replicate 8 []
  table : Option (List Byte) := none
  pendingTable : Option (List Byte) := none
  calRecord : Option (List Byte) := none
  calNext : Option (List Byte) := none
  sealId : List Byte := [0, 0, 0, 0]
  updated : Option (List Byte) := none
  running : Bool := false
  lastWall : Option Nat := none
  stuck : List Bool := [false, false, false, false]
  inputGap : Option Nat := none
  clipped : Bool := false
  rms : List Nat := [0, 0, 0, 0]
  cycles : Bool := false
  watch : List Tamper := List.replicate 3 {}
  pulseHigh : Option Nat := none
  pulseAt : Option Nat := none
  sealChecked : Nat := 0
  inService : List Bool := List.replicate 8 false
  serviceGap : List (Option ServiceGap) := List.replicate 8 none
  deriving DecidableEq, Repr, Inhabited

/-- The staged image of a quire (R575): state 0 NONE, 1 OPEN, 2 VERIFIED, 3 FAILED; the bytes received; the sectors of the
inactive slot still to erase; and the long command that opens or verifies it. -/
structure Stage where
  state : Nat := 0
  total : Nat := 0
  data : List Byte := []
  eraseLeft : Nat := 0
  busy : Option (Nat × Nat) := none
  deriving DecidableEq, Repr, Inhabited

/-- The images of a quire (R568, R576): the version intact in the other slot, and a committed image that becomes active at
the next reset, with its version and seal value. -/
structure Image where
  other : Option Nat := none
  commit : Option (Nat × List Byte) := none
  deriving DecidableEq, Repr, Inhabited

/-- Shock detection (R571 to R574, R581): the episode running with its start, last detection, peak and count; failed reads in
a row; and what SHOCK_STATUS_GET reports. -/
structure Shock where
  start : Option Nat := none
  startTs : Nat := 0
  last : Nat := 0
  peak : Nat := 0
  count : Nat := 0
  fails : Nat := 0
  lastPeak : Nat := 0
  episodes : Nat := 0
  lastTs : Nat := 0
  recheck : Nat := 0
  recheckAt : Option Nat := none
  deriving DecidableEq, Repr, Inhabited

/-- Firmware, shock and the self-test (chapter 18). `mDead` marks a start that runs without Quire M (Table FD-4); `entered`
holds a FAULT to record at the next READY, with its cause, its FAULT_RESETs in 600 s and its time-stamp. -/
structure Store where
  stages : List Stage := [{}, {}]
  images : List Image := [{}, {}]
  shock : Shock := {}
  selftest : Option (Nat × Nat × Nat) := none
  mDead : Bool := false
  entered : Option (Nat × Nat × Nat) := none
  deriving DecidableEq, Repr, Inhabited

/-- The raw overlay of a lane (R613): what raw operations set, over what Quire C holds. -/
structure RawLane where
  freq : Option Nat := none
  state : Option Nat := none
  rfCode : Option Nat := none
  tx : Option (Nat × Int) := none
  pins : Option LanePins := none
  mute : Option Bool := none
  deriving DecidableEq, Repr, Inhabited

/-- The test access port (R607, R608): the instruction, the data register last captured, the boundary cells, and whether they
drive the pins. -/
structure Tap where
  instr : Nat := 2
  captured : List Byte := []
  cells : List Bool := []
  driving : Bool := false
  deriving DecidableEq, Repr, Inhabited

/-- The debug port (R610 to R614): the pending nonce with its time, the expiry while unlocked, the raw operations since the
unlock, the result of the last one, and the raw overlay of the lanes and, at index 8, the SCAN lane. -/
structure Debug where
  unlocked : Bool := false
  nonce : Option (List Byte × Nat) := none
  expiry : Nat := 0
  ops : Nat := 0
  result : Nat := 0
  raw : List RawLane := List.replicate 9 {}
  deriving DecidableEq, Repr, Inhabited

/-- Everything the manual gives the machine, but for the waiting commands and the ring window. -/
structure Dev where
  time : Nat := 0
  tkc : Nat := 0
  free : Nat := 0
  par : ParStore := []
  factory : Factory := {}
  slotNv : List SlotNv := { credential := List.replicate 32 0, vaultKey := some (List.replicate 32 0) } :: List.replicate 7 {}
  slots : List SlotRt := List.replicate 8 {}
  host : HostPort := {}
  cause : Option (Nat × Nat) := none
  latched : List LatchedEvent := []
  colo : List Partition := List.replicate 9 {}
  sched : Sched := {}
  nvm : Nvm := {}
  pwr : Power := {}
  ao : AlwaysOn := {}
  pins : Pins := {}
  clk : Clock := {}
  pace : Pace := {}
  led : Ledger := {}
  lanes : List Lane := List.replicate 8 {}
  laneNv : List (Option PaTable × Int) := List.replicate 8 (none, 0)
  ranges : List (List (Option (Nat × Nat))) := List.replicate 8 [none, none, none, none]
  convoys : List Convoy := (List.range 10).map convoyDefault
  bands : List Band := List.replicate 64 {}
  link : Link := {}
  chains : List Chain := List.replicate 50 {}
  scBanks : List (Option Fir) := List.replicate 8 none
  sc : ScRecord := {}
  sv : Surveys := {}
  toll : Toll := {}
  sto : Store := {}
  cour : Courier := {}
  tap : Tap := {}
  dbg : Debug := {}
  deriving DecidableEq, Repr, Inhabited

/-- The state of the block: the commands waiting, first in first out, the 256 KiB ring window (Table HR-3), and the
rest. -/
structure State where
  pending : List Instr := []
  mem : Memory := []
  dev : Dev := {}
  deriving DecidableEq, Repr

/-- Why a step stops with a fault. -/
inductive Fault where
  /-- No meaning raises it: every command of the table has an effect, and misuse is answered by host errors and status
  codes (Table HR-17, Table CM-10). It stands so that the outcome type is inhabited; safe. -/
  | none
  deriving DecidableEq, Repr

/-- Why a step is refused. -/
inductive Refusal where
  /-- The command has no meaning yet: raised only by `exec`'s own arms, with the row's mnemonic; safe. -/
  | notModelled (mnemonic : String)
  deriving DecidableEq, Repr

/-- What a ring-window byte that nothing has written reads as: zero (DESIGN CHOICE, log entry 2). -/
def Memory.unlisted : Byte := 0

/-- The canonical form: offsets inside the 256 KiB window, strictly rising, no byte equal to the unlisted value. -/
def Memory.wf (m : Memory) : Bool :=
  m.all (fun c => c.1 < 262144 && c.2 != Memory.unlisted) &&
    decide (List.Pairwise (fun a b => a.1 < b.1) m)

/-- The state right after power-on reset, before reset release: the always-on domain just powered, power state OFF,
every field at the value its declaration gives (R193, R199, R585; log entries 1 to 3 name the values the manual does
not state). -/
def State.reset : State := {}


end Sys2Proof.Machine
end

