-- ==== Sys2Proof/Machine/Ops.lean ====
section
/-! DEFINITION. The named operations every meaning shares: the parameter store, the ring window, time, the raising of
events and Colophon records, responses, host errors and interrupt flags. -/

namespace Sys2Proof.Machine

/-! ### Outcomes -/

/-- A command that changes only the device. -/
def State.act (s : State) (f : Dev → Dev) : Host.Outcome State Fault Refusal := .next { s with dev := f s.dev }

/-- A command that also writes the ring window. -/
def State.actMem (s : State) (f : Memory → Dev → Memory × Dev) : Host.Outcome State Fault Refusal :=
  .next { s with mem := (f s.mem s.dev).1, dev := (f s.mem s.dev).2 }

/-! ### The ring window (Table HR-3) -/

/-- The byte at an offset of the ring window. -/
def Memory.read : Memory → Nat → Byte
  | [], _ => Memory.unlisted
  | c :: m, a => if c.1 = a then c.2 else Memory.read m a

/-- `m` without the cell at an offset. -/
def Memory.erase : Memory → Nat → Memory
  | [], _ => []
  | c :: m, a => if c.1 = a then Memory.erase m a else c :: Memory.erase m a

/-- `m` with a cell put in its place among rising offsets. -/
def Memory.insert : Memory → Nat → Byte → Memory
  | [], a, v => [(a, v)]
  | c :: m, a, v => if a < c.1 then (a, v) :: c :: m else c :: Memory.insert m a v

/-- One byte written: offsets outside the window hold nothing; the unlisted value removes the cell. -/
def Memory.write (m : Memory) (a : Nat) (v : Byte) : Memory :=
  if a < 262144 then
    if v = Memory.unlisted then m.erase a else (m.erase a).insert a v
  else m

/-- Consecutive bytes written from an offset. -/
def Memory.writes : Memory → Nat → List Byte → Memory
  | m, _, [] => m
  | m, a, v :: vs => Memory.writes (m.write a v) (a + 1) vs

/-- `n` bytes read from an offset. -/
def Memory.reads (m : Memory) (a n : Nat) : List Byte := (List.range n).map (fun i => m.read (a + i))

/-! ### The parameter store -/

/-- The store's key of a parameter and index. -/
def parKey (id idx : Nat) : Nat := id * 65536 + idx

/-- The value a store lists under a key. -/
def ParStore.find : ParStore → Nat → Option Int
  | [], _ => none
  | c :: m, k => if c.1 = k then some c.2 else ParStore.find m k

/-- A store without a key. -/
def ParStore.erase : ParStore → Nat → ParStore
  | [], _ => []
  | c :: m, k => if c.1 = k then ParStore.erase m k else c :: ParStore.erase m k

/-- A store with a key put in its place among rising keys. -/
def ParStore.insert : ParStore → Nat → Int → ParStore
  | [], k, v => [(k, v)]
  | c :: m, k, v => if k < c.1 then (k, v) :: c :: m else c :: ParStore.insert m k v

/-- The value of a parameter in a store: what it lists, else the default. -/
def ParStore.get (p : ParStore) (id idx : Nat) : Int := (p.find (parKey id idx)).getD (paramDefault id idx)

/-- A parameter set in a store; the default's value removes the entry. -/
def ParStore.set (p : ParStore) (id idx : Nat) (v : Int) : ParStore :=
  if v = paramDefault id idx then p.erase (parKey id idx) else (p.erase (parKey id idx)).insert (parKey id idx) v

/-- The value of a parameter. -/
def Dev.get (d : Dev) (id : Nat) (idx : Nat := 0) : Int := d.par.get id idx

/-- The value of a parameter that is never negative. -/
def Dev.getN (d : Dev) (id : Nat) (idx : Nat := 0) : Nat := (d.get id idx).toNat

/-- A boolean parameter. -/
def Dev.getB (d : Dev) (id : Nat) (idx : Nat := 0) : Bool := d.get id idx != 0

/-- A parameter changed. -/
def Dev.set (d : Dev) (id idx : Nat) (v : Int) : Dev := { d with par := d.par.set id idx v }

/-- A parameter changed in force and in the journal's image of it. -/
def Dev.setNv (d : Dev) (id idx : Nat) (v : Int) : Dev :=
  { d with par := d.par.set id idx v, nvm := { d.nvm with par := d.nvm.par.set id idx v } }

/-- A 32-bit counter parameter raised by one, saturating. -/
def Dev.bump (d : Dev) (id idx : Nat) : Dev := d.set id idx (inc32 (d.getN id idx) : Nat)

/-- A journalled 32-bit counter raised by one, saturating. -/
def Dev.bumpNv (d : Dev) (id idx : Nat) : Dev := d.setNv id idx (inc32 (d.getN id idx) : Nat)

/-! ### Time: 1/256 tick units of a 245.76 MHz clock (R14) -/

/-- Units in `u` microseconds, rounded down. -/
def usU (u : Nat) : Nat := u * 6291456 / 100
/-- Units in `m` milliseconds. -/
def msU (m : Nat) : Nat := m * 62914560
/-- Units in `s` seconds. -/
def secU (s : Nat) : Nat := s * 62914560000
/-- Whole microseconds in `t` units. -/
def toUs (t : Nat) : Nat := t * 100 / 6291456
/-- Whole milliseconds in `t` units. -/
def toMs (t : Nat) : Nat := t / 62914560
/-- Milliseconds in `t` units, rounded up. -/
def toMsUp (t : Nat) : Nat := (t + 62914559) / 62914560
/-- The 250 µs scheduler tick that runs (R69). -/
def Dev.tickNow (d : Dev) : Nat := d.tkc / 256 / 61440
/-- Time since a moment. -/
def Dev.since (d : Dev) (t : Nat) : Nat := d.time - t
/-- A time-stamp of now (Table SC-3). -/
def Dev.ts (d : Dev) : Nat := d.tkc % 18446744073709551616
/-- A duration field: microseconds, saturating at 32 bits. -/
def durOf (t : Nat) : Nat := min 4294967295 (toUs t)

/-! ### Slots, variant, ownership -/

def Dev.slot (d : Dev) (k : Nat) : SlotRt := nth d.slots k
def Dev.updSlot (d : Dev) (k : Nat) (f : SlotRt → SlotRt) : Dev := { d with slots := upd d.slots k f }
def Dev.slotN (d : Dev) (k : Nat) : SlotNv := nth d.slotNv k
def Dev.updSlotN (d : Dev) (k : Nat) (f : SlotNv → SlotNv) : Dev := { d with slotNv := upd d.slotNv k f }
/-- The slot a lane is assigned to (R63). -/
def Dev.owner (d : Dev) (lane : Nat) : Nat := d.getN pLaneOwner lane
/-- Whether the part has the lane (R1). -/
def Dev.hasLane (d : Dev) (lane : Nat) : Bool := lane < 8 && !(d.factory.variantH && 4 ≤ lane)
/-- The lanes of the part. -/
def Dev.laneIds (d : Dev) : List Nat := if d.factory.variantH then List.range 4 else List.range 8
/-- Whether the part has the port (R1). -/
def Dev.hasPort (d : Dev) (p : Nat) : Bool := p < 2 && !(d.factory.variantH && p = 1)
/-- The ports of the part. -/
def Dev.portIds (d : Dev) : List Nat := if d.factory.variantH then [0] else [0, 1]
/-- STANDALONE, head and follower as the chain's role gives them (R26). -/
def Dev.isFollower (d : Dev) : Bool := d.get pChainRole = 2

/-! ### Colophon records (R533 to R545) -/

/-- The staging size of a partition (R537). -/
def stageSize (part : Nat) : Nat := if part = 0 || part = 8 then 32 else 16
/-- The capacity of a partition (Table CO-1). -/
def partCapacity (part : Nat) : Nat := if part = 0 then 8192 else if part = 8 then 4096 else 2048
/-- The sectors a wrapping partition occupies (R539). -/
def partSectors (part : Nat) : Nat := partCapacity part / 128 + 2
/-- The storage allotment per frame (R538). -/
def partAllot (part : Nat) : Nat := if part = 0 then 40 else 24
/-- The 32 bytes of a record (Table CO-2). -/
def Record.bytes (r : Record) : List Byte :=
  let b := e48 r.seq ++ e16 r.code ++ e8 r.source ++ e8 r.flags ++ padTo 20 r.payload
  b ++ e16 (crc16 b)

/-- A loss of record `seq` for `cause` added to the runs that wait for RECORDS_LOST (R540). -/
def addLoss (runs : List LossRun) (cause seq : Nat) : List LossRun :=
  match runs.getLast? with
  | some r =>
    if r.cause = cause && r.last + 1 = seq then
      runs.dropLast ++ [{ r with last := seq, count := inc32 r.count }]
    else runs ++ [⟨cause, seq, seq, 1⟩]
  | none => [⟨cause, seq, seq, 1⟩]

/-- Free record positions of the metrology partition: released positions are free once erased (R542, R543). -/
def Partition.metroFree (p : Partition) : Nat := 4096 - (p.stored.length + p.staged.length + p.released)

/-- The readable records, oldest first: stored, then staged (R537). -/
def Partition.readable (p : Partition) : List Record := p.stored ++ p.staged

def Partition.oldest (p : Partition) : Nat := (p.readable.head?.map (·.seq)).getD 0
def Partition.newest (p : Partition) : Nat := (p.readable.getLast?.map (·.seq)).getD 0

/-- The next number assigned: the partition after it, with the number reservation moved on in blocks of 1,024
(R536). -/
def Partition.assign (p : Partition) : Partition :=
  { p with next := p.next + 1, reserved := if p.next + 1 > p.reserved then p.reserved + 1024 else p.reserved }

/-- One record raised for a partition: its number is assigned whether or not it is stored; a frozen partition loses
it to the freeze, a full metrology partition to the overflow, a full staging area to its loss run (R536, R540, R542,
R544). -/
def Partition.put (p : Partition) (part : Nat) (r : Record) : Partition :=
  let q := p.assign
  match q.freeze with
  | some f =>
    { q with freeze := some { f with lost := inc32 f.lost, last := r.seq, first := if f.lost = 0 then r.seq else f.first } }
  | none =>
    if part = 8 && p.metroFree = 0 then
      { q with overflowRun := some (match q.overflowRun with
                | some o => { o with last := r.seq, count := inc32 o.count }
                | none => ⟨3, r.seq, r.seq, 1⟩) }
    else if stageSize part ≤ q.staged.length then { q with losses := addLoss q.losses 0 r.seq }
    else { q with staged := q.staged ++ [r] }

/-- Whether a record raised now for the partition is lost (counted in LOG_LOST). -/
def Partition.loses (p : Partition) (part : Nat) : Bool :=
  p.freeze.isSome || (part = 8 && p.metroFree = 0) || stageSize part ≤ p.staged.length

/-- A record made in a partition, and its event queued for the sessions open now that R151 delivers it to (R130, R534,
R540). -/
def Dev.recordAs (d : Dev) (part : Nat) (onlyS0 : Bool) (agent : Nat) (late : Bool) (ts code : Nat)
    (payload : List Byte) : Dev :=
  let p := nth d.colo part
  let r : Record :=
    { seq := p.next, code := code, source := agent + 16 * d.getN pUnitNumber,
      flags := p.freeze.isSome.toNat + 2 * late.toNat, payload := padTo 20 payload }
  let wide := part = 8 || (part = 0 && !onlyS0)
  let dest := (List.range 8).filter (fun k => (wide || k = part) && (d.slot k).session.isSome)
  let d1 := { d with
    colo := upd d.colo part (fun p => p.put part r)
    host := { d.host with events := if dest = [] then d.host.events else
      d.host.events ++ [{ ts := ts, entry := r, dest := dest, cause := d.cause }] } }
  let d2 := if part < 9 && p.loses part then d1.bumpNv pLogLost part else d1
  if part = 8 && p.freeze.isNone && p.metroFree = 0 then d2.bumpNv pMetroOverflow 8 else d2

/-- The partition's condition of R542 is entered: fewer than 512 free positions, or overflow since the last
release. -/
def Dev.metroCheck (d : Dev) : Dev :=
  let p := nth d.colo 8
  if !p.readout && (p.metroFree < 512 || p.overflowRun.isSome) then
    let d1 := { d with colo := upd d.colo 8 (fun p => { p with readout := true }) }
    d1.recordAs 0 false 0 false d1.ts 0x0D82 (e16 p.metroFree ++ zs 2 ++ e32 (d1.getN pMetroOverflow 8))
  else d

/-- An event raised: recorded at once, or before PHASE=READY latched until READY (R130, R195, R534). -/
def Dev.raiseAs (d : Dev) (part : Nat) (onlyS0 : Bool) (agent code : Nat) (payload : List Byte) : Dev :=
  if d.pwr.phase = .ready then
    let d1 := d.recordAs part onlyS0 agent false d.ts code payload
    if part = 8 then d1.metroCheck else d1
  else
    { d with latched := d.latched ++ [{ ts := d.ts, part := part, onlyS0 := onlyS0, agent := agent, code := code, payload := payload }] }

/-- An event whose table names the device partition outright. -/
def Dev.raiseDev (d : Dev) (code : Nat) (payload : List Byte) : Dev := d.raiseAs 0 false 0 code payload
/-- An event of the partition of a particular slot; that of S0 is the device partition (R151, R547). -/
def Dev.raiseSlot (d : Dev) (slot code : Nat) (payload : List Byte) : Dev := d.raiseAs slot (slot = 0) 0 code payload
/-- An event of the lane's owning slot. -/
def Dev.raiseLane (d : Dev) (lane code : Nat) (payload : List Byte) : Dev := d.raiseSlot (d.owner lane) code payload
/-- A metrology event, raised by Quire M. -/
def Dev.raiseMetro (d : Dev) (code : Nat) (payload : List Byte) : Dev := d.raiseAs 8 false 1 code payload
/-- An event raised by the hardware protective path in a slot's partition. -/
def Dev.raiseProt (d : Dev) (slot code : Nat) (payload : List Byte) : Dev := d.raiseAs slot (slot = 0) 3 code payload

/-- `n` records of the staging area become stored. A wrapping partition fills its current sector, then moves into the
erased one; it keeps one erased ahead for as long as its sectors last (R537, R539). -/
def Partition.store : Nat → Nat → Partition → Partition
  | 0, _, p => p
  | n + 1, part, p =>
    match p.staged with
    | [] => p
    | r :: rest =>
      if part = 8 then Partition.store n part { p with staged := rest, stored := p.stored ++ [r], storedLast := r.seq }
      else if p.curFill < 128 then
        Partition.store n part { p with staged := rest, stored := p.stored ++ [r], storedLast := r.seq,
                                        curFill := p.curFill + 1 }
      else if p.erasedAhead then
        let full := p.sectorsFull + 1
        Partition.store n part { p with staged := rest, stored := p.stored ++ [r], storedLast := r.seq, curFill := 1,
                                        sectorsFull := full, erasedAhead := full + 2 ≤ partSectors part }
      else
        Partition.store n part { p with staged := rest, losses := addLoss p.losses 1 r.seq }

/-- Records of the staging area that a flush of `n` could not store for want of an erased sector (R540 cause 1). -/
def Partition.barredLosses (p q : Partition) : Nat :=
  p.staged.length - q.staged.length - (q.stored.length - p.stored.length)

/-- LOG_LOST raised by `n`. -/
def Dev.addLost (d : Dev) (part n : Nat) : Dev :=
  if n = 0 then d else d.setNv pLogLost part (sat 4294967295 (d.getN pLogLost part + n) : Nat)

/-- A flush of at most `n` staged records of a partition; one that has moved into its erased sector wants its oldest sector
erased (R537 to R539). -/
def Dev.flushPart (d : Dev) (part n : Nat) : Dev :=
  let p := nth d.colo part
  let q := p.store n part
  let d1 := ({ d with colo := upd d.colo part (fun _ => q) }).addLost part (p.barredLosses q)
  if p.erasedAhead && !q.erasedAhead then
    { d1 with nvm := { d1.nvm with eraseWanted := d1.nvm.eraseWanted ++ [.colophon part] } }
  else d1

/-- The RECORDS_LOST of each loss run of a partition that can store a record again (R540). -/
def Dev.reportLosses (d : Dev) (part : Nat) : Dev :=
  let p := nth d.colo part
  if p.freeze.isSome || p.losses = [] || (part = 8 && p.metroFree = 0) || p.curFill = 128 && !p.erasedAhead then d else
  let d1 := { d with colo := upd d.colo part (fun p => { p with losses := [] }) }
  p.losses.foldl (fun e r =>
    e.raiseAs part (part = 0) 0 0x0D81 (e8 part ++ e8 r.cause ++ e48 r.first ++ e48 r.last ++ zs 2 ++ e32 r.count)) d1

/-! ### Interrupt flags and host errors (R95, R97, R98, R621) -/

/-- HOST_IRQ_N as R98 gives its level: low under quad-SPI while an enabled bit is set. -/
def Dev.irqLevel (d : Dev) : Dev :=
  let h := d.host
  let on := bit h.hostCtrl 0 && ((h.ringIrq &&& h.ringIrqMask) ≠ 0 || (h.devIrq &&& h.devIrqMask) ≠ 0)
  { d with pins := { d.pins with hostIrqN := h.usb || !on } }

/-- DEV_IRQ bit `k` set (R97). -/
def Dev.setDevIrq (d : Dev) (k : Nat) : Dev :=
  ({ d with host := { d.host with devIrq := d.host.devIrq ||| 2 ^ k } }).irqLevel

/-- DEV_INDEX of a ring moved, and its RING_IRQ bit set (R97). -/
def Dev.setIndex (d : Dev) (ring v : Nat) : Dev :=
  ({ d with host := { d.host with
      devIndex := upd d.host.devIndex ring (fun _ => v), ringIrq := d.host.ringIrq ||| 2 ^ ring } }).irqLevel

/-- PHASE moved, with DEV_IRQ[0] (R97). -/
def Dev.setPhase (d : Dev) (p : Phase) : Dev :=
  if d.pwr.phase = p then d else ({ d with pwr := { d.pwr with phase := p } }).setDevIrq 0

/-- One host error counted: HOST_ERR, HOST_ERROR_COUNT and DEV_IRQ[2] at once; HOST_PORT_ERROR recorded, or before
READY latched for the first 16 of the start (Table HR-16, R621). -/
def Dev.hostError (d : Dev) (code address : Nat) : Dev :=
  let d1 := ({ d with host := { d.host with
    hostErrCount := min 65535 (d.host.hostErrCount + 1), hostErrCode := code } }).bump pHostErrorCount 0
  let d2 := d1.setDevIrq 2
  let payload := e8 code ++ e8 (d.getN pHostTransport) ++ zs 2 ++ e32 address
  if d.pwr.phase = .ready then d2.raiseDev 0x00C1 payload
  else if d2.host.earlyErrors < 16 then
    ({ d2 with host := { d2.host with earlyErrors := d2.host.earlyErrors + 1 } }).raiseDev 0x00C1 payload
  else d2

/-- SUBSYS_UP bit `k` set or cleared. -/
def Dev.subsys (d : Dev) (k : Nat) (on : Bool) : Dev :=
  let v := d.getN pSubsysUp
  d.set pSubsysUp 0 ((if bit v k == on then v else if on then v + 2 ^ k else v - 2 ^ k : Nat) : Int)

/-! ### Statuses, replies and the outbox -/

/-- The value of a status (Table CM-10). -/
def Status.code : Status → Nat
  | .ok => 0x0000 | .accepted => 0x0001 | .notYet => 0x0002 | .busy => 0x0003 | .badArg => 0x0010
  | .badLen => 0x0011 | .unknownOp => 0x0012 | .unsupported => 0x0013 | .denied => 0x0020 | .noSession => 0x0021
  | .noPermit => 0x0022 | .permitExpired => 0x0023 | .exhausted => 0x0030 | .wouldExceed => 0x0031 | .state => 0x0040
  | .openRequired => 0x0041 | .frozen => 0x0050 | .fault => 0x0060 | .thermal => 0x0061 | .internal => 0x00FF

/-- The failure body of Table CM-2. -/
def failBody (offset reason : Nat) : List Byte := e16 offset ++ e16 reason

/-- A refusal with no single field at fault. -/
def fail (s : Status) : Reply := { status := s, body := failBody 0xFFFF 0 }
/-- A refusal that names a field of the request body. -/
def failAt (s : Status) (o : Nat) : Reply := { status := s, body := failBody o 0 }
/-- A refusal that names a field of the request's BLK data. -/
def failBlk (s : Status) (o : Nat) : Reply := { status := s, body := failBody (0x8000 + o) 0 }
/-- A refusal with a reason code of its chapter. -/
def failWhy (s : Status) (o reason : Nat) : Reply := { status := s, body := failBody o reason }
/-- OK with a response layout. -/
def okBody (b : List Byte) : Reply := { status := .ok, body := b }
/-- NOT_YET with its retry_after in ms (Table CM-2). -/
def notYet (ms : Nat) : Reply := { status := .notYet, body := e32 (max 1 (min 256000 ms)) }
/-- ACCEPTED with its bound in ms (Table CM-2). -/
def accepted (bound : Nat) : Reply := { status := .accepted, body := e32 bound }

/-- An entry put behind those already produced. -/
def Dev.push (d : Dev) (o : OutEntry) : Dev := { d with host := { d.host with outbox := d.host.outbox ++ [o] } }

/-- The first response to a request. -/
def Dev.respond (d : Dev) (r : Request) (opcode : Nat) (rep : Reply) (after : AfterWrite := .nothing) : Dev :=
  d.push { slot := r.slot, kind := .response, code := opcode, ref := r.ref, tagged := r.tagged, reply := rep, after := after }

/-- The long command of a slot with the CMD index `ref`. -/
def Dev.longOf (d : Dev) (slot ref : Nat) : Option LongCmd :=
  d.host.longs.find? (fun l => l.slot == slot && l.ref == ref)

/-- The long command of an opcode that a slot has open with the CMD index `ref`. -/
def Dev.longIs (d : Dev) (slot ref opcode : Nat) : Option LongCmd :=
  d.host.longs.find? (fun l => l.slot == slot && l.ref == ref && l.opcode == opcode)

/-- Long commands a slot has open (R149). -/
def Dev.longCount (d : Dev) (slot : Nat) : Nat := (d.host.longs.filter (fun l => l.slot == slot)).length

/-- A completion of an open long command: it leaves the open list, and its entry waits for RSP room (R147, R150). -/
def Dev.complete (d : Dev) (l : LongCmd) (rep : Reply) : Dev :=
  let d1 := { d with host := { d.host with
    longs := d.host.longs.filter (fun x => !(x.slot == l.slot && x.ref == l.ref)) } }
  let d2 := d1.push { slot := l.slot, kind := .completion, code := l.opcode, ref := l.ref, reply := rep }
  d2.set pLongCmdsOpen l.slot (d2.longCount l.slot : Nat)

/-- A long command put on the open list when it answers ACCEPTED. -/
def Dev.openLong (d : Dev) (r : Request) (opcode bound : Nat) : Dev :=
  let d1 := { d with host := { d.host with
    longs := d.host.longs ++ [LongCmd.mk r.slot r.ref opcode d.time bound d.time r.body r.blk] } }
  d1.set pLongCmdsOpen r.slot (d1.longCount r.slot : Nat)

/-- Events raised by `f` are marked as caused by the command at (`slot`, `ref`) and wait for its first response
(R112). -/
def Dev.asCause (d : Dev) (slot ref : Nat) (f : Dev → Dev) : Dev :=
  let e : Dev := f { d with cause := some (slot, ref) }
  { e with cause := none }

/-! ### Journal writes (R145, R554, R555) -/

/-- The generation of a record in the journal. -/
def Dev.gen (d : Dev) (typ inst : Nat) : Nat :=
  ((d.nvm.gens.find? (fun g => g.1 == typ * 65536 + inst)).map (fun g => g.2)).getD 0

/-- A new version of a record begun: `pages` pages for each of its two copies. A host write also asks for its pages of
the slot's NVM share and waits for them, unless its bound names no share (`shared` false; R66, R69, R145; log entry 63). -/
def Dev.journal (d : Dev) (typ inst pages : Nat) (host : Option (Nat × Nat)) (act : JournalAct) (shared : Bool := true) : Dev :=
  let e : JournalEntry :=
    { typ := typ, inst := inst, gen := d.gen typ inst + 1, pages := pages, left0 := pages, left1 := pages,
      slot := (host.map (·.1)).getD 0, ref := (host.map (·.2)).getD 0, hostWrite := host.isSome,
      granted := host.isNone || !shared, act := act }
  let d1 : Dev := { d with nvm := { d.nvm with queue := d.nvm.queue ++ [e] } }
  if !shared then d1 else
  match host with
  | some (slot, ref) =>
    let q : SchedReq := { res := .nvm, slot := slot, ref := ref, need := 2 * pages, tick := d.tkc / 256 / 61440 }
    { d1 with sched := { d1.sched with fresh := d1.sched.fresh ++ [q] } }
  | none => d1

/-- Pages of one copy of an entry with a payload of `n` bytes (Table FD-2). -/
def entryPages (n : Nat) : Nat := (20 + n + 255) / 256

/-! ### Free values -/

/-- `n` bytes of the ZS8's random source, and the draw counter moved on. -/
def Dev.draw (d : Dev) (n : Nat) : List Byte × Dev :=
  ((List.range n).map (Config.randomByte d.free), { d with free := d.free + 1 })

/-- `n` free numbers of an analogue result, and the draw counter moved on. -/
def Dev.measure (d : Dev) (n : Nat) : List Int × Dev :=
  ((List.range n).map (Config.analogue d.free), { d with free := d.free + 1 })

/-! ### Sessions (R56, R155) -/

/-- An event no longer goes to a slot: its session has ended. -/
def OutEvent.without (slot : Nat) (e : OutEvent) : Option OutEvent :=
  let dest := e.dest.filter (fun k => k != slot)
  if dest = [] then none else some { e with dest := dest }

/-- A session ends: SESSION_CLOSED is recorded in the slot's partition, and nothing that waits reaches the session that
follows (R55, R56, R155). -/
def Dev.endSession (d : Dev) (slot reason : Nat) : Dev :=
  match (d.slot slot).session with
  | none => d
  | some _ =>
    let d0 : Dev := { d with host := { d.host with events := d.host.events.filterMap (OutEvent.without slot) } }
    let d1 := (d0.updSlot slot (fun s => { s with session := none })).set pSessionOpen slot 0
    d1.raiseSlot slot 0x0081 (e8 slot ++ e8 reason)

/-- Every session ends (R56). -/
def Dev.endSessions (d : Dev) (reason : Nat) : Dev := (List.range 8).foldl (fun e k => e.endSession k reason) d

end Sys2Proof.Machine
end

