-- ==== Sys2Proof/Machine/Operands.lean ====
section
/-! DEFINITION. The operand forms of host commands: the fields of a request, and the common checks of Table CM-4 in their
order (R132, R133, R623), the limit of R149, and the frame every command's own meaning runs in. -/

namespace Sys2Proof.Machine

/-! ### Fields -/

/-- The unsigned field of `n` bytes at an offset of the request body. -/
def rq (r : Request) (o n : Nat) : Nat := fld r.body o n
/-- The signed field of `n` bytes at an offset of the request body. -/
def rqS (r : Request) (o n : Nat) : Int := fldS r.body o n
/-- The unsigned field of `n` bytes at an offset of the BLK data. -/
def bq (r : Request) (o n : Nat) : Nat := fld r.blk o n
/-- The signed field of `n` bytes at an offset of the BLK data. -/
def bqS (r : Request) (o n : Nat) : Int := fldS r.blk o n

/-- One item of step 7, at its offset: a field that must be in its range, or a reserved span that must be zero. -/
inductive Chk where
  | rg (o : Nat) (ok : Bool)
  | rs (o n : Nat)

/-- The offset of the first fault in ascending order (R623). -/
def firstBad (b : List Byte) : List Chk → Option Nat
  | [] => none
  | .rg o ok :: cs => if ok then firstBad b cs else some o
  | .rs o n :: cs =>
    match firstNonZero b o n with
    | some k => some k
    | none => firstBad b cs

/-- A boolean field's range (R15). -/
def isBool (v : Nat) : Bool := v ≤ 1

/-! ### Commands -/

/-- What a command's own meaning gives: the device after it, its first response, what happens when that response is
written, whether the response is held back until the journal holds the change (R145), and for a long command that ends in
the same step, its completion (R147). -/
structure Answer where
  dev : Dev
  reply : Reply
  after : AfterWrite := .nothing
  held : Bool := false
  completion : Option Reply := none

/-- A refusal that leaves the device as it is. -/
def refuse (d : Dev) (rep : Reply) : Answer := { dev := d, reply := rep }

/-- One row of a chapter's command table: its opcode, request length, and its checks of Table CM-4. `lacks` is step 5,
`denied` step 6, `bad` step 7 (an offset into BLK data with bit 15 set); `early` runs ahead of steps 5 and 6 (R143);
`notReady` is Table PS-4; `nvm` tells whether the command would start an NVM write (R134), in which case its OK is held until the journal holds
the change (R145); `shared` is false where the command's bound names no NVM share. -/
structure CmdSpec where
  opcode : Nat
  len : List Byte → Bool
  blk : Bool := false
  blkOptional : Request → Bool := fun _ => false
  zeroTag : Bool := false
  enrol : Bool := false
  long : Bool := false
  early : Dev → Request → Option Reply := fun _ _ => none
  lacks : Dev → Request → Bool := fun _ _ => false
  denied : Dev → Request → Bool := fun _ _ => false
  bad : Dev → Request → Option Nat := fun _ _ => none
  notReady : Dev → Request → Option Nat := fun _ _ => none
  nvm : Dev → Request → Bool := fun _ _ => false
  shared : Bool := true
  run : Dev → Request → Answer

/-- Whether the ZS8 consumes CMD entries: ACTIVE, PHASE=READY, no orderly sequence running (R110, R127, R189, R206). -/
def Dev.consumes (d : Dev) : Bool :=
  d.pwr.state = .active && d.pwr.phase = .ready &&
    (match d.pwr.sequence with
     | some { kind := .orderly _ _, .. } => false
     | _ => true)

/-- Entries of one half of a slot's BLK ring (R101); 0 while the ring is disabled. -/
def Dev.halfDepth (d : Dev) (slot : Nat) : Nat :=
  let c := nth d.host.ringCfg (4 * slot + 3)
  if bit c 15 then 2 ^ (c / 4096 % 8) * 16 / 2 else 0

/-- The common checks of Table CM-4 after the opcode is known, the limit of R149, and the readiness of Table PS-4. -/
def CmdSpec.check (c : CmdSpec) (d : Dev) (r : Request) : Option Reply :=
  let sess := (d.slot r.slot).session
  if !r.tagged && !c.zeroTag then some (fail .noSession)
  else if r.tagged && sess.isNone then some (fail .noSession)
  else if r.tagged && c.opcode = 0x0002 then some (fail .state)
  else if r.tagged && (match sess with | some x => !x.full | none => false) && !c.enrol then some (fail .state)
  else if !c.len r.body || (if c.blkOptional r then false else r.blkAttached != c.blk) then some (fail .badLen)
  else match c.early d r with
  | some rep => some rep
  | none =>
    if c.lacks d r then some (fail .unsupported)
    else if c.denied d r then some (fail .denied)
    else match c.bad d r with
    | some o => some (failAt .badArg o)
    | none =>
      if c.long && 8 ≤ d.longCount r.slot then some (fail .busy)
      else match c.notReady d r with
      | some ms => some (notYet ms)
      | none => none

/-- The status R134 gives a command that would start an NVM write while that is barred; HARD_HOLD bars it with STATE
(R225). -/
def Dev.nvmBar (d : Dev) : Option Status :=
  if d.get pThermalState = 2 then some .thermal
  else if bit (d.getN pLedgerLevel) 3 then some .state
  else match d.pwr.sequence with
  | some { kind := .brownOut, .. } => some .state
  | _ => none

/-- The effect of a command that passed every common check: its own meaning, with the NVM bar of R134 and the BLK limit
of R622 over its answer, its place among the long commands, and its response. -/
def CmdSpec.effect (c : CmdSpec) (d : Dev) (r : Request) : Dev :=
  let a := c.run { d with cause := some (r.slot, r.ref) } r
  let good := a.reply.status = .ok || a.reply.status = .accepted
  match (if good && c.nvm d r then d.nvmBar else none) with
  | some st => d.respond r c.opcode (fail st)
  | none =>
    if 40 * d.halfDepth r.slot < a.reply.blk.length then d.respond r c.opcode (fail .badLen) else
    let e : Dev := { a.dev with cause := d.cause }
    let e1 := if a.reply.status = .accepted then e.openLong r c.opcode (leNat a.reply.body) else e
    if a.held then e1
    else if a.reply.status = .ok && c.nvm d r then
      e1.journal c.opcode r.slot 1 (some (r.slot, r.ref)) (.respond r.slot r.ref r.tagged c.opcode a.reply) c.shared
    else
      let e2 := e1.respond r c.opcode a.reply a.after
      match a.completion, e2.longOf r.slot r.ref with
      | some rep, some l => e2.complete l rep
      | _, _ => e2

/-- A host command: while the ZS8 consumes no entry it waits in its ring and nothing changes; else its checks, and then
its effect. -/
def hostCmd (c : CmdSpec) (r : Request) (d : Dev) : Dev :=
  if !d.consumes then d else
  match c.check d r with
  | some rep => d.respond r c.opcode rep
  | none => c.effect d r

/-- A request body of exactly `n` bytes. -/
def len (n : Nat) (b : List Byte) : Bool := b.length = n

/-- Step 6 for a command of access S0. -/
def onlyS0 (_ : Dev) (r : Request) : Bool := r.slot ≠ 0

/-- Step 5 for a lane field: it names a lane the part lacks (R2, R623). -/
def lacksLane (d : Dev) (v : Nat) : Bool := d.factory.variantH && 4 ≤ v && v < 8
/-- Step 5 for a port field. -/
def lacksPort (d : Dev) (v : Nat) : Bool := d.factory.variantH && v = 1
/-- Step 6 for a lane field of access OWN (Table SC-5). -/
def notOwner (d : Dev) (slot v : Nat) : Bool := v < 8 && d.owner v ≠ slot

/-- The retry of a command that waits for a start-up step: bounds in ms after reset release and, where there is one,
after return from SLEEP; none once the step's bound has passed (R197, Table PS-4). -/
def Dev.waitFor (d : Dev) (up : Bool) (bound : Nat) (sleepBound : Option Nat) : Option Nat :=
  let left := fun (t0 b : Nat) =>
    let e := d.since t0
    if msU b ≤ e then none else some (max 1 (toMsUp (msU b - e)))
  if up then none else
  match d.pwr.sleepReturnAt, sleepBound with
  | some t0, some b => left t0 b
  | some _, none => none
  | none, _ => left d.pwr.releaseAt bound

end Sys2Proof.Machine
end

