-- ==== Sys2Proof/Machine/ClockOps.lean ====
section
/-! DEFINITION. The operations of the reference control unit that other chapters share: the steering word, the XO
table, wall time, the effective time E, and the clock state with its reports (R370 to R374, R383 to R396). -/

namespace Sys2Proof.Machine

/-- The CLK_ST code (Table RC-4a). -/
def ClockState.code : ClockState → Nat
  | .freeRun => 0 | .acquiring => 1 | .locked => 2 | .holdover => 3 | .lost => 4

/-- The code of a reference state (Table RC-3). -/
def RefState.code : RefState → Nat
  | .disabled => 0 | .absent => 1 | .qualifying => 2 | .qualified => 3 | .waitToRestore => 4 | .failed => 5
  | .holdOff => 6

def Dev.ref (d : Dev) (i : Nat) : Ref := nth d.clk.refs i
def Dev.updRef (d : Dev) (i : Nat) (f : Ref → Ref) : Dev := { d with clk := { d.clk with refs := upd d.clk.refs i f } }
def Dev.updClk (d : Dev) (f : Clock → Clock) : Dev := { d with clk := f d.clk }

/-- Rank of a QL code, lower better (Table RC-1a); an unlisted code counts as QL-DNU. -/
def qlRank (c : Nat) : Nat := if c = 2 then 1 else if c = 4 then 2 else if c = 8 then 3 else if c = 11 then 4 else 9
def qlEligible (c : Nat) : Bool := qlRank c < 9
/-- A received code as it is reported: unlisted codes read QL-DNU. -/
def qlClean (c : Nat) : Nat := if qlEligible c then c else 15

/-- The level of a reference, 15 for QL-DNU and QL-FAILED (Table RC-2). -/
def Dev.refLevel (d : Dev) (i : Nat) : Nat :=
  let r := d.ref i
  if i = 0 then
    if d.clk.statusV || (match d.clk.lastSentence with | some t => secU 3 < d.since t | none => true) then 15
    else d.getN pRefQl 0
  else if i = 1 then
    if !d.isFollower then 15 else
    match r.levelAt with
    | some t => if msU 100 < d.since t then 15 else qlClean r.level
    | none => 15
  else d.getN pRefQl i

/-- Whether the level is QL-FAILED rather than QL-DNU (R372, Table RC-2). -/
def Dev.levelFailed (d : Dev) (i : Nat) : Bool :=
  if i = 0 then
    d.clk.statusV || (match d.clk.lastSentence with | some t => secU 3 < d.since t | none => true)
  else if i = 1 then (match (d.ref 1).levelAt with | some t => msU 100 < d.since t | none => true)
  else false

/-- Whether the reference takes part: REF_ENABLE, LINK at a follower only, CELL with a carrier (R374, Table RC-5). -/
def Dev.refEnabled (d : Dev) (i : Nat) : Bool :=
  d.getB pRefEnable i && (i ≠ 1 || d.isFollower) && (i ≠ 2 || d.get pCellFreq ≠ 0)

/-- Whether EXT works in 1PPS mode (EXT_MODE, or the detected rate). -/
def Dev.extPps (d : Dev) : Bool :=
  if d.get pExtMode = 2 then true else if d.get pExtMode = 1 then false else (d.ref 3).pps

/-- The tracking and acquisition codes of a reference; EXT in 1PPS mode has its own (Table RC-1). -/
def Dev.refCodes (d : Dev) (i : Nat) : Nat × Nat :=
  if i = 3 && d.extPps then d.clk.ppsCodes else nth d.clk.codes i

/-- The highest bandwidth code of a reference (Table RC-1). -/
def Dev.refTopCode (d : Dev) (i : Nat) : Nat :=
  if i = 0 then 7 else if i = 1 then 20 else if i = 2 then 9 else if d.extPps then 7 else 18

/-- The lock window in ps; for CELL in ppt (Table RC-1, R381). -/
def Dev.lockWindow (d : Dev) (i : Nat) : Nat :=
  if i = 0 then 100000 else if i = 1 then 1000 else if i = 2 then 5000 else if d.extPps then 100000 else 2000

/-- The loop bandwidth of a code in micro-hertz (Table RC-4). -/
def bandwidthUHz (c : Nat) : Nat :=
  ([500, 1000, 2000, 5000, 10000, 20000, 50000, 100000, 200000, 500000, 1000000, 2000000, 5000000, 10000000,
    20000000, 50000000, 100000000, 200000000, 500000000, 1000000000, 2000000000] : List Nat).getD c 500

/-- Ten time constants of a bandwidth code, in µs: 10 / (2 pi f) (R381). -/
def tenTauUs (c : Nat) : Nat := 1591549430919 / bandwidthUHz c

/-- The XO temperature: core sensor or THERM_N (R383). -/
def Dev.xoTemp (d : Dev) : Int := ((nth d.pwr.temps (if d.get pXoTempSource = 1 then 7 else 0)).getD 400)

/-- The XO table bin of a temperature in 1/16 degree (R385). -/
def xoBin (t : Int) : Nat := min 75 ((t + 640) / 32).toNat

/-- The nearest learned bin below `k`, and its value. -/
def xoBelow (xo : List (Option Int)) : Nat → Option (Nat × Int)
  | 0 => (nth xo 0).map (fun v => (0, v))
  | k + 1 => match nth xo (k + 1) with
    | some v => some (k + 1, v)
    | none => xoBelow xo k

/-- The nearest learned bin at or above `k`, searching `n` more bins. -/
def xoAbove (xo : List (Option Int)) : Nat → Nat → Option (Nat × Int)
  | 0, _ => none
  | n + 1, k => match nth xo k with
    | some v => some (k, v)
    | none => xoAbove xo n (k + 1)

/-- X of the learned XO table: a learned bin, the interpolation between its neighbours, or 0 (R385). -/
def xoValue (xo : List (Option Int)) (t : Int) : Int :=
  let k := xoBin t
  match nth xo k with
  | some v => v
  | none =>
    match xoBelow xo k, xoAbove xo (76 - k) k with
    | some (a, va), some (b, vb) => va + (vb - va) * ((k : Int) - a) / ((b : Int) - a)
    | _, _ => 0

/-- The steering word held within its span (R370). -/
def clampWord (w : Int) : Int := clampI (-250000000) 250000000 w

/-- The steering word set, and traced for R383. -/
def Dev.setWord (d : Dev) (w : Int) : Dev :=
  let w' := clampWord w
  let keep := d.clk.trace.filter (fun e => d.since e.1 ≤ secU 61)
  (d.updClk (fun c => { c with word := w', trace := (d.time, w', d.xoTemp) :: keep })).set pSteerWord 0 w'

/-- One ramp step of the word towards its target (R371). -/
def Dev.rampWord (d : Dev) : Dev :=
  let r := d.get pSteerRamp
  let w := d.clk.word
  let t := d.clk.target
  if w = t then d else d.setWord (if w < t then min t (w + r) else max t (w - r))

/-- The OUTPUT_QL of R373. -/
def Dev.outputQl (d : Dev) : Nat :=
  match d.clk.state, d.clk.selected with
  | .locked, some i => d.refLevel i
  | .lost, _ => 15
  | _, _ => 11

/-- Mean of a traced quantity over the last `w` units ending at time `t`, weighted by how long each value held. -/
def traceMean (tr : List (Nat × Int × Int)) (pick : Int × Int → Int) (t w : Nat) : Int :=
  let start := t - w
  let step := fun (acc : Int × Nat × Nat) (e : Nat × Int × Int) =>
    let from' := max e.1 start
    if acc.2.2 ≤ from' then acc
    else (acc.1 + pick e.2 * ((acc.2.2 - from' : Nat) : Int), acc.2.1 + (acc.2.2 - from'), from')
  let r := tr.foldl step (0, 0, t)
  if r.2.1 = 0 then ((tr.head?.map (fun e => pick e.2)).getD 0) else r.1 / (r.2.1 : Int)

/-! ### Wall time (R392 to R396) -/

/-- The running wall time; none while it was never set. -/
def Dev.wallNow (d : Dev) : Option Nat :=
  if !d.clk.wallSet then none
  else if d.clk.anchorTkc ≤ d.tkc then some (d.clk.anchorWall + (d.tkc - d.clk.anchorTkc) / 62914560000)
  else some (d.clk.anchorWall - (d.clk.anchorTkc - d.tkc + 62914559999) / 62914560000)

/-- The uncertainty of wall time now, in µs (R394). -/
def Dev.uncNow (d : Dev) : Nat :=
  let s := d.since d.clk.uncAt
  let rate := if d.pwr.state = .active || d.pwr.state = .sleep then (if d.get pWallSource = 4 then 2 else 0) else 150
  d.clk.unc + rate * s / 62914560000

/-- The uncertainty brought up to now, before its rate of growth changes. -/
def Dev.settleUnc (d : Dev) : Dev := d.updClk (fun c => { c with unc := d.uncNow, uncAt := d.time })

/-- WALL_VALID (R394). -/
def Dev.wallValid (d : Dev) : Bool := d.clk.wallSet && d.uncNow ≤ 1000 * d.getN pWallUncLimit

/-- The high-water mark: the latest wall time held (R395). -/
def Dev.highWater (d : Dev) : Nat :=
  max (max d.ao.wallHw (d.getN pWallHighWater)) (if d.wallValid then d.wallNow.getD 0 else 0)

/-- The effective time E of R59. -/
def Dev.effTime (d : Dev) : Nat := d.highWater

/-- The always-on mark brought up to the mark in force. -/
def Dev.keepHw (d : Dev) : Dev := { d with ao := { d.ao with wallHw := d.highWater } }

/-- Wall time set from a source: the anchor, the source, the uncertainty, and WALL_TIME_SET when `event` asks
(R393, R394, R399, R402). -/
def Dev.setWall (d : Dev) (source flags anchorTkc wall uncUs : Nat) (event : Bool) : Dev :=
  let old := d.wallNow
  let d0 := d.keepHw
  let d1 := (d0.updClk (fun c =>
    { c with wallSet := true, anchorTkc := anchorTkc, anchorWall := wall, unc := uncUs, uncAt := d.time })).set
      pWallSource 0 (source : Nat)
  let d2 := d1.keepHw
  if event then
    let new := d2.wallNow.getD 0
    let delta : Int := match old with | some o => (new : Int) - o | none => 0
    d2.raiseDev 0x0885 (e8 source ++ e8 flags ++ zs 2 ++ e32 (old.getD 0) ++ e32 new ++ e32 d2.highWater ++ s32 delta)
  else d2

/-- A source that drove wall time is gone: it is HELD (R393). -/
def Dev.holdWall (d : Dev) (source : Nat) : Dev :=
  if d.get pWallSource = source then d.settleUnc.set pWallSource 0 4 else d

/-! ### State reporting (R389, R97) -/

/-- The clock state with its reports: CLOCK_STATE, OUTPUT_QL, DEV_IRQ[1] and CLOCK_STATE_CHANGED (R373, R389, R402). -/
def Dev.setClock (d : Dev) (st : ClockState) (cause : Nat) : Dev :=
  let old := d.clk.state
  if old = st then d else
  let d1 := (d.updClk (fun c => { c with state := st, lockedSince := if st = .locked then some d.time else none })).set
    pClockState 0 st.code
  let d2 := (d1.set pOutputQl 0 d1.outputQl).setDevIrq 1
  d2.raiseDev 0x0880 (e8 old.code ++ e8 st.code ++ e8 (d2.clk.selected.getD 255) ++
    e8 (match d2.clk.selected with | some i => d2.refLevel i | none => 15) ++ e8 cause)

/-- The selected reference changed (R97: REF and QL are part of CLOCK_MIRROR). -/
def Dev.setSelected (d : Dev) (s : Option Nat) : Dev :=
  if d.clk.selected = s then d else
  ((d.updClk (fun c => { c with selected := s })).set pSelectedRef 0 (s.getD 255 : Nat)).setDevIrq 1

/-- CLOCK_MIRROR (Table HR-6). -/
def Dev.clockMirror (d : Dev) : Nat :=
  d.clk.state.code + 16 * (d.clk.selected.getD 0) + 64 * d.clk.selected.isSome.toNat + 128 * d.wallValid.toNat +
    256 * (match d.clk.selected with | some i => d.refLevel i | none => 15)

end Sys2Proof.Machine
end

