-- ==== Sys2Proof/Machine/PermitOps.lean ====
section
/-! DEFINITION. Permit coverage, owner ranges and the binding of a band to a permit (R59 to R64, R440). -/

namespace Sys2Proof.Machine

/-- Half the widest occupied bandwidth of a rate code, in Hz (Table FB-3). -/
def halfBand (rate : Nat) : Nat := ([50000000, 25000000, 12500000, 6250000, 3125000] : List Nat).getD rate 0

/-- The occupied channel of a centre frequency and rate lies inside 380 MHz to 7,125 MHz (R245). -/
def inTuningRange (fc rate : Nat) : Bool := 380000000 + halfBand rate ≤ fc && fc + halfBand rate ≤ 7125000000

/-- A channel that a lane is to carry: the lane, the permit direction, centre and rate. -/
structure Channel where
  lane : Nat
  dir : Nat
  tdd : Bool := false
  fc : Nat
  rate : Nat

/-- The channel lies inside one owner range of its lane (R63, R64). -/
def Dev.inOwnerRange (d : Dev) (c : Channel) : Bool :=
  (nth d.ranges c.lane).any (fun r => match r with
    | some (a, b) => decide (a + halfBand c.rate ≤ c.fc ∧ c.fc + halfBand c.rate ≤ b)
    | none => false)

/-- The band entry covers the channel with the matching direction (R64); a TDD band asks for duplex TDD (Table
BP-1). -/
def PermitBand.covers (b : PermitBand) (c : Channel) : Bool :=
  b.direction = c.dir && (!c.tdd || b.duplex = 1) && decide (b.fStart + halfBand c.rate ≤ c.fc) &&
    decide (c.fc + halfBand c.rate ≤ b.fStop)

/-- The entry of the permit that covers a channel. -/
def Permit.entryFor (p : Permit) (c : Channel) : Option PermitBand := p.bands.find? (fun b => b.covers c)

/-- The permit has an entry for every channel. -/
def Permit.coversAll (p : Permit) (cs : List Channel) : Bool := cs.all (fun c => (p.entryFor c).isSome)

/-- The permit's topologies field allows the unit's topology (R26, R64). -/
def Permit.allows (p : Permit) (topology : Nat) : Bool := bit p.topologies topology

/-- The permits of a slot with their handles. -/
def Dev.permits (d : Dev) (slot : Nat) : List (Nat × Permit) :=
  ((d.slotN slot).permits.zipIdx).filterMap (fun e => e.1.map (fun p => (e.2, p)))

/-- R64 for channels of lanes the slot owns: none when they are allowed, else the status. -/
def Dev.permitStatus (d : Dev) (slot : Nat) (cs : List Channel) : Option Status :=
  let ps := d.permits slot
  let top := d.getN pTopology
  if !cs.all d.inOwnerRange then some .noPermit
  else if ps.any (fun p => p.2.state = .active && p.2.coversAll cs && p.2.allows top) then none
  else if ps.any (fun p => p.2.state = .active && p.2.coversAll cs) then some .noPermit
  else if ps.any (fun p => (p.2.state = .expired || p.2.state = .revoked) && p.2.coversAll cs) then some .permitExpired
  else some .noPermit

/-- R64 for one channel: DENIED for a lane of another slot, else as its permits and ranges decide. -/
def Dev.channelStatus (d : Dev) (slot : Nat) (c : Channel) : Option Status :=
  if d.owner c.lane ≠ slot then some .denied else d.permitStatus slot [c]

/-- The permit a band binds to: the ACTIVE permit of lowest handle that covers every channel and allows the topology
(R440). -/
def Dev.bindable (d : Dev) (slot : Nat) (cs : List Channel) : Option (Nat × Permit) :=
  (d.permits slot).find? (fun p => p.2.state = .active && p.2.coversAll cs && p.2.allows (d.getN pTopology))

/-- The code of a permit state (Table TI-9). -/
def PermitState.code : PermitState → Nat
  | .pending => 0 | .active => 1 | .expired => 2 | .revoked => 3

/-- The state of a permit of known validity at the effective time E (R59). -/
def permitStateAt (validFrom validUntil e : Nat) : PermitState :=
  if validUntil ≤ e then .expired else if validFrom ≤ e then .active else .pending

/-- The key identifier of an issuer key (R57). -/
def keyIdOf (key : List Byte) : List Byte := (sha256 key).take 8

/-- PERMIT_STATE_CHANGED (Table TI-10). -/
def Dev.permitEvent (d : Dev) (slot handle old new permitId : Nat) : Dev :=
  d.raiseSlot slot 0x0283 (e8 handle ++ e8 old ++ e8 new ++ zs 1 ++ e32 permitId ++ e32 d.effTime)

/-! ### Bands as configured (R438) -/

/-- The index of a band: slot × 8 + band_id (Table BP-6). -/
def bandIx (slot id : Nat) : Nat := slot * 8 + id

def Dev.band (d : Dev) (b : Nat) : Band := nth d.bands b
def Dev.updBand (d : Dev) (b : Nat) (f : Band → Band) : Dev := { d with bands := upd d.bands b f }
/-- BAND_STATE: 0 NONE, 1 IDLE, 2 STARTING, 3 BRIDGING, 4 HELD. -/
def Dev.bandState (d : Dev) (b : Nat) : Nat := d.getN pBandState b

/-- The lanes of a band's configuration. -/
def BandCfg.lanes (c : BandCfg) : List Nat := if c.tdd then [c.dlLane] else [c.dlLane, c.ulLane]

/-- The channels of a band's configuration (Table BP-1 step 5). -/
def BandCfg.channels (c : BandCfg) : List Channel :=
  if c.tdd then [{ lane := c.dlLane, dir := 2, tdd := true, fc := c.dlFreq, rate := c.dlRate }]
  else [{ lane := c.dlLane, dir := 0, fc := c.dlFreq, rate := c.dlRate },
        { lane := c.ulLane, dir := 1, fc := c.ulFreq, rate := c.ulRate }]

/-- The band configured on a lane (R438). -/
def Dev.laneBand (d : Dev) (lane : Nat) : Option Nat :=
  (List.range 64).find? (fun b => d.bandState b ≠ 0 && (d.band b).cfg.lanes.contains lane)

/-- The bands of a slot that exist. -/
def Dev.slotBands (d : Dev) (slot : Nat) : List Nat :=
  ((List.range 8).map (bandIx slot)).filter (fun b => d.bandState b ≠ 0)

/-- The bands that exist. -/
def Dev.bandIds (d : Dev) : List Nat := (List.range 64).filter (fun b => d.bandState b ≠ 0)

/-- A band STARTING, BRIDGING or HELD (R82, Table BP-1). -/
def Dev.bandBusy (d : Dev) (b : Nat) : Bool := 2 ≤ d.bandState b

end Sys2Proof.Machine
end

