-- ==== Sys2Proof/Machine/LaneOps.lean ====
section
/-! DEFINITION. The operations of a radio lane: temperatures, the PA table and the split of the gain, the front-end pins,
the lane state, and calibration (R249 to R270). -/

namespace Sys2Proof.Machine

def Dev.lane (d : Dev) (l : Nat) : Lane := nth d.lanes l
def Dev.updLane (d : Dev) (l : Nat) (f : Lane → Lane) : Dev := { d with lanes := upd d.lanes l f }
def Dev.convoy (d : Dev) (c : Nat) : Convoy := nth d.convoys c
def Dev.updConvoy (d : Dev) (c : Nat) (f : Convoy → Convoy) : Dev := { d with convoys := upd d.convoys c f }

/-- LANE_STATE: 0 OFF, 1 DOZE, 2 READY, 3 LOCK, 4 LISTEN, 5 SPEAK, 6 THROUGH, 7 CAL (Table RL-1). -/
def Dev.laneState (d : Dev) (l : Nat) : Nat := d.getN pLaneState l

/-- A lane is muted while its convoy outputs MUTE (R259, R346). -/
def Dev.laneMuted (d : Dev) (l : Nat) : Bool := (d.convoy l).muted

/-! ### Temperatures (R251, R264) -/

/-- A sensor of TEMP_GET, none where it reads 0x8000. -/
def Dev.sensor (d : Dev) (k : Nat) : Option Int := nth d.pwr.temps k

/-- The junction as the core sensor shows it; 25 °C before the first sample (log entry 1). -/
def Dev.coreTemp (d : Dev) : Int := (d.sensor 0).getD 400

/-- The junction: the highest of sensors 0 to 6 (R207). -/
def Dev.junction (d : Dev) : Int :=
  ((List.range 7).filterMap d.sensor).foldl max (d.coreTemp)

/-- The lane temperature: sensor 1 for L0 to L3, 2 for L4 to L7, the core sensor where that is absent (R251). -/
def Dev.laneTemp (d : Dev) (l : Nat) : Int := (d.sensor (if l < 4 then 1 else 2)).getD d.coreTemp

/-- T of R264, by PA_TEMP_SOURCE; an open THERM_N falls back to the lane sensor. -/
def Dev.paTemp (d : Dev) (l : Nat) : Int :=
  if d.get pPaTempSource l = 1 then (d.sensor 7).getD (d.laneTemp l) else d.laneTemp l

/-! ### The PA table (R263 to R270) -/

/-- A PA table read from its bytes. -/
def paTableOf (b : List Byte) : PaTable :=
  let nr := fld b 1 1
  let nt := fld b 2 1
  { flags := fld b 3 1, antDonor := fldS b 4 2, antService := fldS b 6 2, vRef := fld b 8 2, fbCoupling := fldS b 10 2
    rx := (List.range nr).map (fun k =>
      let o := 16 + 8 * k
      { gRx := fldS b o 2, inMax := fldS b (o + 2) 2, rfCode := fld b (o + 4) 1, lna := fld b (o + 5) 1 = 1 })
    tx := (List.range nt).map (fun k =>
      let o := 16 + 8 * nr + 16 * k
      { gTx := fldS b o 2, pMax := fldS b (o + 2) 2, rfAtten := fld b (o + 4) 1, paOff := bit (fld b (o + 5) 1) 0
        tempCoef := fldS b (o + 6) 2, supplyCoef := fldS b (o + 8) 2, idle := fld b (o + 10) 2
        full := fld b (o + 12) 2 }) }

/-- Neighbours compare as asked all along a list. -/
def chained (r : Int → Int → Bool) : List Int → Bool
  | a :: b :: t => r a b && chained r (b :: t)
  | _ => true

/-- The first failing check of Table RL-9, 0 when the table passes. -/
def paTableReason (total : Nat) (b : List Byte) : Nat :=
  let nr := fld b 1 1
  let nt := fld b 2 1
  let t := paTableOf b
  let rxField := fun k =>
    let o := 16 + 8 * k
    fld b (o + 4) 1 ≤ 63 && fld b (o + 5) 1 ≤ 1 && fld b (o + 6) 2 = 0
  let txField := fun k =>
    let o := 16 + 8 * nr + 16 * k
    fld b (o + 4) 1 ≤ 63 && fld b (o + 5) 1 ≤ 1 && fld b (o + 14) 2 = 0 && fld b (o + 10) 2 ≤ fld b (o + 12) 2
  if total ≠ 16 + 8 * nr + 16 * nt || b.length ≠ total then 1
  else if fld b 0 1 ≠ 1 then 2
  else if nr = 0 || 16 < nr || nt = 0 || 64 < nt then 3
  else if !chained (fun x y => decide (y < x)) (t.rx.map (·.gRx)) ||
      !chained (fun x y => decide (x < y)) (t.tx.map (·.pMax)) then 4
  else if 3 < t.flags || fld b 12 4 ≠ 0 || !(List.range nr).all rxField || !(List.range nt).all txField then 5
  else 0

/-- V_pa of R264 in mV. -/
def Dev.paVolt (d : Dev) (l : Nat) (t : PaTable) : Nat :=
  if bit t.flags 1 then d.pwr.vsys else d.getN pPaSupplyMv l

/-- c of R264 for an entry, in 1/16,384,000 dB. -/
def Dev.compOf (d : Dev) (l : Nat) (t : PaTable) (e : TxEntry) : Int :=
  e.tempCoef * (d.paTemp l - 400) * 1000 + e.supplyCoef * ((d.paVolt l t : Int) - t.vRef) * 16

/-- One 1/64 dB in the unit of `Lane.comp`. -/
def dBUnit : Int := 256000

/-- c recomputed for every TX entry of a lane (R264). -/
def Dev.recomp (d : Dev) (l : Nat) : Dev :=
  match (d.lane l).table with
  | some t => d.updLane l (fun x => { x with comp := t.tx.map (d.compOf l t) })
  | none => d

/-- The RX entry for an input power: one step down above in_max, one step up at or below the next entry's in_max less
3 dB (R265). -/
def rxMove (rx : List RxEntry) (k : Nat) (p : Int) : Nat :=
  if (nth rx k).inMax < p && k + 1 < rx.length then k + 1
  else if 0 < k && p ≤ (nth rx (k - 1)).inMax - 192 then k - 1 else k

/-- Moves down for as long as the input asks, at most the entries there are (R265). -/
def rxSettle (rx : List RxEntry) (p : Int) : Nat → Nat → Nat
  | 0, k => k
  | n + 1, k => let j := rxMove rx k p
    if j = k then k else rxSettle rx p n j

/-- D of R266 in 1/64 dB, rounded to nearest, before its clamp. -/
def dGain (g gRx : Int) (e : TxEntry) (c : Int) : Int := roundDiv ((g - gRx - e.gTx) * dBUnit - c) dBUnit

/-- The TX entry and D of R266: the first entry whose p_max_eff holds P_out and whose D does not pass +24 dB, else the
last entry with D clamped. -/
def txChoose (g gRx pOut : Int) : List (TxEntry × Int) → Nat → Option (Nat × Int)
  | [], _ => none
  | [e], k => some (k, clampI (-5120) 1536 (dGain g gRx e.1 e.2))
  | e :: f :: t, k =>
    if pOut * dBUnit ≤ e.1.pMax * dBUnit + e.2 && dGain g gRx e.1 e.2 ≤ 1536 then
      some (k, clampI (-5120) 1536 (dGain g gRx e.1 e.2))
    else txChoose g gRx pOut (f :: t) (k + 1)

/-- The lane receives through its own RX entries in LISTEN and THROUGH. -/
def receives (st : Nat) : Bool := st = 4 || st = 6
/-- The lane transmits in SPEAK and THROUGH. -/
def transmits (st : Nat) : Bool := st = 5 || st = 6

/-- G_rx in use: the lane's own RX entry where it receives, else what the receiving unit's sub-header carries (R267). -/
def Dev.gRxNow (d : Dev) (l : Nat) (t : PaTable) : Int :=
  if receives (d.laneState l) then (nth t.rx (if d.get pRxEntry l = 255 then 0 else d.getN pRxEntry l)).gRx
  else ((d.lane l).gRxRemote).getD ((nth t.rx 0).gRx)

/-- RX entry, TX entry and D brought to the input power and the convoy output (R265 to R267). -/
def Dev.split (d : Dev) (l : Nat) : Dev :=
  match (d.lane l).table, (d.lane l).pIn with
  | some t, some p =>
    let st := d.laneState l
    let d1 := if receives st then
        d.set pRxEntry l (rxSettle t.rx p t.rx.length (if d.get pRxEntry l = 255 then 0 else d.getN pRxEntry l) : Nat)
      else d
    let g := d1.get pConvoyOutput l
    if transmits st && !d1.laneMuted l then
      match txChoose g (d1.gRxNow l t) (p + g) (t.tx.zip (d1.lane l).comp) 0 with
      | some (k, x) => (d1.set pTxEntry l (k : Nat)).set pDigitalGain l x
      | none => d1
    else d1
  | _, _ => d

/-- The TX entry in use and its c. -/
def Dev.txNow (d : Dev) (l : Nat) : Option (TxEntry × Int) :=
  match (d.lane l).table with
  | some t => if d.get pTxEntry l = 255 then none else
      (t.tx.zip (d.lane l).comp)[d.getN pTxEntry l]?
  | none => none

/-- The output realised through the compensated table, in 1/64 dBm: P_in + G_rx + D + g_tx_eff (R269 OPEN). -/
def Dev.openOut (d : Dev) (l : Nat) : Option Int :=
  match (d.lane l).table, (d.lane l).pIn, d.txNow l with
  | some t, some p, some (e, c) => some (p + d.gRxNow l t + d.get pDigitalGain l + e.gTx + roundDiv c dBUnit)
  | _, _, _ => none

/-- p_max_eff of the last TX entry, rounded to 1/64 dB (R352). -/
def Dev.pMaxLast (d : Dev) (l : Nat) : Int :=
  match (d.lane l).table with
  | some t =>
    match (t.tx.zip (d.lane l).comp).getLast? with
    | some (e, c) => e.pMax + roundDiv c dBUnit
    | none => 0
  | none => 0

/-- PA supply power of a lane in 2^-32 mW at an output of `p` (1/64 dBm), by the first entry that holds it (R268). -/
def Dev.paPower32 (d : Dev) (l : Nat) (p : Int) : Nat :=
  match (d.lane l).table with
  | some t =>
    let es := t.tx.zip (d.lane l).comp
    match (es.find? (fun e => decide (p * dBUnit ≤ e.1.pMax * dBUnit + e.2))).orElse (fun _ => es.getLast?) with
    | some (e, c) => e.idle * 4294967296 + (e.full - e.idle) * Config.linear32 (p - e.pMax - roundDiv c dBUnit)
    | none => 0
  | none => 0

/-- The same in whole mW. -/
def Dev.paPower (d : Dev) (l : Nat) (p : Int) : Nat := d.paPower32 l p / 4294967296

/-- The gain of the transmit antenna of the lane's role (R268, R447). -/
def Dev.txAntGain (d : Dev) (l : Nat) : Int :=
  match (d.lane l).table with
  | some t => if (d.lane l).role.2 then t.antService else t.antDonor
  | none => 0

/-! ### Front-end pins (R259, R260) -/

/-- The logical pin levels of a lane's state (Table RL-4); before READY every output is low. A probe releases the mute path
of its transmitter by itself (R485). -/
def Dev.lanePinsOf (d : Dev) (l : Nat) : LanePins :=
  let x := d.lane l
  let st := d.laneState l
  let paOff := match d.txNow l with
    | some (e, _) => e.paOff
    | none => false
  let lna := match x.table with
    | some t => (nth t.rx (if d.get pRxEntry l = 255 then 0 else d.getN pRxEntry l)).lna
    | none => false
  if d.pwr.phase ≠ .ready || st ≤ 1 then {}
  else if st = 2 || st = 3 || st = 7 then { antRx := x.pins.antRx, antTx := x.pins.antTx }
  else if st = 4 then { lnaEn := lna, antRx := x.role.1, antTx := x.pins.antTx }
  else if st = 5 then
    { paEn := (x.probing || !d.laneMuted l) && !paOff, tr := x.tdd, antRx := x.pins.antRx, antTx := x.role.2 }
  else { paEn := (x.probing || !d.laneMuted l) && !paOff, lnaEn := lna, antRx := x.role.1, antTx := x.role.2 }

/-- The pins driven to the levels of the state. -/
def Dev.drivePins (d : Dev) (l : Nat) : Dev := d.updLane l (fun x => { x with pins := d.lanePinsOf l })

/-- The level at the pin: PIN_POLARITY inverts every output but Ln_PA_EN (R260). -/
def Dev.pinLevels (d : Dev) (l : Nat) : LanePins :=
  let p := (d.lane l).pins
  let v := d.getN pPinPolarity l
  if d.pwr.phase ≠ .ready then {} else
    { paEn := p.paEn, lnaEn := p.lnaEn != bit v 0, tr := p.tr != bit v 1, antRx := p.antRx != bit v 2,
      antTx := p.antTx != bit v 3 }

/-! ### The lane state (R248, R249) -/

/-- Every calibration entry dropped: reset, WATCH and OFF (Table RL-3). -/
def Dev.emptyStore (d : Dev) (l : Nat) : Dev :=
  (d.updLane l (fun x => { x with cal := List.replicate 64 none, active := none })).set pCalStoreUsed l 0

/-- A lane moved to a state: its store emptied at OFF, its pins driven, LANE_STATE_CHANGED where `cause` is given
(R249, R260, R280). -/
def Dev.setLaneState (d : Dev) (l new : Nat) (cause : Option Nat) : Dev :=
  let old := d.laneState l
  let d1 := d.set pLaneState l new
  let d2 := if new = 0 then d1.emptyStore l else d1
  let d3 := (d2.split l).drivePins l
  match cause with
  | some c => if old = new then d3 else
      d3.raiseLane l 0x0480 (e8 l ++ e8 old ++ e8 new ++ e8 c ++ e64 (d3.getN pLaneFreq l))
  | none => d3

/-! ### Calibration (R251, R252, R274) -/

/-- The entry LOCK would use: same frequency and rate, calibrated within 20 °C of the lane (R251). -/
def Dev.calMatch (d : Dev) (l fc rate : Nat) : Option Nat :=
  (List.range 64).find? (fun k => match nth (d.lane l).cal k with
    | some e => e.freq = fc && e.rate = rate && decide ((e.calTemp - d.laneTemp l).natAbs ≤ 320)
    | none => false)

/-- Where a full calibration is stored: the entry of that frequency and rate, an empty one, the least recently used
one that is not pinned, or nowhere (R252). -/
def calPlace (cal : List (Option CalEntry)) (fc rate : Nat) : Option Nat :=
  let ks := List.range 64
  let same := ks.find? (fun k => match nth cal k with
    | some e => e.freq = fc && e.rate = rate
    | none => false)
  let free := ks.find? (fun k => (nth cal k).isNone)
  let lru := ks.foldl (fun best k => match nth cal k with
    | some e => if e.pinned.isSome then best else
        match best with
        | some (_, u) => if e.used < u then some (k, e.used) else best
        | none => some (k, e.used)
    | none => best) (none : Option (Nat × Nat))
  same.orElse (fun _ => free.orElse (fun _ => lru.map (·.1)))

/-- A full calibration stored (R252); its codes and corrections are free values. Answers the place, and what stood
there. The drift starts again. -/
def Dev.fullCal (d : Dev) (l fc rate : Nat) (pin : Option Nat) : Dev × Option (Nat × Option CalEntry) :=
  let (v, d1) := d.measure 10
  let x := d1.lane l
  let place := calPlace x.cal fc rate
  let prev := match place with
    | some k => nth x.cal k
    | none => none
  let kept := match prev with
    | some e => if e.freq = fc && e.rate = rate then e.pinned else none
    | none => none
  let e : CalEntry :=
    { freq := fc, rxSynth := (nth v 0).natAbs % 4294967296, txSynth := (nth v 1).natAbs % 4294967296,
      calTemp := d1.laneTemp l, rate := rate, pinned := pin.orElse (fun _ => kept), corr := v.drop 2,
      calCount := inc32 x.calCount, used := x.useClock + 1 }
  let d2 := d1.updLane l (fun x =>
    { x with calCount := inc32 x.calCount, useClock := x.useClock + 1, bgSteps := 0, driftSteps := 0, active := place
             cal := match place with
               | some k => upd x.cal k (fun _ => some e)
               | none => x.cal })
  (d2.set pCalStoreUsed l (((d2.lane l).cal.filter (·.isSome)).length : Nat), place.map (fun k => (k, prev)))

/-- Background calibration runs again on a lane (R285). -/
def Dev.bgRestore (d : Dev) (l : Nat) : Dev := d.updLane l (fun x => { x with bgDiscards := 0, bgStopped := false })

/-- A pass through LOCK: the stored entry, or a full calibration (R251). Answers the cal code of Table RL-8 and what the
calibration replaced. -/
def Dev.passLock (d : Dev) (l : Nat) (force : Bool) : Dev × Nat × Option (Nat × Option CalEntry) :=
  let fc := d.getN pLaneFreq l
  let rate := d.getN pLaneRate l
  match (if force then none else d.calMatch l fc rate) with
  | some k =>
    (d.updLane l (fun x =>
      { x with useClock := x.useClock + 1, active := some k
               cal := upd x.cal k (fun o => o.map (fun e => { e with used := x.useClock + 1 })) }), 0, none)
  | none =>
    let (d1, u) := d.fullCal l fc rate none
    (d1, 1, u)

/-- The active store entry of a lane. -/
def Dev.activeCal (d : Dev) (l : Nat) : Option CalEntry :=
  match (d.lane l).active with
  | some k => nth (d.lane l).cal k
  | none => none

/-- The lane temperature less cal_temp of the active entry; 0 without one (CAL_DRIFT_NOW). -/
def Dev.calDrift (d : Dev) (l : Nat) : Int :=
  match d.activeCal l with
  | some e => d.laneTemp l - e.calTemp
  | none => 0

/-- The 40 bytes of a calibration store entry (Table RL-3); an empty entry reads zeros. -/
def calBytes : Option CalEntry → List Byte
  | none => zs 40
  | some e =>
    e64 e.freq ++ e32 e.rxSynth ++ e32 e.txSynth ++ s16 e.calTemp ++
      e8 (flags [true, e.pinned.isSome, e.refined]) ++ e8 e.rate ++ (e.corr.map s16).flatten ++ e32 e.calCount

/-- The time a step took, a free value within its bound in µs (R249). -/
def Dev.took (d : Dev) (bound : Nat) : Nat × Dev :=
  let (v, d1) := d.measure 1
  ((nth v 0).natAbs % (bound + 1), d1)

end Sys2Proof.Machine
end

