-- ==== Sys2Proof/Machine/ChainOps.lean ====
section
/-! DEFINITION. The operations of the filter chains: delays, output periods, decimation, and the partition of a chain's
events (R315 to R324, R340). -/

namespace Sys2Proof.Machine

def Dev.chain (d : Dev) (c : Nat) : Chain := nth d.chains c
def Dev.updChain (d : Dev) (c : Nat) (f : Chain → Chain) : Dev := { d with chains := upd d.chains c f }

/-- Kind of a chain code: 0 X, 1 T, 2 P, 3 SC, 4 CR, 5 M, 6 B (Table FC-1). -/
def chainKind (c : Nat) : Nat := c / 8

/-- The lane of an X, T or P chain. -/
def chainLane (c : Nat) : Nat := c % 8

/-- A chain of a lane that the part lacks (R315). -/
def lacksChain (d : Dev) (c : Nat) : Bool := d.factory.variantH && c < 24 && 4 ≤ c % 8

/-- Stages of a chain kind (Table FC-2). -/
def chainStages (c : Nat) : Nat := ([6, 5, 3, 4, 4, 4, 3] : List Nat).getD (chainKind c) 0

/-- Taps of a lane preset (Table FC-3). -/
def presetTaps (p : Nat) : Nat := ([83, 181, 365] : List Nat).getD p 0

/-- Group delay of a preset's final FIR in 1/256 sample. -/
def presetDelay (p : Nat) : Nat := (presetTaps p - 1) * 128

/-- The stages' delay at a lane rate with a final FIR of `f` 1/256 samples, in 1/256 ticks (R320). -/
def stageDelay (rate f : Nat) : Nat :=
  let rc := 2 ^ rate
  256 * (rc - 1) + 1408 * rc + 5888 * rc + f * 2 * rc

/-- The X and T delays in 1/256 ticks (R320). -/
def xDelay (rate f : Nat) : Nat := 6272 + stageDelay rate f
def tDelay (rate f : Nat) : Nat := 18944 + stageDelay rate f

/-- The output period of an X chain in 1/256 ticks: 4 R_c input periods of half a tick (R316). -/
def xPeriod (rate : Nat) : Nat := 512 * 2 ^ rate

/-- The final FIR's delay of a lane's X chain as configured. -/
def Dev.firDelay (d : Dev) (l : Nat) : Nat :=
  match d.get pChainPreset l, (d.chain l).fir with
  | 5, some f => f.delay
  | p, _ => presetDelay p.toNat

/-- X and T delay of a lane as configured (R320). -/
def Dev.laneX (d : Dev) (l : Nat) : Nat := xDelay (d.getN pLaneRate l) (d.firDelay l)
def Dev.laneT (d : Dev) (l : Nat) : Nat := tDelay (d.getN pLaneRate l) (presetDelay (d.getN pChainPreset (8 + l)))

/-- 1/256 ticks as ns, rounded to nearest. -/
def ticksNs (t : Nat) : Nat := (2 * t * 100000 + 6291456) / (2 * 6291456)

/-- R_c of the SC record. -/
def ScRecord.rc (r : ScRecord) : Nat := r.decim / max 1 r.firDecim

/-- The FIR bank an SC record uses: the slot's own, or the built-in 63-tap compensator (R322). -/
def Dev.scFir (d : Dev) (r : ScRecord) : Option Fir := if r.loaded then nth d.scBanks r.slot else none

/-- CHAIN_DECIMATION (R316, R322). -/
def Dev.chainDecim (d : Dev) (c : Nat) : Nat :=
  let k := chainKind c
  if k ≤ 1 then 4 * 2 ^ d.getN pLaneRate (chainLane c)
  else if k = 2 || k = 6 then 1024
  else if k = 3 then d.sc.decim
  else if k = 5 then 2500
  else if d.get pCourierRate = 0 then 32 else 16

/-- CHAIN_OUT_PERIOD in 1/256 ticks. -/
def Dev.chainPeriod (d : Dev) (c : Nat) : Nat :=
  let k := chainKind c
  if k = 0 then xPeriod (d.getN pLaneRate (chainLane c))
  else if k = 1 then 128
  else if k = 2 || k = 6 then 256 * 24576
  else if k = 3 then 256 * d.sc.decim
  else if k = 5 then 256 * 61440
  else 256 * 20 * d.chainDecim c

/-- CHAIN_GROUP_DELAY in 1/256 ticks (R324). -/
def Dev.chainDelay (d : Dev) (c : Nat) : Nat :=
  let k := chainKind c
  if k = 0 then d.laneX (chainLane c)
  else if k = 1 then d.laneT (chainLane c)
  else if k = 2 || k = 6 then 256 * 8 + 1023 * 24 * 128
  else if k = 3 then
    if d.sc.preset = 4 then 256 * 20 + (d.sc.decim - 1) * 128
    else 256 * 20 + d.sc.order * (d.sc.rc - 1) * 128 +
      (match d.scFir d.sc with
        | some f => f.delay
        | none => 31 * 256) * d.sc.rc
  else if k = 5 then 512 + (7497 * 6291456 + 1000) / 2000 + Config.meterFirDelay
  else 256 * 12 + 3 * (d.chainDecim c / 2 - 1) * 20 * 128 + 15 * (d.chainDecim c / 2) * 20 * 256

/-- An event of a chain in the partition of its owner (R340). -/
def Dev.chainEvent (d : Dev) (c code : Nat) (payload : List Byte) : Dev :=
  let k := chainKind c
  if k ≤ 2 then d.raiseLane (chainLane c) code payload
  else if k = 5 then d.raiseMetro code payload
  else if k = 3 then
    match d.sc.job with
    | some s => d.raiseSlot s code payload
    | none => d.raiseDev code payload
  else d.raiseDev code payload

end Sys2Proof.Machine
end

