-- ==== Sys2Proof/Machine/LedgerOps.lean ====
section
/-! DEFINITION. Energy amounts, reservations, and the life of a job (R221, R230 to R235). -/

namespace Sys2Proof.Machine

/-- µJ as reported mJ, rounded towards zero (R221). -/
def mJ (u : Int) : Int := Int.tdiv u 1000

/-- GRID mode (R228). -/
def Dev.isGrid (d : Dev) : Bool := d.get pLedgerMode = 1

/-- BAT_ENERGY in µJ as the ledger counts it: HARD_RESERVE in cold budget (R222, R243). -/
def Dev.batUj (d : Dev) : Int :=
  if d.getB pColdBudget || d.led.invalidHold then d.get pHardReserve * 1000 else d.led.bat

/-- The pool in µJ. -/
def Dev.poolUj (d : Dev) : Int := d.batUj - d.get pHardReserve * 1000 - d.get pOwnerReserve * 1000

/-- The open jobs of a slot with their handles. -/
def Dev.jobs (d : Dev) (slot : Nat) : List (Nat × Job) :=
  ((nth d.led.jobs slot).zipIdx).filterMap (fun e => e.1.map (fun j => (e.2, j)))

def Dev.jobAt (d : Dev) (slot h : Nat) : Option Job := nth (nth d.led.jobs slot) h

/-- The reservation a job holds, in mJ (R232, R235). -/
def Job.reservation (j : Job) : Int :=
  if j.standing then j.rate * 60
  else if j.started.isSome then max 0 ((j.estimate : Int) - mJ j.consumed) else j.estimate

/-- QUOTA_RESERVED: the open reservations of a slot in mJ. -/
def Dev.reserved (d : Dev) (slot : Nat) : Int := (d.jobs slot).foldl (fun a e => a + e.2.reservation) 0

/-- available_s of R232 in mJ. -/
def Dev.available (d : Dev) (slot : Nat) : Int :=
  if slot = 0 then mJ d.batUj - d.get pHardReserve - d.reserved 0 else mJ (nth d.led.balance slot) - d.reserved slot

/-- The ledger's level bits. -/
def Dev.level (d : Dev) (k : Nat) : Bool := bit (d.getN pLedgerLevel) k

/-- A slot's start is barred: TENANT_FLOOR for a tenant, HARD_HOLD for every slot (R224, R225). -/
def Dev.floorBars (d : Dev) (slot : Nat) : Bool := (slot ≠ 0 && d.level 1) || d.level 3

/-- The NOT_YET of JOB_ESTIMATE and JOB_ADMIT before the first estimate (R197, R222). -/
def Dev.estimateWait (d : Dev) : Option Nat :=
  if d.led.estimated then none else
  match d.pwr.readyAt with
  | some t =>
    let e := d.since t
    if msU 100 ≤ e then none else some (max 1 (toMsUp (msU 100 - e)))
  | none => some 100

/-- What JOB_ADMIT answers a reservation it cannot hold, in mJ (R222, R224, R225, R232, R236). -/
def Dev.admitRefusal (d : Dev) (slot : Nat) (reservation : Int) : Option Reply :=
  match d.estimateWait with
  | some ms => some (notYet ms)
  | none =>
    if d.floorBars slot then some (fail .state)
    else if !d.isGrid && (d.available slot < reservation || (slot ≠ 0 && nth d.led.exhausted slot && d.get pExhaustAction slot ≠ 2)) then
      some (fail .exhausted)
    else if 16 ≤ (d.jobs slot).length then some (fail .wouldExceed)
    else none

/-- The job table of a slot changed, with JOBS_OPEN. -/
def Dev.updJobs (d : Dev) (slot : Nat) (f : List (Option Job) → List (Option Job)) : Dev :=
  let d1 : Dev := { d with led := { d.led with jobs := upd d.led.jobs slot f } }
  d1.set pJobsOpen slot ((d1.jobs slot).length : Nat)

/-- A job put in the lowest free handle of its slot. -/
def Dev.openJob (d : Dev) (slot : Nat) (j : Job) : Nat × Dev :=
  let h := ((List.range 16).find? (fun k => (d.jobAt slot k).isNone)).getD 0
  (h, d.updJobs slot (fun js => upd js h (fun _ => some j)))

/-- A start command's job handle (R234): 0xFFFF admits the job here, the handle of an admitted job starts that one, any
other is BAD_ARG; a level that bars starts answers STATE (R224, R225). -/
def Dev.startJob (d : Dev) (slot handle : Nat) (j : Job) : Except Reply (Nat × Dev) :=
  let run : Job := { j with admitted := d.time, started := some d.time }
  if d.floorBars slot then .error (fail .state) else
  if handle = 65535 then
    match d.admitRefusal slot j.reservation with
    | some rep => .error rep
    | none => .ok (d.openJob slot run)
  else
    match (if handle < 16 then d.jobAt slot handle else none) with
    | some a =>
      if a.started.isSome || (a.opcode ≠ j.opcode && a.opcode ≠ 0) then .error (fail .badArg)
      else .ok (handle, d.updJobs slot (fun js => upd js handle (fun _ => some
        { run with estimate := a.estimate, rate := a.rate, duration := a.duration })))
    | none => .error (fail .badArg)

/-- A job ends: its reservation is released and JOB_ENDED raised (R235, Table EL-7). -/
def Dev.endJob (d : Dev) (slot handle reason : Nat) : Dev :=
  match (if handle < 16 then d.jobAt slot handle else none) with
  | none => d
  | some j =>
    let ms := match j.started with
      | some t => min 4294967295 (toMs (d.since t))
      | none => 0
    let d1 := d.updJobs slot (fun js => upd js handle (fun _ => none))
    d1.raiseSlot slot 0x0385 (e8 handle ++ e8 reason ++ e16 j.opcode ++
      e32 (min 4294967295 (if j.standing then j.rate else j.estimate)) ++
      e32 (min 4294967295 (mJ j.consumed).toNat) ++ e32 ms)

/-- LANE_CORE_RATE of a lane state (Table EL-2). -/
def coreRate (st : Nat) : Nat := ([0, 0, 60, 160, 380, 440, 780, 300] : List Nat).getD st 0

/-- Whether a slot has a lane out of OFF and DOZE, other than those listed. -/
def Dev.slotAwake (d : Dev) (slot : Nat) (but : List Nat) : Bool :=
  d.laneIds.any (fun l => d.owner l = slot && !but.contains l && 2 ≤ d.laneState l)

/-- CHG_EN is active while MAINS_OK is high, CHARGE_ENABLE is 1 and THERMAL_STATE is not SHUTDOWN (R228). -/
def Dev.driveChg (d : Dev) : Dev :=
  { d with pins := { d.pins with
      chgEn := d.pwr.phase = .ready && d.pins.mainsOk && d.getB pChargeEnable && d.get pThermalState ≠ 2 } }

end Sys2Proof.Machine
end

