-- ==== Sys2Proof/Machine/ConvoyOps.lean ====
section
/-! DEFINITION. The operations of a convoy that other chapters use: its limits, mute sources, mute and release, the holds
that keep it muted, and the isolation estimate (R343, R346, R347, R358). -/

namespace Sys2Proof.Machine

/-- One output unit with its 24 fractional bits (R345). -/
def q24 : Int := 16777216

/-- OUT_MIN in the output encoding (Table CV-1). -/
def outMin (c : Nat) : Int := if c < 8 then -640 else 0

/-- Encoding steps to the output unit: 1/64 dB for a lane convoy, whose unit is 1 dB; 1 for C8 and C9. -/
def encPerUnit (c : Nat) : Int := if c < 8 then 64 else 1

/-- An encoded output as a 24-bit fraction of the unit. -/
def toQ (c : Nat) (v : Int) : Int := v * q24 / encPerUnit c

/-- A 24-bit fraction rounded to the encoding (R345). -/
def fromQ (c : Nat) (v : Int) : Int := roundDiv (v * encPerUnit c) q24

def loQ (c : Nat) : Int := toQ c (outMin c)
def hiQ (c : Nat) : Int := toQ c (convoyOutMax c)
def clampQ (c : Nat) (v : Int) : Int := clampI (loQ c) (hiQ c) v

/-- The drover's index in the parameter store. -/
def droverIx (c k : Nat) : Nat := c * 8 + k

def Dev.drover (d : Dev) (c k : Nat) : Drover := nth (d.convoy c).dr k
def Dev.updDrover (d : Dev) (c k : Nat) (f : Drover → Drover) : Dev :=
  d.updConvoy c (fun x => { x with dr := upd x.dr k f })

/-- DROVER_STATE: 0 UNUSED, 1 CLOSED, 2 OPEN; D1 of a lane convoy follows the unit's role (Table CV-6). -/
def Dev.droverState (d : Dev) (c k : Nat) : Nat :=
  if k = 1 then (if c < 8 && d.isFollower then 1 else 0) else d.getN pDroverState (droverIx c k)

/-- I_eff of a lane now: its target, reached at 3 dB/s while it rises from STALE (Table CV-4). -/
def Iso.eff (i : Iso) (now : Nat) : Int :=
  match i.riseAt with
  | some t => min i.target (i.riseFrom + 192 * ((now - t : Nat) : Int) / 62914560000)
  | none => i.target

def Dev.iEff (d : Dev) (l : Nat) : Int := (d.convoy l).iso.eff d.time

/-- Whether a band of the lane is started: BRIDGING, STARTING or HELD. -/
def Dev.laneStarted (d : Dev) (l : Nat) : Bool :=
  match d.laneBand l with
  | some b => 2 ≤ d.bandState b
  | none => false

/-- r − y of D4: the worse of its two directions (Table CV-2; log entry 35). -/
def Convoy.errD4 (x : Convoy) : Option (Int × Int) :=
  match x.d4, x.d4d with
  | some (r, y), some (q, z) => if r - y ≤ q - z then some (r - y, y) else some (q - z, z)
  | some (r, y), none => some (r - y, y)
  | none, some (q, z) => some (q - z, z)
  | none, none => none

/-- Whether D3 or D4 has computed its v below OUT_MIN at its last step (R346). -/
def Drover.below (r : Drover) (c : Nat) : Bool :=
  match r.v with
  | some v => decide (v < loQ c)
  | none => false

/-- The mute sources of a lane convoy (R346, Table CV-8). D3 is judged on I_eff − ISO_MARGIN, the value at which it
rests, and on its last v; D4 on its last v, and during MUTE, when it does not step, on Kp × e + I + d of its present
error (log entry 22). -/
def Dev.muteSources (d : Dev) (c : Nat) : Nat :=
  if 8 ≤ c then 0 else
  let x := d.convoy c
  let d3 := d.droverState c 3
  let d4 := d.droverState c 4
  flags
    [ d.get pHostCeiling c = -32768,
      d.isFollower && (x.aged || (match x.remote with
        | some r => r = -32768
        | none => true)),
      d3 = 1 && x.iso.running &&
        (decide (d.iEff c - d.get pIsoMargin c < outMin c) || (!x.muted && (nth x.dr 3).below c)),
      d4 = 1 && (if x.muted then (match x.errD4 with
          | some (e, _) => decide ((nth x.dr 4).kp * (e * 262144) / q24 + (nth x.dr 4).i + (nth x.dr 4).d < loQ c)
          | none => false)
        else (nth x.dr 4).below c),
      d3 = 2 || d4 = 2,
      x.backoffEnd.isSome,
      x.exhausted,
      x.hold ≠ 0 ]

/-- The convoy outputs MUTE from now: the mute path of the lane is asserted, the ramp abandoned (R346, R259). -/
def Dev.muteConvoy (d : Dev) (c : Nat) : Dev :=
  if 8 ≤ c || (d.convoy c).muted then d else
  let out := d.get pConvoyOutput c
  let d1 := d.updConvoy c (fun x =>
    { x with muted := true, ramp := none, lastOut := if out = -32768 then x.lastOut else some out,
             winnerAt := d.time, limitedSince := none,
             starveSince := if d.laneStarted c then some d.time else none, starveReported := false })
  ((d1.set pConvoyOutput c (-32768)).set pConvoyWinner c 255).drivePins c

/-- A hold of mute source bit 7 is put on the convoy, and the lane mutes: 0 no bridging band, 1 a trigger of the band, 2
the ledger, 3 the escalation of R181, 4 a shutdown sequence, 5 a change of mode. -/
def Dev.hold (d : Dev) (c k : Nat) : Dev :=
  (d.updConvoy c (fun x => { x with hold := x.hold ||| 2 ^ k })).muteConvoy c

/-- A hold is taken off; the convoy leaves MUTE at its next control sample once nothing else holds it (R347). -/
def Dev.unhold (d : Dev) (c k : Nat) : Dev :=
  d.updConvoy c (fun x => { x with hold := if bit x.hold k then x.hold - 2 ^ k else x.hold })

/-- A trip mutes a lane: held by its band's triggers, or by the convoy alone. A trip during a release ramp leaves the output from
before the first trip for the next G_start (R466). -/
def Dev.tripMute (d : Dev) (l : Nat) (alone : Bool) : Dev :=
  let x := d.convoy l
  let d1 := if alone then d.muteConvoy l else d.hold l 1
  if x.ramp.isSome && x.lastOut.isSome then d1.updConvoy l (fun y => { y with lastOut := x.lastOut }) else d1

/-- Every lane of the part held. -/
def Dev.holdAll (d : Dev) (k : Nat) : Dev := d.laneIds.foldl (fun e l => e.hold l k) d
def Dev.unholdAll (d : Dev) (k : Nat) : Dev := d.laneIds.foldl (fun e l => e.unhold l k) d

/-- G_start of the next release: what a restart path names, else the last output less 20 dB, OUT_MIN without one; at
most LADDER (R347, R360). -/
def Dev.gStart (d : Dev) (c : Nat) : Int :=
  let x := d.convoy c
  let g := match x.restart, x.lastOut with
    | some (g, _), _ => g
    | none, some o => o - 1280
    | none, none => outMin c
  max (outMin c) (match x.ladder with
    | some l => min g l
    | none => g)

/-- The estimate of a lane turns STALE: cause 0 shock, 1 retune, 2 PA table, 3 held, 4 oscillation (Table CV-4). Before a
first estimate the state stays NONE; the window in progress is discarded in every case. -/
def Dev.staleIso (d : Dev) (l cause : Nat) : Dev :=
  let i := (d.convoy l).iso
  if !i.running then d else
  match i.last with
  | none => d.updConvoy l (fun x => { x with iso := { x.iso with fresh := false, staleAt := some d.time } })
  | some v =>
    let d1 := d.updConvoy l (fun x =>
      { x with iso := { x.iso with target := v - 640, riseAt := none, fresh := false, staleAt := some d.time
                                   heldSince := none } })
    let d2 := (d1.set pIsoState l 4).set pIsoIEff l (v - 640)
    d2.raiseLane l 0x0781 (e8 l ++ e8 cause ++ s16 v ++ s16 (v - 640))

/-- The estimator and detector of a path start afresh, or stop (R357, R358, R360). -/
def Dev.startPath (d : Dev) (l : Nat) (running : Bool) : Dev :=
  let d1 := d.updConvoy l (fun x =>
    { x with iso := { running := running }, exhausted := false, backoffEnd := none, ladder := none, oscAt := none,
             lastOut := none, restart := none, aged := false })
  (((d1.set pIsoState l 0).set pIsoEstimate l (-32768)).set pIsoIEff l (-32768)).set pOscRung l 0

/-- DROVER_STATE_CHANGED (Table CV-9). -/
def Dev.convoyEvent (d : Dev) (c code : Nat) (payload : List Byte) : Dev :=
  if c < 8 then d.raiseLane c code payload else d.raiseDev code payload

/-- The defaults that a lane's move to another slot restores (R363). -/
def Dev.convoyDefaults (d : Dev) (c : Nat) : Dev :=
  let d1 := ([6, 7] : List Nat).foldl (fun e k =>
    (e.updDrover c k (fun _ => droverDefault c k)).set pDroverState (droverIx c k) (paramDefault pDroverState (droverIx c k))) d
  let d2 := ((d1.set pHostCeiling c (paramDefault pHostCeiling c)).set pHostRiseRate c (paramDefault pHostRiseRate c)).updConvoy c
    (fun x => { x with u0 := none })
  let d3 := (List.range 8).foldl (fun e k => e.setNv pSupervisorLimit (droverIx c k) 5000) d2
  d3.setNv pStarveLimit c 5000

end Sys2Proof.Machine
end

