-- ==== Sys2Proof/Machine/TollOps.lean ====
section
/-! DEFINITION. The operations of the Tollbook: metrology time, the local calendar, tariffs, billing periods and their
snapshots, the register blocks, service time, and what a provision resets (R498 to R514). -/

namespace Sys2Proof.Machine

def Dev.updToll (d : Dev) (f : Toll → Toll) : Dev := { d with toll := f d.toll }
def Dev.updRegs (d : Dev) (f : TollRegs → TollRegs) : Dev := d.updToll (fun t => { t with regs := f t.regs })

/-! ### Arithmetic -/

/-- The integer square root, bit by bit. -/
def isqrtGo (n : Nat) : Nat → Nat → Nat
  | 0, r => r
  | k + 1, r => if (r + 2 ^ k) * (r + 2 ^ k) ≤ n then isqrtGo n k (r + 2 ^ k) else isqrtGo n k r

/-- The square root of `n`, rounded down. -/
def isqrt (n : Nat) : Nat := isqrtGo n 64 0

/-! ### The local calendar (R503, R505, R507) -/

/-- Days from 2000-01-01 to a date of the Gregorian calendar. -/
def dayOf (y m dd : Nat) : Nat :=
  let yy := if m ≤ 2 then y - 1 else y
  let mp := if m ≤ 2 then m + 9 else m - 3
  let yoe := yy % 400
  yy / 400 * 146097 + (yoe * 365 + yoe / 4 - yoe / 100 + ((153 * mp + 2) / 5 + dd - 1)) - 730425

/-- The date of a day counted from 2000-01-01, as year, month and day. -/
def civil (day : Nat) : Nat × Nat × Nat :=
  let z := day + 730425
  let doe := z % 146097
  let yoe := (doe - doe / 1460 + doe / 36524 - doe / 146096) / 365
  let doy := doe - (365 * yoe + yoe / 4 - yoe / 100)
  let mp := (5 * doy + 2) / 153
  let m := if mp < 10 then mp + 3 else mp - 9
  (yoe + z / 146097 * 400 + (if m ≤ 2 then 1 else 0), m, doy - (153 * mp + 2) / 5 + 1)

/-- Metrology time M_t: the latest of wall time while valid, the high-water mark and MT_MARK (R503). -/
def Dev.metroTime (d : Dev) : Nat := max d.effTime d.toll.regs.mtMark

/-- utc_offset of the active table in minutes; 0 without one. -/
def Dev.utcOffset (d : Dev) : Int :=
  match d.toll.table with
  | some b => fldS b 2 2
  | none => 0

/-- Local time L of a metrology time, not below 0 (R503). -/
def Dev.localTime (d : Dev) (mt : Nat) : Nat := ((mt : Int) + 60 * d.utcOffset).toNat

/-- The local day of a table that names its day type: a dated special day, then an every-year one, then the week map
(R505). -/
def dayType (b : List Byte) (day : Nat) : Nat :=
  let (y, m, dd) := civil day
  let special := fun (year : Nat) => (List.range 32).findSome? (fun k =>
    let o := 296 + 8 * k
    if fld b o 2 = year && fld b (o + 2) 1 = m && fld b (o + 3) 1 = dd then some (fld b (o + 4) 1) else none)
  match special y, special 0 with
  | some t, _ => t
  | none, some t => t
  | none, none => fld b (16 + (day + 5) % 7) 1

/-- The tariff in force at a metrology time (R505): that of the last switch point of the day type at or before the
minute. -/
def Dev.tariffAt (d : Dev) (mt : Nat) : Nat :=
  match d.toll.table with
  | none => 1
  | some b =>
    let l := d.localTime mt
    let o := 24 + 68 * dayType b (l / 86400)
    let minute := l % 86400 / 60
    (List.range (fld b o 1)).foldl (fun t k =>
      if fld b (o + 4 + 4 * k) 2 ≤ minute then fld b (o + 6 + 4 * k) 1 else t) 1

/-- The day type of a metrology time; 0 without a table. -/
def Dev.dayTypeAt (d : Dev) (mt : Nat) : Nat :=
  match d.toll.table with
  | some b => dayType b (d.localTime mt / 86400)
  | none => 0

/-- The first boundary after a local time, in local time (R507): 0 DAILY, 1 MONTHLY, 2 COMMAND. -/
def nextBoundary (mode minute l : Nat) : Option Nat :=
  if mode = 0 then
    let b := l / 86400 * 86400 + 60 * minute
    some (if l < b then b else b + 86400)
  else if mode = 1 then
    let (y, m, _) := civil (l / 86400)
    let b := dayOf y m 1 * 86400 + 60 * minute
    some (if l < b then b else (if m = 12 then dayOf (y + 1) 1 1 else dayOf y (m + 1) 1) * 86400 + 60 * minute)
  else none

/-! ### Register blocks (Table TB-5, Table TB-6) -/

/-- A register of µJ in whole mWh: 3.6 J each. -/
def mWh (uj : Nat) : Nat := uj / 3600000

/-- The import total: exactly the sum of the import registers (R498). -/
def importTotal (imports : List Nat) : Nat := (imports.map mWh).foldl (· + ·) 0

/-- The open period as a snapshot would hold it. -/
def Dev.devBlock (d : Dev) (closed cause : Nat) : Snapshot :=
  let r := d.toll.regs
  { period := r.period, opened := r.opened, closed := closed, cause := cause, flags := r.flags, imports := r.imports
    exported := r.exported, tableId := d.getN pTariffTableId, events := d.getN pMetroEventCount, sealId := d.toll.sealId
    gap := r.gap }

/-- The 112 bytes of a device register block. -/
def Snapshot.bytes (x : Snapshot) : List Byte :=
  e32 x.period ++ e32 x.opened ++ e32 x.closed ++ e8 x.cause ++ e8 x.flags ++ zs 2 ++
    (x.imports.map (fun v => e64 (mWh v))).flatten ++ e64 (importTotal x.imports) ++ e64 (mWh x.exported) ++
    e32 x.tableId ++ e32 x.events ++ padTo 4 x.sealId ++ e32 (x.gap / 4000)

/-- The 120 bytes of a slot register block. -/
def slotBlock (period slot : Nat) (r : SlotRegs) : List Byte :=
  e32 period ++ e8 slot ++ eb r.enabled ++ zs 2 ++ e32 r.contract ++ zs 4 ++
    (r.attribution.map (fun v => s64 (Int.tdiv v 1000))).flatten ++ (r.service.map (fun v => e32 (v / 1000))).flatten ++
    e32 r.gaps ++ zs 4

/-! ### Periods (R507, R508) -/

/-- METRO_EVENT_COUNT raised by 1 (R519). -/
def Dev.metroEvent (d : Dev) : Dev := d.bumpNv pMetroEventCount 0

/-- The open period closes at a metrology time, with a cause of Table TB-5: its snapshots, its record, and period n + 1
with the boundary after `after` (local time) under the settings now in force (R507, R508). -/
def Dev.closePeriod (d : Dev) (mt cause after : Nat) : Dev :=
  let t := d.toll
  let snap := d.devBlock mt cause
  let running := t.watch.any (fun w => w.start.isSome)
  let d1 := d.updToll (fun t =>
    { t with devSnaps := (snap :: t.devSnaps).take 24
             slotSnaps := (t.slotSnaps.zipIdx).map (fun e =>
               (({ period := t.regs.period, regs := nth t.regs.slots e.2 } : SlotSnapshot) :: e.1).take 24)
             regs := { t.regs with period := inc32 t.regs.period, opened := mt, gap := 0, flags := 4 * running.toNat
                                   boundary := nextBoundary (d.getN pBillingMode) (d.getN pBillingBoundary) after
                                   cause := d.getN pBillingMode + 1 } })
  let d2 := (d1.setNv pPeriodNumber 0 (d1.toll.regs.period : Nat)).journal 0x0C03 0 5 none .none
  d2.raiseMetro 0x0C80 (e32 snap.period ++ e8 cause ++ e8 snap.flags ++ zs 2 ++ e64 (importTotal snap.imports) ++ e32 mt)

/-- Every boundary that a metrology time has reached closes one period, in order (R507, R510). Answers how many. -/
def Dev.closeBoundaries (mt : Nat) : Nat → Dev → Dev × Nat
  | 0, d => (d, 0)
  | n + 1, d =>
    match d.toll.regs.boundary with
    | some b =>
      if b ≤ d.localTime mt then
        let (e, k) := Dev.closeBoundaries mt n (d.closePeriod mt d.toll.regs.cause b)
        (e, k + 1)
      else (d, 0)
    | none => (d, 0)

/-- The pending table becomes active (R506). -/
def Dev.activateTariff (d : Dev) (b : List Byte) : Dev :=
  let d1 := d.updToll (fun t => { t with table := some b, pendingTable := none })
  let d2 := ((d1.setNv pTariffTableId 0 (fld b 4 4 : Nat)).setNv pTariffPendingId 0 0).metroEvent
  d2.raiseMetro 0x0C86 (e32 (fld b 4 4) ++ e32 (fld b 8 4) ++ e32 (d2.getN pMetroEventCount))

/-! ### Gaps (R497, R522, R528) -/

/-- METER_GAP: a time in which energy was not measured, counted in the period and the total. -/
def Dev.meterGap (d : Dev) (cause start stop : Nat) (quarterMs : Nat) (power : Int) : Dev :=
  let d1 := d.updRegs (fun r =>
    { r with flags := r.flags ||| 8, gap := r.gap + quarterMs, gapTotal := r.gapTotal + quarterMs })
  (d1.set pMeterGapTotal 0 (d1.toll.regs.gapTotal / 4000 : Nat)).raiseMetro 0x0C85
    (e8 cause ++ zs 3 ++ e32 start ++ e32 stop ++ e32 (quarterMs / 4000) ++ s32 power)

/-! ### Tamper (R515, R516) -/

/-- A tamper condition starts holding, or is absent, from now. -/
def Dev.judgeTamper (d : Dev) (k : Nat) (holds : Bool) (sub : Nat) : Dev :=
  d.updToll (fun t => { t with watch := upd t.watch k (fun w =>
    if holds then { w with held := some (w.held.getD d.time), absent := none, sub := if w.start.isSome then w.sub else sub }
    else { w with held := none, absent := some (w.absent.getD d.time) }) })

/-- TAMPER_FLAGS as the episodes run. -/
def Dev.showTamper (d : Dev) : Dev :=
  d.set pTamperFlags 0 (flags (d.toll.watch.map (fun w => w.start.isSome)) : Nat)

/-- A tamper episode ends, with its whole seconds (R516). -/
def Dev.endTamper (d : Dev) (k : Nat) : Dev :=
  let w := nth d.toll.watch k
  match w.start with
  | none => d
  | some t0 =>
    let secs := d.since t0 / secU 1
    let d1 := (d.updToll (fun t =>
      { t with watch := upd t.watch k (fun w => { w with start := none })
               regs := { t.regs with tamper := upd t.regs.tamper k (fun x =>
                 { x with seconds := min 4294967295 (x.seconds + secs) }) } })).showTamper
    d1.raiseMetro 0x0C84 (e8 (k + 1) ++ zs 3 ++ e32 (nth d1.toll.regs.tamper k).episodes ++ e32 secs ++
      e32 (if k = 1 then min 4294967295 (mWh (d1.toll.regs.evidence - w.evidenceAt)) else 0))

/-! ### Slot registers (R511 to R514) -/

/-- Attributed energy in µJ added at the tariff in force while the slot records (R511). -/
def Dev.tollAttribute (d : Dev) (slot : Nat) (uj : Int) : Dev :=
  if (nth d.toll.regs.slots slot).enabled then
    d.updRegs (fun r => { r with slots := upd r.slots slot (fun x =>
      { x with attribution := upd x.attribution (d.getN pTariffActive - 1) (fun v => v + uj) }) })
  else d

/-- One flagged millisecond of a lane's service (R512). -/
def Dev.tollService (d : Dev) (l : Nat) : Dev :=
  d.updRegs (fun r => { r with slots := upd r.slots (d.owner l) (fun x =>
    { x with service := upd x.service l (fun v => v + 1) }) })

/-- A protective trigger ends a lane's service (R513). -/
def Dev.serviceLost (d : Dev) (l code : Nat) : Dev :=
  if nth d.toll.inService l && (nth d.toll.serviceGap l).isNone then
    d.updToll (fun t =>
      { t with inService := upd t.inService l (fun _ => false)
               serviceGap := upd t.serviceGap l (fun _ => some { wall := d.metroTime, since := d.time, code := code }) })
  else d

/-- SERVICE_GAP of a lane: its service, ended by a protective trigger, returns or ends (R513). -/
def Dev.serviceGap (d : Dev) (l : Nat) : Dev :=
  match nth d.toll.serviceGap l with
  | none => d
  | some g =>
    let slot := d.owner l
    let d1 := (d.updToll (fun t => { t with serviceGap := upd t.serviceGap l (fun _ => none) })).updRegs (fun r =>
      { r with slots := upd r.slots slot (fun x => { x with gaps := inc32 x.gaps }) })
    d1.raiseAs slot (slot = 0) 1 0x0C8B (e8 l ++ e8 g.code ++ zs 2 ++ e32 g.wall ++ e32 d1.metroTime ++
      e32 (d.since g.since / secU 1))

/-- A full provision zeroes the slot's registers, erases its snapshots and enables its recording (R511, R514). -/
def Dev.provisionToll (d : Dev) (slot : Nat) : Dev :=
  d.updToll (fun t =>
    { t with regs := { t.regs with slots := upd t.regs.slots slot (fun _ => { enabled := true }) }
             slotSnaps := upd t.slotSnaps slot (fun _ => []) })

/-- The registers of Quire M saved to the journal (R522). -/
def Dev.saveToll (d : Dev) : Dev := d.updToll (fun t => { t with saved := some t.regs })

end Sys2Proof.Machine
end

