-- ==== Sys2Proof/Machine/BandOps.lean ====
section
/-! DEFINITION. The operations of a band: its messages, roles, triggers and the restart ladder (R29, R415, R438 to R460,
R466). -/

namespace Sys2Proof.Machine

/-! ### Waybill messages (R415) -/

/-- The priority of a waybill message type (Table CL-5). -/
def msgPri (t : Nat) : Nat :=
  if t = 2 || t = 3 || t = 4 || t = 14 then 0 else if t = 5 || t = 6 || t = 8 then 1
  else if t = 7 || t = 11 || t = 12 || t = 13 then 2 else 3

/-- PORT_STATE 3 is UP. -/
def Dev.portUp (d : Dev) (p : Nat) : Bool := d.hasPort p && d.get pPortState p = 3

/-- A message put in the queue of a port that is UP, behind those of its priority or higher (R415). -/
def Dev.send (d : Dev) (m : WaybillMsg) : Dev :=
  if !d.portUp m.port then d else
  let before := d.link.out.filter (fun x => msgPri x.typ ≤ msgPri m.typ)
  let after := d.link.out.filter (fun x => msgPri m.typ < msgPri x.typ)
  { d with link := { d.link with out := before ++ [m] ++ after } }

/-- The ports towards the units below: every port that is UP of a head, CL1 of a follower (R27). -/
def Dev.downPorts (d : Dev) : List Nat :=
  if d.get pChainRole = 1 then d.portIds.filter d.portUp
  else if d.isFollower then [1].filter d.portUp else []

/-- A message sent to every unit below. -/
def Dev.sendDown (d : Dev) (typ : Nat) (body : List Byte) : Dev :=
  d.downPorts.foldl (fun e p => e.send { port := p, typ := typ, body := body }) d

/-- A message sent to the unit above, by a follower. -/
def Dev.sendUp (d : Dev) (typ : Nat) (body : List Byte) : Dev :=
  if d.isFollower then d.send { port := 0, typ := typ, body := body } else d

/-- A message of the head reaches a follower: its path to the head stands (R436). -/
def Dev.pathBack (d : Dev) : Dev :=
  if d.isFollower then { d with link := { d.link with pathLost := false, breakDue := none } } else d

/-- A follower has lost its path to the head: its first FALLBACK is to carry BREAK (R436). -/
def Dev.pathGone (d : Dev) (body : List Byte) : Dev :=
  { d with link := { d.link with pathLost := true, breakDue := some body } }

/-! ### A band's own messages and events -/

/-- The BAND body (Table BP-9). -/
def Dev.bandBody (d : Dev) (b op reason : Nat) : List Byte :=
  let x := d.band b
  let c := x.cfg
  e8 op ++ e8 (b / 8) ++ e8 (b % 8) ++ e8 (if op = 3 then d.getN pUnitNumber else 0) ++ eb c.tdd ++ e8 c.dlLane ++
    e8 c.ulLane ++ e8 c.unitMask ++ e64 c.dlFreq ++ e64 c.ulFreq ++ e8 c.dlRate ++ e8 c.ulRate ++ e8 reason ++
    e8 (d.bandState b) ++ e32 (if op = 1 then x.delay else 0) ++ e32 (if op = 1 || op = 2 then d.ts else 0)

/-- BAND_STATE changed, with BAND_STATE_CHANGED: cause 0 command, 1 trigger, 2 restart, 3 handover (Table BP-11). -/
def Dev.setBandState (d : Dev) (b new cause : Nat) : Dev :=
  let old := d.bandState b
  if old = new then d else
  let d1 := d.set pBandState b new
  d1.raiseSlot (b / 8) 0x0A80 (e8 (b % 8) ++ e8 old ++ e8 new ++ e8 cause ++ e8 (d1.getN pBandUnits b) ++ zs 3 ++
    e32 (d1.band b).delay ++ e16 (d1.band b).job)

/-! ### Roles (R29, Table FB-2) -/

/-- STANDALONE 0, head 1, follower 2, as the topology and the chain role give it. -/
def Dev.position (d : Dev) : Nat := if d.get pTopology = 0 then 0 else if d.isFollower then 2 else 1

/-- The state, receive antenna and transmit antenna (true for service) of an FDD lane. -/
def fddRole (pos : Nat) (uplink : Bool) : Nat × Bool × Bool :=
  if pos = 0 then (6, uplink, !uplink)
  else if pos = 1 then (if uplink then (5, true, false) else (4, false, true))
  else if uplink then (4, true, false) else (5, false, true)

/-- The state that Table FB-2 gives a lane of a band while it repeats; a TDD lane's burst state. -/
def Dev.roleState (d : Dev) (b l : Nat) : Nat :=
  let c := (d.band b).cfg
  if c.tdd then (if d.position = 0 then 6 else 5) else (fddRole d.position (l = c.ulLane)).1

/-- The lanes of a band placed in the states and antennas of their roles; a TDD lane rests (R29, R255). -/
def Dev.placeRoles (d : Dev) (b : Nat) : Dev :=
  let c := (d.band b).cfg
  c.lanes.foldl (fun e l =>
    if c.tdd then
      (e.updLane l (fun x => { x with tdd := true, burst := false, role := (false, true) })).setLaneState l
        (e.getN pRestState l) (some 1)
    else
      let r := fddRole e.position (l = c.ulLane)
      (e.updLane l (fun x => { x with tdd := false, role := (r.2.1, r.2.2) })).setLaneState l r.1 (some 1)) d

/-- P_eirp of each transmitting lane from a permit: max_eirp less the antenna gain (R447). -/
def Dev.setEirp (d : Dev) (b : Nat) (p : Permit) : Dev :=
  (d.band b).cfg.channels.foldl (fun e c =>
    match p.entryFor c with
    | some x => if transmits (e.roleState b c.lane) then e.set pEirpLimit c.lane (x.maxEirp - e.txAntGain c.lane) else e
    | none => e) d

/-- The permit a band is bound to. -/
def Dev.boundPermit (d : Dev) (b : Nat) : Option Permit :=
  if d.getN pBandPermit b < 8 then nth (d.slotN (b / 8)).permits (d.getN pBandPermit b) else none

/-! ### Ending and triggers (R446, R459, R460, R466) -/

/-- A lane in a burst returns to its rest state (R255). -/
def Dev.endBurst (d : Dev) (l : Nat) : Dev :=
  if (d.lane l).burst then
    (d.updLane l (fun x => { x with burst := false, role := (false, x.role.2) })).setLaneState l (d.getN pRestState l) none
  else d

/-- The completion body of BRIDGE_START (Table BP-8). A start that ends in IDLE has neither job nor permit left (DEDUCED). -/
def Dev.startBody (d : Dev) (b reason : Nat) : List Byte :=
  let x := d.band b
  let idle := d.bandState b ≤ 1
  e8 (b % 8) ++ e8 (d.bandState b) ++ e8 (if reason = 0 then x.setUnits else 0) ++ e8 reason ++ e32 x.delay ++
    e16 (if idle then 65535 else x.job) ++ e8 (if idle then 255 else d.getN pBandPermit b) ++ zs 1 ++ e32 (durOf (d.since x.startAt))

/-- The long BRIDGE_START of a band completes. -/
def Dev.finishStart (d : Dev) (b : Nat) (st : Status) (reason : Nat) : Dev :=
  match (d.band b).start with
  | some (slot, ref) =>
    let d1 := d.updBand b (fun x => { x with start := none })
    match d1.longOf slot ref with
    | some l => d1.complete l { status := st, body := d.startBody b reason }
    | none => d1
  | none => d

/-- A band goes to IDLE: its lanes mute and rest in `target` (LISTEN, or DOZE for the ledger), its schedule and triggers
end, its standing job ends with the reason given, and a start in progress completes with `st` (R445, R446, R459). -/
def Dev.endBand (d : Dev) (b jobReason target cause : Nat) (st : Status) (why : Nat) : Dev :=
  if d.bandState b ≤ 1 then d else
  let x := d.band b
  let d1 := x.cfg.lanes.foldl (fun e l => (((e.hold l 0).unhold l 1).startPath l false).serviceGap l) d
  let d2 := ((d1.set pBandTriggers b 0).set pBandUnits b 0).setBandState b 1 cause
  let d3 := x.cfg.lanes.foldl (fun e l =>
    let e1 := (e.updLane l (fun y => { y with tdd := false, burst := false })).set pEirpLimit l (-32768)
    if 2 ≤ e1.laneState l then e1.setLaneState l target (some 1) else e1) d2
  let d4 := d3.endJob (b / 8) x.job jobReason
  let d5 := d4.finishStart b st why
  let d6 := x.cfg.lanes.foldl (fun e l => (e.set pUlNoiseEst l (-32768)).set pActiveFollowers l 0) d5
  (d6.set pBandPermit b 255).updBand b (fun y =>
    { y with job := 65535, trig := [], ladder := false, mutedAt := [], backoffEnd := none, waitCell := false, sched := false, learning := none, learnAgainAt := none,
             ulSuspended := false, mustLearn := false, setFixed := false, resume := 0, setUnits := 0 })

/-- The bound of a trigger's mute in µs (Table BP-4). -/
def muteBound (code : Nat) : Nat :=
  if code = 1 || code = 11 || code = 12 || code = 14 then 1000 else if code = 7 then 1500
  else if code = 16 then 200 else 5000

/-- PROTECTIVE_MUTE of one lane (Table BP-11). The time to the pin is a free value within the trigger's bound. -/
def Dev.muteRecord (d : Dev) (l b code origin : Nat) (gain : Int) : Dev :=
  let (us, d1) := d.took (muteBound code)
  d1.raiseProt (d1.owner l) 0x0A81
    (e8 l ++ e8 (b % 8) ++ e8 code ++ e8 origin ++ e64 d1.ts ++ e32 us ++ s16 gain)

/-- A trigger that ends the band (R459, R466): permit, ledger, or withdrawal. -/
def endsBand (code : Nat) : Bool := code = 2 || code = 3 || code = 9 || code = 10 || code = 15

/-- A trigger whose trip climbs the band's ladder (R460). -/
def climbs (code : Nat) : Bool :=
  code = 4 || code = 5 || code = 6 || code = 8 || code = 11 || code = 12 || code = 16

/-- A trigger of one path only, which leaves the band's state (Table BP-4). -/
def pathOnly (code : Nat) : Bool := code = 1 || code = 13 || code = 14

/-- BAND_TRIGGERS as the triggers of a band hold. -/
def Dev.showTriggers (d : Dev) (b : Nat) : Dev :=
  d.set pBandTriggers b ((d.band b).trig.foldl (fun a t => a ||| 2 ^ t.1) 0 : Nat)

/-- A protective trigger trips on the lanes given of a band: each lane it does not yet hold mutes and records; the band is
HELD or ends; the rung climbs; a learning window in progress gives no verdict for codes 4, 7 and 8 (R455, R459, R460,
R466, R467). -/
def Dev.trip (d : Dev) (b code origin : Nat) (scope : List Nat) : Dev :=
  let st := d.bandState b
  let lanes := scope.filter (fun l => !(d.band b).trig.contains (code, l))
  if st ≤ 1 || lanes = [] then d else
  let first := !((d.band b).trig.any (fun t => t.1 = code)) || code = 16
  let gains := lanes.map (fun l => (l, d.get pConvoyOutput l))
  let d1 := lanes.foldl (fun e l => (e.tripMute l (pathOnly code)).serviceLost l code) d
  let d2 := (d1.updBand b (fun x =>
    { x with trig := x.trig ++ lanes.map (fun l => (code, l)), lastTrip := d1.ts, lastTrigger := code
             tripAt := some d1.time, ladder := x.ladder || climbs code
             trips := if first then inc32 x.trips else x.trips
             backoffEnd := if pathOnly code then x.backoffEnd else none
             learnAgainAt := if (code = 4 || code = 7 || code = 8) && x.learning.isSome then some 0 else x.learnAgainAt
             mutedAt := if pathOnly code then x.mutedAt else
               x.mutedAt ++ (lanes.filter (fun l => !x.mutedAt.any (fun m => m.1 = l))).map (fun l => (l, d1.time))
             learning := if code = 4 || code = 7 || code = 8 then none else x.learning })).showTriggers b
  let d3 := if climbs code && first then d2.set pBandRung b (min 7 (d2.getN pBandRung b + 1) : Nat) else d2
  let d4 := gains.foldl (fun e g => e.muteRecord g.1 b code origin g.2) d3
  if endsBand code then d4.endBand b (if code = 9 then 3 else 4) (if code = 9 || code = 10 then 1 else 4) 1
    (if code = 2 then .permitExpired else if code = 3 then .noPermit else .state) 4
  else if pathOnly code then d4
  else if st = 2 then d4.endBand b 4 4 1 .state 4
  else
    let d4 := lanes.foldl Dev.endBurst d4
    let d5 := d4.set pBandUnits b (((d4.getN pBandUnits b) &&& (255 - 2 ^ d4.getN pUnitNumber) : Nat))
    (d5.updBand b (fun x => { x with mustLearn := x.cfg.tdd || x.mustLearn })).setBandState b 4 1

/-- A trip on every lane of a band. -/
def Dev.tripBand (d : Dev) (b code : Nat) : Dev := d.trip b code (d.getN pUnitNumber) (d.band b).cfg.lanes

/-- A trip on every band of the unit. -/
def Dev.tripAll (d : Dev) (code : Nat) : Dev := d.bandIds.foldl (fun e b => e.tripBand b code) d

/-- The back-off of a rung in seconds (R460). -/
def rungBackoff (n : Nat) : Nat := if n ≤ 1 then 0 else min (2 ^ (n - 1)) 64

/-- Whether a trigger that keeps a band HELD still holds: those of one path mute through the convoy alone (Table BP-4). -/
def Dev.blocked (d : Dev) (b : Nat) : Bool := (d.band b).trig.any (fun t => !pathOnly t.1)

/-- A trigger clears on the lanes given; when it was the last one of a HELD band, its back-off starts: the ladder's if one
of its codes tripped, else none (R460, R437); an interrupted learning window runs 10 s later (R467). -/
def Dev.clearLanes (d : Dev) (b code : Nat) (lanes : List Nat) : Dev :=
  if !(d.band b).trig.any (fun t => t.1 = code && lanes.contains t.2) then d else
  let d1 := (d.updBand b (fun x =>
    { x with trig := x.trig.filter (fun t => !(t.1 = code && lanes.contains t.2))
             lastCleared := if pathOnly code then x.lastCleared else code
             learnAgainAt := if (code = 4 || code = 7 || code = 8) && x.learnAgainAt.isSome then some (d.time + secU 10)
               else x.learnAgainAt })).showTriggers b
  if pathOnly code || d1.blocked b then d1
  else if d1.bandState b = 4 then
    let wait := if (d1.band b).ladder then rungBackoff (d1.getN pBandRung b) else 0
    d1.updBand b (fun x => { x with waited := wait, backoffEnd := some (d1.time + secU wait) })
  else d1

/-- A trigger clears on every lane of a band. -/
def Dev.clearTrigger (d : Dev) (b code : Nat) : Dev := d.clearLanes b code (List.range 8)

/-- A trigger clears on every band. -/
def Dev.clearAll (d : Dev) (code : Nat) : Dev := d.bandIds.foldl (fun e b => e.clearTrigger b code) d

/-- PROTECTIVE_RELEASE of a lane: the trigger cleared last, the rung, the back-off it waited and its time muted (Table BP-11). -/
def Dev.releaseRecord (d : Dev) (l b : Nat) : Dev :=
  let x := d.band b
  d.raiseProt (d.owner l) 0x0A82 (e8 l ++ e8 (b % 8) ++ e8 x.lastCleared ++ e8 (d.getN pBandRung b) ++ e32 (1000 * x.waited) ++
    s16 (d.gStart l) ++ zs 2 ++ e32 (match x.mutedAt.find? (fun m => m.1 = l) with
      | some m => min 4294967295 (toMs (d.since m.2))
      | none => 0))

/-- A HELD band repeats again: its lanes return to their roles, and the convoys its triggers held may leave MUTE (R460). -/
def Dev.restartBand (d : Dev) (b : Nat) : Dev :=
  let x := d.band b
  let d1 := (x.cfg.lanes.filter (fun l => bit (d.convoy l).hold 1)).foldl (fun e l => e.releaseRecord l b) d
  let d2 := d1.updBand b (fun x => { x with backoffEnd := none, mutedAt := [], mustLearn := false, waitCell := false, ladder := false,
                                             learnAgainAt := none,
                                             restored := d.time, sched := x.cfg.tdd })
  let d3 := (d2.set pBandUnits b ((d2.getN pBandUnits b ||| 2 ^ d2.getN pUnitNumber : Nat))).setBandState b 3 2
  let d4 := x.cfg.lanes.foldl (fun e l => e.unhold l 1) d3
  if x.cfg.lanes.all (fun l => d4.laneState l = d4.roleState b l || x.cfg.tdd) then d4 else d4.placeRoles b

/-- The unit's clock permits bridging (R39): a follower LOCKED to LINK or in HOLDOVER within its window, any other unit
while not LOST. -/
def Dev.clockOk (d : Dev) : Bool :=
  if d.isFollower then
    (d.clk.state = .locked && d.clk.selected = some 1) ||
      (d.clk.state = .holdover && d.since d.clk.holdStart ≤ secU (d.getN pHoldoverWindow))
  else d.clk.state ≠ .lost

/-- Trigger 8 follows the clock (Table BP-4). -/
def Dev.clockTrigger (d : Dev) : Dev := if d.clockOk then d.clearAll 8 else d.tripAll 8

end Sys2Proof.Machine
end

