-- ==== Sys2Proof/Machine/FaultOps.lean ====
section
/-! DEFINITION. The uniform fault model: the count and record of a detection, escalation by count, and the recovery of a
lane (R180 to R182, R253, R567). -/

namespace Sys2Proof.Machine

/-- Detections of a source on an object within the last 10 s. -/
def Dev.recent (d : Dev) (src obj : Nat) : Nat :=
  (d.pace.recoveries.filter (fun r => r.1 = src && r.2.1 = obj && decide (d.since r.2.2 < secU 10))).length

/-- One detection: counted under its source code and remembered for 10 s (R180, R181). -/
def Dev.countFault (d : Dev) (src obj : Nat) : Dev :=
  let keep := d.pace.recoveries.filter (fun r => decide (d.since r.2.2 < secU 10))
  ({ d with pace := { d.pace with recoveries := keep ++ [(src, obj, d.time)] } }).bump pFaultSourceCount src

/-- The payload of FAULT_DETECTED (Table FD-8). -/
def Dev.faultBody (d : Dev) (src obj detail : Nat) : List Byte :=
  e8 src ++ e8 obj ++ e16 (min 65535 (d.recent src obj)) ++ e32 (d.getN pFaultSourceCount src) ++ e64 d.ts ++ e32 detail

/-- FAULT_DETECTED in the device partition (R567). -/
def Dev.faultDevice (d : Dev) (src obj detail : Nat) : Dev :=
  let d1 := d.countFault src obj
  d1.raiseDev 0x0F80 (d1.faultBody src obj detail)

/-- FAULT_DETECTED in the partition of a lane's owner; sources 0x04 and 0x05 also leave it in the device partition
(Table SF-3, R567). -/
def Dev.faultLane (d : Dev) (src l detail : Nat) : Dev :=
  let d1 := d.countFault src l
  let body := d1.faultBody src l detail
  let d2 := if src = 8 || d1.owner l = 0 then d1 else d1.raiseDev 0x0F80 body
  d2.raiseLane l 0x0F80 body

/-- The detection just counted is the fifth within 10 s (R181). -/
def Dev.escalates (d : Dev) (src obj : Nat) : Bool := 5 ≤ d.recent src obj

/-- A lane's recovery: it mutes, its band trips by FAULT, and it re-enters through its convoy; at the fifth detection it
stays muted until LANE_STATE_SET or BRIDGE_START (R181, Table BP-4 code 16). -/
def Dev.recoverLane (d : Dev) (src l : Nat) : Dev :=
  let d1 := d.muteConvoy l
  let d2 := match d1.laneBand l with
    | some b => (d1.trip b 16 (d1.getN pUnitNumber) [l]).clearTrigger b 16
    | none => d1
  if d2.escalates src l then (d2.updLane l (fun x => { x with escHold := true })).hold l 3 else d2

/-- The hold of R181 ends for a lane. -/
def Dev.liftEscalation (d : Dev) (l : Nat) : Dev :=
  (d.updLane l (fun x => { x with escHold := false })).unhold l 3

end Sys2Proof.Machine
end

