-- ==== Sys2Proof/Machine/BridgeOps.lean ====
section
/-! DEFINITION. What a bridge needs to know: link cost and share, the delay of a band, the TDD guard, the checks of a start,
the standing job, permit handover, and the messages of a band (R32 to R37, R50, R233, R440 to R450, R464, R468). -/

namespace Sys2Proof.Machine

/-! ### Link cost and share (R32 to R34, R50) -/

/-- The IQ format in force: the chain's for a member, else the parameter (R420). -/
def Dev.iqFormat (d : Dev) : Nat := if d.get pChainRole = 0 then d.getN pIqFormat else d.link.format

/-- Link cost of a lane rate in kb/s (Table FB-3). -/
def laneCost (rate format : Nat) : Nat :=
  (if format = 0 then ([2242560, 1121280, 560640, 280320, 140160] : List Nat)
    else [2949120, 1474560, 737280, 368640, 184320]).getD rate 0

/-- IQ budget of a port in Mb/s (R32): by the rate in force, else by the rate configured (log entry 25). -/
def Dev.iqBudget (d : Dev) (p : Nat) : Nat :=
  let r := d.getN pLinkRate p
  if r = 2 || (r = 0 && d.get pLinkRateCfg p = 2) then 20200 else 8080

/-- Units named by a mask. -/
def maskUnits (m : Nat) : List Nat := ([1, 2, 3, 4, 5, 6, 7] : List Nat).filter (bit m)

def Dev.member (d : Dev) (u : Nat) : Option Member := nth d.link.members u

/-- The ports on the way from this unit to the units that bridge a band (R33). -/
def Dev.bandPorts (d : Dev) (c : BandCfg) : List Nat :=
  if d.isFollower then [0]
  else if d.get pChainRole = 1 then ((maskUnits c.unitMask).filterMap (fun u => (d.member u).map (·.port))).eraseDups
  else []

/-- The cost of a band in a direction, 0 downstream, on each of its ports. -/
def Dev.bandCost (d : Dev) (c : BandCfg) (up : Bool) : Nat :=
  if c.tdd then laneCost c.dlRate d.iqFormat else laneCost (if up then c.ulRate else c.dlRate) d.iqFormat

/-- LINK_SHARE_USED: the cost of a slot's bands on a port and direction, one band left out. -/
def Dev.shareUsed (d : Dev) (slot p : Nat) (up : Bool) (but : Nat) : Nat :=
  (d.slotBands slot).foldl (fun a b =>
    if b ≠ but && (d.bandPorts (d.band b).cfg).contains p then a + d.bandCost (d.band b).cfg up else a) 0

/-- A slot's share of a port and direction in kb/s (R34). -/
def Dev.shareKbps (d : Dev) (slot p : Nat) : Nat := d.iqBudget p * d.getN pShare (8 * slot + 5 + p)

/-- A band's cost brings the slot over its share on some port and direction. -/
def Dev.overShare (d : Dev) (slot : Nat) (c : BandCfg) (but : Nat) : Option (Nat × Bool × Nat) :=
  (d.bandPorts c).findSome? (fun p => ([false, true] : List Bool).findSome? (fun up =>
    let cost := d.shareUsed slot p up but + d.bandCost c up
    if d.shareKbps slot p < cost then some (p, up, cost) else none))

/-- Each started band of a slot whose cost exceeds the share is kept muted and reported; one within it is let go (R50). -/
def Dev.budgetCheck (d : Dev) (slot : Nat) : Dev :=
  (d.slotBands slot).foldl (fun e b =>
    let c := (e.band b).cfg
    let held := c.lanes.any (fun l => bit (e.convoy l).hold 6)
    match (if e.bandBusy b then e.overShare slot c b else none) with
    | some (p, up, cost) =>
      if held then e else
      (c.lanes.foldl (fun e l => e.hold l 6) e).raiseSlot slot 0x0182
        (e8 (if up && !c.tdd then c.ulLane else c.dlLane) ++ e8 p ++ eb up ++ zs 1 ++ e32 cost ++ e32 (e.shareKbps slot p))
    | none => if held then c.lanes.foldl (fun e l => e.unhold l 6) e else e) d

/-! ### Delay (R35 to R37): in 1/6,291,456,000 ns, so that 1/256 ticks and ps are whole -/

def nsScale : Nat := 6291456000

/-- The receive part of a lane's delay at this unit: X chain and FE_RX_DELAY. -/
def Dev.rxPart (d : Dev) (l : Nat) : Nat := d.laneX l * 100000000 + d.getN pFeRxDelay l * nsScale
/-- The transmit part: T chain and FE_TX_DELAY. -/
def Dev.txPart (d : Dev) (l : Nat) : Nat := d.laneT l * 100000000 + d.getN pFeTxDelay l * nsScale

/-- The same parts of a follower's figures. -/
def Fig.rxPart (f : Fig) : Nat := f.x * 100000000 + f.rx * nsScale
def Fig.txPart (f : Fig) : Nat := f.t * 100000000 + f.tx * nsScale

/-- The 10 ms measurement now in force (R421). -/
def Dev.measurement (d : Dev) : Nat := d.time / msU 10

/-- A hop's one-way delay in ps, while a valid DELAY is younger than 50 ms (R423). -/
def Dev.hopPs (d : Dev) (p : Nat) (up : Bool) : Option Nat :=
  match (nth d.link.ports p).hopAt with
  | some t => if d.since t ≤ msU 50 then some (d.getN (if up then pHopDelayUp else pHopDelayDown) p) else none
  | none => none

/-- The delay of the hops to unit `u` behind port `p`: the port's own, and what lies beyond it. -/
def Dev.hopsTo (d : Dev) (p u : Nat) (up : Bool) : Option Nat :=
  (d.hopPs p up).map (fun x => x + (if (nth d.link.ports p).peer = some u then 0 else Config.farDelay d.measurement u))

/-- The delay of one lane of a band, uplink or downlink, to follower `u` at the head, or along this follower's own path. -/
def Dev.laneDelay (d : Dev) (l u : Nat) (up : Bool) : Option Nat :=
  if d.position = 0 then some (d.rxPart l + d.txPart l)
  else if d.isFollower then
    (d.hopsTo 0 0 up).map (fun h =>
      h * 6291456 + (if up then d.rxPart l else d.txPart l) + Config.headFigure d.measurement l * nsScale)
  else
    match d.member u with
    | some m =>
      match d.hopsTo m.port u up, nth m.figs l with
      | some h, some f => some (h * 6291456 + (if up then f.rxPart + d.txPart l else d.rxPart l + f.txPart))
      | _, _ => none
    | none => none

/-- The larger of two known delays. -/
def maxKnown (a b : Option Nat) : Option Nat :=
  match a, b with
  | some x, some y => some (max x y)
  | _, _ => none

/-- The delay of a band to one unit: its slower direction. -/
def Dev.delayTo (d : Dev) (c : BandCfg) (u : Nat) : Option Nat :=
  maxKnown (d.laneDelay c.dlLane u false) (d.laneDelay (if c.tdd then c.dlLane else c.ulLane) u true)

/-- The delay of a band to the farthest of the units given, at the head; its own path elsewhere (R36). -/
def Dev.bandDelay (d : Dev) (c : BandCfg) (units : List Nat) : Option Nat :=
  if d.position = 1 then units.foldl (fun a u => maxKnown a (d.delayTo c u)) (some 0) else d.delayTo c 0

/-- A delay in ns, rounded to nearest. -/
def delayNs (x : Nat) : Nat := (2 * x + nsScale) / (2 * nsScale)

/-- The one-way ceiling of a permit in ns (R37). -/
def ceilingNs (p : Permit) (tdd : Bool) : Option Nat :=
  if p.delayCeiling ≠ 0 then some p.delayCeiling else if tdd then some 5000 else none

/-- A delay is within a permit's ceiling. -/
def withinCeiling (p : Permit) (tdd : Bool) (x : Nat) : Bool :=
  match ceilingNs p tdd with
  | some c => x ≤ c * nsScale
  | none => true

/-- PATH_DELAY of a lane: the fixed delay of its started band, else the delay as measured (R35, R36). -/
def Dev.pathDelay (d : Dev) (l : Nat) : Nat :=
  match d.laneBand l with
  | some b =>
    if d.bandBusy b && (d.band b).setFixed then (d.band b).delay else
    match d.bandDelay (d.band b).cfg (maskUnits (d.band b).cfg.unitMask) with
    | some x => min 4294967294 (delayNs x)
    | none => 4294967295
  | none => 4294967295

/-! ### The TDD pattern (R449, R450, R453) -/

/-- Slot `k` of a pattern: 0 DL, 1 UL, 2 flexible. -/
def slotKind (pattern k : Nat) : Nat := pattern / 4 ^ k % 4

/-- How many flexible slots follow slot `k` before the next run, and that run's kind. -/
def nextRun (pattern n : Nat) : Nat → Nat → Nat → Nat × Nat
  | 0, _, g => (g, 2)
  | f + 1, k, g =>
    let j := (k + 1) % n
    if slotKind pattern j = 2 then nextRun pattern n f j (g + 1) else (g, slotKind pattern j)

/-- t_g of R450 in ns, by this unit's lead and rest state. -/
def Dev.guardNs (d : Dev) (l : Nat) : Nat :=
  let r := d.getN pRestState l
  d.getN pFeSwLead l + 500 + (if r = 2 then 25000 else if r = 1 then 225000 else 0)

/-- Every change of direction leaves the guard of R450 at a band delay `x`. -/
def Dev.guardOk (d : Dev) (l pattern n period x : Nat) : Bool :=
  (List.range n).all (fun k =>
    let a := slotKind pattern k
    let (g, b) := nextRun pattern n n k 0
    if a = 2 || b = 2 || b = a then true else
    let gap : Int := g * (period * 1000) * nsScale
    let shift : Int := 2 * x * n
    decide ((d.guardNs l * n * nsScale : Nat) ≤ (if a = 0 then gap - shift else gap + shift)))

/-- n of R453: whole periods that make at least 10 ms, at least 2. -/
def learnPeriods (period : Nat) : Nat := max 2 ((10000 + period - 1) / max 1 period)

/-- The entry of a band's permit that covers its downlink or TDD lane. -/
def BandCfg.entry (c : BandCfg) (p : Permit) (l : Nat) : Option PermitBand :=
  (c.channels.find? (fun x => x.lane = l)).bind p.entryFor

/-! ### The checks of a start (Table BP-2) -/

/-- The permit step of a start: the binding permit, or its refusal (R440). -/
def Dev.bindPermit (d : Dev) (slot : Nat) (c : BandCfg) : Except Status (Nat × Permit) :=
  if !c.channels.all d.inOwnerRange then .error .noPermit else
  match d.bindable slot c.channels with
  | some p => .ok p
  | none => .error ((d.permitStatus slot c.channels).getD .noPermit)

/-- Steps 1 to 10 of Table BP-2 for a band; the delay checked against the ceiling is the measured one, or at a follower
the one START carries. A failure gives its step and status. -/
def Dev.startChecks (d : Dev) (b : Nat) (given : Option Nat) : Except (Nat × Status) (Nat × Permit × Nat) :=
  let c := (d.band b).cfg
  let slot := b / 8
  if d.bandState b ≠ 1 then .error (1, .state)
  else if d.get pMode ≠ 0 || d.pwr.modeSet.isSome then .error (2, .state)
  else if d.get pThermalState = 2 then .error (3, .thermal)
  else if d.floorBars slot || (match d.pwr.sequence with
      | some { kind := .brownOut, .. } => true
      | _ => false) then .error (4, .state)
  else match d.bindPermit slot c with
  | .error st => .error (5, st)
  | .ok (h, p) =>
    if c.lanes.any (fun l => (d.lane l).table.isNone) then .error (6, .state)
    else if !d.clockOk then .error (7, .state)
    else match d.bandDelay c (maskUnits c.unitMask) with
    | none => .error (8, .notYet)
    | some own =>
      let x := match given with
        | some ns => ns * nsScale
        | none => own
      if !withinCeiling p c.tdd x then .error (9, .wouldExceed)
      else if c.tdd && (match c.entry p c.dlLane with
          | some e => !d.guardOk c.dlLane e.pattern e.slots e.period x
          | none => true) then .error (10, .wouldExceed)
      else .ok (h, p, x)

/-- The rate of the standing job of a band under a permit (R233). -/
def Dev.standingRate (d : Dev) (b : Nat) (p : Permit) : Nat :=
  let c := (d.band b).cfg
  let pos := d.position
  let lane := fun (x : Channel) =>
    let st := d.roleState b x.lane
    let service := if c.tdd then pos ≠ 1 else (fddRole pos (x.lane = c.ulLane)).2.2
    coreRate st + (if transmits st then
      (match p.entryFor x, (d.lane x.lane).table with
        | some e, some t => d.paPower x.lane (e.maxEirp - (if service then t.antService else t.antDonor))
        | _, _ => 0) else 0)
  c.channels.foldl (fun a x => a + lane x) 0 +
    (if d.slotAwake (b / 8) c.lanes then 0 else d.getN pOverheadRate (b / 8))

/-- The estimator runs where the path's own receive and transmit meet: a STANDALONE unit, the head's downlink, a
follower's uplink (R353, R357). -/
def Dev.estimates (d : Dev) (c : BandCfg) (l : Nat) : Bool :=
  d.position = 0 || c.tdd || (d.position = 1 && l = c.dlLane) || (d.position = 2 && l = c.ulLane)

/-- A band starts: bound to its permit and job, its lanes in their roles and muted, rung 0 (R440, R447, R460). -/
def Dev.activateBand (d : Dev) (b h job delay : Nat) (p : Permit) (start : Option (Nat × Nat)) : Dev :=
  let c := (d.band b).cfg
  let e := c.entry p c.dlLane
  let d1 := d.updBand b (fun x =>
    { cfg := x.cfg, job := job, delay := delay, start := start, startAt := d.time
      lastTrip := x.lastTrip, lastTrigger := x.lastTrigger
      pattern := (e.map (·.pattern)).getD 0, slots := (e.map (·.slots)).getD 0, period := (e.map (·.period)).getD 0 })
  let d2 := (((d1.set pBandPermit b (h : Nat)).set pBandRung b 0).set pBandTriggers b 0).set pBandUnits b
    (2 ^ d1.getN pUnitNumber : Nat)
  let d3 := c.lanes.foldl (fun e l =>
    ((e.liftEscalation l).startPath l (e.estimates c l)).updConvoy l (fun x =>
      { x with d4 := none, d4d := none, gRef := none, remote := none, starveSince := some e.time, starveReported := false
               restart := some (outMin l, 6) })) d2
  ((d3.setBandState b 2 0).placeRoles b).setEirp b p

/-! ### Handover (R468, R469) -/

/-- Another ACTIVE permit that a started band can pass to without a mute. -/
def Dev.handoverTo (d : Dev) (b : Nat) : Option (Nat × Permit) :=
  let x := d.band b
  let c := x.cfg
  if !c.channels.all d.inOwnerRange then none else
  (d.permits (b / 8)).find? (fun q =>
    q.2.state = .active && q.1 ≠ d.getN pBandPermit b && q.2.coversAll c.channels && q.2.allows (d.getN pTopology) &&
      withinCeiling q.2 c.tdd (x.delay * nsScale) &&
      (!c.tdd || (match c.entry q.2 c.dlLane with
        | some e => e.pattern = x.pattern && e.slots = x.slots && e.period = x.period
        | none => false)))

/-- A started band loses its permit for the cause of a trigger: it passes to another without a mute, or the trigger trips
(R468, R469). -/
def Dev.permitLost (d : Dev) (b code : Nat) : Dev :=
  if !d.bandBusy b then d else
  match d.handoverTo b with
  | some (h, p) =>
    let old := d.getN pBandPermit b
    (((d.set pBandPermit b (h : Nat)).setEirp b p)).raiseSlot (b / 8) 0x0A84
      (e8 (b % 8) ++ e8 old ++ e8 h ++ zs 1 ++ e32 p.permitId)
  | none => d.tripBand b code

/-- The topology has changed: each started band's permit must allow it (R469). -/
def Dev.topologyPermits (d : Dev) : Dev :=
  d.bandIds.foldl (fun e b =>
    if !e.bandBusy b then e else
    match e.boundPermit b with
    | some p => if p.allows (e.getN pTopology) then e else e.permitLost b 3
    | none => e) d

/-! ### The division of the uplink ceiling (R457) -/

/-- Half a step below `k`: 640 log10 (n / d) is at or above `k` − 1/2. -/
def reaches (n d k : Nat) : Bool := 10 ^ (2 * k - 1) * d ^ 1280 ≤ n ^ 1280

/-- The largest step reached, by halving from 2^`f`. -/
def logSearch (n d : Nat) : Nat → Nat → Nat
  | 0, k => k
  | f + 1, k => logSearch n d f (if reaches n d (k + 2 ^ f) then k + 2 ^ f else k)

/-- round(64 × 10 × log10 (n / d)) for `d` ≤ `n`. -/
def log640 (n d : Nat) : Nat := logSearch n d 12 0

/-- The active followers of a lane: their contribution entered the sum in the last 10 ms. -/
def Dev.activeFollowers (d : Dev) (b l : Nat) : List Nat :=
  (maskUnits (d.band b).setUnits).filter (fun u => match d.member u with
    | some m => (match nth m.contrib l with
      | some t => decide (d.since t ≤ msU 10)
      | none => false)
    | none => false)

/-- W_f of R457. -/
def Dev.weightWith (d : Dev) (b l f : Nat) : Nat :=
  let act := d.activeFollowers b l
  (act ++ (if act.contains f then [] else [f])).foldl (fun a u => a + d.getN pUlWeight u) 0

/-- The REMOTE body of a lane (Table CL-5). -/
def Dev.remoteBody (d : Dev) (dest l : Nat) (ceiling ref : Int) : List Byte :=
  e8 dest ++ e8 l ++ s16 ceiling ++ s16 ref ++ e32 d.ts

/-- ceiling_f of R457. -/
def Dev.ceilingFor (d : Dev) (b l f : Nat) : Int :=
  let c := d.get pConvoyOutput l
  if c = -32768 then c
  else clampI (-32767) 32767 (c - log640 (d.weightWith b l f) (max 1 (d.getN pUlWeight f)) - d.get pSumBackoff l)

/-! ### Messages of a band (R441, R446, R451, R464) -/

/-- A BAND message sent down, by the head. -/
def Dev.bandDown (d : Dev) (b op : Nat) : Dev := if d.position = 1 then d.sendDown 7 (d.bandBody b op 0) else d

/-- A follower's STATE answer. -/
def Dev.bandAnswer (d : Dev) (b reason : Nat) : Dev := d.sendUp 7 (d.bandBody b 3 reason)

/-- The TDD body of a band (Table BP-10). -/
def Dev.tddBody (d : Dev) (b : Nat) (valid : Bool) : List Byte :=
  let x := d.band b
  e8 (b / 8) ++ e8 (b % 8) ++ e8 x.cfg.dlLane ++ e8 x.slots ++ e32 x.period ++ e64 x.pattern ++
    e64 (x.anchor.getD 0) ++ e32 x.delay ++ e16 x.tddSeq ++ e8 (flags [valid, x.ulSuspended]) ++ zs 1

/-- A TDD message sent by the head; its sequence number moves on. -/
def Dev.tddSend (d : Dev) (b : Nat) (valid : Bool) : Dev :=
  if d.position ≠ 1 || !(d.band b).cfg.tdd then d else
  let d1 := d.updBand b (fun x => { x with tddSeq := (x.tddSeq + 1) % 65536, anchorSent := x.anchor.getD 0 })
  d1.sendDown 6 (d1.tddBody b valid)

/-- A message relayed: down on CL1, up on CL0, by a joined follower (R416). -/
def Dev.relayDown (d : Dev) (typ : Nat) (body : List Byte) : Dev :=
  if d.isFollower && d.portUp 1 then d.send { port := 1, typ := typ, body := body } else d
def Dev.relayUp (d : Dev) (typ : Nat) (body : List Byte) : Dev := d.sendUp typ body

end Sys2Proof.Machine
end

