-- ==== Sys2Proof/Machine/Convoys.lean ====
section
/-! DEFINITION. The convoy family: the drover law, MUTE and release, composite power, the isolation estimator, the
oscillation ladder, the supervisors, and the convoy commands (chapter 11). -/

namespace Sys2Proof.Machine

/-! ### The drover law (R344, R345, R347 to R349, R351) -/

/-- Product of two 24-bit fractions, rounded down (log entry 22). -/
def mulQ (a b : Int) : Int := a * b / q24

/-- What a drover finds to step on: setpoint less measurement as 24-bit fractions of the error unit, and −y; no valid
measurement; a stand at OUT_MAX; or tracking only (Table CV-2). -/
inductive Finding where
  | error (e y : Int)
  | held
  | top
  | outside

/-- 1/64 dB as a 24-bit fraction of 1 dB. -/
def dBQ (v : Int) : Int := v * 262144

/-- The measured output power of a lane by TXPOWER_MODE (R269). -/
def Dev.outPower (d : Dev) (l : Nat) : Option Int :=
  if d.get pTxpowerMode l = 0 then
    (if d.get pPaOutPower l = -32768 then none else some (d.get pPaOutPower l))
  else d.openOut l

/-- What drover `k` of convoy `c` finds at a sample (Table CV-2, R352, R365). -/
def Dev.finding (d : Dev) (c k : Nat) (m : Readings) : Finding :=
  let x := d.convoy c
  let dr := nth x.dr k
  if k = 2 then
    if d.get pPowerLimit c = -32768 then .top else
    match m.power.orElse (fun _ => m.feedback), d.outPower c with
    | some _, some y => .error (dBQ (d.get pPowerLimit c - y)) (dBQ y)
    | _, _ => .held
  else if k = 3 then
    if !x.iso.running then .top else
    .error (-(dBQ (d.get pIsoMargin c)) - (x.gPrev * q24 / 64 - dBQ (d.iEff c))) (x.gPrev * q24 / 64 - dBQ (d.iEff c))
  else if k = 4 then
    match x.errD4 with
    | some (e, y) => .error (dBQ e) (dBQ y)
    | none => .top
  else if k = 5 then
    let y := if c < 8 then d.paTemp c else d.junction
    .error ((dr.setpoint - y) * 1048576) (y * 1048576)
  else if k = 6 then
    if d.get pEnergyTarget c = 4294967295 then .outside else
    match m.paMw with
    | some p => .error (dBQ (Config.dB64 (max 1 (d.getN pEnergyTarget c)) (max 1 p))) (dBQ (Config.dB64 (max 1 p) 1))
    | none => .held
  else
    match m.source with
    | some y => if dr.srcQty = 3 then .error ((dr.setpoint - y) * q24) (y * q24)
        else .error (dBQ (dr.setpoint - y)) (dBQ y)
    | none => .held

/-- Control samples of 7.8125 µs in a convoy's period (Table CV-1). -/
def Dev.periodCount (d : Dev) (c : Nat) : Nat := 2 ^ d.getN pConvoyPeriod c

/-- Time units of a convoy's control sample. -/
def Dev.period (d : Dev) (c : Nat) : Nat := 491520 * d.periodCount c

/-- Rate in output units per s over a time, as a 24-bit fraction. -/
def rateQ (rate time : Nat) : Int := rate * q24 * time / 62914560000

/-- The step period of a drover: D3 and D7 the control sample, the others 1 ms (Table CV-2). -/
def Dev.stepTime (d : Dev) (c k : Nat) : Nat := if k = 3 || k = 7 then d.period c else msU 1

/-- The output held to its limits of rise, and for D2, D5, D6 and D7 of fall (R348). -/
def rateLimited (k : Nat) (lim : Int) (old : Option Int) (v : Int) : Int :=
  match old with
  | none => v
  | some u =>
    if u + lim < v then u + lim
    else if (k = 2 || k = 5 || k = 6 || k = 7) && v < u - lim then u - lim else v

/-- The law of R345 for one step with error `e` and measurement `y`. -/
def Drover.law (r : Drover) (c k : Nat) (lim e y : Int) (now : Nat) : Drover :=
  let x := if r.onMeasure then -y else e
  let dx := x - r.xPrev.getD x
  let den := r.tf + 65536
  let dd := r.tf * r.d / den + mulQ r.kd dx * 65536 / den
  let i := clampQ c (r.i + mulQ r.ki e)
  let v := mulQ r.kp e + i + dd
  { r with d := dd, xPrev := some x, i := i, v := some v, u := some (rateLimited k lim r.u (clampQ c v)),
           stepped := some now, lastE := e, track := 0 }

/-- D7 on a threshold of its source chain: OUT_MIN while it is fired, through the rate limit (R365). -/
def Drover.gate (r : Drover) (c k : Nat) (lim : Int) (fired : Bool) (now : Nat) : Drover :=
  let v := if fired then loQ c else hiQ c
  { r with v := some v, u := some (rateLimited k lim r.u v), stepped := some now, track := 0 }

/-- The threshold that D7 follows is fired with flags [1] set (R332, R365). -/
def Dev.gateFired (d : Dev) (r : Drover) : Bool :=
  let t := nth (nth d.chains r.srcChain).thr r.srcThr
  t.fired && bit t.flags 1

/-- One loop drover's part of a sample: its step when due, else its output moved by the tracking (R344, R345, R349,
R351). -/
def Dev.stepDrover (d : Dev) (c k : Nat) (m : Readings) : Dev :=
  if d.droverState c k ≠ 1 then d else
  let r := d.drover c k
  let lim := rateQ r.rate (d.stepTime c k)
  let due := match r.stepped with
    | some t => decide (d.stepTime c k ≤ d.since t)
    | none => true
  let hold := d.updDrover c k (fun r => { r with u := r.u.map (fun u => clampQ c (u + r.track)), track := 0 })
  let fell := k = 3 && (d.convoy c).iso.running && (match (d.convoy c).iEffPrev with
    | some p => decide (d.iEff c < p)
    | none => false)
  if fell then
    let v := dBQ (d.iEff c - d.get pIsoMargin c)
    d.updDrover c k (fun r => { r with i := clampQ c v, d := 0, v := some v, u := some (clampQ c v), track := 0,
                                       stepped := some d.time })
  else if !due then hold
  else if k = 7 && r.srcQty = 5 then d.updDrover c k (fun r => r.gate c k lim (d.gateFired r) d.time)
  else match d.finding c k m with
    | .error e y => d.updDrover c k (fun r => r.law c k lim e y d.time)
    | .held => d
    | .top => d.updDrover c k (fun r => { r with u := some (hiQ c), v := some (hiQ c), stepped := some d.time, track := 0 })
    | .outside => d.updDrover c k (fun r =>
        { r with u := some (clampQ c (r.i + r.d)), v := some (clampQ c (r.i + r.d)), track := 0 })

/-- u_0: HOST_CEILING, rising no faster than HOST_RISE_RATE, in MUTE too; from a ceiling of MUTE it starts at the new
ceiling, and the release ramp bounds the gain (R345, R347; log entry 22). -/
def Dev.hostU (d : Dev) (c : Nat) : Int :=
  let h := toQ c (d.get pHostCeiling c)
  match (d.convoy c).u0 with
  | some u => min h (u + rateQ (d.getN pHostRiseRate c) (d.period c))
  | none => h

/-- The outputs that stand in the convoy rule, by slot (R345, Table CV-2). -/
def Dev.ruleOutputs (d : Dev) (c : Nat) : List (Nat × Int) :=
  let loops := ([2, 3, 4, 5, 6, 7] : List Nat).filterMap (fun k =>
    if d.droverState c k = 1 && !(k = 6 && d.get pEnergyTarget c = 4294967295) then
      ((d.drover c k).u).map (fun u => (k, u)) else none)
  let remote := if c < 8 && d.isFollower then ((d.convoy c).remote.map (fun r => (1, clampQ c (toQ c r)))).toList else []
  (0, ((d.convoy c).u0).getD (hiQ c)) :: (remote ++ loops)

/-- The release ramp begins: every loop drover takes G_start, and the mute path is released (R347). -/
def Dev.releaseConvoy (d : Dev) (c : Nat) : Dev :=
  let g := d.gStart c
  let q := toQ c g
  let rate := match (d.convoy c).restart with
    | some (_, r) => r
    | none => 6
  let d1 := d.updConvoy c (fun x =>
    { x with muted := false, ramp := some q, rampRate := rate, restart := none, gPrev := q * 64 / q24,
             starveSince := none, starveReported := false
             iso := if d.get pIsoState c = 0 then { x.iso with target := g + d.get pIsoMargin c } else x.iso
             dr := x.dr.map (fun r =>
               { r with i := clampQ c (q - mulQ r.kp r.lastE), d := 0, u := some q, v := some q, xPrev := none,
                        track := 0 }) })
  let d2 := d1.updConvoy c (fun x => { x with iEffPrev := some (d1.iEff c) })
  ((d2.set pIsoIEff c (if d2.get pIsoState c = 0 && (d2.convoy c).iso.running then d2.iEff c else d2.get pIsoIEff c)).set
    pStarveTime c 0).drivePins c

/-- The saturation supervisor of one drover: the time its v lies outside the limits (R361). -/
def Dev.satStep (d : Dev) (c k : Nat) : Dev :=
  let r := d.drover c k
  let out := match r.v with
    | some v => d.droverState c k = 1 && (decide (v < loQ c) || decide (hiQ c < v))
    | none => false
  if out then
    let t0 := r.satSince.getD d.time
    (d.updDrover c k (fun r => { r with satSince := some t0, satHigh := decide (hiQ c < r.v.getD 0) })).set pSatTime
      (droverIx c k) (min 4294967295 (toMs (d.since t0)) : Nat)
  else (d.updDrover c k (fun r => { r with satSince := none, satReported := false })).set pSatTime (droverIx c k) 0

/-- The convoy output and everything that follows it: the winner, the drover outputs, the split of the gain or the duty
of CHG_ILIM_PWM and FAN_PWM (R343, R345, R356). -/
def Dev.putOutput (d : Dev) (c : Nat) (g : Int) (winner : Nat) : Dev :=
  let out := fromQ c g
  let changed := d.getN pConvoyWinner c ≠ winner
  let limiting := (winner = 1 || winner = 3 || winner = 4) && decide (out < d.get pHostCeiling c)
  let d1 := (d.set pConvoyOutput c out).set pConvoyWinner c winner
  let d2 := d1.updConvoy c (fun x =>
    { x with gPrev := out * 64 / encPerUnit c, energyAt := if winner = 6 then some d.time else x.energyAt, winnerAt := if changed then d.time else x.winnerAt
             limitedSince := (if !limiting then none else if changed then some d.time
               else x.limitedSince.orElse (fun _ => some d.time)) })
  if c < 8 then (d2.split c).drivePins c
  else if c = 8 then
    let duty := if d2.pins.chgEn then min 1000 (1000 * out.toNat / max 1 (d2.getN pChgIFullscale)) else 0
    { d2 with pins := { d2.pins with chgPwm := duty } }
  else { d2 with pins := { d2.pins with fanPwm := out.toNat } }

/-- The losing loop drovers track the output (R345). -/
def Dev.trackLosers (d : Dev) (c winner : Nat) (g : Int) : Dev :=
  ([2, 3, 4, 5, 6, 7] : List Nat).foldl (fun e k =>
    if e.droverState c k = 1 && k ≠ winner then
      e.updDrover c k (fun r => match r.u with
        | some u =>
          let t := mulQ r.kt (g - u)
          { r with i := clampQ c (r.i + t), track := t }
        | none => r)
    else e) d

/-- The readings of a sample taken into the state: P_in, PA_OUT_POWER and the watch on a quiet detector (R265, R269,
R284). -/
def Dev.takeReadings (d : Dev) (c : Nat) (m : Readings) : Dev :=
  if 8 ≤ c then d else
  let d1 := match m.power with
    | some p => d.updLane c (fun x => { x with pIn := some p })
    | none => d
  match m.feedback, (d1.lane c).table with
  | some f, some t =>
    let out : Int := if bit t.flags 0 then f - t.fbCoupling else -32768
    let quiet := d1.get pTxpowerMode c = 0 && (d1.lane c).pins.paEn && (match d1.openOut c with
      | some w => decide (out < w - 640)
      | none => false)
    (d1.set pPaOutPower c out).updLane c (fun x =>
      { x with fbQuiet := if quiet then x.fbQuiet.orElse (fun _ => some d.time) else none })
  | _, _ => d1

/-- CONTROL_SAMPLE: the convoy mutes while any source holds, leaves MUTE by its ramp when none does, steps its due
drovers, takes the lowest output, and tracks the losers (R345 to R350). -/
def controlSample (c : Nat) (m : Readings) (d : Dev) : Dev :=
  if 10 ≤ c || lacksLane d c then d else
  let d0 := d.takeReadings c m
  if d0.muteSources c ≠ 0 then
    let d1 := (d0.muteConvoy c).updConvoy c (fun x =>
      { x with u0 := if d0.get pHostCeiling c = -32768 then none else some (d0.hostU c) })
    match (d1.convoy c).starveSince with
    | some t => d1.set pStarveTime c (min 4294967295 (toMs (d1.since t)) : Nat)
    | none => d1
  else
    let d1 := if c < 8 && (d0.convoy c).muted then d0.releaseConvoy c
      else d0.updConvoy c (fun x => { x with ramp := x.ramp.map (fun r => r + rateQ x.rampRate (d0.period c)) })
    let d2 := ([2, 3, 4, 5, 6, 7] : List Nat).foldl (fun e k => e.stepDrover c k m) d1
    let d3 := d2.updConvoy c (fun x =>
      { x with u0 := some (d2.hostU c), iEffPrev := if x.iso.running then some (d2.iEff c) else none })
    let rule := d3.ruleOutputs c
    let low := rule.foldl (fun a e => min a e.2) (hiQ c)
    let ramp := match (d3.convoy c).ramp with
      | some r => if low ≤ r then none else some r
      | none => none
    let d4 := d3.updConvoy c (fun x => { x with ramp := ramp })
    let ladder := (d4.convoy c).ladder.map (fun l => clampQ c (toQ c l))
    let g := min low (min (ramp.getD low) (ladder.getD low))
    let winner := match rule.find? (fun e => e.2 = g) with
      | some e => e.1
      | none => if ramp = some g then 8 else 9
    let d5 := ((d4.putOutput c g winner).trackLosers c winner g)
    let d6 := ([2, 3, 4, 5, 6, 7] : List Nat).foldl (fun e k => e.satStep c k) d5
    let d7 := (List.range 8).foldl (fun e k =>
      let u := if k = 0 then (d6.convoy c).u0 else if k = 1 then (d6.convoy c).remote.map (toQ c) else (d6.drover c k).u
      if e.droverState c k = 1 then
        match u with
        | some v => e.set pDroverOutput (droverIx c k) (fromQ c v)
        | none => e
      else e) d6
    if (d7.convoy c).iso.running then d7.set pIsoIEff c (d7.iEff c) else d7

def execControlSample (convoy : Nat) (m : Readings) (s : State) : Host.Outcome State Fault Refusal :=
  s.act (controlSample convoy m)

/-! ### Composite power (R352) -/

/-- The lane transmits: SPEAK, THROUGH, or a burst schedule. -/
def Dev.transmitsNow (d : Dev) (l : Nat) : Bool :=
  transmits (d.laneState l) || (match d.laneBand l with
    | some b => (d.band b).cfg.tdd && (d.band b).sched && d.bandState b = 3 && d.position ≤ 2
    | none => false)

/-- COMPOSITE_POWER_UPDATE: A and P_lim of each transmitting lane (R352). -/
def compositePowerUpdate (d : Dev) : Dev :=
  d.laneIds.foldl (fun e l =>
    if !d.transmitsNow l then (e.set pCompositeAlloc l 0).set pPowerLimit l (-32768) else
    let s := d.owner l
    let n := (d.laneIds.filter (fun k => d.owner k = s && d.transmitsNow k)).length
    let part := d.getN pCompositeTxLimit * d.getN pShare (8 * s)
    let eirp := d.get pEirpLimit l
    let caps := min (d.pMaxLast l) (Config.dB64 part (1000 * n))
    let lim := if eirp = -32768 then caps else min eirp caps
    (e.set pCompositeAlloc l (part / 1000 / n : Nat)).set pPowerLimit l
      (lim - (if d.get pTxpowerMode l = 1 then (d.lane l).backoff else 0))) d

def execCompositePowerUpdate (s : State) : Host.Outcome State Fault Refusal := s.act compositePowerUpdate

/-! ### Reports (R346, R356, R361) -/

/-- REMOTE_AGED: no REMOTE value for 50 ms makes D1 MUTE at a follower, with trigger 13 (R346, Table BP-4). -/
def remoteAged (c : Nat) (d : Dev) : Dev :=
  let x := d.convoy c
  if !d.isFollower || 8 ≤ c || x.aged || x.remote.isNone || d.since x.remoteAt < msU 50 then d else
  let d1 := (d.updConvoy c (fun x => { x with aged := true }))
  let d2 := d1.raiseLane c 0x0787 (e8 c ++ zs 3 ++ e32 (min 4294967295 (toMs (d.since x.remoteAt))))
  let d3 := match d2.laneBand c with
    | some b => d2.trip b 13 (d2.getN pUnitNumber) [c]
    | none => d2
  d3.muteConvoy c

def execRemoteAged (convoy : Nat) (s : State) : Host.Outcome State Fault Refusal := s.act (remoteAged convoy)

/-- CONVOY_LIMITED: a protective drover or REMOTE has held the output below HOST_CEILING for 100 ms, at most once per 10 s
(R356). -/
def convoyLimited (c : Nat) (d : Dev) : Dev :=
  let x := d.convoy c
  let spaced := match x.limitedAt with
    | some t => decide (secU 10 ≤ d.since t)
    | none => true
  match x.limitedSince with
  | some t =>
    if c < 8 && spaced && msU 100 ≤ d.since t then
      (d.updConvoy c (fun x => { x with limitedAt := some d.time })).raiseLane c 0x0784
        (e8 c ++ e8 (d.getN pConvoyWinner c) ++ s16 (d.get pConvoyOutput c) ++ s16 (d.get pHostCeiling c))
    else d
  | none => d

def execConvoyLimited (convoy : Nat) (s : State) : Host.Outcome State Fault Refusal := s.act (convoyLimited convoy)

/-- DROVER_SATURATED: once per episode that passes SUPERVISOR_LIMIT; a limit of 0 disables it (R361). -/
def droverSaturated (c k : Nat) (d : Dev) : Dev :=
  let r := d.drover c k
  let lim := d.getN pSupervisorLimit (droverIx c k)
  match r.satSince with
  | some t =>
    if c < 10 && 2 ≤ k && k ≤ 7 && lim ≠ 0 && !r.satReported && msU lim < d.since t then
      (d.updDrover c k (fun r => { r with satReported := true })).convoyEvent c 0x0782
        (e8 c ++ e8 k ++ eb r.satHigh ++ zs 1 ++ e32 (min 4294967295 (toMs (d.since t))))
    else d
  | none => d

def execDroverSaturated (convoy drover : Nat) (s : State) : Host.Outcome State Fault Refusal :=
  s.act (droverSaturated convoy drover)

/-- CONVOY_STARVED: a started lane convoy has been MUTE for longer than STARVE_LIMIT, once per episode (R361). -/
def convoyStarved (c : Nat) (d : Dev) : Dev :=
  let x := d.convoy c
  let lim := d.getN pStarveLimit c
  match x.starveSince with
  | some t =>
    if c < 8 && x.muted && d.laneStarted c && lim ≠ 0 && !x.starveReported && msU lim < d.since t then
      (d.updConvoy c (fun x => { x with starveReported := true })).raiseLane c 0x0783
        (e8 c ++ zs 1 ++ e16 (d.muteSources c) ++ e32 (min 4294967295 (toMs (d.since t))))
    else d
  | none => d

def execConvoyStarved (convoy : Nat) (s : State) : Host.Outcome State Fault Refusal := s.act (convoyStarved convoy)

/-! ### The isolation estimator and the ladder (R357 to R360) -/

/-- An estimate in force: I_eff takes it at once, or rises to it at 3 dB/s from STALE (Table CV-4). -/
def Dev.putEstimate (d : Dev) (l : Nat) (state : Nat) (v : Int) : Dev :=
  let cur := d.iEff l
  let rising := (d.get pIsoState l = 4 || (d.convoy l).iso.riseAt.isSome) && decide (cur < v)
  let d1 := d.updConvoy l (fun x =>
    { x with iso := { x.iso with last := some v, target := v, heldSince := none, fresh := true
                                 riseAt := if rising then some d.time else none, riseFrom := cur } })
  ((d1.set pIsoState l state).set pIsoEstimate l v).set pIsoIEff l (d1.iEff l)

/-- ISOLATION_WINDOW: a completed 10 ms window. One that holds the cause of a STALE is discarded; one with fewer than
50 % of valid samples or a reference below −60 dBFS holds the estimate, and 2 s of that make it STALE (R357, R358). -/
def isolationWindow (l validPercent : Nat) (reference : Int) (estimate : Option Int) (delay : Nat) (d : Dev) : Dev :=
  let i := (d.convoy l).iso
  let holdsCause := !i.fresh && (match i.staleAt with
    | some t => decide (d.since t < msU 10)
    | none => false)
  if !i.running || 8 ≤ l || holdsCause then d else
  let d1 := d.updConvoy l (fun x => { x with iso := { x.iso with windowEnd := some d.time, refPower := reference } })
  if validPercent < 50 || reference < -3840 then
    let t0 := i.heldSince.getD d.time
    if d1.get pIsoState l = 4 then d1
    else if secU 2 ≤ d.since t0 then d1.staleIso l 3
    else (d1.updConvoy l (fun x => { x with iso := { x.iso with heldSince := some t0 } })).set pIsoState l 3
  else match estimate with
  | some v => (d1.putEstimate l 1 v).set pIsoLoopDelay l (min 64000 delay : Nat)
  | none => d1.putEstimate l 2 (fromQ l (toQ l (d1.get pConvoyOutput l)) + 1280)

def execIsolationWindow (lane validPercent : Nat) (reference : Int) (estimate : Option Int) (delay : Nat) (s : State) :
    Host.Outcome State Fault Refusal := s.act (isolationWindow lane validPercent reference estimate delay)

/-- The REMOTE body that carries MUTE for a lane to every follower (Table CL-5). -/
def Dev.remoteMuteBody (d : Dev) (l : Nat) : List Byte :=
  e8 255 ++ e8 l ++ s16 (-32768) ++ s16 0 ++ e32 d.ts

/-- OSCILLATION_DETECTED: the path mutes directly, the rung climbs, LADDER is set 6 dB per rung below the output just
before, and the back-off runs; the ladder is exhausted when LADDER would fall below OUT_MIN or the rung pass 15 (R359,
R360). -/
def oscillationDetected (l criterion : Nat) (d : Dev) : Dev :=
  if 8 ≤ l || !(d.convoy l).iso.running || (d.convoy l).muted then d else
  let g := d.get pConvoyOutput l
  let n := d.getN pOscRung l + 1
  let lad := g - 384 * (n : Int)
  let spent := lad < -640 || 15 < n
  let back := min (2 ^ n) 64
  let d1 := d.updConvoy l (fun x =>
    { x with ladder := some lad, exhausted := x.exhausted || spent, oscAt := some d.time, oscBackoff := back
             backoffEnd := if spent then none else some (d.time + secU back) })
  let d2 := ((d1.set pOscRung l (min 15 n : Nat)).bump pOscCount l).muteConvoy l
  let d3 := d2.raiseProt (d2.owner l) 0x0780
    (e8 l ++ e8 (min 15 n) ++ s16 g ++ s16 (d.iEff l) ++ e16 back ++ e64 d.ts ++ s16 (max (-32767) lad) ++ e8 criterion)
  let d4 := match d3.laneBand l with
    | some b => d3.trip b 1 (d3.getN pUnitNumber) [l]
    | none => d3
  let d5 := if d4.position = 1 then d4.sendDown 5 (d4.remoteMuteBody l) else d4
  d5.staleIso l 4

def execOscillationDetected (lane criterion : Nat) (s : State) : Host.Outcome State Fault Refusal :=
  s.act (oscillationDetected lane criterion)

/-- OSC_BACKOFF_EXPIRY: the back-off has run; the trigger clears and the convoy may release (R360). -/
def oscBackoffExpiry (l : Nat) (d : Dev) : Dev :=
  match (d.convoy l).backoffEnd with
  | some t =>
    if d.time < t then d else
    let d1 := d.updConvoy l (fun x => { x with backoffEnd := none })
    match d1.laneBand l with
    | some b => d1.clearLanes b 1 [l]
    | none => d1
  | none => d

def execOscBackoffExpiry (lane : Nat) (s : State) : Host.Outcome State Fault Refusal := s.act (oscBackoffExpiry lane)

/-- OSC_LADDER_RESET: 300 s without a detection return the rung to 0 and retire LADDER (R360). -/
def oscLadderReset (l : Nat) (d : Dev) : Dev :=
  match (d.convoy l).oscAt with
  | some t =>
    if 8 ≤ l || d.since t < secU 300 then d else
    let n := d.getN pOscRung l
    ((d.updConvoy l (fun x => { x with oscAt := none, ladder := none })).set pOscRung l 0).raiseLane l 0x0786
      (e8 l ++ e8 n)
  | none => d

def execOscLadderReset (lane : Nat) (s : State) : Host.Outcome State Fault Refusal := s.act (oscLadderReset lane)

/-! ### Commands (R354, R362 to R368) -/

/-- Table CV-3 for a drover: S0 alone for D2 to D5 and for C8 and C9, the lane's owner for D6 and D7; slots 0 and 1 are
left to BAD_ARG. -/
def droverDenied (d : Dev) (slot c k : Nat) : Bool :=
  if k < 2 || 7 < k || 9 < c then false
  else if 8 ≤ c then slot ≠ 0
  else if 6 ≤ k then d.owner c ≠ slot else slot ≠ 0

/-- R271 for D2 to D5 of a lane assigned to a tenant. -/
def droverBarred (d : Dev) (c k : Nat) : Bool := c < 8 && k ≤ 5 && d.owner c ≠ 0

/-- Whether a convoy uses a slot (Table CV-1). -/
def usesSlot (c k : Nat) : Bool := if c < 8 then true else k = 0 || k = 5 || k = 7

/-- DROVER_STATE changed, with its event. -/
def Dev.setDroverState (d : Dev) (c k new : Nat) : Dev :=
  let old := d.droverState c k
  let d1 := d.set pDroverState (droverIx c k) new
  d1.convoyEvent c 0x0785 (e8 c ++ e8 k ++ e8 old ++ e8 new ++ eb (c < 8 && (d1.muteSources c ≠ 0 || (d1.convoy c).muted)))

/-- The open and close response (Table CV-8). -/
def Dev.droverBody (d : Dev) (c k : Nat) (out : Int) : List Byte :=
  e8 c ++ e8 k ++ e8 (d.droverState c k) ++ eb (c < 8 && (d.convoy c).muted) ++ s16 out

def cmdDroverOpen : CmdSpec :=
  { opcode := 0x0701, len := len 4,
    lacks := fun d r => lacksLane d (rq r 0 1), denied := fun d r => droverDenied d r.slot (rq r 0 1) (rq r 1 1),
    bad := fun _ r => firstBad r.body
      [.rg 0 (rq r 0 1 ≤ 9), .rg 1 (2 ≤ rq r 1 1 && rq r 1 1 ≤ 7), .rs 2 2],
    run := fun d r =>
      let c := rq r 0 1
      let k := rq r 1 1
      if !usesSlot c k then refuse d (fail .badArg)
      else if droverBarred d c k || d.droverState c k = 2 then refuse d (fail .state) else
      let d1 := (d.updDrover c k (fun x => { x with u := none, v := none, satSince := none, track := 0 })).set
        pDroverOutput (droverIx c k) (-32768)
      let d2 := d1.setDroverState c k 2
      let d3 := if k = 3 || k = 4 then d2.muteConvoy c else d2
      { dev := d3, reply := okBody (d3.droverBody c k (-32768)) } }

def execDroverOpen (r : Request) (s : State) : Host.Outcome State Fault Refusal := s.act (hostCmd cmdDroverOpen r)

/-- DROVER_CLOSE: bumpless, at the present output or at G_start of the next release while the convoy is MUTE (R367). -/
def cmdDroverClose : CmdSpec :=
  { opcode := 0x0702, len := len 4,
    lacks := fun d r => lacksLane d (rq r 0 1), denied := fun d r => droverDenied d r.slot (rq r 0 1) (rq r 1 1),
    bad := fun _ r => firstBad r.body
      [.rg 0 (rq r 0 1 ≤ 9), .rg 1 (2 ≤ rq r 1 1 && rq r 1 1 ≤ 7), .rs 2 2],
    run := fun d r =>
      let c := rq r 0 1
      let k := rq r 1 1
      if !usesSlot c k then refuse d (fail .badArg)
      else if droverBarred d c k || d.droverState c k ≠ 2 then refuse d (fail .state) else
      let g := if c < 8 && (d.convoy c).muted then d.gStart c else d.get pConvoyOutput c
      let q := toQ c g
      let d1 := d.updDrover c k (fun x =>
        { x with d := 0, i := clampQ c (q - mulQ x.kp x.lastE), u := some q, v := some q, xPrev := none,
                 stepped := some d.time })
      let d2 := (d1.set pDroverOutput (droverIx c k) g).setDroverState c k 1
      { dev := d2, reply := okBody (d2.droverBody c k g) } }

def execDroverClose (r : Request) (s : State) : Host.Outcome State Fault Refusal := s.act (hostCmd cmdDroverClose r)

/-- The chains D7 of a convoy may read: those of the same lane, or for C8 and C9 a B, P or X chain of an S0 lane
(R365). -/
def Dev.sourceOk (d : Dev) (c chain : Nat) : Bool :=
  if c < 8 then chain = c || chain = 8 + c || chain = 16 + c
  else chain = 48 || chain = 49 || (chain < 8 && d.owner chain = 0) || (16 ≤ chain && chain < 24 && d.owner (chain - 16) = 0)

def cmdDroverCoefSet : CmdSpec :=
  { opcode := 0x0703, len := len 40,
    lacks := fun d r => lacksLane d (rq r 0 1), denied := fun d r => droverDenied d r.slot (rq r 0 1) (rq r 1 1),
    bad := fun _ r =>
      let c := rq r 0 1
      let k := rq r 1 1
      firstBad r.body
        [.rg 0 (c ≤ 9), .rg 1 (2 ≤ k && k ≤ 7), .rg 2 (rq r 2 1 ≤ 1), .rs 3 1,
         .rg 16 (0 ≤ rqS r 16 4), .rg 20 (0 ≤ rqS r 20 4 && rqS r 20 4 ≤ 16777216),
         .rg 24 (1 ≤ rq r 24 2 && rq r 24 2 ≤ 10000), .rs 26 2,
         .rg 28 (k = 5 || k = 7 || rq r 28 2 = 0),
         .rg 30 (if k = 7 then isChain (rq r 30 1) else rq r 30 1 = 0),
         .rg 31 (if k = 7 then 1 ≤ rq r 31 1 && rq r 31 1 ≤ 5 else rq r 31 1 = 0),
         .rg 32 (if k = 7 && rq r 31 1 = 5 then rq r 32 1 ≤ 3 else rq r 32 1 = 0), .rs 33 7],
    run := fun d r =>
      let c := rq r 0 1
      let k := rq r 1 1
      if droverBarred d c k || d.droverState c k = 0 then refuse d (fail .state)
      else if d.droverState c k = 1 then refuse d (fail .openRequired)
      else if (k ≠ 7 && c ≠ 9 && (rqS r 4 4 < 0 || rqS r 8 4 < 0 || rqS r 12 4 < 0)) ||
          (k = 5 && (rqS r 28 2 < -640 || 2400 < rqS r 28 2)) || (k = 7 && !d.sourceOk c (rq r 30 1)) then
        refuse d (fail .badArg)
      else
        let d1 := d.updDrover c k (fun x =>
          { x with kp := rqS r 4 4, ki := rqS r 8 4, kd := rqS r 12 4, tf := rqS r 16 4, kt := rqS r 20 4,
                   rate := rq r 24 2, onMeasure := rq r 2 1 = 1, setpoint := rqS r 28 2, srcChain := rq r 30 1,
                   srcQty := rq r 31 1, srcThr := rq r 32 1 })
        { dev := d1, reply := okBody (e8 c ++ e8 k ++ zs 2 ++ e32 (d.stepTime c k * 1000000 / 62914560)) } }

def execDroverCoefSet (r : Request) (s : State) : Host.Outcome State Fault Refusal := s.act (hostCmd cmdDroverCoefSet r)

def cmdConvoyStatusGet : CmdSpec :=
  { opcode := 0x0704, len := len 4,
    lacks := fun d r => lacksLane d (rq r 0 1), denied := fun d r => notOwner d r.slot (rq r 0 1),
    bad := fun _ r => firstBad r.body [.rg 0 (rq r 0 1 ≤ 9), .rs 1 3],
    run := fun d r =>
      let c := rq r 0 1
      let x := d.convoy c
      let lane := c < 8
      let opt := fun (o : Option Int) => s16 (if lane then (o.getD (-32768)) else -32768)
      let atLimit := flags ((List.range 8).map (fun k => (nth x.dr k).satSince.isSome))
      let isOpen := flags ((List.range 8).map (fun k => d.droverState c k = 2))
      { dev := d
        reply := okBody (e8 c ++ e8 (d.getN pConvoyWinner c) ++
          e8 (flags [x.ramp.isSome && lane, x.ladder.isSome, x.backoffEnd.isSome, lane && d.get pIsoState c = 4]) ++
          e8 isOpen ++ s16 (d.get pConvoyOutput c) ++ opt (x.ramp.map (fromQ c)) ++ opt x.ladder ++ zs 2 ++
          ((List.range 8).map (fun k => s16 (d.get pDroverOutput (droverIx c k)))).flatten ++
          e16 (d.muteSources c) ++ e8 atLimit ++ zs 1 ++ e32 (min 4294967295 (toMs (d.since x.winnerAt)))) } }

def execConvoyStatusGet (r : Request) (s : State) : Host.Outcome State Fault Refusal :=
  s.act (hostCmd cmdConvoyStatusGet r)

/-- SUPERVISOR_SET: the owner of a lane convoy, S0 for C8 and C9 (R361, R363). -/
def cmdSupervisorSet : CmdSpec :=
  { opcode := 0x0705, len := len 8,
    lacks := fun d r => lacksLane d (rq r 0 1),
    denied := fun d r => notOwner d r.slot (rq r 0 1) || ((rq r 0 1 = 8 || rq r 0 1 = 9) && r.slot ≠ 0),
    bad := fun _ r => firstBad r.body
      [.rg 0 (rq r 0 1 ≤ 9),
       .rg 1 ((2 ≤ rq r 1 1 && rq r 1 1 ≤ 7) || rq r 1 1 = 255),
       .rs 2 2, .rg 4 (rq r 4 4 = 0 || (100 ≤ rq r 4 4 && rq r 4 4 ≤ 600000))],
    nvm := fun _ _ => true,
    run := fun d r =>
      let v : Int := (rq r 4 4 : Nat)
      if !(if rq r 1 1 = 255 then rq r 0 1 < 8 else usesSlot (rq r 0 1) (rq r 1 1)) then refuse d (fail .badArg) else
      { dev := if rq r 1 1 = 255 then d.setNv pStarveLimit (rq r 0 1) v
          else d.setNv pSupervisorLimit (droverIx (rq r 0 1) (rq r 1 1)) v
        reply := okBody r.body } }

def execSupervisorSet (r : Request) (s : State) : Host.Outcome State Fault Refusal := s.act (hostCmd cmdSupervisorSet r)

def cmdIsolationGet : CmdSpec :=
  { opcode := 0x0706, len := len 4,
    lacks := fun d r => lacksLane d (rq r 0 1), denied := fun d r => notOwner d r.slot (rq r 0 1),
    bad := fun _ r => firstBad r.body [.rg 0 (rq r 0 1 < 8), .rs 1 3],
    run := fun d r =>
      let l := rq r 0 1
      let i := (d.convoy l).iso
      let eff := if i.running then d.iEff l else d.get pIsoIEff l
      let g := d.get pConvoyOutput l
      { dev := d
        reply := okBody (e8 l ++ e8 (d.getN pIsoState l) ++ s16 (d.get pIsoEstimate l) ++ s16 eff ++
          s16 (d.get pIsoMargin l) ++ e32 (d.getN pIsoLoopDelay l) ++
          e32 (match i.windowEnd with
            | some t => min 4294967295 (toMs (d.since t))
            | none => 4294967295) ++
          e64 (match i.windowEnd with
            | some t => d.ts - d.since t
            | none => 0) ++
          s16 i.refPower ++ s16 (if g = -32768 then -32768 else clampI (-32767) 32767 (g - eff))) } }

def execIsolationGet (r : Request) (s : State) : Host.Outcome State Fault Refusal := s.act (hostCmd cmdIsolationGet r)

end Sys2Proof.Machine
end

