-- ==== Sys2Proof/Machine/Bridging.lean ====
section
/-! DEFINITION. The bridging family: band configuration, start and stop, cell presence, the TDD anchor and its cross-check,
uplink noise, downlink overload, the restart ladder, and the band messages (chapter 14). -/

namespace Sys2Proof.Machine

/-! ### BAND_CONFIG (R439, R441, Table BP-1) -/

/-- The configuration a request carries (Table BP-8). -/
def bandCfgOf (r : Request) : BandCfg :=
  { tdd := rq r 2 1 = 1, unitMask := rq r 3 1, dlLane := rq r 4 1, ulLane := rq r 5 1, dlRate := rq r 6 1,
    ulRate := rq r 7 1, dlFreq := rq r 8 8, ulFreq := rq r 16 8, syncOffset := rq r 24 4 }

/-- The ranges and encodings of Table BP-8 (step 7 of Table CM-4). -/
def bandCfgBad (r : Request) : Option Nat :=
  let c := bandCfgOf r
  let set := rq r 1 1 = 0
  firstBad r.body
    [.rg 0 (rq r 0 1 ≤ 7), .rg 1 (rq r 1 1 ≤ 1), .rg 2 (rq r 2 1 ≤ 1), .rg 4 (!set || c.dlLane < 8),
     .rg 5 (!set || (if c.tdd then c.ulLane = 255 else c.ulLane < 8)),
     .rg 6 (c.dlRate ≤ 4), .rg 7 (c.ulRate ≤ 4 && (!set || !c.tdd || c.ulRate = 0)),
     .rg 16 (!set || !c.tdd || c.ulFreq = 0),
     .rg 24 (!set || c.tdd || c.syncOffset = 0), .rs 28 4]

/-- Step 1 of Table BP-1 as far as Table BP-8 does not give it: distinct lanes, unit_mask (R441), the tuning range
(R245), sync_offset below the permit period. -/
def Dev.bandCfgOk (d : Dev) (slot : Nat) (c : BandCfg) : Bool :=
  let period := ((d.permits slot).findSome? (fun p =>
    if p.2.state = .active then (c.entry p.2 c.dlLane).map (·.period) else none)).getD 0
  (if d.get pChainRole = 1 then !bit c.unitMask 0 else c.unitMask = 0) && inTuningRange c.dlFreq c.dlRate &&
    (if c.tdd then period = 0 || c.syncOffset < period * 1000
      else c.ulLane ≠ c.dlLane && inTuningRange c.ulFreq c.ulRate)

/-- The BAND_CONFIG response. -/
def Dev.bandReply (d : Dev) (b : Nat) : Reply :=
  let c := (d.band b).cfg
  let linked := d.bandState b ≠ 0 && d.bandPorts c ≠ []
  okBody (e8 (b % 8) ++ e8 (d.bandState b) ++ zs 2 ++ e32 (if linked then d.bandCost c false else 0) ++
    e32 (if linked then d.bandCost c true else 0))

def cmdBandConfig : CmdSpec :=
  { opcode := 0x0A01, len := len 32,
    lacks := fun d r => rq r 1 1 = 0 && (bandCfgOf r).lanes.any (lacksLane d),
    denied := fun d r => rq r 1 1 = 0 && (bandCfgOf r).lanes.any (notOwner d r.slot),
    bad := fun _ r => bandCfgBad r,
    notReady := fun d _ => d.waitFor d.pwr.lanesCal 1200 none,
    run := fun d r =>
      let b := bandIx r.slot (rq r 0 1)
      let c := bandCfgOf r
      if rq r 1 1 = 1 then
        if d.bandState b ≠ 1 then refuse d (fail .state) else
        let d1 := (d.setBandState b 0 0).updBand b (fun _ => {})
        { dev := d1.budgetCheck r.slot, reply := d1.bandReply b }
      else if !d.bandCfgOk r.slot c then refuse d (fail .badArg)
      else if d.bandBusy b || c.lanes.any (fun l =>
          (d.laneState l ≠ 2 && d.laneState l ≠ 4) || (d.lane l).survey.isSome ||
          (match d.laneBand l with
            | some o => o ≠ b
            | none => false)) then refuse d (fail .state)
      else match d.permitStatus r.slot c.channels with
      | some st => refuse d (fail st)
      | none =>
        if (d.overShare r.slot c b).isSome then refuse d (fail .wouldExceed) else
        let d1 := (d.updBand b (fun _ => { cfg := c })).setBandState b 1 0
        let d2 := c.channels.foldl (fun e x =>
          let e1 := (e.set pLaneFreq x.lane (x.fc : Nat)).set pLaneRate x.lane (x.rate : Nat)
          (((e1.passLock x.lane false).1).staleIso x.lane 1).setLaneState x.lane 4 (some 0)) d1
        let d3 := (d2.budgetCheck r.slot).bandDown b 0
        { dev := d3, reply := d3.bandReply b } }

def execBandConfig (r : Request) (s : State) : Host.Outcome State Fault Refusal := s.act (hostCmd cmdBandConfig r)

/-! ### BRIDGE_START and its completion (R442 to R445) -/

def cmdBridgeStart : CmdSpec :=
  { opcode := 0x0A02, len := len 8, long := true,
    bad := fun _ r => firstBad r.body [.rg 0 (rq r 0 1 ≤ 7), .rs 1 1, .rs 4 4],
    notReady := fun d _ => d.waitFor d.pwr.lanesCal 1200 none,
    run := fun d r =>
      let b := bandIx r.slot (rq r 0 1)
      let c := (d.band b).cfg
      if d.isFollower then refuse d (fail .state) else
      match d.startChecks b none with
      | .error (_, .notYet) => refuse d (notYet 10)
      | .error (10, st) => refuse d (failWhy st 0xFFFF 2)
      | .error (_, st) => refuse d (fail st)
      | .ok (h, p, x) =>
        match d.startJob r.slot (rq r 2 2)
            { opcode := 0x0A02, standing := true, rate := d.standingRate b p, lanes := c.lanes } with
        | .error rep => refuse d rep
        | .ok (j, d1) =>
          let d2 := d1.activateBand b h j (min 4294967295 (delayNs x)) p (some (r.slot, r.ref))
          let d3 := if d2.position = 0 then d2.updBand b (fun y => { y with setFixed := true, setUnits := 1 }) else d2
          { dev := d3.bandDown b 1, reply := accepted 2200 } }

def execBridgeStart (r : Request) (s : State) : Host.Outcome State Fault Refusal := s.act (hostCmd cmdBridgeStart r)

/-- A start ends without bridging: STOP goes down, the band is IDLE and its job ends (R445). -/
def Dev.failStart (d : Dev) (b why : Nat) : Dev := (d.bandDown b 2).endBand b 4 4 0 .state why

/-- A start in progress at the head or a STANDALONE unit. -/
def Dev.starting (d : Dev) (b : Nat) : Bool := d.bandState b = 2 && (d.band b).start.isSome

/-- FOLLOWER_ANSWER_TIMEOUT: at 500 ms the set is the head and the followers that answered reason 0, and the delay is
fixed over it; no follower ends the start with reason 3 (R444, R445). -/
def followerAnswerTimeout (b : Nat) (d : Dev) : Dev :=
  let x := d.band b
  if !d.starting b || x.setFixed || d.since x.startAt < msU 500 then d else
  let units := (maskUnits x.cfg.unitMask).filter (fun u => x.answers.contains (u, 0))
  if units = [] then d.failStart b 3 else
  d.updBand b (fun y =>
    { y with setFixed := true, setUnits := units.foldl (fun a u => a + 2 ^ u) 1
             delay := match d.bandDelay x.cfg units with
               | some v => min 4294967295 (delayNs v)
               | none => y.delay })

def execFollowerAnswerTimeout (band : Nat) (s : State) : Host.Outcome State Fault Refusal :=
  s.act (followerAnswerTimeout band)

/-- START_NO_CELL_TIMEOUT: no cell within 2,000 ms ends the start with reason 1 (R445). -/
def startNoCellTimeout (b : Nat) (d : Dev) : Dev :=
  let x := d.band b
  if !d.starting b || x.detectedAt.isSome || d.since x.startAt < msU 2000 then d else d.failStart b 1

def execStartNoCellTimeout (band : Nat) (s : State) : Host.Outcome State Fault Refusal :=
  s.act (startNoCellTimeout band)

/-- BRIDGE_START_COMPLETE: with the set fixed, a cell detected and a TDD pattern matched, the schedule is sent, the convoys
release and the band is BRIDGING (R444, Table BP-3). -/
def bridgeStartComplete (b : Nat) (d : Dev) : Dev :=
  let x := d.band b
  if !d.starting b || !x.setFixed || x.detectedAt.isNone || (x.cfg.tdd && x.verdict ≠ 2) then d else
  let d1 := d.updBand b (fun y => { y with sched := y.cfg.tdd, verifyAt := d.time, restored := d.time })
  let d2 := ((d1.set pBandUnits b (x.setUnits : Nat)).setBandState b 3 0).tddSend b true
  (x.cfg.lanes.foldl (fun e l => e.unhold l 0) d2).finishStart b .ok 0

def execBridgeStartComplete (band : Nat) (s : State) : Host.Outcome State Fault Refusal :=
  s.act (bridgeStartComplete band)

/-! ### BRIDGE_STOP (R446) -/

def cmdBridgeStop : CmdSpec :=
  { opcode := 0x0A03, len := len 4,
    bad := fun _ r => firstBad r.body [.rg 0 (rq r 0 1 ≤ 7), .rs 1 3],
    run := fun d r =>
      let b := bandIx r.slot (rq r 0 1)
      if !d.bandBusy b then refuse d (fail .state) else
      let d1 := (d.bandDown b 2).endBand b 4 4 0 .state 4
      let d2 := if d1.isFollower then d1.bandAnswer b 0 else d1
      { dev := d2, reply := okBody (e8 (b % 8) ++ e8 (d2.bandState b)) } }

def execBridgeStop (r : Request) (s : State) : Host.Outcome State Fault Refusal := s.act (hostCmd cmdBridgeStop r)

/-! ### TDD_PATTERN_GET and PROTECTION_STATUS_GET (R463) -/

def cmdTddPatternGet : CmdSpec :=
  { opcode := 0x0A04, len := len 4,
    bad := fun _ r => firstBad r.body [.rg 0 (rq r 0 1 ≤ 7), .rs 1 3],
    run := fun d r =>
      let b := bandIx r.slot (rq r 0 1)
      let x := d.band b
      if d.bandState b = 0 || !x.cfg.tdd then refuse d (fail .state) else
      let e := (d.bindable r.slot x.cfg.channels).bind (fun p => x.cfg.entry p.2 x.cfg.dlLane)
      let (pat, n, per) := if x.slots ≠ 0 then (x.pattern, x.slots, x.period)
        else ((e.map (·.pattern)).getD 0, (e.map (·.slots)).getD 0, (e.map (·.period)).getD 0)
      let (v, d1) := d.measure 1
      { dev := d1
        reply := okBody (e8 (b % 8) ++ e8 (if x.learning.isSome then 1 else x.verdict) ++ e8 n ++
          e8 (learnPeriods per) ++ e32 per ++ e64 pat ++ e32 x.misSlots ++ e64 (x.anchor.getD 0) ++ s16 x.pDl ++
          s16 x.worstUl ++ e32 (match x.windowEnd with
            | some t => min 4294967295 (toMs (d.since t))
            | none => (nth v 0).natAbs % 4294967296)) } }

def execTddPatternGet (r : Request) (s : State) : Host.Outcome State Fault Refusal := s.act (hostCmd cmdTddPatternGet r)

def cmdProtectionStatusGet : CmdSpec :=
  { opcode := 0x0A05, len := len 4,
    lacks := fun d r => lacksLane d (rq r 0 1), denied := fun d r => notOwner d r.slot (rq r 0 1),
    bad := fun _ r => firstBad r.body [.rg 0 (rq r 0 1 < 8), .rs 1 3],
    run := fun d r =>
      let l := rq r 0 1
      let y := d.convoy l
      let left := fun (o : Option Nat) => match o with
        | some t => toMsUp (t - d.time)
        | none => 0
      let tail := s16 (d.get pUlNoiseEst l) ++ s16 ((d.lane l).pIn.getD (-32768)) ++ s16 (d.get pEirpLimit l) ++
        s16 (if d.isFollower then y.remote.getD (-32768) else -32768)
      { dev := d
        reply := okBody (match d.laneBand l with
          | some b =>
            let x := d.band b
            e8 l ++ e8 (b % 8) ++ e8 (d.bandState b) ++ e8 (d.getN pBandRung b) ++ e32 (d.getN pBandTriggers b) ++
              e32 x.trips ++ e64 x.lastTrip ++ e8 x.lastTrigger ++ zs 3 ++ tail ++
              e32 (max (left x.backoffEnd) (left y.backoffEnd))
          | none => e8 l ++ e8 255 ++ zs 22 ++ tail ++ e32 (left y.backoffEnd)) } }

def execProtectionStatusGet (r : Request) (s : State) : Host.Outcome State Fault Refusal :=
  s.act (hostCmd cmdProtectionStatusGet r)

/-! ### Cell presence and the anchor (R448, R452) -/

/-- CELL_STATE (Table BP-11), with the identity and figures of the last detection. -/
def Dev.cellEvent (d : Dev) (b : Nat) : Dev :=
  let x := d.band b
  d.raiseSlot (b / 8) 0x0A85 (e8 (b % 8) ++ eb x.cellUp ++ e16 x.cellPci ++ eb x.cellNr ++ zs 1 ++ s16 x.cellPower ++
    s32 x.cellOffset)

/-- ns as time-stamp units. -/
def nsU (n : Nat) : Nat := n * 6291456 / 100000

/-- The error of a detection's anchor against the nearest predicted period start (R448). -/
def anchorError (old new period : Nat) : Int :=
  let t : Int := period * 6291456 / 100
  ((new : Int) - old + t / 2) % max 1 t - t / 2

/-- The anchor follows a detection: a first one sets it, one within 1 µs moves it by an eighth of its error, the third
beyond 1 µs in a row trips TDD_TIMING and is taken as the new anchor (R448, Table BP-4 code 5). -/
def Dev.moveAnchor (d : Dev) (b sync : Nat) : Dev :=
  let x := d.band b
  let a : Int := (sync : Int) - nsU x.cfg.syncOffset - nsU (d.getN pFeRxDelay x.cfg.dlLane)
  let new := (a % 18446744073709551616).toNat
  match x.anchor with
  | none => d.updBand b (fun y => { y with anchor := some new })
  | some old =>
    let err := anchorError old new x.period
    if err.natAbs * 100 ≤ 6291456 then
      let next := (((old : Int) + roundDiv err 8) % 18446744073709551616).toNat
      let d1 := d.updBand b (fun y => { y with anchor := some next, badDetections := 0 })
      let d2 := if x.overCeiling < 3 then d1.clearTrigger b 5 else d1
      if x.sched && 62914 < ((next : Int) - x.anchorSent).natAbs * 100 then d2.tddSend b true else d2
    else if x.badDetections + 1 < 3 then d.updBand b (fun y => { y with badDetections := y.badDetections + 1 })
    else (d.updBand b (fun y => { y with badDetections := 3, anchor := some new })).tripBand b 5

/-- CELL_DETECTOR_RUN: the detector runs on a started band at the head or a STANDALONE unit; a detection brings presence,
the identity, the anchor and, in a start, the learning window (R448, R452, Table BP-3). -/
def cellDetectorRun (b : Nat) (found : Option Sighting) (d : Dev) : Dev :=
  if !d.bandBusy b || d.isFollower then d else
  match found with
  | none => d
  | some f =>
    let x := d.band b
    let changed := !x.cellUp || x.cellPci ≠ f.pci || x.cellNr != f.nr
    let d1 := d.updBand b (fun y =>
      { y with detectedAt := some d.time, cellUp := true, cellPci := f.pci, cellNr := f.nr, cellPower := f.power
               cellOffset := f.offset })
    let d2 := if changed then d1.cellEvent b else d1
    let d3 := d2.clearTrigger b 4
    if !x.cfg.tdd then d3 else
    let d4 := d3.moveAnchor b f.sync
    if d4.bandState b = 2 && (d4.band b).learning.isNone && (d4.band b).verdict ≠ 2 then
      d4.updBand b (fun y => { y with learning := some d.time })
    else d4

def execCellDetectorRun (band : Nat) (found : Option Sighting) (s : State) : Host.Outcome State Fault Refusal :=
  s.act (cellDetectorRun band found)

/-- NO_CELL: 2 s without a detection end the cell's presence and trip NO_CELL (R452, Table BP-4 code 4). -/
def noCell (b : Nat) (d : Dev) : Dev :=
  let x := d.band b
  match x.detectedAt with
  | some t =>
    if d.bandState b < 3 || d.isFollower || !x.cellUp || d.since t < secU 2 then d else
    ((d.updBand b (fun y => { y with cellUp := false })).cellEvent b).tripBand b 4
  | none => d

def execNoCell (band : Nat) (s : State) : Host.Outcome State Fault Refusal := s.act (noCell band)

/-- TDD_MESSAGE_TIMEOUT: a follower with no valid TDD message for 50 ms trips TDD_TIMING (Table BP-4 code 5). -/
def tddMessageTimeout (b : Nat) (d : Dev) : Dev :=
  match (d.band b).tddValidAt with
  | some t => if !d.isFollower || d.bandState b < 3 || d.since t < msU 50 then d else d.tripBand b 5
  | none => d

def execTddMessageTimeout (band : Nat) (s : State) : Host.Outcome State Fault Refusal := s.act (tddMessageTimeout band)

/-! ### Learning windows (R453 to R455, R467) -/

/-- TDD_VERIFY_START: every TDD_VERIFY_INTERVAL while the band bridges, with its UL bursts suspended, and every 10 s while
TDD_MISMATCH holds it, a learning window starts (R454). -/
def tddVerifyStart (b : Nat) (d : Dev) : Dev :=
  let x := d.band b
  let wait := match x.learnAgainAt with
    | some t => d.time < t || t = 0
    | none => false
  if !x.cfg.tdd || d.isFollower || x.learning.isSome || wait then d
  else if d.bandState b = 3 && secU (d.getN pTddVerifyInterval) ≤ d.since x.verifyAt then
    ((d.updBand b (fun y => { y with learning := some d.time, ulSuspended := true, learnAgainAt := none })).endBurst
      x.cfg.dlLane).tddSend b true
  else if d.bandState b = 4 && x.trig.any (fun t => t.1 = 6) && (match x.windowEnd with
      | some t => decide (secU 10 ≤ d.since t)
      | none => true) then
    d.updBand b (fun y => { y with learning := some d.time, learnAgainAt := none })
  else d

def execTddVerifyStart (band : Nat) (s : State) : Host.Outcome State Fault Refusal := s.act (tddVerifyStart band)

/-- A value placed in a rising list. -/
def insertUp (v : Int) : List Int → List Int
  | [] => [v]
  | a :: t => if v ≤ a then v :: a :: t else a :: insertUp v t

/-- The median: of an even count, the mean of the middle two (log entry 26). -/
def median (l : List Int) : Int :=
  let s := l.foldl (fun a v => insertUp v a) []
  let n := s.length
  if n % 2 = 1 then nth s (n / 2) else roundDiv (nth s (n / 2 - 1) + nth s (n / 2)) 2

/-- P_DL: the median over all DL-marked slots of the window's periods (R453). -/
def windowPdl (pattern : Nat) (rows : List (List Int)) : Int :=
  median ((rows.map (fun r => (r.zipIdx.filter (fun e => slotKind pattern e.2 = 0)).map (·.1))).flatten)

/-- The UL-marked slots that read at or above P_DL − 6 dB in more than half of the periods (R453). -/
def windowMisses (pattern n : Nat) (rows : List (List Int)) (pdl : Int) : List Nat :=
  (List.range n).filter (fun k => slotKind pattern k = 1 &&
    decide (rows.length < 2 * (rows.filter (fun r => decide (pdl - 384 ≤ r.getD k (-32768)))).length))

/-- The strongest UL-marked slot and its power. -/
def windowWorst (pattern n : Nat) (rows : List (List Int)) : Nat × Int :=
  (List.range n).foldl (fun a k =>
    if slotKind pattern k ≠ 1 then a else
    let v := rows.foldl (fun m r => max m (r.getD k (-32768))) (-32768)
    if a.2 < v then (k, v) else a) (0, -32768)

/-- TDD_MISMATCH raised: the band is HELD; the fifth episode after the start places it in IDLE (R455). -/
def Dev.mismatch (d : Dev) (b worst : Nat) : Dev :=
  let x := d.band b
  let n := x.episodes + 1
  let d1 := (d.updBand b (fun y => { y with episodes := n, matched := 0 })).raiseSlot (b / 8) 0x0A83
    (e8 (b % 8) ++ e8 x.cfg.dlLane ++ e8 n ++ e8 worst ++ e32 x.misSlots ++ s16 x.pDl ++ s16 x.worstUl)
  let d2 := d1.tripBand b 6
  if 5 ≤ n then d2.endBand b 4 4 1 .state 4 else d2

/-- LEARNING_WINDOW_END: the slot powers of the window's periods judge the pattern. A start that mismatches ends with reason
2; a verification or a restart window that mismatches is an episode; two matches in a row clear TDD_MISMATCH; a match
before a restart releases the band (R445, R453 to R455, R460). -/
def learningWindowEnd (b : Nat) (powers : List (List Int)) (d : Dev) : Dev :=
  let x := d.band b
  match x.learning with
  | none => d
  | some t =>
    if d.isFollower || powers.length ≠ learnPeriods x.period || d.since t < usU (learnPeriods x.period * x.period) then d else
    let pdl := windowPdl x.pattern powers
    let bad := windowMisses x.pattern x.slots powers pdl
    let worst := windowWorst x.pattern x.slots powers
    let good := bad = []
    let d1 := d.updBand b (fun y =>
      { y with learning := none, ulSuspended := false, verdict := if good then 2 else 3, pDl := pdl, worstUl := worst.2
               misSlots := bad.foldl (fun a k => a + 2 ^ k) 0, windowEnd := some d.time })
    let st := d1.bandState b
    if st = 2 then (if good then d1 else d1.failStart b 2)
    else if st = 3 then
      let d2 := (d1.updBand b (fun y => { y with verifyAt := d.time })).tddSend b true
      if good then d2 else d2.mismatch b worst.1
    else if st = 4 then
      if x.trig.any (fun t => t.1 = 6) then
        if !good then d1.updBand b (fun y => { y with matched := 0 })
        else if 1 ≤ x.matched then (d1.updBand b (fun y => { y with matched := 0 })).clearTrigger b 6
        else d1.updBand b (fun y => { y with matched := 1 })
      else if !good then d1.mismatch b worst.1
      else if d1.blocked b then d1
      else ((d1.updBand b (fun y => { y with verifyAt := d.time })).restartBand b).tddSend b true
    else d1

def execLearningWindowEnd (band : Nat) (powers : List (List Int)) (s : State) : Host.Outcome State Fault Refusal :=
  s.act (learningWindowEnd band powers)

/-! ### Uplink noise and downlink overload (R456, R458) -/

/-- A started band whose convoy this unit's D4 serves, with the lane's direction. -/
def Dev.d4Band (d : Dev) (l : Nat) (up : Bool) : Option Nat :=
  match d.laneBand l with
  | some b =>
    let c := (d.band b).cfg
    let dirOk := if c.tdd then ((d.lane l).burst && !(d.lane l).role.2) == up else (l = (if up then c.ulLane else c.dlLane))
    if d.isFollower || d.bandState b < 3 || !dirOk then none else some b
  | none => none

/-- UL_NOISE_UPDATE: every 1 ms the output at the donor port joins the last 100 values, and N_est follows; muted lanes and
verification windows are left out (R456). -/
def ulNoiseUpdate (d : Dev) : Dev :=
  d.laneIds.foldl (fun e l =>
    match e.d4Band l true, e.outPower l with
    | some b, some p =>
      let c := (e.band b).cfg
      if e.laneMuted l || (e.band b).ulSuspended then e else
      let vs := ((e.band b).ulPowers ++ [p]).drop ((e.band b).ulPowers.length + 1 - 100)
      let e1 := e.updBand b (fun y => { y with ulPowers := vs })
      let low := vs.foldl (fun a v => insertUp v a) []
      match low[9]?, (e1.boundPermit b).bind (fun q => c.entry q l) with
      | some v, some n =>
        let ant := ((e1.lane l).table.map (·.antDonor)).getD 0
        let est := v - Config.dB64 (2 * halfBand (e1.getN pLaneRate l)) 1000000 + ant
        (e1.set pUlNoiseEst l est).updConvoy l (fun y => { y with d4 := some (n.ulNoise - e1.get pUlNoiseMargin, est) })
      | _, _ => e1
    | _, _ => e) d

def execUlNoiseUpdate (s : State) : Host.Outcome State Fault Refusal := s.act ulNoiseUpdate

/-- DL_OVERLOAD_UPDATE: every 1 ms D4 of a bridging downlink lane takes y = P_in + G against DL_INPUT_LIMIT + G_ref, with
G_ref the output at the last step at or below the limit (R458). -/
def dlOverloadUpdate (d : Dev) : Dev :=
  d.laneIds.foldl (fun e l =>
    match e.d4Band l false, (e.lane l).pIn with
    | some _, some p =>
      let g := e.get pConvoyOutput l
      let lim := e.get pDlInputLimit l
      if e.laneMuted l then e else
      let r := if p ≤ lim then g else ((e.convoy l).gRef).getD g
      e.updConvoy l (fun y => { y with gRef := some r, d4d := some (lim + r, p + g) })
    | _, _ => e) d

def execDlOverloadUpdate (s : State) : Host.Outcome State Fault Refusal := s.act dlOverloadUpdate

/-! ### The restart ladder (R460, R466) -/

/-- RESTART_BACKOFF_EXPIRY: with every trigger cleared and the back-off run, a TDD band first takes a learning window, and
any other is released (R454, R460, R467). -/
def restartBackoffExpiry (b : Nat) (d : Dev) : Dev :=
  let x := d.band b
  let wait := match x.learnAgainAt with
    | some t => d.time < t
    | none => false
  match x.backoffEnd with
  | some t =>
    if d.bandState b ≠ 4 || d.blocked b || d.time < t || wait then d
    else if x.cfg.tdd && x.mustLearn && !d.isFollower then
      (if x.learning.isSome then d else d.updBand b (fun y => { y with learning := some d.time, learnAgainAt := none }))
    else d.restartBand b
  | none => d

def execRestartBackoffExpiry (band : Nat) (s : State) : Host.Outcome State Fault Refusal :=
  s.act (restartBackoffExpiry band)

/-- BAND_RUNG_RESET: 300 s of bridging without a trip return the rung to 0 (R460). -/
def bandRungReset (b : Nat) (d : Dev) : Dev :=
  let x := d.band b
  if d.bandState b ≠ 3 || d.since (max x.restored (x.tripAt.getD 0)) < secU 300 then d else d.set pBandRung b 0

def execBandRungReset (band : Nat) (s : State) : Host.Outcome State Fault Refusal := s.act (bandRungReset band)

/-! ### Messages received (R31, R443, R444, R446, R451, R464) -/

/-- This unit is a joined follower named in the unit mask of a BAND body. -/
def Dev.named (d : Dev) (body : List Byte) : Bool := d.isFollower && bit (fld body 7 1) (d.getN pUnitNumber)

/-- The band a BAND or TDD body names. -/
def bandOfBody (slotAt : Nat) (body : List Byte) : Nat := bandIx (fld body slotAt 1 % 8) (fld body (slotAt + 1) 1 % 8)

/-- The reason a follower's own configuration gives: 0 match, 1 none, 2 it differs (R464, Table BP-9). -/
def Dev.configReason (d : Dev) (body : List Byte) : Nat :=
  let b := bandOfBody 1 body
  let c := (d.band b).cfg
  if d.bandState b = 0 then 1
  else if c.tdd == (fld body 4 1 = 1) && c.dlLane = fld body 5 1 && c.ulLane = fld body 6 1 && c.dlFreq = fld body 8 8 &&
      c.ulFreq = fld body 16 8 && c.dlRate = fld body 24 1 && c.ulRate = fld body 25 1 then 0
  else 2

/-- A follower's STATE answer to a BAND message: its body echoed with the unit, the reason and the state. -/
def Dev.answerBand (d : Dev) (body : List Byte) (reason : Nat) : Dev :=
  d.sendUp 7 (e8 3 ++ slice body 1 2 ++ e8 (d.getN pUnitNumber) ++ slice body 4 22 ++ e8 reason ++
    e8 (d.bandState (bandOfBody 1 body)) ++ zs 8)

/-- BAND_ANNOUNCE: a follower named answers with its reason; every follower relays (R416, R441). -/
def bandAnnounce (body : List Byte) (d : Dev) : Dev :=
  if !d.isFollower then d else
  let d1 := d.relayDown 7 body
  if d.named body then d1.answerBand body (d1.configReason body) else d1

def execBandAnnounce (body : List Byte) (s : State) : Host.Outcome State Fault Refusal := s.act (fun d => bandAnnounce body d.pathBack)

/-- The reason code of a failed step of Table BP-2 (Table BP-9). -/
def stepReason (k : Nat) : Nat := ([0, 1, 3, 3, 3, 4, 5, 6, 6, 8, 8, 7] : List Nat).getD k 0

/-- BAND_START_MESSAGE: a follower named runs its own checks, admits its standing job and answers; one that passes starts
the band, muted until REMOTE gives a ceiling (R443). -/
def bandStartMessage (body : List Byte) (d : Dev) : Dev :=
  if !d.isFollower then d else
  let d1 := d.relayDown 7 body
  if !d1.named body then d1 else
  let b := bandOfBody 1 body
  let why := d1.configReason body
  if why ≠ 0 then d1.answerBand body why else
  match d1.startChecks b (some (fld body 28 4)) with
  | .error (k, _) => d1.answerBand body (stepReason k)
  | .ok (h, p, _) =>
    match d1.startJob (b / 8) 65535
        { opcode := 0x0A02, standing := true, rate := d1.standingRate b p, lanes := (d1.band b).cfg.lanes } with
    | .error _ => d1.answerBand body 7
    | .ok (j, d2) =>
      let d3 := d2.activateBand b h j (fld body 28 4) p none
      let d4 := (d3.updBand b (fun y => { y with setFixed := true, restored := d3.time })).setBandState b 3 0
      ((d4.band b).cfg.lanes.foldl (fun e l => e.unhold l 0) d4).answerBand body 0

def execBandStartMessage (body : List Byte) (s : State) : Host.Outcome State Fault Refusal :=
  s.act (fun d => bandStartMessage body d.pathBack)

/-- BAND_STOP_MESSAGE: a follower named mutes the band and places it in IDLE (R446). -/
def bandStopMessage (body : List Byte) (d : Dev) : Dev :=
  if !d.isFollower then d else
  let d1 := d.relayDown 7 body
  if d1.named body then d1.endBand (bandOfBody 1 body) 4 4 0 .state 4 else d1

def execBandStopMessage (body : List Byte) (s : State) : Host.Outcome State Fault Refusal := s.act (fun d => bandStopMessage body d.pathBack)

/-- BAND_STATE_MESSAGE: the head gathers an answer within the 500 ms; an IDLE answer later takes the unit out of the set; a
follower relays (R416, R444, R446). -/
def bandStateMessage (body : List Byte) (d : Dev) : Dev :=
  if d.isFollower then d.relayUp 7 body
  else if d.get pChainRole ≠ 1 then d else
  let b := bandOfBody 1 body
  let u := fld body 3 1 % 8
  let x := d.band b
  if d.starting b && !x.setFixed then
    d.updBand b (fun y => { y with answers := y.answers.filter (fun a => a.1 ≠ u) ++ [(u, fld body 26 1)] })
  else if d.bandBusy b && fld body 27 1 = 1 && bit x.setUnits u && u ≠ 0 then
    (d.updBand b (fun y => { y with setUnits := y.setUnits - 2 ^ u })).set pBandUnits b
      (((d.getN pBandUnits b) &&& (255 - 2 ^ u)) : Nat)
  else d

def execBandStateMessage (body : List Byte) (s : State) : Host.Outcome State Fault Refusal := s.act (bandStateMessage body)

/-- REMOTE_MESSAGE: a follower's lane takes its D1 ceiling and uplink reference; MUTE trips REMOTE_MUTE, a ceiling clears it
and REMOTE_AGED (R31, R346, Table BP-4 codes 13 and 14). -/
def remoteMessage (body : List Byte) (d : Dev) : Dev :=
  let dest := fld body 0 1
  let l := fld body 1 1
  let v := fldS body 2 2
  if !d.isFollower then d else
  let d1 := if dest = d.getN pUnitNumber then d else d.relayDown 5 body
  if !(dest = 255 || dest = d1.getN pUnitNumber) || !d1.hasLane l then d1 else
  let d2 := d1.updConvoy l (fun y => { y with remote := some v, remoteAt := d1.time, aged := false, ref := fldS body 4 2 })
  match d2.laneBand l with
  | some b =>
    let d3 := d2.clearLanes b 13 [l]
    if v = -32768 then (d3.trip b 14 0 [l]).muteConvoy l else d3.clearLanes b 14 [l]
  | none => if v = -32768 then d2.muteConvoy l else d2

def execRemoteMessage (body : List Byte) (s : State) : Host.Outcome State Fault Refusal := s.act (fun d => remoteMessage body d.pathBack)

/-- TDD_MESSAGE: a follower takes the anchor, delay and pattern; a valid one clears TDD_TIMING while its path is measured
(R451). -/
def tddMessage (body : List Byte) (d : Dev) : Dev :=
  if !d.isFollower then d else
  let d1 := d.relayDown 6 body
  let b := bandOfBody 0 body
  if !d1.bandBusy b || !(d1.band b).cfg.tdd then d1 else
  let valid := bit (fld body 30 1) 0
  let d2 := d1.updBand b (fun y =>
    { y with sched := valid, anchor := some (fld body 16 8), delay := fld body 24 4, pattern := fld body 8 8
             slots := fld body 3 1, period := fld body 4 4, ulSuspended := bit (fld body 30 1) 1
             tddSeq := fld body 28 2, tddValidAt := if valid then some d1.time else y.tddValidAt })
  if valid then (if (d2.delayTo (d2.band b).cfg 0).isSome then d2.clearTrigger b 5 else d2)
  else d2.endBurst (d2.band b).cfg.dlLane

def execTddMessage (body : List Byte) (s : State) : Host.Outcome State Fault Refusal := s.act (fun d => tddMessage body d.pathBack)

/-! ### Messages sent by the head (R441, R451, R457) -/

/-- REMOTE_MESSAGE_SEND: every started band's lanes send their ceilings: the convoy output down, the divided one for each
follower of the set on uplink and TDD lanes (R31, R457). -/
def remoteMessageSend (d : Dev) : Dev :=
  if d.position ≠ 1 then d else
  d.bandIds.foldl (fun e b =>
    if !e.bandBusy b then e else
    let x := e.band b
    x.cfg.lanes.foldl (fun e l =>
      let g := e.get pConvoyOutput l
      if !x.cfg.tdd && l = x.cfg.dlLane then e.sendDown 5 (e.remoteBody 255 l g 0) else
      let e1 := e.set pActiveFollowers l ((e.activeFollowers b l).length : Nat)
      (maskUnits x.setUnits).foldl (fun e u =>
        match e.member u with
        | some m => if e.portUp m.port then
            e.send { port := m.port, typ := 5, body := e.remoteBody u l (e.ceilingFor b l u) g } else e
        | none => e) e1) e) d

def execRemoteMessageSend (s : State) : Host.Outcome State Fault Refusal := s.act remoteMessageSend

/-- TDD_MESSAGE_SEND: at least every 10 ms the head sends the schedule of each TDD band that has one (R451). -/
def tddMessageSend (d : Dev) : Dev :=
  d.bandIds.foldl (fun e b => if e.bandBusy b && (e.band b).sched then e.tddSend b true else e) d

def execTddMessageSend (s : State) : Host.Outcome State Fault Refusal := s.act tddMessageSend

/-- BAND_ANNOUNCE_SEND: every 1 s the head announces each band (R441). -/
def bandAnnounceSend (d : Dev) : Dev := d.bandIds.foldl (fun e b => e.bandDown b 0) d

def execBandAnnounceSend (s : State) : Host.Outcome State Fault Refusal := s.act bandAnnounceSend

end Sys2Proof.Machine
end

