-- ==== Sys2Proof/Machine/Clock.lean ====
section
/-! DEFINITION. The clock family: selection, hold-off, qualification, lock, holdover, free run, LOST, GNSS and EXT edges,
wall time, and the clock commands (chapter 12). -/

namespace Sys2Proof.Machine

/-! ### References -/

/-- A reference fails: counted, dated, and REF_FAILED raised; GNSS then no longer drives wall time (R375 to R378,
R393, R402). -/
def Dev.refFail (d : Dev) (i cause : Nat) (st : RefState) : Dev :=
  let off := (d.ref i).offset
  let d1 := d.updRef i (fun r =>
    { r with state := st, since := d.time, failedAt := d.time, failedEver := true, failCount := inc32 r.failCount,
             lastCause := cause, lastFail := d.ts })
  let d2 := d1.raiseDev 0x0882 (e8 i ++ e8 cause ++ zs 2 ++ s32 off ++ e64 d.ts)
  let d3 := if i = 0 then d2.holdWall 1 else d2
  if d3.clk.forced = some i then d3.updClk (fun c => { c with forced := none }) else d3

/-- Whether a reference's signal is present (R375). -/
def Dev.refSignal (d : Dev) (i : Nat) : Bool :=
  let r := d.ref i
  let edge := fun (lim : Nat) => match r.lastEdge with
    | some t => d.since t ≤ lim
    | none => false
  if i = 0 then edge (secU 1 + msU 1)
  else if i = 1 then d.get pPortState 0 = 3
  else if i = 2 then edge (secU 2)
  else if d.extPps then edge (secU 1 + msU 1) else r.signal

/-- Whether the measured offset is within 50 ppm of FACTORY_STEER (R375). -/
def Dev.refOffsetOk (d : Dev) (i : Nat) : Bool := decide ((d.ref i).offset.natAbs ≤ 50000000)

/-- One reference's part of a selection step (R374 to R378). -/
def Dev.refStep (d : Dev) (i : Nat) : Dev :=
  let r := d.ref i
  let sel := decide (d.clk.selected = some i)
  let sig := d.refSignal i && d.refOffsetOk i
  let lvl := qlEligible (d.refLevel i)
  let good := sig && lvl
  let sigCause := if d.refSignal i then 1 else 0
  let lvlCause := if d.levelFailed i then 3 else 2
  let move := fun (st : RefState) => d.updRef i (fun r => { r with state := st, since := d.time })
  if !d.refEnabled i then
    if r.state = .disabled then d
    else if sel || r.state = .qualified then d.refFail i 4 .disabled
    else move .disabled
  else match r.state with
  | .disabled => move .absent
  | .absent => if d.refSignal i then move .qualifying else d
  | .qualifying => if !d.refSignal i then move .absent else if good then d else move .qualifying
  | .qualified =>
    if !lvl then d.refFail i lvlCause .failed
    else if good then d
    else if sel then d.updRef i (fun r => { r with state := .holdOff, since := d.time, lastCause := sigCause })
    else d.refFail i sigCause .failed
  | .waitToRestore => if good then d else d.refFail i (if sig then lvlCause else sigCause) .failed
  | .failed => if good then move .waitToRestore else d
  | .holdOff => if !lvl && i ≠ 1 then d.refFail i lvlCause .failed else if good then move .qualified else d

/-- Whether a reference may be selected (R372, R379). -/
def Dev.eligible (d : Dev) (i : Nat) : Bool :=
  (d.ref i).state = .qualified && qlEligible (d.refLevel i)

/-- Whether `i` ranks above `j`: better level, then lower priority number, then lower ID (R379). -/
def Dev.outranks (d : Dev) (i j : Nat) : Bool :=
  let a := qlRank (d.refLevel i)
  let b := qlRank (d.refLevel j)
  a < b || (a = b && (d.getN pRefPriority i < d.getN pRefPriority j || (d.getN pRefPriority i = d.getN pRefPriority j && i < j)))

/-- The candidate of R379. -/
def Dev.candidate (d : Dev) : Option Nat :=
  let el := ([0, 1, 2, 3] : List Nat).filter d.eligible
  match d.clk.forced with
  | some f => if d.eligible f then some f else
      if d.isFollower && d.eligible 1 then some 1 else el.foldl (fun b i => match b with
        | none => some i
        | some j => if d.outranks i j then some i else some j) none
  | none =>
    if d.isFollower && d.eligible 1 then some 1 else el.foldl (fun b i => match b with
        | none => some i
        | some j => if d.outranks i j then some i else some j) none

/-- The pull-in estimate of R386 in ms. -/
def Dev.pullIn (d : Dev) (delta : Int) : Nat :=
  let p := d.getN pPullLimit
  1000 * delta.natAbs / p + p / d.getN pSteerRamp

/-- A switch to a reference (R379, R386). `delta` is the measured phase step in ps. -/
def Dev.switchTo (d : Dev) (i : Nat) (delta : Int) : Dev :=
  let old := d.clk.selected
  let oldQl := match old with | some j => d.refLevel j | none => 15
  let none' : Int := -2147483648
  let dl := if i = 2 then none' else delta
  let est := if dl = none' then 0 else d.pullIn dl
  let d1 := ((d.setSelected (some i)).updClk (fun c => { c with inWindow := none, outWindow := none, wasLocked10 := false }))
  let d2 := (d1.set pLastPhaseStep 0 dl).bump pSwitchCount 0
  let d3 := d2.raiseDev 0x0881 (e8 (old.getD 255) ++ e8 i ++ e8 oldQl ++ e8 (d2.refLevel i) ++ s32 dl ++ e64 d.ts ++ e32 est)
  d3.setClock .acquiring 1

/-- The word of HOLDOVER: the mean over up to 60 s of the locked time, corrected for temperature (R383). -/
def Dev.holdWord (d : Dev) : Int :=
  let locked := match d.clk.lockedSince with
    | some t => d.clk.holdStart - t
    | none => 0
  let w := min (secU 60) locked
  let mw := traceMean d.clk.trace (fun p => p.1) d.clk.holdStart w
  let mt := traceMean d.clk.trace (fun p => p.2) d.clk.holdStart w
  mw + xoValue d.clk.xo d.xoTemp - xoValue d.clk.xo mt

/-- The word of FREE_RUN (R384). -/
def Dev.freeWord (d : Dev) : Int := clampWord (d.factory.steer + xoValue d.clk.xo d.xoTemp)

/-- The RCU moves to FREE_RUN with no reference (R379, R384); the word of SOFTWARE mode stays (Table RC-4a). -/
def Dev.toFreeRun (d : Dev) (cause : Nat) : Dev :=
  let d1 := d.setSelected none
  (d1.updClk (fun c => { c with target := if d1.get pSteerMode = 1 then c.target else d1.freeWord })).setClock .freeRun cause

/-- A reference in qualification (Table RC-3). -/
def inQualification (s : RefState) : Bool := s = .qualifying || s = .waitToRestore || s = .failed

/-- The selection part of a step (R379). -/
def Dev.selectStep (d : Dev) (delta : Int) : Dev :=
  let cand := d.candidate
  let gone := match d.clk.selected with
    | none => true
    | some i => match (d.ref i).state with
      | .qualified | .holdOff => false
      | _ => true
  if gone then
    match cand with
    | some c => d.switchTo c delta
    | none =>
      match d.clk.selected with
      | some i =>
        if d.clk.wasLocked10 && ([0, 1, 2, 3] : List Nat).any (fun j => inQualification (d.ref j).state) then
          let d1 := (d.setSelected none).updClk (fun c =>
            { c with target := clampWord d.holdWord, heldRef := i, failTime := (d.ref i).failedAt })
          d1.setClock .holdover 2
        else d.toFreeRun 2
      | none => d
  else
    match d.clk.selected, cand with
    | some s, some c =>
      if c = s then d
      else if d.clk.forced = some c || (c = 1 && d.isFollower) || qlRank (d.refLevel c) < qlRank (d.refLevel s) ||
        (d.getB pRevertive && qlRank (d.refLevel c) = qlRank (d.refLevel s) && d.getN pRefPriority c < d.getN pRefPriority s)
      then d.switchTo c delta else d
    | _, _ => d

/-- When the selected reference enters hold-off the loop freezes: the word's target is the word (R377). -/
def Dev.freezeLoop (d : Dev) (before : Option RefState) : Dev :=
  match d.clk.selected with
  | some i =>
    if (d.ref i).state ≠ .qualified && before = some .qualified then
      d.updClk (fun c =>
        { c with target := c.word, holdStart := d.time,
                 wasLocked10 := (c.state = .locked && (match c.lockedSince with
                   | some t => decide (secU 10 ≤ d.time - t)
                   | none => false)) })
    else d
  | none => d

/-- SELECTION_STEP: before READY, in LOST and in SOFTWARE mode nothing is qualified or selected; the word ramps in every
case (R371, R374 to R380, R390, R400). -/
def selectionStep (delta : Int) (d : Dev) : Dev :=
  if d.pwr.phase ≠ .ready then d.rampWord else
  let before := d.clk.selected.map (fun i => (d.ref i).state)
  let d1 := ([0, 1, 2, 3] : List Nat).foldl Dev.refStep d
  let d2 := d1.freezeLoop before
  let d3 := if d2.clk.state = .lost || d2.get pSteerMode = 1 then d2 else d2.selectStep delta
  let d4 := d3.set pSubsysUp 0 ((d3.getN pSubsysUp ||| 64 : Nat))
  d4.rampWord

def execSelectionStep (delta : Int) (s : State) : Host.Outcome State Fault Refusal := s.act (fun d => (selectionStep delta d).clockTrigger)

/-- A selected reference still failed when HOLD_OFF has passed becomes FAILED (R377). -/
def holdOffExpiry (d : Dev) : Dev :=
  match d.clk.selected with
  | some i =>
    let r := d.ref i
    if r.state = .holdOff && usU (d.getN pHoldOff) ≤ d.since r.since then d.refFail i r.lastCause .failed else d
  | none => d

def execHoldOffExpiry (s : State) : Host.Outcome State Fault Refusal := s.act holdOffExpiry

/-- A reference good for REF_QUAL_TIME, or through WAIT_TO_RESTORE, becomes QUALIFIED (R376). -/
def refQualified (i : Nat) (d : Dev) : Dev :=
  let r := d.ref i
  let good := d.refSignal i && d.refOffsetOk i && qlEligible (d.refLevel i)
  let up := fun (after : Bool) =>
    (d.updRef i (fun r => { r with state := .qualified, since := d.time })).raiseDev 0x0883
      (e8 i ++ e8 (d.refLevel i) ++ eb after ++ zs 1 ++ s32 r.offset)
  if d.pwr.phase ≠ .ready || !good then d
  else if r.state = .qualifying && usU (d.getN pRefQualTime i) ≤ d.since r.since then
    if r.failedEver then d.updRef i (fun r => { r with state := .waitToRestore, since := d.time }) else up false
  else if r.state = .waitToRestore && secU (d.getN pWaitToRestore) ≤ d.since r.since then up true
  else d

def execRefQualified (ref : Nat) (s : State) : Host.Outcome State Fault Refusal := s.act (refQualified ref)

/-- A FAILED reference leaves qualification HOLDOVER_WINDOW after its failure (R378). -/
def failedWindowExpiry (i : Nat) (d : Dev) : Dev :=
  let r := d.ref i
  if r.state = .failed && secU (d.getN pHoldoverWindow) ≤ d.since r.failedAt then
    d.updRef i (fun r => { r with state := .absent, since := d.time })
  else d

def execFailedWindowExpiry (ref : Nat) (s : State) : Host.Outcome State Fault Refusal := s.act (failedWindowExpiry ref)

/-- A phase error within the window for ten time constants, and 100 ms, declares LOCKED with the word unchanged
(R381). -/
def lockDeclared (d : Dev) : Dev :=
  match d.clk.state, d.clk.selected, d.clk.inWindow with
  | .acquiring, some i, some t =>
    if max (usU (tenTauUs (d.refCodes i).2)) (msU 100) ≤ d.since t && (d.ref i).state = .qualified then
      (d.updClk (fun c => { c with target := c.word, outWindow := none })).setClock .locked 0
    else d
  | _, _, _ => d

def execLockDeclared (s : State) : Host.Outcome State Fault Refusal := s.act (fun d => (lockDeclared d).clockTrigger)

/-- A phase error beyond four windows for 1 s returns the loop to ACQUIRING (R381). -/
def lockLost (d : Dev) : Dev :=
  match d.clk.state, d.clk.outWindow with
  | .locked, some t =>
    if secU 1 ≤ d.since t then
      (d.updClk (fun c => { c with inWindow := none, outWindow := none })).setClock .acquiring 6
    else d
  | _, _ => d

def execLockLost (s : State) : Host.Outcome State Fault Refusal := s.act (fun d => (lockLost d).clockTrigger)

/-- HOLDOVER ends HOLDOVER_WINDOW after the failure (R383). -/
def holdoverExpired (d : Dev) : Dev :=
  if d.clk.state = .holdover && secU (d.getN pHoldoverWindow) ≤ d.since d.clk.failTime then
    let d1 := d.raiseDev 0x0884 (e8 d.clk.heldRef ++ zs 3 ++ e32 (d.since d.clk.failTime / 62914560000) ++ s32 d.clk.word)
    d1.toFreeRun 3
  else d

def execHoldoverExpired (s : State) : Host.Outcome State Fault Refusal := s.act (fun d => (holdoverExpired d).clockTrigger)

/-- The word of FREE_RUN recomputed (R384); STEER_SET drives it in SOFTWARE mode (R400). -/
def freeRunUpdate (d : Dev) : Dev :=
  if d.clk.state = .freeRun && d.get pSteerMode = 0 then d.updClk (fun c => { c with target := d.freeWord }) else d

def execFreeRunUpdate (s : State) : Host.Outcome State Fault Refusal := s.act freeRunUpdate

/-- The XO bin of the present temperature learned with weight 1/16, once per minute (R385). -/
def xoTableLearn (d : Dev) : Dev :=
  match d.clk.state, d.clk.selected, d.clk.lockedSince with
  | .locked, some i, some t =>
    if qlRank (d.refLevel i) ≤ 2 && secU 60 ≤ d.since t && secU 60 ≤ d.since d.clk.lastLearn then
      let k := xoBin d.xoTemp
      let old := xoValue d.clk.xo d.xoTemp
      let obs := d.clk.word - d.factory.steer
      let d1 := d.updClk (fun c => { c with xo := upd c.xo k (fun _ => some (old + (obs - old) / 16)), lastLearn := d.time })
      d1.set pXoBinsLearned 0 ((d1.clk.xo.filter Option.isSome).length : Nat)
    else d
  | _, _, _ => d

def execXoTableLearn (s : State) : Host.Outcome State Fault Refusal := s.act xoTableLearn

/-- The XO table written to the journal (R385). -/
def saveXo (d : Dev) : Dev :=
  ((d.updClk (fun c => { c with xoSaved := c.xo })).setNv pXoBinsLearned 0 (d.get pXoBinsLearned)).journal 0x0801 0 2 none .none

def execXoTableJournal (s : State) : Host.Outcome State Fault Refusal := s.act saveXo

/-- The output monitor declares LOST: the TKC moves to the low-rate oscillator, OUTPUT_QL is QL-DNU, CLK_REF_OUT is held
low (R388, R402). While the condition lasts the 100 ms of LOST_EXIT do not run. -/
def clockLost (cause : Nat) (d : Dev) : Dev :=
  let d1 := d.updClk (fun c => { c with lostClear := none })
  if d.clk.state = .lost then d1 else
  let d2 := d1.raiseDev 0x0887 (e8 cause ++ zs 3 ++ e64 d.ts)
  let d3 := (d2.updClk (fun c =>
    { c with target := if d2.get pSteerMode = 1 then c.target else c.word, inWindow := none, outWindow := none })).setSelected none
  let d4 := d3.setClock .lost 4
  { d4 with pins := { d4.pins with clkRefOut := false } }

def execClockLost (cause : Nat) (s : State) : Host.Outcome State Fault Refusal := s.act (fun d => (clockLost cause d).clockTrigger)

/-- The LOST condition is absent: the first time it is seen absent starts the 100 ms, and once they have passed the RCU
enters FREE_RUN (R388). -/
def lostExit (d : Dev) : Dev :=
  if d.clk.state ≠ .lost then d else
  match d.clk.lostClear with
  | none => d.updClk (fun c => { c with lostClear := some d.time })
  | some t =>
    if msU 100 ≤ d.since t then
      let d1 := (d.updClk (fun c => { c with lostClear := none })).toFreeRun 4
      { d1 with pins := { d1.pins with clkRefOut := d1.getB pClkRefOutEn } }
    else d

def execLostExit (s : State) : Host.Outcome State Fault Refusal := s.act (fun d => (lostExit d).clockTrigger)

/-! ### Detector updates and GNSS -/

/-- A detector update of a reference: its edge, offset and phase, and for the selected one the loop: the word's new
target by the loop filter at the code in force, and the lock detectors (R381). The filter's coefficients are not stated,
so its output is a free value (log entry 13), held within PULL_LIMIT of the reference while ACQUIRING. -/
def Dev.refUpdate (d : Dev) (i : Nat) (offset phase : Int) : Dev :=
  let d1 := d.updRef i (fun r => { r with lastEdge := some d.time, offset := offset, phase := phase, signal := true })
  if d1.clk.selected ≠ some i || (d1.ref i).state ≠ .qualified then d1 else
  let acq := decide (d1.clk.state = .acquiring)
  if !acq && d1.clk.state ≠ .locked then d1 else
  let code := if acq then (d1.refCodes i).2 else (d1.refCodes i).1
  let w := Config.loopFilter code phase d1.clk.word
  let centre := d1.factory.steer + offset
  let w' := if acq then clampI (centre - d1.get pPullLimit) (centre + d1.get pPullLimit) w else w
  let win := d1.lockWindow i
  d1.updClk (fun c =>
    { c with target := clampWord w',
             inWindow := if phase.natAbs ≤ win then some (c.inWindow.getD d.time) else none,
             outWindow := if 4 * win < phase.natAbs then some (c.outWindow.getD d.time) else none })

/-- A labelled PPS epoch: two labels 1 s apart let GNSS drive wall time; a disagreement is a mismatch, except the leap
second announced for a midnight (R393, R396, R403). -/
def Dev.epoch (d : Dev) (edge label : Nat) (second60 : Bool) : Dev :=
  let prev := d.clk.lastLabel
  let keep := fun (e : Dev) => e.updClk (fun c => { c with lastLabel := some (edge, label), labelled := true, waiting := none })
  let drives := decide (d.get pWallSource = 1)
  let leap := d.get pLeapPending
  let agree := match prev with
    | some (_, l) => l + 1 = label
    | none => false
  let predicted := match d.wallNow with
    | some w => decide (w = label)
    | none => true
  let mismatch := fun (e : Dev) =>
    (e.raiseDev 0x0882 (e8 0 ++ e8 5 ++ zs 2 ++ s32 (e.ref 0).offset ++ e64 e.ts)).holdWall 1
  if second60 then
    if drives then
      let d1 := (d.setWall 1 0 edge label 0 false).set pLeapPending 0 0
      (keep d1).raiseDev 0x0886 (s8 1 ++ zs 3 ++ e32 label)
    else keep d
  else if drives && leap = -1 && label % 86400 = 0 && (match prev with | some (_, l) => decide (l + 2 = label) | none => false) then
    let d1 := (d.setWall 1 0 edge label 0 false).set pLeapPending 0 0
    (keep d1).raiseDev 0x0886 (s8 (-1) ++ zs 3 ++ e32 (label - 1))
  else if drives then
    if agree && predicted then keep (d.setWall 1 0 edge label 0 false)
    else if !agree && prev.isSome || !predicted then keep (mismatch d)
    else keep d
  else if agree && (d.ref 0).state = .qualified then keep (d.setWall 1 0 edge label 0 true)
  else keep d

/-- A PPS edge (R375, R381, R393). -/
def gnssPpsEdge (offset phase : Int) (d : Dev) : Dev :=
  let d1 := (d.refUpdate 0 offset phase).updClk (fun c => { c with labelled := false })
  match d1.clk.waiting with
  | some (l, t, s60) =>
    if d1.get pNmeaPpsAlign = 1 && d1.since t ≤ msU 900 then d1.epoch d1.tkc l s60
    else d1.updClk (fun c => { c with waiting := none })
  | none => d1

def execGnssPpsEdge (offset phase : Int) (s : State) : Host.Outcome State Fault Refusal := s.act (gnssPpsEdge offset phase)

/-- A ZDA or RMC sentence with a valid checksum: the level of GNSS, and the label of a PPS edge (Table RC-2, R393).
`label` is the wall second it names; a label of second 60 names 23:59:59 again. -/
def nmeaSentence (label : Nat) (second60 statusV : Bool) (d : Dev) : Dev :=
  let d1 := d.updClk (fun c => { c with lastSentence := some d.time, statusV := statusV })
  if statusV then d1
  else if d1.get pNmeaPpsAlign = 1 then
    if d1.clk.waiting.isSome then d1 else d1.updClk (fun c => { c with waiting := some (label, d.time, second60) })
  else match (d1.ref 0).lastEdge with
  | some t =>
    if d1.since t ≤ msU 900 && !d1.clk.labelled then d1.epoch (d1.tkc - d1.since t) label second60 else d1
  | none => d1

/-- A sentence of `size` UART bytes before READY: buffered from the time the HRW is readable, up to 4,096 bytes in all; the bytes
beyond are dropped and counted, and a sentence they cut is lost (R195). -/
def bufferSentence (label : Nat) (second60 statusV : Bool) (size : Nat) (d : Dev) : Dev :=
  if !d.host.readable then d else
  let kept := min size (4096 - d.pwr.gnssBytes)
  let d1 : Dev := { d with pwr := { d.pwr with
    gnssBytes := d.pwr.gnssBytes + kept
    gnssBuffer := if kept = size then d.pwr.gnssBuffer ++ [(label, second60, statusV)] else d.pwr.gnssBuffer } }
  d1.set pGnssEarlyOverflow 0 (min 4294967295 (d.getN pGnssEarlyOverflow + (size - kept)) : Nat)

def execNmeaSentence (label : Nat) (second60 statusV : Bool) (size : Nat) (s : State) : Host.Outcome State Fault Refusal :=
  s.act (fun d => if d.pwr.phase = .ready then nmeaSentence label second60 statusV d
    else bufferSentence label second60 statusV size d)

/-- The sentences buffered before READY, parsed in arrival order (R195). -/
def Dev.parseGnss (d : Dev) : Dev :=
  let d1 := d.pwr.gnssBuffer.foldl (fun e x => nmeaSentence x.1 x.2.1 x.2.2 e) d
  { d1 with pwr := { d1.pwr with gnssBuffer := [], gnssBytes := 0 } }

/-- The high-water mark written to the journal (R395). -/
def saveHighWater (d : Dev) : Dev :=
  let d1 := d.keepHw
  (d1.setNv pWallHighWater 0 (d1.highWater : Nat)).journal 0x081B 0 1 none .none

def execWallHighWaterSave (s : State) : Host.Outcome State Fault Refusal := s.act saveHighWater

/-- An EXT_REF_IN edge or 10 kHz update (Table RC-1, R375, R381). -/
def extRefUpdate (pps present : Bool) (offset phase : Int) (d : Dev) : Dev :=
  let d1 := d.updRef 3 (fun r => { r with pps := pps, signal := present })
  if present then d1.refUpdate 3 offset phase else d1

def execExtRefUpdate (pps present : Bool) (offset phase : Int) (s : State) : Host.Outcome State Fault Refusal :=
  s.act (extRefUpdate pps present offset phase)

/-! ### Commands (Table RC-6) -/

/-- REF_CONFIG (Table RC-7, R401). -/
def cmdRefConfig : CmdSpec :=
  { opcode := 0x0801, len := len 20, denied := onlyS0, nvm := fun _ _ => true,
    lacks := fun d r => rq r 0 1 = 2 && lacksLane d (rq r 8 1),
    bad := fun _ r =>
      let k := rq r 0 1
      firstBad r.body [.rg 0 (k < 4), .rg 1 (isBool (rq r 1 1)), .rg 2 (rq r 2 1 < 8),
        .rg 3 (if k = 1 then rq r 3 1 = 0 else (([2, 4, 8, 11, 15] : List Nat).contains (rq r 3 1))),
        .rg 4 (100000 ≤ rq r 4 4 && rq r 4 4 ≤ 60000000),
        .rg 8 (if k = 3 then rq r 8 1 ≤ 2 else if k = 2 then rq r 8 1 ≤ 7 || rq r 8 1 = 255 else rq r 8 1 = 0),
        .rs 9 3,
        .rg 12 (if k = 2 then rq r 12 8 = 0 || (380000000 ≤ rq r 12 8 && rq r 12 8 ≤ 7125000000) else rq r 12 8 = 0)],
    run := fun d r =>
      let k := rq r 0 1
      if k = 2 && rq r 8 1 < 8 && d.owner (rq r 8 1) ≠ 0 then refuse d (fail .badArg) else
      let d1 := ((d.setNv pRefEnable k (rq r 1 1)).setNv pRefPriority k (rq r 2 1)).setNv pRefQualTime k (rq r 4 4)
      let d2 := if k = 1 then d1 else d1.setNv pRefQl k (rq r 3 1)
      let d3 := if k = 3 then d2.setNv pExtMode 0 (rq r 8 1)
        else if k = 2 then (d2.setNv pCellSource 0 (rq r 8 1)).setNv pCellFreq 0 (rq r 12 8) else d2
      { dev := d3, reply := okBody (e8 k ++ e8 (d3.ref k).state.code ++ zs 2) } }

def execRefConfig (r : Request) (s : State) : Host.Outcome State Fault Refusal := s.act (hostCmd cmdRefConfig r)

/-- Milliseconds a reference still has in its timed state (Table RC-7). -/
def Dev.refRemaining (d : Dev) (i : Nat) : Nat :=
  let r := d.ref i
  let left := fun (total : Nat) => toMsUp (total - d.since r.since)
  match r.state with
  | .qualifying => left (usU (d.getN pRefQualTime i))
  | .waitToRestore => left (secU (d.getN pWaitToRestore))
  | .holdOff => left (usU (d.getN pHoldOff))
  | _ => 0

/-- REF_STATUS_GET (Table RC-7). -/
def cmdRefStatusGet : CmdSpec :=
  { opcode := 0x0802, len := len 4,
    bad := fun _ r => firstBad r.body [.rg 0 (rq r 0 1 < 4), .rs 1 3],
    run := fun d r =>
      let k := rq r 0 1
      let x := d.ref k
      { dev := d, reply := okBody (e8 k ++ e8 x.state.code ++ e8 (d.refLevel k) ++
          e8 (flags [decide (d.clk.selected = some k), decide (d.clk.forced = some k), !qlEligible (d.refLevel k), k = 3 && d.extPps]) ++
          s32 (if x.state = .absent then 0 else x.offset) ++
          s32 (if k = 2 then 0 else clampI (-2147483648) 2147483647 x.phase) ++ e32 (d.refRemaining k) ++ e32 x.failCount ++
          e8 x.lastCause ++ zs 3 ++ e64 x.lastFail) } }

def execRefStatusGet (r : Request) (s : State) : Host.Outcome State Fault Refusal := s.act (hostCmd cmdRefStatusGet r)

/-- CLOCK_BW_SET (R382, R401). -/
def cmdClockBwSet : CmdSpec :=
  { opcode := 0x0803, len := len 4, denied := onlyS0, nvm := fun _ _ => true,
    bad := fun _ r => firstBad r.body [.rg 0 (rq r 0 1 < 4), .rg 1 (rq r 1 1 ≤ 20), .rg 2 (rq r 2 1 ≤ 20), .rs 3 1],
    run := fun d r =>
      let k := rq r 0 1
      let tr := rq r 1 1
      let ac := rq r 2 1
      if d.refTopCode k < ac then refuse d (fail .badArg)
      else if ac < tr then refuse d (fail .badArg)
      else
        { dev := d.updClk (fun c => if k = 3 && d.extPps then { c with ppsCodes := (tr, ac) }
            else { c with codes := upd c.codes k (fun _ => (tr, ac)) }),
          reply := okBody r.body } }

def execClockBwSet (r : Request) (s : State) : Host.Outcome State Fault Refusal := s.act (hostCmd cmdClockBwSet r)

/-- STEER_SET (R400). -/
def cmdSteerSet : CmdSpec :=
  { opcode := 0x0804, len := len 8, denied := onlyS0,
    bad := fun _ r => firstBad r.body [.rg 0 (rq r 0 1 ≤ 1), .rs 1 3,
      .rg 4 (if rq r 0 1 = 0 then rq r 4 4 = 0 else (rqS r 4 4).natAbs ≤ 250000000)],
    run := fun d r =>
      if d.isFollower then refuse d (fail .state)
      else if rq r 0 1 = 1 then
        let d1 := (d.set pSteerMode 0 1).setSelected none
        let d2 := d1.updClk (fun c => { c with target := rqS r 4 4, forced := none, inWindow := none, outWindow := none })
        let d3 := if d2.clk.state = .lost then d2 else d2.setClock .freeRun 5
        { dev := d3, reply := okBody (e8 1 ++ zs 3 ++ s32 (rqS r 4 4)) }
      else
        let d1 := d.set pSteerMode 0 0
        let d2 := if d.get pSteerMode = 1 then d1.updClk (fun c => { c with target := d1.freeWord }) else d1
        { dev := d2, reply := okBody (e8 0 ++ zs 3 ++ s32 d2.clk.target) } }

def execSteerSet (r : Request) (s : State) : Host.Outcome State Fault Refusal := s.act (hostCmd cmdSteerSet r)

/-- WALLTIME_SET (R393, R399). -/
def cmdWalltimeSet : CmdSpec :=
  { opcode := 0x0805, len := len 16, denied := onlyS0, nvm := fun _ _ => true,
    bad := fun _ r => firstBad r.body [.rg 0 (757382400 ≤ rq r 0 4), .rg 4 (rq r 4 1 ≤ 1), .rs 5 3],
    run := fun d r =>
      let w := rq r 0 4
      if d.get pWallSource = 1 || d.get pWallSource = 2 then refuse d (fail .state)
      else if d.highWater + d.getN pWallFwdLimit < w && rq r 4 1 = 0 then refuse d (fail .wouldExceed)
      else
        let at' := if rq r 8 8 = 0 then d.tkc else rq r 8 8
        let d1 := d.setWall 3 (rq r 4 1) at' w 1000 true
        let new := d1.wallNow.getD 0
        let delta : Int := if d.wallValid then (new : Int) - (d.wallNow.getD 0 : Nat) else 0
        { dev := d1, reply := okBody (e32 new ++ e32 d1.highWater ++ s32 delta) } }

def execWalltimeSet (r : Request) (s : State) : Host.Outcome State Fault Refusal := s.act (hostCmd cmdWalltimeSet r)

/-- REF_FORCE (R380, R401). -/
def cmdRefForce : CmdSpec :=
  { opcode := 0x0806, len := len 4, denied := onlyS0,
    bad := fun _ r => firstBad r.body [.rg 0 (rq r 0 1 < 4 || rq r 0 1 = 255), .rs 1 3],
    run := fun d r =>
      let k := rq r 0 1
      if k = 1 && !d.isFollower then refuse d (fail .badArg)
      else if k < 4 && (d.ref k).state ≠ .qualified then refuse d (fail .state)
      else
        let d1 := d.updClk (fun c => { c with forced := if k = 255 then none else some k })
        { dev := d1, reply := okBody (e8 (d1.clk.selected.getD 255) ++ e8 k) } }

def execRefForce (r : Request) (s : State) : Host.Outcome State Fault Refusal := s.act (hostCmd cmdRefForce r)

end Sys2Proof.Machine
end

