-- ==== Sys2Proof/Machine/Flags.lean ====
section
/-! DEFINITION. The status words and flag fields the ZS8 computes from its state: STATUS and the host register window, the
device flags of STATUS_GET, and DBG_STATUS (Tables HR-4 to HR-6, CM-9, R610). HOST_IRQ_N and the interrupt bits stand in
`Machine/Ops.lean`. -/

namespace Sys2Proof.Machine

/-- VCORE is powered: ACTIVE or SLEEP (R188). -/
def Dev.powered (d : Dev) : Bool := d.pwr.state = .active || d.pwr.state = .sleep

/-- The code of PHASE. -/
def Phase.code : Phase → Nat
  | .boot => 0 | .quires => 1 | .ready => 2 | .fault => 3

/-- STATUS (Table HR-5). -/
def Dev.statusWord (d : Dev) : Nat :=
  d.pwr.phase.code + (if d.get pHostTransport = 0 then 0 else 4) + (if d.pwr.state = .sleep then 8 else 0) +
    256 * (if d.pwr.phase = .fault then d.pwr.faultCause % 256 else 0) + 65536 * (d.getN pResetCause % 256)

/-- The host register window as a read finds it (Table HR-4, R95). -/
def Dev.hrw (d : Dev) : List Byte :=
  let h := d.host
  let f := d.factory
  let up := d.pwr.phase = .fault && d.pwr.readyAt.isSome
  let quires := d.pwr.phase = .quires || d.pwr.phase = .ready || up
  e16 0x0D08 ++ e8 (if f.variantH then 2 else 1) ++ e8 1 ++ e8 f.stepping ++ zs 3 ++
    e32 (if d.pwr.phase = .ready || up then f.versionC else 0) ++ e32 (if quires then f.versionM else 0) ++ e32 d.statusWord ++
    e32 h.ringIrq ++ e32 h.ringIrqMask ++ e16 h.devIrq ++ e16 h.devIrqMask ++ e32 d.clockMirror ++
    e16 h.hostErrCount ++ e8 h.hostErrCode ++ zs 1 ++ e32 h.hostCtrl ++ zs 20 ++
    (h.ringCfg.map e16).flatten ++ (h.doorbell.map e16).flatten ++ (h.devIndex.map e16).flatten

/-- device_flags of STATUS_GET (Table CM-9): thermal warning, cold budget, GRID mode, metrology readout required, debug port
unlocked. -/
def Dev.deviceFlags (d : Dev) : Nat :=
  flags [d.get pThermalState ≠ 0, d.getB pColdBudget, d.get pLedgerMode = 1, (nth d.colo 8).readout, d.dbg.unlocked]

/-- Seconds left of the debug port's lockout, rounded up (R612). -/
def Dev.dbgLockLeft (d : Dev) : Nat :=
  match d.ao.dbgLockEnd with
  | some t => if d.time < t then (t - d.time + secU 1 - 1) / secU 1 else 0
  | none => 0

/-- A debug challenge is pending: made, and not 60 s old (R611). -/
def Dev.dbgPending (d : Dev) : Option (List Byte) :=
  match d.dbg.nonce with
  | some (n, t) => if d.since t < secU 60 then some n else none
  | none => none

/-- DBG_STATUS (R610). -/
def Dev.dbgStatus (d : Dev) : Nat :=
  flags [d.dbg.unlocked, d.dbgPending.isSome, 0 < d.dbgLockLeft] + 256 * min 255 d.ao.dbgFails + 65536 * min 65535 d.dbgLockLeft

end Sys2Proof.Machine
end

