-- ==== Sys2Proof/Machine/LinkOps.lean ====
section
/-! DEFINITION. The operations of the Caravan link: ports and modules, the topology, the loss of a link, TKC steps, the
join handshake, and the medium test (R26, R404 to R437). -/

namespace Sys2Proof.Machine

def Dev.port (d : Dev) (p : Nat) : LinkPort := nth d.link.ports p
def Dev.updLink (d : Dev) (f : Link → Link) : Dev := { d with link := f d.link }
def Dev.updPort (d : Dev) (p : Nat) (f : LinkPort → LinkPort) : Dev := d.updLink (fun k => { k with ports := upd k.ports p f })
def Dev.updMember (d : Dev) (u : Nat) (f : Member → Member) : Dev :=
  d.updLink (fun k => { k with members := upd k.members u (fun m => m.map f) })

/-- Any band of the unit is started: STARTING, BRIDGING or HELD (log entry 40). -/
def Dev.anyBridging (d : Dev) : Bool := d.bandIds.any d.bandBusy

/-- A started band uses the port (R424, R433). -/
def Dev.portBridging (d : Dev) (p : Nat) : Bool :=
  d.bandIds.any (fun b => d.bandBusy b && (d.isFollower || (d.bandPorts (d.band b).cfg).contains p))

/-- The lower end of a hop: CL0 of a unit that is no head (R27). -/
def Dev.lowerEnd (d : Dev) (p : Nat) : Bool := p = 0 && d.get pChainRole ≠ 1

/-! ### Modules and TX_DISABLE (R405 to R407) -/

/-- The module can carry 25.78125 Gb/s (R405). -/
def cap25 (a0 : List Byte) : Bool := fld a0 12 1 = 255 && 103 ≤ fld a0 66 1

/-- LINK_RATE for a module: AUTO takes 25.78125 Gb/s where the module can, else the rate configured (R406). -/
def Dev.rateFor (d : Dev) (p : Nat) (a0 : List Byte) : Nat :=
  let c := d.getN pLinkRateCfg p
  if c = 0 then (if cap25 a0 then 2 else 1) else c

/-- The checks of R405: identifier, check code of byte 63, and the rate. -/
def Dev.moduleOk (d : Dev) (p : Nat) (a0 : List Byte) : Bool :=
  a0.length = 96 && fld a0 0 1 = 3 && fld a0 63 1 = ((List.range 63).foldl (fun s k => s + fld a0 k 1) 0) % 256 &&
    (if d.rateFor p a0 = 2 then cap25 a0 else 103 ≤ fld a0 12 1)

/-- RS-FEC runs on the port: LINK_FEC at 25.78125 Gb/s (R406). -/
def Dev.fecOn (d : Dev) (p : Nat) : Bool := d.getB pLinkFec p && d.get pLinkRate p = 2

/-- PORT_STATE of a port that is neither UP nor in a test. -/
def Dev.portRest (d : Dev) (p : Nat) : Nat :=
  let x := d.port p
  if !x.module then 0 else if x.refused then 5 else if nth d.pins.txDisable p || !x.accepted then 1 else 2

/-- PORT_STATE set to the state of a port at rest. -/
def Dev.restPort (d : Dev) (p : Nat) : Dev := d.set pPortState p (d.portRest p : Nat)

/-- CLn_TX_DISABLE of a port driven to a level. -/
def Dev.setTxDisable (d : Dev) (p : Nat) (high : Bool) : Dev :=
  { d with pins := { d.pins with txDisable := upd d.pins.txDisable p (fun _ => high) } }

/-- TX_DISABLE released on each port with an accepted module (Table PS-3, R210, R407). -/
def Dev.releaseTx (d : Dev) : Dev :=
  d.portIds.foldl (fun e p =>
    let x := e.port p
    if x.module && x.accepted && nth e.pins.txDisable p then
      ((e.setTxDisable p false).updPort p (fun y => { y with released := some e.time })).restPort p
    else e) d

/-! ### Topology (R26) -/

/-- The units of the chain as this unit knows them. -/
def Dev.memberCount (d : Dev) : Nat := ((List.range 8).filter (bit (d.getN pChainMembers))).length

/-- TOPOLOGY, UNIT_NUMBER and UNIT_COUNT brought to the membership; a change is reported, the bound permits are held
against it, and LINK takes or leaves its part (R26, R45, R374, R469). -/
def Dev.setTopology (d : Dev) (number count port : Nat) : Dev :=
  let top := if d.get pChainRole = 0 || count ≤ 1 then 0 else if count = 2 then 1 else 2
  let same := d.getN pTopology = top && d.getN pUnitNumber = number && d.getN pUnitCount = count
  let d1 := ((d.set pTopology 0 (top : Nat)).set pUnitNumber 0 (number : Nat)).set pUnitCount 0 (count : Nat)
  if same then d1 else
  (d1.raiseDev 0x0181 (e8 top ++ e8 number ++ e8 count ++ zs 1 ++ e8 port)).topologyPermits

/-! ### Loss of a link (R435) -/

/-- LINK_LOSS on a follower's downlink lanes (R435 step 3). -/
def Dev.muteDownlink (d : Dev) (origin : Nat) : Dev :=
  d.bandIds.foldl (fun e b => if 2 ≤ e.bandState b then e.trip b 7 origin [(e.band b).cfg.dlLane] else e) d

/-- The units of a band's set whose branch is up at the head. -/
def Dev.branches (d : Dev) (b : Nat) : List Nat :=
  (maskUnits (d.band b).setUnits).filter (fun u => match d.member u with
    | some m => d.portUp m.port
    | none => false)

/-- The branch behind a port leaves the head's uplink sums; an uplink lane with none left mutes (R435 steps 4 and 5). -/
def Dev.dropBranch (d : Dev) (p : Nat) : Dev :=
  let gone := ([1, 2, 3, 4, 5, 6, 7] : List Nat).filter (fun u => match d.member u with
    | some m => m.port = p
    | none => false)
  let d1 := gone.foldl (fun e u => e.updMember u (fun m => { m with contrib := List.replicate 8 none })) d
  d1.bandIds.foldl (fun e b =>
    let c := (e.band b).cfg
    if !e.bandBusy b || !(e.bandPorts c).contains p then e else
    let e1 := e.set pBandUnits b (((gone.foldl (fun a u => a &&& (255 - 2 ^ u)) (e.getN pBandUnits b)) : Nat) : Int)
    if e1.branches b = [] then e1.trip b 7 (e1.getN pUnitNumber) [if c.tdd then c.dlLane else c.ulLane] else e1) d1

/-- A join in progress ends without an acceptance; a host's command completes with the status given (Table CL-9). -/
def Dev.endJoining (d : Dev) (st : Status) : Dev :=
  match d.link.joining with
  | none => d
  | some j =>
    let d1 := d.updLink (fun k => { k with joining := none })
    match j.host.bind (fun h => d1.longIs h.1 h.2 0x0903) with
    | some l => d1.complete l (fail st)
    | none => d1

/-- The medium length in 0.1 m (R429): the mean one-way delay in ps less the fixed part, over FIBRE_PS_PER_M. -/
def Dev.mediumLength (d : Dev) (p : Nat) (mean2 : Nat) : Nat :=
  let net : Int := (mean2 : Int) - 2 * (900000 + (if d.fecOn p then 110000 else 0))
  if net ≤ 0 then 0 else (min 4294967294 (roundDiv (10 * net) (2 * d.getN pFibrePsPerM p : Nat))).toNat

/-- The test result of Table CL-8; the powers are live readings, free values. -/
def Dev.testResult (d : Dev) (p : Nat) (t : LinkTest) (outcome bits errors rtt mean2 : Nat) : List Byte × Dev :=
  let (v, d1) := d.measure 3
  let pw := fun k => (nth v k).natAbs % 65536
  (e8 p ++ e8 t.mode ++ e8 outcome ++ zs 1 ++ e64 bits ++ e64 errors ++ e32 rtt ++
    e32 (if rtt = 4294967295 then 4294967295 else d.mediumLength p mean2) ++ e16 (pw 0) ++ e16 (pw 1) ++
    e16 (if t.mode = 1 then 65535 else pw 2) ++ zs 2 ++ e32 (durOf (d.since t.since)), d1)

/-- A medium test ends: its job ends, its result is kept, LINK_TEST_DONE raised and its command completed (R428). -/
def Dev.endTest (d : Dev) (p outcome bits errors rtt mean2 : Nat) : Dev :=
  match (d.port p).test with
  | none => d
  | some t =>
    let (res, d1) := d.testResult p t outcome bits errors rtt mean2
    let d2 := d1.updPort p (fun x => { x with test := none, result := some res })
    let d3 := d2.raiseDev 0x0987 (e8 p ++ e8 outcome ++ zs 2 ++ e32 (min 4294967295 errors))
    let d4 := if t.job = 65535 then d3 else d3.endJob t.slot t.job (if outcome = 0 then 0 else 4)
    match (if t.job = 65535 then none else d4.longIs t.slot t.ref 0x0905) with
    | some l => d4.complete l { status := .ok, body := res }
    | none => d4

/-- A port's link is lost, detected for a cause of Table CL-10 (R435): recorded at this end, BREAK sent down and the
downlink muted at the lower unit, the branch's contributions removed at the upper one; a join and a test on the port
end. -/
def Dev.linkLoss (d : Dev) (p cause : Nat) : Dev :=
  let st := d.getN pPortState p
  if st ≠ 3 && st ≠ 4 then d else
  let above := ((d.port p).peer).getD 0
  let linked := (d.port p).joined
  let d1 := (d.endTest p 2 0 0 4294967295 0).updPort p (fun x =>
    { x with downSince := some d.time, missRun := 0, badWaybills := 0, baleCount := none, probeT1 := none, t2 := none
             joined := false, peer := none })
  let d2 := { d1 with link := { d1.link with out := d1.link.out.filter (fun m => m.port ≠ p) } }
  let d3 := (((d2.restPort p).set pLinkBudget p 0).bumpNv pLinkDownCount p).subsys (2 + p) false
  let d4 := d3.raiseDev 0x0981 (e8 p ++ e8 cause ++ zs 2 ++ e32 (d3.getN pBalesMissed p) ++ e64 d.ts)
  if d4.lowerEnd p then
    let d5 := (d4.endJoining .state).holdWall 2
    let d6 := d5.updClk (fun c => { c with aligned := false })
    if d6.isFollower && linked then
      let body := e8 above ++ e8 p ++ zs 2 ++ e64 d.ts
      ((d6.pathGone body).send { port := 1, typ := 8, body := body }).muteDownlink above
    else d6
  else if d4.get pChainRole = 1 then d4.dropBranch p
  else d4

/-- TX_DISABLE asserted on every port; a link that was up is lost, since the far end sees no light and sends no more bales
(R189, R206, R208; log entry 41). -/
def Dev.disableTx (d : Dev) : Dev :=
  d.portIds.foldl (fun e p =>
    let e1 := (e.setTxDisable p true).updPort p (fun x => { x with released := none })
    if e1.get pPortState p = 3 || e1.get pPortState p = 4 then e1.linkLoss p 1 else e1.restPort p) d

/-! ### TKC steps (R422) -/

/-- The TKC steps by the negated offset in ps, recorded with its cause; wall time keeps its value (R392). -/
def Dev.stepTkc (d : Dev) (off : Int) (cause : Nat) : Dev :=
  let delta := roundDiv (-off * 6291456) 100000000
  let shift := fun (t : Nat) => ((t : Int) + delta).toNat
  let d1 := { d with tkc := shift d.tkc, clk := { d.clk with anchorTkc := shift d.clk.anchorTkc } }
  let d2 := d1.updLink (fun k => { k with stepDue := none })
  d2.raiseDev 0x0888 (e64 d.ts ++ e64 d1.ts ++ e8 cause)

/-- A TDD lane of the unit is in a burst (R422; within 10 µs of one counts as in it). -/
def Dev.inBurst (d : Dev) : Bool := d.laneIds.any (fun l => (d.lane l).tdd && (d.lane l).burst)

/-! ### Joining (R417 to R420, R437) -/

/-- ASCII "ZS8-JR", "ZS8-JA" and "ZS8-CK". -/
def labelJR : List Byte := ascii [0x5A, 0x53, 0x38, 0x2D, 0x4A, 0x52]
def labelJA : List Byte := ascii [0x5A, 0x53, 0x38, 0x2D, 0x4A, 0x41]
def labelCK : List Byte := ascii [0x5A, 0x53, 0x38, 0x2D, 0x43, 0x4B]

/-- The proof of a JOIN_REQ. -/
def joinReqProof (secret serial nonce : List Byte) (number : Nat) : List Byte :=
  (hmac secret (labelJR ++ serial ++ nonce ++ e8 number)).take 8

/-- The proof of a JOIN_ACK. -/
def joinAckProof (secret serial nonce : List Byte) (result number chain : Nat) : List Byte :=
  (hmac secret (labelJA ++ serial ++ nonce ++ e8 result ++ e8 number ++ e32 chain)).take 8

/-- The courier key of the chain (R419); none outside one. -/
def Dev.courierKey (d : Dev) : Option (List Byte) :=
  match d.link.secret with
  | some k => if d.get pChainRole = 0 then none else some (hmac k (labelCK ++ e32 (d.getN pChainId)))
  | none => none

/-- The completion body of CHAIN_JOIN (Table CL-8). -/
def Dev.joinBody (d : Dev) : List Byte :=
  e8 (d.getN pUnitNumber) ++ e8 (d.getN pUnitCount) ++ e8 (d.getN pChainRole) ++ e8 d.link.format ++ e32 (d.getN pChainId)

/-- CHAIN_JOINED (Table CL-10). -/
def Dev.joinedEvent (d : Dev) (number count : Nat) (rejoin : Bool) (serial : List Byte) : Dev :=
  d.raiseDev 0x0982 (e8 number ++ e8 count ++ eb rejoin ++ zs 1 ++ e32 (d.getN pChainId) ++ serial.take 8)

/-- JOIN_REQ sent by the lower unit (R417 step 1). -/
def Dev.sendJoin (d : Dev) (host : Option (Nat × Nat)) (secret : List Byte) (number : Nat) : Dev :=
  let (nonce, d1) := d.draw 8
  let d2 := d1.updLink (fun k =>
    { k with joining := some { host := host, since := d.time, secret := secret, nonce := nonce, number := number } })
  d2.send { port := 0, typ := 11
            body := d.factory.serial ++ e8 (if d.factory.variantH then 2 else 1) ++ e8 d.portIds.length ++ e8 number ++
              zs 1 ++ nonce ++ joinReqProof secret d.factory.serial nonce number }

/-- The accepted join takes effect: role, number, format and secret, the TKC step, and the host's completion (R417 step 3,
R420, R422). -/
def Dev.joinDone (d : Dev) (j : Joining) (ack : List Byte) : Dev :=
  let number := fld ack 17 1
  let rejoin := j.number != 255
  let members := (d.getN pChainMembers) ||| 1 ||| 2 ^ (number % 8)
  let d1 := ((d.setNv pChainRole 0 2).setNv pChainId 0 (fld ack 20 4 : Nat)).setNv pChainMembers 0 (members : Nat)
  let d2 := d1.updLink (fun k => { k with secret := some j.secret, format := fld ack 19 1, joining := none, pathLost := false, breakDue := none })
  let d3 := (d2.updPort 0 (fun x => { x with joined := true })).journal 0x0903 0 1 none .none
  let off := (d3.link.offset.map (·.1)).getD 0
  let d4 := if 2000 < off.natAbs then
      ((d3.stepTkc off rejoin.toNat).updRef 1 (fun r => { r with phase := 0 })) else d3
  let d5 := d4.updClk (fun c => { c with aligned := true })
  let d6 := (d5.joinedEvent number (fld ack 18 1) rejoin d5.factory.serial).setTopology number (max 1 (min 8 (fld ack 18 1))) 0
  match j.host.bind (fun h => d6.longIs h.1 h.2 0x0903) with
  | some l => d6.complete l (okBody d6.joinBody)
  | none => d6

/-- Membership given up (R433): role, number, identifier and secret are cleared. -/
def Dev.leaveChain (d : Dev) : Dev :=
  let n := d.getN pUnitNumber
  let after := d.getN pUnitCount - 1
  let d1 := d.sendUp 13 (e8 n ++ zs 3 ++ e32 (d.getN pChainId))
  let d2 := ((d1.setNv pChainRole 0 0).setNv pChainId 0 0).setNv pChainMembers 0 0
  let d3 := d2.updLink (fun k =>
    { k with secret := none, format := 0, joining := none, pathLost := false, breakDue := none, members := List.replicate 8 none
             ports := k.ports.map (fun p => { p with joined := false, peer := none }) })
  let d4 := (d3.journal 0x0903 0 1 none .none).raiseDev 0x0983 (e8 n ++ e8 after)
  (d4.updClk (fun c => { c with aligned := false })).setTopology 0 1 255

end Sys2Proof.Machine
end

