-- ==== Sys2Proof/Machine/Caravan.lean ====
section
/-! DEFINITION. The Caravan link family: configuration, joining and leaving, modules, training and loss, bales, probes and
tick alignment, the waybill messages, the uplink sum, and the medium test (chapter 13). -/

namespace Sys2Proof.Machine

/-! ### LINK_CONFIG (R432, R433) -/

/-- A port taken to the rate its configuration and module give; a change of rate or FEC on a link retrains it, and a rate
the module cannot carry refuses the module (R405, R406, R433). `old` is the rate and FEC in force before. -/
def Dev.applyLink (d : Dev) (p : Nat) (old : Nat × Bool) : Dev :=
  let x := d.port p
  if !x.accepted then d else
  let d1 := d.set pLinkRate p (d.rateFor p x.ident : Nat)
  if !d1.moduleOk p x.ident then
    let d2 := (d1.linkLoss p 4).updPort p (fun y => { y with accepted := false, refused := true, released := none })
    (((d2.setTxDisable p true).set pLinkRate p 0).restPort p).raiseDev 0x0986
      (e8 p ++ e8 2 ++ eb (cap25 x.ident) ++ zs 1 ++ slice x.ident 20 16)
  else if (d1.getN pLinkRate p, d1.fecOn p) = old then d1
  else d1.linkLoss p 4

def cmdLinkConfig : CmdSpec :=
  { opcode := 0x0901, len := len 12, lacks := fun d r => lacksPort d (rq r 0 1), denied := onlyS0,
    bad := fun _ r => firstBad r.body
      [.rg 0 (rq r 0 1 ≤ 1), .rg 1 (rq r 1 1 ≤ 2), .rg 2 (isBool (rq r 2 1)), .rs 3 1,
       .rg 4 ((rqS r 4 4).natAbs ≤ 1000000), .rg 8 (3000 ≤ rq r 8 2 && rq r 8 2 ≤ 6000), .rs 10 2],
    nvm := fun _ _ => true,
    run := fun d r =>
      let p := rq r 0 1
      if rq r 2 1 = 1 && rq r 1 1 = 1 then refuse d (fail .badArg) else
      if d.portBridging p then refuse d (fail .state) else
      let old := (d.getN pLinkRate p, d.fecOn p)
      let d1 := (((d.setNv pLinkRateCfg p (rq r 1 1 : Nat)).setNv pLinkFec p (rq r 2 1 : Nat)).setNv pFibreAsymmetry p
        (rqS r 4 4)).setNv pFibrePsPerM p (rq r 8 2 : Nat)
      let d2 := d1.applyLink p old
      { dev := d2, reply := okBody (e8 p ++ e8 (d2.getN pPortState p) ++ e8 (d2.getN pLinkRate p) ++ zs 1) } }

def execLinkConfig (r : Request) (s : State) : Host.Outcome State Fault Refusal := s.act (hostCmd cmdLinkConfig r)

/-! ### LINK_STATUS_GET (R432) -/

def cmdLinkStatusGet : CmdSpec :=
  { opcode := 0x0902, len := len 4, lacks := fun d r => lacksPort d (rq r 0 1),
    bad := fun _ r => firstBad r.body [.rg 0 (rq r 0 1 ≤ 1), .rs 1 3],
    run := fun d r =>
      let p := rq r 0 1
      let x := d.port p
      let diag := x.accepted && bit (fld x.ident 92 1) 6
      let (v, d1) := d.measure 5
      let live := fun k => if diag then e16 ((nth v k).natAbs % 65536) else e16 0
      let rtt := d.getN pHopRtt p
      { dev := if diag then d1 else d
        reply := okBody (e8 p ++ e8 (d.getN pPortState p) ++ e8 (d.getN pLinkRate p) ++
          e8 (flags [d.fecOn p, x.module, x.los, diag, x.joined]) ++ e8 (if x.joined then x.peer.getD 255 else 255) ++ zs 3 ++
          e32 rtt ++ e32 (d.getN pHopDelayDown p) ++ e32 (d.getN pHopDelayUp p) ++ e32 (d.getN pBalesMissed p) ++
          live 0 ++ live 1 ++ live 2 ++ live 3 ++ live 4 ++ zs 2 ++
          e32 (if rtt = 4294967295 then 4294967295
            else d.mediumLength p (d.getN pHopDelayDown p + d.getN pHopDelayUp p))) } }

def execLinkStatusGet (r : Request) (s : State) : Host.Outcome State Fault Refusal := s.act (hostCmd cmdLinkStatusGet r)

/-! ### CHAIN_JOIN and CHAIN_LEAVE (R417 to R420, R433) -/

/-- A port of Table PS-4 not trained yet (R197). -/
def Dev.portWait (d : Dev) (p : Nat) : Option Nat := d.waitFor (d.portUp p) 600 (some 250)

/-- CHAIN_JOIN and CHAIN_LEAVE wait for CL0, or for no port while CL0 holds no module (Table PS-4). -/
def Dev.chainWait (d : Dev) : Option Nat := if (d.port 0).module then d.portWait 0 else none

def cmdChainJoin : CmdSpec :=
  { opcode := 0x0903, len := len 4, blk := true, long := true,
    early := fun _ r => if r.blk.length = 32 then none else some (fail .badLen),
    lacks := fun d r => d.factory.variantH && rq r 0 1 = 1, denied := onlyS0,
    bad := fun _ r => firstBad r.body [.rg 0 (rq r 0 1 = 1 || rq r 0 1 = 2), .rs 1 3],
    notReady := fun d _ => d.chainWait,
    nvm := fun _ _ => true,
    run := fun d r =>
      if d.link.joining.isSome then refuse d (fail .state)
      else if rq r 0 1 = 1 then
        if d.get pChainRole ≠ 0 then refuse d (fail .state) else
        let (b, d1) := d.draw 4
        let d2 := ((d1.setNv pChainRole 0 1).setNv pChainId 0 (max 1 (leNat b) : Nat)).setNv pChainMembers 0 1
        let d3 := d2.updLink (fun k => { k with secret := some r.blk, format := d.getN pIqFormat })
        let d4 := ((d3.journal 0x0903 0 1 none .none).joinedEvent 0 1 false d3.factory.serial).setTopology 0 1 255
        { dev := d4, reply := accepted 2500, completion := some (okBody d4.joinBody) }
      else if d.get pChainRole = 1 || (d.isFollower && (d.port 0).joined) || !d.portUp 0 then refuse d (fail .state)
      else
        { dev := d.sendJoin (some (r.slot, r.ref)) r.blk (if d.isFollower then d.getN pUnitNumber else 255)
          reply := accepted 2500 } }

def execChainJoin (r : Request) (s : State) : Host.Outcome State Fault Refusal := s.act (hostCmd cmdChainJoin r)

/-- A unit below is joined: through a port that is up (R433). -/
def Dev.belowJoined (d : Dev) : Bool :=
  if d.get pChainRole = 1 then d.portIds.any (fun p => d.portUp p && (d.port p).joined)
  else d.portUp 1 && (d.port 1).joined

def cmdChainLeave : CmdSpec :=
  { opcode := 0x0904, len := len 4, long := true, denied := onlyS0,
    bad := fun _ r => firstBad r.body [.rs 0 4],
    notReady := fun d _ => d.chainWait,
    nvm := fun _ _ => true,
    run := fun d _ =>
      if d.get pChainRole = 0 || d.anyBridging || d.belowJoined then refuse d (fail .state) else
      { dev := d.leaveChain, reply := accepted 100, completion := some (okBody (e8 (d.getN pUnitNumber))) } }

def execChainLeave (r : Request) (s : State) : Host.Outcome State Fault Refusal := s.act (hostCmd cmdChainLeave r)

/-- JOIN_REQ: the head checks the proof, the number and the capacity and answers; a joined follower relays (R417, R418,
R437, Table CL-10). -/
def joinReq (port : Nat) (body : List Byte) (d : Dev) : Dev :=
  if d.isFollower then (if (d.port 0).joined then d.sendUp 11 body else d)
  else match d.link.secret with
  | none => d
  | some secret =>
    if d.get pChainRole ≠ 1 || body.length ≠ 36 then d else
    let serial := slice body 0 16
    let rn := fld body 18 1
    let nonce := slice body 20 8
    let held := ([1, 2, 3, 4, 5, 6, 7] : List Nat).find? (fun u => match d.member u with
      | some m => m.serial = serial
      | none => false)
    let free := ([1, 2, 3, 4, 5, 6, 7] : List Nat).find? (fun u => (d.member u).isNone)
    let other := rn ≠ 255 && (match d.member rn with
      | some m => m.serial ≠ serial
      | none => false)
    let (result, number) :=
      if joinReqProof secret serial nonce rn ≠ slice body 28 8 then (1, 0)
      else if other then (3, 0)
      else match held, free with
      | some u, _ => (0, u)
      | none, some u => (0, u)
      | none, none => (2, 0)
    let d1 :=
      if result ≠ 0 then d.raiseDev 0x0984 (e8 result ++ e8 port ++ zs 2 ++ serial.take 8)
      else
        let m : Member := { serial := serial, port := port, heard := d.time }
        let members := d.getN pChainMembers ||| 2 ^ number
        let e := (d.updLink (fun k => { k with members := upd k.members number (fun _ => some m) })).setNv pChainMembers 0
          (members : Nat)
        let e1 := (e.updPort port (fun x =>
          { x with joined := true, peer := if x.joined then x.peer else some number })).journal 0x0903 0 1 none .none
        (e1.joinedEvent number e1.memberCount held.isSome serial).setTopology 0 e1.memberCount port
    d1.send { port := port, typ := 12
              body := serial ++ e8 result ++ e8 number ++ e8 d1.memberCount ++ e8 d1.link.format ++
                e32 (d1.getN pChainId) ++ joinAckProof secret serial nonce result number (d1.getN pChainId) }

def execJoinReq (port : Nat) (body : List Byte) (s : State) : Host.Outcome State Fault Refusal := s.act (joinReq port body)

/-- JOIN_ACK: the joiner checks the head's proof; an acceptance takes effect once a DELAY has come since the port is UP.
Any other unit notes the new member and relays (R416, R417, Table CL-9). -/
def joinAck (body : List Byte) (d : Dev) : Dev :=
  if body.length ≠ 32 then d
  else if slice body 0 16 ≠ d.factory.serial then
    if !d.isFollower || !(d.port 0).joined then d else
    let d1 := d.relayDown 12 body
    if fld body 16 1 = 0 && fld body 20 4 = d.getN pChainId && fld body 17 1 < 8 then
      ((d1.updPort 1 (fun x =>
        { x with joined := true, peer := if x.joined then x.peer else some (fld body 17 1) })).setNv pChainMembers 0 ((d1.getN pChainMembers ||| 2 ^ fld body 17 1 : Nat))).setTopology (d1.getN pUnitNumber)
        (max 1 (min 8 (fld body 18 1))) 0
    else d1
  else match d.link.joining with
  | none => d
  | some j =>
    let result := fld body 16 1
    let number := fld body 17 1
    if joinAckProof j.secret d.factory.serial j.nonce result number (fld body 20 4) ≠ slice body 24 8 then d.endJoining .denied
    else if result = 2 then d.endJoining .wouldExceed
    else if result ≠ 0 || number = 0 || 7 < number then d.endJoining .denied
    else if (d.port 0).hopAt.isSome then d.joinDone j body
    else d.updLink (fun k => { k with joining := some { j with ack := some body } })

def execJoinAck (body : List Byte) (s : State) : Host.Outcome State Fault Refusal := s.act (joinAck body)

/-- JOIN_ACK_TIMEOUT: no answer within 2,000 ms ends the join with STATE (Table CL-9). -/
def joinAckTimeout (d : Dev) : Dev :=
  match d.link.joining with
  | some j => if d.since j.since < msU 2000 then d else d.endJoining .state
  | none => d

def execJoinAckTimeout (s : State) : Host.Outcome State Fault Refusal := s.act joinAckTimeout

/-- LEAVE_MESSAGE: the head releases the number; a follower notes it and relays (R415, R418). -/
def leaveMessage (body : List Byte) (d : Dev) : Dev :=
  let u := fld body 0 1
  if u = 0 || 7 < u || fld body 4 4 ≠ d.getN pChainId || d.get pChainRole = 0 || !bit (d.getN pChainMembers) u then d else
  let d1 := d.setNv pChainMembers 0 ((d.getN pChainMembers - 2 ^ u : Nat))
  if d.isFollower then
    (d1.sendUp 13 body).setTopology (d.getN pUnitNumber) (max 1 (d.getN pUnitCount - 1)) 1
  else
    let p := ((d.member u).map (·.port)).getD 255
    let d2 := (d1.updLink (fun k =>
      { k with members := upd k.members u (fun _ => none)
               ports := k.ports.map (fun x => if x.peer = some u then { x with joined := false, peer := none } else x) })).journal
      0x0903 0 1 none .none
    (d2.raiseDev 0x0983 (e8 u ++ e8 d2.memberCount)).setTopology 0 d2.memberCount p

def execLeaveMessage (body : List Byte) (s : State) : Host.Outcome State Fault Refusal := s.act (leaveMessage body)

/-! ### Modules, training and loss (R405 to R407, R435) -/

/-- SFP_MODULE_IDENTIFY: CLn_MOD_ABS low for 100 ms, with A0h bytes 0 to 95, or high for 100 ms (none). A refused module
leaves TX_DISABLE high; an accepted one has it released once the unit has passed that step (R405, R407). -/
def sfpModuleIdentify (p : Nat) (a0 : Option (List Byte)) (d : Dev) : Dev :=
  if !d.hasPort p then d else
  let x := d.port p
  match a0 with
  | none =>
    if !x.module then d else
    let d1 := (d.linkLoss p 2).updPort p (fun y =>
      { y with module := false, accepted := false, refused := false, ident := [], released := none })
    (((d1.setTxDisable p true).set pLinkRate p 0).restPort p).raiseDev 0x0986
      (e8 p ++ e8 1 ++ eb (cap25 x.ident) ++ zs 1 ++ padTo 16 (slice x.ident 20 16))
  | some a =>
    let ok := d.moduleOk p a
    let d1 := (d.linkLoss p 2).updPort p (fun y =>
      { y with module := true, accepted := ok, refused := !ok, ident := a, los := false, released := none })
    let d2 := ((d1.setTxDisable p true).set pLinkRate p (if ok then d.rateFor p a else 0 : Nat)).restPort p
    let d3 := d2.raiseDev 0x0986 (e8 p ++ e8 (if ok then 0 else 2) ++ eb (cap25 a) ++ zs 1 ++ padTo 16 (slice a 20 16))
    if d3.pwr.phase = .ready && d3.pwr.state = .active && d3.get pThermalState ≠ 2 then d3.releaseTx else d3

def execSfpModuleIdentify (port : Nat) (a0 : Option (List Byte)) (s : State) : Host.Outcome State Fault Refusal :=
  s.act (sfpModuleIdentify port a0)

/-- TX_DISABLE_RELEASE: after READY, on each port with a module, unless the thermal shutdown or SLEEP holds it (R209, R407,
Table PS-3). -/
def txDisableRelease (d : Dev) : Dev :=
  if d.pwr.phase = .ready && d.pwr.state = .active && d.get pThermalState ≠ 2 then d.releaseTx else d

def execTxDisableRelease (s : State) : Host.Outcome State Fault Refusal := s.act txDisableRelease

/-- PORT_UP: block lock and a valid bale header with its count, source unit and chain tag bring a port UP; a follower's
CL0 rejoins by itself while REJOIN_AUTO is 1, and the shares follow the budget (R50, R407, R437). -/
def portUp (p count source tag : Nat) (d : Dev) : Dev :=
  if !d.hasPort p || d.get pPortState p ≠ 2 then d else
  let mine := d.get pChainRole ≠ 0 && tag = d.getN pChainId % 65536
  let peer := if mine then source else 255
  let d1 := (d.set pPortState p 3).updPort p (fun x =>
    { x with los := false, baleCount := some (count % 4096), missRun := 0, badWaybills := 0, downSince := none,
             waybillAt := d.time, hopAt := none, peer := if mine then some source else none, joined := false })
  let d2 := (d1.set pLinkBudget p (d1.iqBudget p : Nat)).subsys (2 + p) true
  let d3 := d2.raiseDev 0x0980 (e8 p ++ e8 (d2.getN pLinkRate p) ++ eb (d2.fecOn p) ++ e8 peer ++
    e32 (match (d.port p).released with
      | some t => durOf (d.since t)
      | none => 0))
  let d4 := (List.range 8).foldl Dev.budgetCheck d3
  match d4.link.secret with
  | some k => if p = 0 && d4.isFollower && d4.getB pRejoinAuto && d4.link.joining.isNone then
      d4.sendJoin none k (d4.getN pUnitNumber) else d4
  | none => d4

def execPortUp (port count source tag : Nat) (s : State) : Host.Outcome State Fault Refusal :=
  s.act (portUp port count source tag)

/-- LINK_LOSS: block lock, module or LOS, or the serdes lock is lost (R435 causes 0, 2 and 5). -/
def linkLost (p cause : Nat) (d : Dev) : Dev :=
  if !d.hasPort p || 5 < cause then d else
  (d.updPort p (fun x => { x with los := x.los || cause = 2 })).linkLoss p cause

def execLinkLoss (port cause : Nat) (s : State) : Host.Outcome State Fault Refusal := s.act (linkLost port cause)

/-! ### Bales (R409 to R414, R425) -/

/-- The CRC-8 of a bale header over bytes 0 to 6 agrees (Table CL-3). -/
def headerOk (h : List Byte) : Bool := h.length = 8 && fld h 0 1 = 0x4B && crc8 (h.take 7) = fld h 7 1

/-- The CRC-32 of a waybill region agrees (R414). -/
def waybillOk (w : List Byte) : Bool := w.length = 128 && crc32 (w.take 124) = fld w 124 4

/-- What the lane segments of a good bale bring: downstream, the G_rx that the segment carries; upstream, a contribution to
the lane's sum, or a late one. At the head the followers of the branch that report the lane bridging contribute, and the
lane's link-loss trigger clears (R413, R425, R437, R457; log entry 42). -/
def Dev.takeSegment (d : Dev) (p : Nat) (up : Bool) (x : Segment) : Dev :=
  let l := x.flags % 8
  if !d.hasLane l then d
  else if !up then (d.updLane l (fun y => { y with gRxRemote := some x.scale })).split l
  else if x.late then d.bump pLateCount l
  else if d.get pChainRole ≠ 1 || bit x.flags 7 then d else
  let d1 := ([1, 2, 3, 4, 5, 6, 7] : List Nat).foldl (fun e u =>
    match e.member u with
    | some m =>
      if m.port = p && bit (fld m.status 4 1) l && !bit (fld m.status 5 1) l then
        e.updMember u (fun m => { m with contrib := upd m.contrib l (fun _ => some d.time) })
      else e
    | none => e) d
  match d1.laneBand l with
  | some b => d1.clearLanes b 7 [l]
  | none => d1

/-- BALE_RECEIVE: the checks of R410; a missed bale loses its payload and counts, 8 in a row lose the link; a waybill
region whose CRC fails counts, 8 in a row lose it too (R410, R414, R435). -/
def baleReceive (p : Nat) (headerBlock : Bool) (h waybill : List Byte) (segs : List Segment) (d : Dev) : Dev :=
  if !d.hasPort p || d.get pPortState p ≠ 3 then d else
  let x := d.port p
  let valid := headerBlock && headerOk h
  let count := fld h 1 1 + 256 * (fld h 2 1 % 16)
  let next := match x.baleCount with
    | some c => (c + 1) % 4096
    | none => count
  let missed := !valid || count ≠ next || (x.joined && fld h 4 2 ≠ d.getN pChainId % 65536)
  let d1 := d.updPort p (fun y => { y with baleCount := some (if valid then count else next) })
  if missed then
    let d2 := (d1.bump pBalesMissed p).updPort p (fun y => { y with missRun := y.missRun + 1 })
    if 8 ≤ (d2.port p).missRun then d2.linkLoss p 1 else d2
  else
    let d2 := d1.updPort p (fun y =>
      { y with missRun := 0, peer := if y.joined then some (fld h 3 1 % 8) else y.peer })
    let d3 :=
      if !bit (fld h 2 1) 4 then d2
      else if waybillOk waybill then d2.updPort p (fun y => { y with badWaybills := 0 })
      else (d2.bump pWaybillErrors p).updPort p (fun y => { y with badWaybills := y.badWaybills + 1 })
    if 8 ≤ (d3.port p).badWaybills then d3.linkLoss p 3
    else if !x.joined then d3
    else segs.foldl (fun e y => e.takeSegment p (bit (fld h 3 1) 3) y) d3

def execBaleReceive (port : Nat) (headerBlock : Bool) (header : List Byte) (waybill : List Byte) (segments : List Segment)
    (s : State) : Host.Outcome State Fault Refusal :=
  s.act (baleReceive port headerBlock header waybill segments)

/-! ### CLOCK (R373, R393, R396) -/

/-- CLOCK_MESSAGE: the lower unit takes the QL and, while its TKC is aligned and GNSS does not drive, the head's wall
time (R373, R393, R396). -/
def clockMessage (body : List Byte) (d : Dev) : Dev :=
  if !d.lowerEnd 0 then d else
  let d1 := d.updRef 1 (fun r => { r with level := fld body 0 1, levelAt := some d.time })
  let wall := fld body 4 4
  let anchor := fld body 8 8
  if !d1.isFollower then d1
  else if fld body 2 1 ≠ 1 then (if d1.clk.aligned then d1.holdWall 2 else d1)
  else if !d1.clk.aligned || d1.get pWallSource = 1 then d1 else
  let drives := decide (d1.get pWallSource = 2)
  let leap := d1.get pLeapPending
  let shown : Int := d1.clk.anchorWall + ((anchor : Int) - d1.clk.anchorTkc) / 62914560000
  let leapt := drives && d1.clk.wallSet && leap ≠ 0 && shown - wall = leap
  let d2 := d1.setWall 2 0 anchor wall 0 (!drives)
  let d3 := if leapt then d2.raiseDev 0x0886 (s8 leap ++ zs 3 ++ e32 (if leap = 1 then wall else wall - 1)) else d2
  d3.set pLeapPending 0 (fldS body 3 1)

def execClockMessage (body : List Byte) (s : State) : Host.Outcome State Fault Refusal := s.act (clockMessage body)

/-- The CLOCK body of this unit (Table CL-5). -/
def Dev.clockBody (d : Dev) : List Byte :=
  e8 d.outputQl ++ e8 d.clk.state.code ++ eb d.wallValid ++ s8 (d.get pLeapPending) ++ e32 d.clk.anchorWall ++
    e64 d.clk.anchorTkc

/-- CLOCK_MESSAGE_SEND: every 1 ms each unit originates CLOCK on its downstream ports (R415). -/
def clockMessageSend (d : Dev) : Dev := d.sendDown 1 d.clockBody

def execClockMessageSend (s : State) : Host.Outcome State Fault Refusal := s.act clockMessageSend

/-! ### Delay measurement (R38, R421 to R423) -/

/-- A link measurement of a port: each bridging TDD band over its ceiling three times in a row trips TDD_TIMING; within
it, the count starts afresh and the trigger may clear (R38). -/
def Dev.delayMeasured (d : Dev) (p : Nat) : Dev :=
  d.bandIds.foldl (fun e b =>
    let x := e.band b
    if !x.cfg.tdd || e.bandState b < 3 || (e.bandPorts x.cfg).head? ≠ some p then e else
    match e.bandDelay x.cfg (maskUnits x.setUnits), e.boundPermit b with
    | some v, some q =>
      if withinCeiling q true v then
        let e1 := e.updBand b (fun y => { y with overCeiling := 0 })
        if x.badDetections < 3 && !e.isFollower then e1.clearTrigger b 5 else e1
      else
        let e1 := e.updBand b (fun y => { y with overCeiling := min 3 (y.overCeiling + 1) })
        if 3 ≤ x.overCeiling + 1 then e1.tripBand b 5 else e1
    | _, _ => e) d

/-- PROBE_SEND: the upper unit of a hop marks a bale after each TKC multiple of 2,457,600, at `t1`, and sends PROBE
(R421). -/
def probeSend (p t1 : Nat) (d : Dev) : Dev :=
  if !d.downPorts.contains p then d else
  let n := ((d.port p).probeSeq + 1) % 65536
  (d.updPort p (fun x => { x with probeSeq := n, probeT1 := some (n, t1) })).send { port := p, typ := 2, body := e16 n }

def execProbeSend (port t1 : Nat) (s : State) : Host.Outcome State Fault Refusal := s.act (probeSend port t1)

/-- PROBE_MESSAGE: the lower unit answers with the arrival `t2` and the departure `t3` (R421). -/
def probeMessage (body : List Byte) (t2 t3 : Nat) (d : Dev) : Dev :=
  if !d.lowerEnd 0 then d else
  let n := fld body 0 2
  (d.updPort 0 (fun x => { x with t2 := some (n, t2) })).send { port := 0, typ := 3, body := e16 n ++ e64 t2 ++ e64 t3 }

def execProbeMessage (body : List Byte) (t2 t3 : Nat) (s : State) : Host.Outcome State Fault Refusal :=
  s.act (probeMessage body t2 t3)

/-- Time-stamp units as ps, rounded to nearest. -/
def unitsPs (u : Int) : Int := roundDiv (u * 100000000) 6291456

/-- The delays of a hop stored where they are reported. -/
def Dev.setHop (d : Dev) (p : Nat) (rtt down up : Nat) : Dev :=
  (((d.set pHopRtt p rtt).set pHopDelayDown p down).set pHopDelayUp p up).updPort p (fun x => { x with hopAt := some d.time })

/-- PROBE_REPLY_MESSAGE: the upper unit computes the delays and sends DELAY; `t4` is the reply's arrival (R421). -/
def probeReplyMessage (p : Nat) (body : List Byte) (t4 : Nat) (d : Dev) : Dev :=
  match (d.port p).probeT1 with
  | some (n, t1) =>
    if n ≠ fld body 0 2 || !d.downPorts.contains p then d else
    let held : Int := (fld body 10 8 : Int) - fld body 2 8
    let rtt := max 0 (unitsPs (((t4 : Int) - t1) - held))
    let a := d.get pFibreAsymmetry p
    let ps := fun (v : Int) => (clampI 0 4294967294 v).toNat
    let down := ps (roundDiv (rtt + a) 2)
    let up := ps (roundDiv (rtt - a) 2)
    let d1 := (d.setHop p (ps rtt) down up).send
      { port := p, typ := 4, body := e16 n ++ e64 t1 ++ e32 (ps rtt) ++ e32 down ++ e32 up }
    d1.delayMeasured p
  | none => d

def execProbeReplyMessage (port : Nat) (body : List Byte) (t4 : Nat) (s : State) : Host.Outcome State Fault Refusal :=
  s.act (probeReplyMessage port body t4)

/-- DELAY_MESSAGE: the lower unit takes the delays and its offset t2 − t1 − down, feeds LINK, completes a join that waits
for it, and while LOCKED steps at more than 100 ns, after any burst (R417, R422). -/
def delayMessage (body : List Byte) (d : Dev) : Dev :=
  if !d.lowerEnd 0 then d else
  match (d.port 0).t2 with
  | some (n, t2) =>
    if n ≠ fld body 0 2 then d else
    let down := fld body 14 4
    let off := unitsPs ((t2 : Int) - fld body 2 8) - down
    let d1 := d.setHop 0 (fld body 10 4) down (fld body 18 4)
    let growth := match d.link.offset with
      | some (o, t) => if d.time ≤ t then 0 else (off - o) * 62914560000 / ((d.time - t : Nat) : Int)
      | none => 0
    let d2 := (d1.updLink (fun k => { k with offset := some (off, d.time) })).set pTkcOffset 0
      (clampI (-2147483648) 2147483647 off)
    let d3 := d2.refUpdate 1 (d2.clk.word - growth - d2.factory.steer) off
    match d3.link.joining with
    | some j =>
      (match j.ack with
        | some ack => d3.joinDone j ack
        | none => d3)
    | none =>
      if d3.isFollower && (d3.port 0).joined && d3.clk.state = .locked && d3.clk.selected = some 1 && 100000 < off.natAbs then
        if d3.inBurst then d3.updLink (fun k => { k with stepDue := some off })
        else (d3.stepTkc off 2).delayMeasured 0
      else d3.delayMeasured 0
  | none => d

def execDelayMessage (body : List Byte) (s : State) : Host.Outcome State Fault Refusal := s.act (delayMessage body)

/-- TKC_STEP_DEFERRED: the step that waited for a burst is taken in the guard after it (R422). -/
def tkcStepDeferred (d : Dev) : Dev :=
  match d.link.stepDue with
  | some off => if d.inBurst then d else d.stepTkc off 2
  | none => d

def execTkcStepDeferred (s : State) : Host.Outcome State Fault Refusal := s.act tkcStepDeferred

/-- PATH_DELAY_TIMEOUT: no valid DELAY on a hop for 50 ms; its figures read none, and a follower's TDD bands trip
TDD_TIMING (R423, Table BP-4 code 5). -/
def pathDelayTimeout (p : Nat) (d : Dev) : Dev :=
  match (d.port p).hopAt with
  | some t =>
    if d.since t ≤ msU 50 then d else
    let none' : Int := 4294967295
    let d1 := (((d.set pHopRtt p none').set pHopDelayDown p none').set pHopDelayUp p none').updPort p (fun x => { x with hopAt := none })
    if d1.isFollower && p = 0 then
      d1.bandIds.foldl (fun e b => if (e.band b).cfg.tdd && 3 ≤ e.bandState b then e.tripBand b 5 else e) d1
    else d1
  | none => d

def execPathDelayTimeout (port : Nat) (s : State) : Host.Outcome State Fault Refusal := s.act (pathDelayTimeout port)

/-! ### BREAK, STATUS, DELAY_FIG (R415, R435) -/

/-- BREAK_MESSAGE: a follower below the break mutes its downlink lanes and relays (R435). -/
def breakMessage (body : List Byte) (d : Dev) : Dev :=
  if d.isFollower then ((d.pathGone body).relayDown 8 body).muteDownlink (fld body 0 1) else d

def execBreakMessage (body : List Byte) (s : State) : Host.Outcome State Fault Refusal := s.act (breakMessage body)

/-- A member's STATUS kept by the head: it is heard, and each started band shows whether that unit bridges it. -/
def Dev.takeStatus (d : Dev) (body : List Byte) : Dev :=
  let u := fld body 0 1
  if u = 0 || 7 < u || (d.member u).isNone then d else
  let d1 := d.updMember u (fun m => { m with status := body, heard := d.time, silentAt := none })
  d1.bandIds.foldl (fun e b =>
    let x := e.band b
    if !e.bandBusy b || !bit x.setUnits u then e else
    let on := bit (fld body 4 1) x.cfg.dlLane
    let v := e.getN pBandUnits b
    e.set pBandUnits b ((if bit v u == on then v else if on then v + 2 ^ u else v - 2 ^ u : Nat) : Int)) d1

/-- STATUS_MESSAGE: kept by the head, relayed by a follower (R415). -/
def statusMessage (body : List Byte) (d : Dev) : Dev :=
  if d.isFollower then d.sendUp 9 body else if d.get pChainRole = 1 then d.takeStatus body else d

def execStatusMessage (body : List Byte) (s : State) : Host.Outcome State Fault Refusal := s.act (statusMessage body)

/-- The STATUS body of this unit (Table CL-5). -/
def Dev.statusBody (d : Dev) : List Byte :=
  let lanes := fun (f : Nat → Bool) => flags ((List.range 8).map f)
  let bridging := fun l => match d.laneBand l with
    | some b => decide (d.bandState b = 3)
    | none => false
  let tripped := fun l => match d.laneBand l with
    | some b => (d.band b).trig.any (fun t => t.2 = l)
    | none => false
  e8 (d.getN pUnitNumber) ++ e8 d.pwr.phase.code ++ e8 d.clk.state.code ++ e8 (d.getN pThermalState) ++ e8 (lanes bridging) ++
    e8 (lanes tripped) ++ e16 (min 65535 d.pwr.vsys)

/-- STATUS_MESSAGE_SEND: every 10 ms a follower originates STATUS (R415). -/
def statusMessageSend (d : Dev) : Dev := d.sendUp 9 d.statusBody

def execStatusMessageSend (s : State) : Host.Outcome State Fault Refusal := s.act statusMessageSend

/-- DELAY_FIG_MESSAGE: a follower's figures of a lane reach the head (R320). -/
def delayFigMessage (body : List Byte) (d : Dev) : Dev :=
  let u := fld body 0 1
  let l := fld body 1 1
  if d.isFollower then d.sendUp 10 body
  else if d.get pChainRole ≠ 1 || u = 0 || 7 < u || 7 < l then d else
  d.updMember u (fun m =>
    { m with figs := upd m.figs l (fun _ => some { x := fld body 2 4, t := fld body 6 4, rx := fld body 10 2, tx := fld body 12 2 }) })

def execDelayFigMessage (body : List Byte) (s : State) : Host.Outcome State Fault Refusal := s.act (delayFigMessage body)

/-- DELAY_FIG_SEND: every 1 s, and on change, a follower sends the figures of each configured lane (R415). -/
def delayFigSend (d : Dev) : Dev :=
  d.laneIds.foldl (fun e l =>
    if (e.laneBand l).isNone then e else
    e.sendUp 10 (e8 (e.getN pUnitNumber) ++ e8 l ++ e32 (e.laneX l) ++ e32 (e.laneT l) ++ e16 (e.getN pFeRxDelay l) ++
      e16 (e.getN pFeTxDelay l))) d

def execDelayFigSend (s : State) : Host.Outcome State Fault Refusal := s.act delayFigSend

/-- UNIT_UNREACHABLE: a member whose STATUS has not come by link or courier for 5 s, and then every 60 s (R436). -/
def unitUnreachable (u : Nat) (d : Dev) : Dev :=
  match d.member u with
  | some m =>
    let again := match m.silentAt with
      | some t => decide (secU 60 ≤ d.since t)
      | none => true
    if d.get pChainRole ≠ 1 || d.since m.heard < secU 5 || !again then d else
    (d.updMember u (fun m => { m with silentAt := some d.time })).raiseDev 0x0988
      (e8 u ++ zs 3 ++ e32 (min 4294967295 (toMs (d.since m.heard))))
  | none => d

def execUnitUnreachable (unit : Nat) (s : State) : Host.Outcome State Fault Refusal := s.act (unitUnreachable unit)

/-! ### The uplink sum (R426, R427) -/

/-- SUM_SAT_WINDOW: a 10 ms window of a head lane's transmitted segments; over 1 % flagged raises SUM_BACKOFF by 3 dB, and
UPLINK_SUM_SATURATED is raised at most once per 1 s (R427). -/
def sumSatWindow (l segments flagged : Nat) (d : Dev) : Dev :=
  if d.get pChainRole ≠ 1 || !d.hasLane l || flagged = 0 then d else
  let x := nth d.link.sums l
  let d1 := (d.set pSumSatCount l (min 4294967295 (d.getN pSumSatCount l + flagged) : Nat)).updLink (fun k =>
    { k with sums := upd k.sums l (fun y => { y with satAt := some d.time, decayAt := none }) })
  if flagged * 100 ≤ segments then d1 else
  let d2 := d1.set pSumBackoff l (min 1152 (d1.get pSumBackoff l + 192))
  let due := match x.reportAt with
    | some t => decide (secU 1 ≤ d.since t)
    | none => true
  if !due then d2 else
  (d2.updLink (fun k => { k with sums := upd k.sums l (fun y => { y with reportAt := some d.time }) })).raiseLane l 0x0985
    (e8 l ++ zs 1 ++ s16 (d2.get pSumBackoff l) ++ e32 segments ++ e32 flagged)

def execSumSatWindow (lane segments flagged : Nat) (s : State) : Host.Outcome State Fault Refusal :=
  s.act (sumSatWindow lane segments flagged)

/-- SUM_BACKOFF_DECAY: after each 1 s without a flagged segment the backoff falls by 1 dB (R427). -/
def sumBackoffDecay (l : Nat) (d : Dev) : Dev :=
  let x := nth d.link.sums l
  let from' := max (x.satAt.getD 0) (x.decayAt.getD 0)
  if d.get pSumBackoff l = 0 || d.since from' < secU 1 then d else
  (d.set pSumBackoff l (max 0 (d.get pSumBackoff l - 64))).updLink (fun k =>
    { k with sums := upd k.sums l (fun y => { y with decayAt := some d.time }) })

def execSumBackoffDecay (lane : Nat) (s : State) : Host.Outcome State Fault Refusal := s.act (sumBackoffDecay lane)

/-! ### Rejoin (R437) -/

/-- BAND_RESUME_AFTER_REJOIN: a rejoined follower LOCKED to LINK whose measured path is within the fixed delay lets the band
go: the paths start from the last output less 20 dB at 6 dB/s, the estimator afresh. A longer path keeps the lane muted
until the next BRIDGE_START (R437). -/
def bandResumeAfterRejoin (b : Nat) (d : Dev) : Dev :=
  let x := d.band b
  if !d.isFollower || !(d.port 0).joined || !x.trig.any (fun t => t.1 = 7) || x.resume ≠ 0 || d.clk.state ≠ .locked ||
      d.clk.selected ≠ some 1 then d
  else match d.bandDelay x.cfg [] with
  | none => d
  | some v =>
    if x.delay < delayNs v then d.updBand b (fun y => { y with resume := 1 }) else
    let d1 := x.cfg.lanes.foldl (fun e l =>
      let g := match (e.convoy l).lastOut with
        | some o => o - 1280
        | none => outMin l
      (e.startPath l (e.estimates x.cfg l)).updConvoy l (fun y => { y with restart := some (g, 6), lastOut := (e.convoy l).lastOut })) d
    d1.clearTrigger b 7

def execBandResumeAfterRejoin (band : Nat) (s : State) : Host.Outcome State Fault Refusal :=
  s.act (bandResumeAfterRejoin band)

/-! ### The medium test (R428 to R430, R433) -/

/-- mW of a test at the port's rate (R430). -/
def Dev.testPower (d : Dev) (p : Nat) : Nat := if d.get pLinkRate p = 2 then 650 else 400

/-- The pattern replaces the bales of a port. -/
def Dev.runTest (d : Dev) (p : Nat) : Dev :=
  (d.updPort p (fun x => { x with test := x.test.map (fun t => { t with running := true, since := d.time }) })).set pPortState p 4

/-- The job of a medium test (R430). -/
def Dev.linkTestJob (d : Dev) (q : List Byte) : Job :=
  let ms := fld q 4 4
  { opcode := 0x0905, estimate := (d.testPower (fld q 0 1) * ms + 999) / 1000, duration := 1000 * ms }

def cmdLinkTestStart : CmdSpec :=
  { opcode := 0x0905, len := len 8, long := true, lacks := fun d r => lacksPort d (rq r 0 1), denied := onlyS0,
    bad := fun _ r => firstBad r.body
      [.rg 0 (rq r 0 1 ≤ 1), .rg 1 (rq r 1 1 ≤ 1), .rg 4 (1000 ≤ rq r 4 4 && rq r 4 4 ≤ 600000)],
    notReady := fun d r => d.portWait (rq r 0 1),
    run := fun d r =>
      let p := rq r 0 1
      let ms := rq r 4 4
      if d.portBridging p || !d.portUp p || (d.port p).test.isSome then refuse d (fail .state) else
      match d.startJob r.slot (rq r 2 2) (d.linkTestJob r.body) with
      | .error rep => refuse d rep
      | .ok (j, d1) =>
        let t : LinkTest := { slot := r.slot, ref := r.ref, job := j, mode := rq r 1 1, duration := ms, since := d.time }
        let d2 := d1.updPort p (fun x => { x with test := some t })
        { dev := if rq r 1 1 = 1 then d2.runTest p
            else d2.send { port := p, typ := 14, body := e8 0 ++ e8 0 ++ zs 2 ++ e32 ms }
          reply := accepted (ms + 500) } }

def execLinkTestStart (r : Request) (s : State) : Host.Outcome State Fault Refusal := s.act (hostCmd cmdLinkTestStart r)

/-- TEST_MESSAGE: a request is accepted by a peer that can run the test, else ended; an acceptance starts the requester's;
an end before that is a refusal (R428). -/
def testMessage (p : Nat) (body : List Byte) (d : Dev) : Dev :=
  let op := fld body 0 1
  let ms := fld body 4 4
  let answer := fun (e : Dev) (op : Nat) => e.send { port := p, typ := 14, body := e8 op ++ e8 0 ++ zs 2 ++ e32 ms }
  if !d.portUp p then d
  else if op = 0 then
    if d.portBridging p || (d.port p).test.isSome then answer d 2 else
    let t : LinkTest := { duration := ms, since := d.time }
    (answer (d.updPort p (fun x => { x with test := some t })) 1).runTest p
  else if op = 1 then
    match (d.port p).test with
    | some t => if t.running then d else d.runTest p
    | none => d
  else
    match (d.port p).test with
    | some t => if t.running then d else d.endTest p 3 0 0 (d.getN pHopRtt p) 0
    | none => d

def execTestMessage (port : Nat) (body : List Byte) (s : State) : Host.Outcome State Fault Refusal :=
  s.act (testMessage port body)

/-- LINK_TEST_END: at the end of its duration bales resume; the bits checked, the errors and, in LOOPBACK, the pattern's
own round trip in ps are what the checker found (R428, R429). -/
def linkTestEnd (p bits errors rtt : Nat) (locked : Bool) (d : Dev) : Dev :=
  match (d.port p).test with
  | some t =>
    if !t.running || d.since t.since < msU t.duration then d else
    let d1 := (d.set pPortState p 3).updPort p (fun x => { x with baleCount := none })
    let own := d1.getN pHopDelayDown p + d1.getN pHopDelayUp p
    let r := if t.mode = 1 then rtt % 4294967296 else d1.getN pHopRtt p
    d1.endTest p (if locked then 0 else 1) bits errors r (if t.mode = 1 then r else own)
  | none => d

def execLinkTestEnd (port bits errors rtt : Nat) (locked : Bool) (s : State) : Host.Outcome State Fault Refusal :=
  s.act (linkTestEnd port bits errors rtt locked)

def cmdLinkTestResult : CmdSpec :=
  { opcode := 0x0906, len := len 4, lacks := fun d r => lacksPort d (rq r 0 1), denied := onlyS0,
    bad := fun _ r => firstBad r.body [.rg 0 (rq r 0 1 ≤ 1), .rs 1 3],
    notReady := fun d r => d.portWait (rq r 0 1),
    run := fun d r =>
      match (d.port (rq r 0 1)).result with
      | some b => { dev := d, reply := okBody b }
      | none => refuse d (fail .state) }

def execLinkTestResult (r : Request) (s : State) : Host.Outcome State Fault Refusal := s.act (hostCmd cmdLinkTestResult r)

end Sys2Proof.Machine
end

