-- ==== Sys2Proof/Machine/Chains.lean ====
section
/-! DEFINITION. The filter-chain family: chain configuration, custom FIRs, thresholds, status, delays, averager windows and
saturation (chapter 10). -/

namespace Sys2Proof.Machine

/-- Full rights on a chain, those of THRESH_SET: the lane's owner for X, T and P, S0 for B (R335). -/
def chainNotOwn (d : Dev) (slot c : Nat) : Bool :=
  let k := chainKind c
  if k ≤ 2 then d.owner (chainLane c) ≠ slot else if k = 6 then slot ≠ 0 else true

/-! ### CHAIN_CONFIG (R336, R341) -/

/-- The lane carries a band that bridges (BRIDGING or HELD), or one that is STARTING. -/
def Dev.laneBridges (d : Dev) (l : Nat) : Bool :=
  match d.laneBand l with
  | some b => d.bandBusy b
  | none => false

/-- A running window ends with INVALID_GAP and its partial count, a free value (R341). -/
def Dev.cutWindow (d : Dev) (c : Nat) : Dev :=
  let (v, d1) := d.measure 2
  let w := if d.get pAvgWindow c = 0 then 4294967296 else d.getN pAvgWindow c
  ((d1.updChain c (fun x => { x with sum := (nth v 0).natAbs % 18446744073709551616, valid := (nth v 1).natAbs % w, endTs := d.ts })).set
    pAvgStatus c 3).set pAvgPower c (-32768)

def cmdChainConfig : CmdSpec :=
  { opcode := 0x0601, len := len 20,
    lacks := fun d r => lacksChain d (rq r 0 1),
    denied := fun d r => chainKind (rq r 0 1) = 5 && isChain (rq r 0 1) || notOwner d r.slot (rq r 0 1),
    bad := fun _ r =>
      let p := rq r 4 1
      firstBad r.body
        [.rg 0 (rq r 0 1 < 8), .rs 1 3, .rg 4 (p ≤ 2 || p = 5), .rg 5 (rq r 5 1 ≤ 2 && (p = 5 || rq r 5 1 = p)),
         .rg 6 (rq r 6 1 = 0), .rs 7 1, .rg 8 (rq r 8 2 = 0), .rg 10 (rq r 10 1 ≤ 16), .rs 11 1, .rs 16 4],
    run := fun d r =>
      let l := rq r 0 1
      let p := rq r 4 1
      let x := d.chain l
      if p = 5 && x.fir.isNone && x.shadow.isNone then refuse d (fail .badArg)
      else if d.laneBridges l || (d.lane l).survey.isSome || d.laneState l = 7 then refuse d (fail .state)
      else
        let d1 := if receives (d.laneState l) then d.cutWindow l else d
        let d2 := d1.updChain l (fun x =>
          if p = 5 then { x with fir := x.shadow.orElse (fun _ => x.fir), shadow := none } else x)
        let d3 := (((d2.set pChainPreset l (p : Nat)).set pChainPreset (8 + l) (rq r 5 1 : Nat)).set pAvgShift l
          (rq r 10 1 : Nat)).set pAvgWindow l (rq r 12 4 : Nat)
        { dev := d3
          reply := okBody (e8 l ++ e8 p ++ zs 2 ++ e32 (xPeriod (d.getN pLaneRate l)) ++ e32 (d3.laneX l) ++
            e32 (d3.laneX l + d3.laneT l)) } }

def execChainConfig (r : Request) (s : State) : Host.Outcome State Fault Refusal := s.act (hostCmd cmdChainConfig r)

/-! ### FIR_LOAD (R321, R322, R337) -/

/-- Coefficient `k` of a FIR's BLK data. -/
def firCoef (b : List Byte) (k : Nat) : Int := fldS b (3 * k) 3

/-- The first coefficient whose bits [23:18] do not equal bit 17. -/
def firBad (b : List Byte) : Option Nat :=
  (List.range (b.length / 3)).findSome? (fun k =>
    let h := firCoef b k
    if -131072 ≤ h && h ≤ 131071 then none else some (0x8000 + 3 * k))

def cmdFirLoad : CmdSpec :=
  { opcode := 0x0602, len := len 12, blk := true,
    lacks := fun d r => lacksChain d (rq r 0 1), denied := fun d r => notOwner d r.slot (rq r 0 1),
    bad := fun _ r =>
      let c := rq r 0 1
      (firstBad r.body
        [.rg 0 (c < 8 || c = 24), .rs 1 1, .rg 2 (1 ≤ rq r 2 2 && rq r 2 2 ≤ 384),
         .rg 8 (if c = 24 then 1 ≤ rq r 8 1 && rq r 8 1 ≤ 16 else rq r 8 1 = 1), .rs 9 3]).orElse
        (fun _ => firBad r.blk),
    run := fun d r =>
      let c := rq r 0 1
      let n := rq r 2 2
      let h := (List.range n).map (firCoef r.blk)
      let sym := h = h.reverse
      if r.blk.length ≠ 3 * n then refuse d (fail .badLen)
      else if (sym && rq r 4 4 ≠ 0) || (!sym && rq r 4 4 = 0) then refuse d (fail .badArg)
      else if c < 8 && d.laneBridges c then refuse d (fail .state)
      else
        let f : Fir := { taps := n, delay := if sym then (n - 1) * 128 else rq r 4 4, decim := rq r 8 1, coefs := h }
        { dev := if c < 8 then d.updChain c (fun x => { x with shadow := some f })
            else { d with scBanks := upd d.scBanks r.slot (fun _ => some f) }
          reply := okBody (e8 c ++ eb sym ++ e16 n ++ e32 f.delay ++ s32 (h.foldl (· + ·) 0)) } }

def execFirLoad (r : Request) (s : State) : Host.Outcome State Fault Refusal := s.act (hostCmd cmdFirLoad r)

/-! ### Thresholds (R331, R332, R338) -/

/-- THRESH_STATE as the thresholds stand. -/
def Dev.threshState (d : Dev) (c : Nat) : Dev :=
  let t := (d.chain c).thr
  d.set pThreshState c (flags (t.map (·.fired) ++ t.map (fun x => decide (x.qty ≠ 0))) : Nat)

def cmdThreshSet : CmdSpec :=
  { opcode := 0x0603, len := len 16,
    lacks := fun d r => lacksChain d (rq r 0 1),
    denied := fun d r =>
      let c := rq r 0 1
      isChain c && !(chainKind c = 1 || chainKind c = 3 || chainKind c = 4) && chainNotOwn d r.slot c,
    bad := fun _ r =>
      let c := rq r 0 1
      let q := rq r 2 1
      firstBad r.body
        [.rg 0 (isChain c), .rg 1 (rq r 1 1 ≤ 3), .rg 2 (q ≤ 3), .rg 3 (rq r 3 1 ≤ 7),
         .rg 8 (1 ≤ rq r 8 4 && rq r 8 4 ≤ 16777216), .rs 12 4],
    run := fun d r =>
      let c := rq r 0 1
      let q := rq r 2 1
      if !(chainKind c = 0 || chainKind c = 2 || chainKind c = 6) then refuse d (failAt .badArg 0)
      else if !(q = 0 || (if c < 8 then q ≤ 2 else q = 3)) then refuse d (fail .badArg) else
      let t : Threshold := { qty := rq r 2 1, flags := rq r 3 1, level := rqS r 4 2, hyst := rq r 6 2, dwell := rq r 8 4 }
      let d1 := d.updChain c (fun x => { x with thr := upd x.thr (rq r 1 1) (fun _ => t) })
      { dev := d1.threshState c, reply := okBody (e8 c ++ e8 (rq r 1 1) ++ e8 0 ++ zs 1) } }

def execThreshSet (r : Request) (s : State) : Host.Outcome State Fault Refusal := s.act (hostCmd cmdThreshSet r)

/-- An evaluation satisfies what the threshold waits for: its fire, or its clear (R331). -/
def Threshold.wants (t : Threshold) (v : Int) : Bool :=
  let rising := bit t.flags 0
  if t.qty = 0 then false
  else if t.fired then (if rising then decide (v < t.level - t.hyst) else decide (t.level + t.hyst < v))
  else if rising then decide (t.level ≤ v) else decide (v ≤ t.level)

/-- THRESHOLD_CROSSED: the evaluation that completes the dwell moves the threshold; the Convoy engine reads it from the
state, the host gets the event (R331, R332). A window threshold also needs its dwell of windows counted. -/
def thresholdCrossed (c k : Nat) (value : Int) (d : Dev) : Dev :=
  let t := nth (d.chain c).thr k
  if !isChain c || 4 ≤ k || lacksChain d c || !t.wants value || (t.qty = 2 && t.count < t.dwell) then d else
  let new := !t.fired
  let d1 := (d.updChain c (fun x => { x with thr := upd x.thr k (fun t => { t with fired := new, count := 0 }) })).threshState c
  if bit t.flags 2 then
    d1.chainEvent c 0x0680 (e8 c ++ e8 k ++ eb new ++ e8 t.qty ++ s16 value ++ s16 t.level ++ e64 d1.ts ++ e32 t.dwell)
  else d1

def execThresholdCrossed (chain thr : Nat) (value : Int) (s : State) : Host.Outcome State Fault Refusal :=
  s.act (thresholdCrossed chain thr value)

/-! ### CHAIN_STATUS_GET and DELAY_GET (R326, R335, R339) -/

def cmdChainStatusGet : CmdSpec :=
  { opcode := 0x0604, len := len 4,
    lacks := fun d r => lacksChain d (rq r 0 1),
    denied := fun d r =>
      let c := rq r 0 1
      isChain c && (chainKind c = 3 || chainKind c = 4 || (c < 24 && d.owner (chainLane c) ≠ r.slot) ||
        (bit (rq r 1 1) 0 && chainNotOwn d r.slot c)),
    bad := fun _ r => firstBad r.body [.rg 0 (isChain (rq r 0 1)), .rg 1 (rq r 1 1 ≤ 1), .rs 2 2],
    run := fun d r =>
      let c := rq r 0 1
      let x := d.chain c
      let clear := bit (rq r 1 1) 0
      { dev := if clear then (d.updChain c (fun x => { x with sat := List.replicate 6 0 })).set pSatFlags c 0 else d
        reply := okBody (e8 c ++ e8 (d.getN pChainPreset c) ++ e8 (d.getN pAvgStatus c) ++ e8 (d.getN pThreshState c) ++
          e8 (d.getN pSatFlags c) ++ zs 1 ++ s16 (if c < 8 then d.get pAvgPower c else -32768) ++ s64 x.sum ++
          e32 x.valid ++ e64 x.endTs ++ (x.sat.map e16).flatten) } }

def execChainStatusGet (r : Request) (s : State) : Host.Outcome State Fault Refusal :=
  s.act (hostCmd cmdChainStatusGet r)

def cmdDelayGet : CmdSpec :=
  { opcode := 0x0605, len := len 4,
    lacks := fun d r => lacksChain d (rq r 0 1),
    denied := fun d r => (rq r 1 1 = 255 || rq r 2 1 = 255) && notOwner d r.slot (rq r 0 1),
    bad := fun _ r => firstBad r.body
      [.rg 0 (rq r 0 1 < 8), .rg 1 (rq r 1 1 ≤ 2 || rq r 1 1 = 255), .rg 2 (rq r 2 1 ≤ 4 || rq r 2 1 = 255), .rs 3 1],
    run := fun d r =>
      let l := rq r 0 1
      let rate := if rq r 2 1 = 255 then d.getN pLaneRate l else rq r 2 1
      let fx := if rq r 1 1 = 255 then d.firDelay l else presetDelay (rq r 1 1)
      let ft := presetDelay (if rq r 1 1 = 255 then d.getN pChainPreset (8 + l) else rq r 1 1)
      let x := xDelay rate fx
      let t := tDelay rate ft
      { dev := d, reply := okBody (e32 x ++ e32 t ++ e32 (x + t) ++ e32 (ticksNs (x + t)) ++ e32 (xPeriod rate)) } }

def execDelayGet (r : Request) (s : State) : Host.Outcome State Fault Refusal := s.act (hostCmd cmdDelayGet r)

/-! ### Averager windows (R327 to R330) -/

/-- AVG_WINDOW_END: the window of a configurable averager, from the exact sum of its power words, the valid samples, the
samples summed when the sum passed 2^64 − 1, and whether a summed sample carried SAT. A valid window advances the dwell
of the window thresholds. -/
def avgWindowEnd (c : Nat) (m : Window) (d : Dev) : Dev :=
  if !((c < 8 && !lacksChain d c) || c = 24) then d else
  let n := if d.get pAvgWindow c = 0 then 4294967296 else d.getN pAvgWindow c
  let beyond := 18446744073709551616 ≤ m.sum
  let st := if beyond then 4 else if m.valid * 2 < n then 2 else if m.clipped then 1 else 0
  let sum := if beyond then 18446744073709551615 else m.sum
  let p := if 2 ≤ st || m.valid = 0 then -32768
    else clampI (-32767) 32767 (Config.dB64 m.sum (m.valid * 2 ^ (22 + d.getN pAvgShift c)))
  let stamp := d.ts - d.chainDelay c
  let d1 := if beyond then
      (d.bump pGuardOvfCount c).chainEvent c 0x0681 (e8 c ++ zs 3 ++ e32 m.overAt ++
        e64 (stamp - (n - 1) * d.chainPeriod c) ++ e32 (d.getN pAvgWindow c))
    else d
  let d2 := d1.updChain c (fun x =>
    { x with sum := sum, valid := m.valid, endTs := stamp
             thr := if 2 ≤ st then x.thr else x.thr.map (fun t =>
               if t.qty = 2 then { t with count := if t.wants p then t.count + 1 else 0 } else t) })
  (d2.set pAvgStatus c (st : Nat)).set pAvgPower c p

def execAvgWindowEnd (chain : Nat) (m : Window) (s : State) : Host.Outcome State Fault Refusal :=
  s.act (avgWindowEnd chain m)

/-! ### Saturation (R326) -/

/-- CHAIN_SATURATED: samples clip at a stage; its counter stops at 65,535, and the event is raised once per stage between
two clears (R326, R340). -/
def chainSaturated (c stage clips : Nat) (d : Dev) : Dev :=
  if !isChain c || lacksChain d c || chainStages c ≤ stage || clips = 0 then d else
  let n := min 65535 (nth (d.chain c).sat stage + clips)
  let d1 := d.updChain c (fun x => { x with sat := upd x.sat stage (fun _ => n) })
  if bit (d.getN pSatFlags c) stage then d1
  else (d1.set pSatFlags c (d.getN pSatFlags c + 2 ^ stage : Nat)).chainEvent c 0x0682
    (e8 c ++ e8 stage ++ e16 n ++ e64 d1.ts)

def execChainSaturated (chain stage clips : Nat) (s : State) : Host.Outcome State Fault Refusal :=
  s.act (chainSaturated chain stage clips)

end Sys2Proof.Machine
end

