-- ==== Sys2Proof/Machine/StoreOps.lean ====
section
/-! DEFINITION. The operations of the non-volatile storage and of the Colophon's partitions: when erases may run, their start
and abandonment, freezes and thaws, and the erase of a tenant partition (R539 to R545, R552, R559 to R564). -/

namespace Sys2Proof.Machine

def Dev.part (d : Dev) (p : Nat) : Partition := nth d.colo p
def Dev.updPart (d : Dev) (p : Nat) (f : Partition → Partition) : Dev := { d with colo := upd d.colo p f }
def Dev.updNvm (d : Dev) (f : Nvm → Nvm) : Dev := { d with nvm := f d.nvm }

/-! ### Erases (R559, R562) -/

/-- A brown-out sequence or hold is in force. -/
def Dev.brownedOut (d : Dev) : Bool :=
  match d.pwr.sequence with
  | some { kind := .brownOut, .. } => true
  | _ => false

/-- Erases barred by heat. -/
def Dev.eraseHot (d : Dev) : Bool := d.get pThermalState ≠ 0 || d.get pThermalShutdown - 160 ≤ d.junction
/-- Erases barred by the ledger. -/
def Dev.erasePoor (d : Dev) : Bool := !d.isGrid && (d.getB pColdBudget || d.level 2 || d.level 3)
/-- R559: erases are permitted. -/
def Dev.erasePermitted (d : Dev) : Bool := !d.eraseHot && !d.erasePoor && !d.brownedOut

/-- The erase in flight suspended and abandoned: it is to be run again from the start (R562). Its sector's number is a free
value. -/
def Dev.abandonErase (d : Dev) : Dev :=
  match d.nvm.erase with
  | none => d
  | some k =>
    let (v, d1) := d.measure 1
    let cause := if d.eraseHot then 0 else if d.brownedOut then 2 else 1
    let d2 := d1.updNvm (fun n =>
      { n with erase := none, eraseWanted := k :: n.eraseWanted, erasePending := n.erasePending + 1 })
    d2.raiseDev 0x0E81 (e32 ((nth v 0).natAbs % 16384) ++ e8 cause)

/-- Whether an erase belongs to the journal or the Colophon, which go first (R559). -/
def EraseKind.first : EraseKind → Bool
  | .stage _ => false
  | _ => true

/-- The next erase begins, one at a time, journal and Colophon erases first; the oldest sector of a wrapping partition is
gone with it (R539, R559). -/
def Dev.startErase (d : Dev) : Dev :=
  if d.nvm.erase.isSome || !d.erasePermitted then d else
  match (d.nvm.eraseWanted.find? EraseKind.first).orElse (fun _ => d.nvm.eraseWanted.head?) with
  | none => d
  | some k =>
    let d1 := d.updNvm (fun n => { n with erase := some k, eraseWanted := n.eraseWanted.erase k })
    match k with
    | .colophon part =>
      if part = 8 then d1 else
        d1.updPart part (fun p => { p with stored := p.stored.drop 128, sectorsFull := p.sectorsFull - 1 })
    | _ => d1

/-- NVM_ERASE_PERMITTED follows R559; an erase in flight is abandoned when it ends, and one that waits begins when it
holds. -/
def Dev.checkErase (d : Dev) : Dev :=
  let ok := d.erasePermitted
  let d1 := (d.set pNvmErasePermitted 0 (ok.toNat : Nat)).updNvm (fun n =>
    if ok then { n with barred := n.barred + (match n.barredSince with
                   | some t => d.since t
                   | none => 0), barredSince := none }
    else { n with barredSince := some (n.barredSince.getD d.time) })
  if ok then d1.startErase else d1.abandonErase

/-- NVM_BARRED_TIME in ms. -/
def Dev.barredMs (d : Dev) : Nat :=
  min 4294967295 (toMs (d.nvm.barred + (match d.nvm.barredSince with
    | some t => d.since t
    | none => 0)))

/-- What is in flight as Table PS-12 codes it: bit 0 a page program, bit 1 an erase. -/
def Dev.nvmInFlight (d : Dev) : Nat := flags [d.nvm.queue.any (fun e => e.granted), d.nvm.erase.isSome]

/-! ### Freezes (R544, R545, R552) -/

/-- A partition thaws: FREEZE_LOST, then the losses that waited (R540, R544). -/
def Dev.thaw (d : Dev) (part : Nat) : Dev :=
  match (d.part part).freeze with
  | none => d
  | some f =>
    let d1 := (d.updPart part (fun p => { p with freeze := none, thawedAt := some d.time })).set pLogFrozen part 0
    (d1.raiseAs part (part = 0) 0 0x0D80
      (e8 part ++ zs 1 ++ e48 (if f.lost = 0 then 0 else f.first) ++ e48 (if f.lost = 0 then 0 else f.last) ++ zs 2 ++
        e32 f.lost)).reportLosses part

/-- The condition of R542 ends once 512 positions are free and the overflow has been released. -/
def Dev.metroClear (d : Dev) : Dev :=
  let p := d.part 8
  if p.readout && 512 ≤ p.metroFree && p.overflowRun.isNone then d.updPart 8 (fun p => { p with readout := false }) else d

/-- A full provision erases a tenant partition, freeze or not, and restarts its sequence (R80, R552). -/
def Dev.eraseTenant (d : Dev) (slot : Nat) : Dev :=
  let p := d.part slot
  let d1 := (d.updPart slot (fun _ => {})).set pLogFrozen slot 0
  d1.raiseDev 0x0D84 (e8 slot ++ zs 1 ++ e48 (p.next - 1) ++ e32 p.readable.length)

end Sys2Proof.Machine
end

