-- ==== Sys2Proof/Machine/Colophon.lean ====
section
/-! DEFINITION. The Colophon family: freezes, thaws and releases, reads, and the flushes of staged records (chapter 17). -/

namespace Sys2Proof.Machine

/-- A partition the session may not use: the device and metrology ones are S0's to freeze, the metrology one any session's
to read, a tenant's its own alone (Table CO-1, R532). -/
def partDenied (slot p : Nat) (read : Bool) : Bool :=
  p ≤ 8 && (if p = 8 then !read && slot ≠ 0 else p ≠ slot)

/-! ### LOG_FREEZE, LOG_THAW, FREEZE_EXPIRY (R543 to R545) -/

/-- Milliseconds left of a freeze, rounded up. -/
def Dev.freezeLeft (d : Dev) (part : Nat) : Nat :=
  match (d.part part).freeze with
  | some f => toMsUp (f.ends - d.time)
  | none => 0

def cmdLogFreeze : CmdSpec :=
  { opcode := 0x0D01, len := len 8, denied := fun _ r => partDenied r.slot (rq r 0 1) false,
    bad := fun _ r => firstBad r.body
      [.rg 0 (rq r 0 1 ≤ 8), .rs 1 3, .rg 4 (100 ≤ rq r 4 4 && rq r 4 4 ≤ 10000)],
    run := fun d r =>
      let k := rq r 0 1
      let p := d.part k
      let recent := match p.thawedAt with
        | some t => decide (d.since t < secU 10)
        | none => false
      if p.freeze.isSome then refuse d (fail .frozen)
      else if recent then refuse d (fail .state)
      else
        let d1 := d.flushPart k (stageSize k)
        let d2 := (d1.updPart k (fun p => { p with freeze := some { ends := d.time + msU (rq r 4 4) } })).set pLogFrozen k 1
        let d3 := if k = 8 then d2.updSlot r.slot (fun s =>
            { s with session := s.session.map (fun x => { x with readMax := 0 }) }) else d2
        let q := d3.part k
        { dev := d3
          reply := okBody (e8 k ++ zs 1 ++ e48 q.oldest ++ e48 q.newest ++ zs 2 ++ e32 (rq r 4 4)) } }

def execLogFreeze (r : Request) (s : State) : Host.Outcome State Fault Refusal := s.act (hostCmd cmdLogFreeze r)

/-- A release of metrology records up to a number: they are unreadable at once, the release and any overflow are recorded,
and each sector wholly released is to be erased (R543). -/
def Dev.release (d : Dev) (slot dest : Nat) : Dev :=
  let p := d.part 8
  let gone := p.stored.filter (fun r => r.seq ≤ dest)
  let d1 := d.updPart 8 (fun p =>
    { p with stored := p.stored.filter (fun r => !(r.seq ≤ dest)), released := p.released + gone.length })
  let d2 := d1.raiseAs 8 false 0 0x0D83
    (e8 slot ++ zs 1 ++ e48 ((gone.head?.map (fun r => r.seq)).getD 0) ++ e48 dest ++ zs 2 ++ e32 gone.length)
  let d3 := match p.overflowRun with
    | some o => (d2.updPart 8 (fun p => { p with overflowRun := none })).raiseAs 8 false 0 0x0D81
        (e8 8 ++ e8 3 ++ e48 o.first ++ e48 o.last ++ zs 2 ++ e32 o.count)
    | none => d2
  let waiting := ((d3.nvm.eraseWanted ++ d3.nvm.erase.toList).filter (fun k => k = .colophon 8)).length
  let more := (d3.part 8).released / 128 - waiting
  (d3.updNvm (fun n => { n with eraseWanted := n.eraseWanted ++ List.replicate more (.colophon 8) })).checkErase.metroClear

def cmdLogThaw : CmdSpec :=
  { opcode := 0x0D02, len := len 8, denied := fun _ r => partDenied r.slot (rq r 0 1) false,
    bad := fun _ r => firstBad r.body [.rg 0 (rq r 0 1 ≤ 8), .rs 1 1, .rg 2 (rq r 2 6 = 0 || rq r 0 1 = 8)],
    run := fun d r =>
      let k := rq r 0 1
      let dest := rq r 2 6
      match (d.part k).freeze, (d.slot r.slot).session with
      | none, _ => refuse d (fail .state)
      | some f, sess =>
        if (match sess with
          | some x => x.readMax
          | none => 0) < dest then refuse d (fail .badArg)
        else
          let d1 := d.thaw k
          { dev := if dest = 0 then d1 else d1.release r.slot dest
            reply := okBody (e8 k ++ zs 3 ++ e32 f.lost ++ e48 dest ++ zs 2) } }

def execLogThaw (r : Request) (s : State) : Host.Outcome State Fault Refusal := s.act (hostCmd cmdLogThaw r)

/-- FREEZE_EXPIRY: a freeze's duration has ended (R544). -/
def freezeExpiry (part : Nat) (d : Dev) : Dev :=
  match (d.part part).freeze with
  | some f => if f.ends ≤ d.time then d.thaw part else d
  | none => d

def execFreezeExpiry (part : Nat) (s : State) : Host.Outcome State Fault Refusal := s.act (freezeExpiry part)

/-! ### LOG_READ, LOG_INFO (R546) -/

/-- The records a read examines: in ascending sequence from a number, until `count` whole ones are found. Answers those
returned and how many failed their check. -/
def readRun : Nat → List Record → List Record × Nat × Option Nat
  | _, [] => ([], 0, none)
  | 0, _ => ([], 0, none)
  | n + 1, r :: rs =>
    if r.bad then
      let (out, k, last) := readRun (n + 1) rs
      (out, k + 1, last.orElse (fun _ => some r.seq))
    else
      let (out, k, last) := readRun n rs
      (r :: out, k, last.orElse (fun _ => some r.seq))

def cmdLogRead : CmdSpec :=
  { opcode := 0x0D03, len := len 8, denied := fun _ r => partDenied r.slot (rq r 0 1) true,
    bad := fun _ r => firstBad r.body [.rg 0 (rq r 0 1 ≤ 8), .rg 1 (1 ≤ rq r 1 1 && rq r 1 1 ≤ 64)],
    run := fun d r =>
      let k := rq r 0 1
      let start := rq r 2 6
      let p := d.part k
      let n := min (rq r 1 1) (40 * d.halfDepth r.slot / 32)
      let (out, skipped, last) := readRun n (p.readable.filter (fun x => start ≤ x.seq))
      let top := (out.getLast?.map (fun x => x.seq)).getD 0
      let next := match last with
        | some s => s + 1
        | none => start
      let d1 := d.set pLogCorrupt k (min 4294967295 (d.getN pLogCorrupt k + skipped) : Nat)
      let d2 := if k = 8 && p.freeze.isSome then d1.updSlot r.slot (fun s =>
          { s with session := s.session.map (fun x => { x with readMax := max x.readMax top }) }) else d1
      let fl := flags [p.freeze.isSome, decide (start < p.oldest), decide (skipped ≠ 0),
        decide (out ≠ [] ∧ top = p.newest)]
      { dev := d2
        reply := { status := .ok, blk := (out.map Record.bytes).flatten
                   body := e8 k ++ e8 out.length ++ e8 fl ++ e8 (min 255 skipped) ++
                     e48 ((out.head?.map (fun x => x.seq)).getD 0) ++ zs 2 ++ e48 next ++ zs 2 } } }

def execLogRead (r : Request) (s : State) : Host.Outcome State Fault Refusal := s.act (hostCmd cmdLogRead r)

def cmdLogInfo : CmdSpec :=
  { opcode := 0x0D04, len := len 4, denied := fun _ r => partDenied r.slot (rq r 0 1) true,
    bad := fun _ r => firstBad r.body [.rg 0 (rq r 0 1 ≤ 8), .rs 1 3],
    run := fun d r =>
      let k := rq r 0 1
      let p := d.part k
      let fl := flags [p.freeze.isSome, k ≠ 8, k = 8 && p.readout, !d.erasePermitted]
      { dev := d
        reply := okBody (e8 k ++ e8 fl ++ e16 (partCapacity k) ++ e32 p.readable.length ++ e48 p.oldest ++ zs 2 ++
          e48 p.next ++ zs 2 ++ e32 (d.getN pLogLost k) ++ e32 (d.freezeLeft k)) } }

def execLogInfo (r : Request) (s : State) : Host.Outcome State Fault Refusal := s.act (hostCmd cmdLogInfo r)

/-! ### COLOPHON_FLUSH (R537, R538, R540) -/

/-- COLOPHON_FLUSH: a partition's staged records are stored within its allotment of the frame, and losses that waited are
reported. -/
def colophonFlush (part : Nat) (d : Dev) : Dev :=
  if 8 < part || (d.part part).freeze.isSome || (d.pwr.phase ≠ .ready && d.pwr.phase ≠ .quires) then d else
  let n := min (d.part part).staged.length (partAllot part - (d.part part).allotUsed)
  ((d.flushPart part n).updPart part (fun p => { p with allotUsed := p.allotUsed + n })).reportLosses part |>.checkErase

def execColophonFlush (part : Nat) (s : State) : Host.Outcome State Fault Refusal := s.act (colophonFlush part)

end Sys2Proof.Machine
end

