-- ==== Sys2Proof/Machine/Pace.lean ====
section
/-! DEFINITION. The pace loop: slack, VCORE, the policy and its override (R159 to R186). -/

namespace Sys2Proof.Machine

/-- T of the pace loop in 0.1 %: 20.0 % until the first READY after reset release (R167); a restart of Quire C keeps the
stored policy, as the loop's rules are in hardware (R182). -/
def Dev.targetSlack (d : Dev) : Nat := if d.pwr.readyAt.isSome then d.getN pPaceTargetSlack else 200

/-- floor_eff of R168; 550 mV until that READY (R167). -/
def Dev.vcoreFloor (d : Dev) : Nat := if d.pwr.readyAt.isSome then d.getN pVcoreFloorHost else 550

/-- ceiling_eff of R168; 900 mV until that READY (R167). -/
def Dev.vcoreCeiling (d : Dev) : Nat :=
  let c := if d.pwr.readyAt.isSome then min (d.getN pVcoreCeilingHost) (d.getN pVcoreCapLedger) else 900
  max c d.vcoreFloor

/-- An override is in force (R171). -/
def Dev.inOverride (d : Dev) : Bool := d.pace.overrideAt.isSome

def Dev.updPace (d : Dev) (f : Pace → Pace) : Dev := { d with pace := f d.pace }

/-- VCORE moved: slack seen at the former level no longer counts. -/
def Dev.setVcore (d : Dev) (v : Nat) : Dev :=
  (d.set pVcore 0 v).updPace (fun p => { p with recent := 1000, peak := max p.peak v })

/-- One raise of 5 mV (R166). -/
def Dev.raiseVcore (d : Dev) : Dev :=
  (d.setVcore (min 900 (d.getN pVcore + 5))).updPace (fun p => { p with raised := true, lastRaise := some d.time })

/-- The override begins with its first raise (R171). -/
def Dev.enterOverride (d : Dev) (domain slack : Nat) : Dev :=
  let c := d.vcoreCeiling
  let d1 := (d.updPace (fun p => { p with overrideAt := some d.time, peak := 0, calm := 0 })).raiseVcore
  let d2 := (d1.set pPaceOverride 0 1).bump pOverrideCount 0
  d2.raiseDev 0x03E0 (e8 domain ++ zs 1 ++ e16 c ++ e16 (d2.getN pVcore) ++ e16 slack)

/-- A work unit of a domain completes with its slack in 0.1 %, negative when it missed its deadline (R164, R166, R170,
R171). One raise answers every deficit within the same 20 µs. -/
def workUnitComplete (domain : Nat) (slack : Int) (d : Dev) : Dev :=
  if 5 ≤ domain then d else
  let s := (clampI 0 1000 slack).toNat
  let d1 := d.updPace (fun p => { p with windowMin := upd p.windowMin domain (min s), recent := min p.recent s })
  let d2 := if slack < 0 then d1.bump pDeadlineMisses domain else d1
  let recently := match d2.pace.lastRaise with
    | some t => decide (d2.since t < usU 20)
    | none => false
  let v := d2.getN pVcore
  if s < (if d2.inOverride then 50 else d2.targetSlack) && !recently then
    if d2.inOverride || v < d2.vcoreCeiling then (if v < 900 then d2.raiseVcore else d2)
    else if s < 50 && v < 900 then d2.enterOverride domain s
    else d2
  else d2

def execWorkUnitComplete (domain : Nat) (slack : Int) (s : State) : Host.Outcome State Fault Refusal :=
  s.act (workUnitComplete domain slack)

/-- The override ends: PACE_POLICY_RESTORED (R172). -/
def Dev.endOverride (d : Dev) : Dev :=
  let ms := match d.pace.overrideAt with
    | some t => min 4294967295 (toMs (d.since t))
    | none => 0
  let d1 := (d.updPace (fun p => { p with overrideAt := none, calm := 0 })).set pPaceOverride 0 0
  d1.raiseDev 0x03E1 (e32 ms ++ e16 d.pace.peak ++ e16 d.vcoreCeiling)

/-- SLACK_WINDOW_END: slack reported, at most one lowering, the calm windows of an override counted, and lost headroom
reported at most once per second (R164, R166, R171, R172, R174). -/
def slackWindowEnd (d : Dev) : Dev :=
  let mins := d.pace.windowMin
  let low := mins.foldl min 1000
  let dom := (List.range 5).find? (fun k => nth mins k = low)
  let d1 := (List.range 5).foldl (fun e k =>
    (e.set pSlackMin k (nth mins k : Nat)).set pSlackLowWater k (min (e.getN pSlackLowWater k) (nth mins k) : Nat)) d
  let v := d1.getN pVcore
  let calmNow := !d1.pace.raised && 100 ≤ low && v ≤ d1.vcoreCeiling
  let bottom := if d1.inOverride then max d1.vcoreCeiling d1.vcoreFloor else d1.vcoreFloor
  let lower := !d1.pace.raised && (if d1.inOverride then 100 else d1.targetSlack + 50) ≤ low && bottom + 5 ≤ v
  let lost := v = 900 && low < d1.targetSlack && (match d1.pace.headroomAt with
    | some t => decide (secU 1 ≤ d1.since t)
    | none => true)
  let d2 := if lost then
      (d1.updPace (fun p => { p with headroomAt := some d1.time })).raiseDev 0x03E2
        (e8 (dom.getD 0) ++ zs 1 ++ e16 low ++ s16 d1.junction)
    else d1
  let d3 := if d2.inOverride then
      (d2.bump pOverrideTime 0).updPace (fun p => { p with calm := if calmNow then p.calm + 1 else 0 })
    else d2
  let d4 := if lower then d3.setVcore (v - 5) else d3
  let d5 := d4.updPace (fun p => { p with windowMin := [1000, 1000, 1000, 1000, 1000], raised := false })
  if d5.inOverride && 100 ≤ d5.pace.calm then d5.endOverride else d5

def execSlackWindowEnd (s : State) : Host.Outcome State Fault Refusal := s.act slackWindowEnd

/-- CEILING_DESCENT_STEP: VCORE above a lowered ceiling falls by 5 mV, unless a work unit at this level showed less than
5.0 % of slack, which enters override first (R173). -/
def ceilingDescentStep (d : Dev) : Dev :=
  if d.inOverride || d.getN pVcore ≤ d.vcoreCeiling then d
  else if d.pace.recent < 50 then
    d.enterOverride (((List.range 5).find? (fun k => nth d.pace.windowMin k ≤ d.pace.recent)).getD 0) d.pace.recent
  else d.setVcore (max d.vcoreCeiling (d.getN pVcore - 5))

def execCeilingDescentStep (s : State) : Host.Outcome State Fault Refusal := s.act ceilingDescentStep

/-- ARB_LONG_GRANT: counted, and nothing else (R177). -/
def execArbLongGrant (s : State) : Host.Outcome State Fault Refusal := s.act (fun d => d.bump pArbLongCount 0)

/-- The PACE_POLICY_SET response (Table SF-6). -/
def Dev.paceBody (d : Dev) : List Byte :=
  e16 d.vcoreCeiling ++ e16 d.vcoreFloor ++ e16 (d.getN pVcore) ++ eb d.inOverride ++ zs 1

/-- PACE_POLICY_SET: the new window applies, and the response is built, when the journal holds it (R185). -/
def cmdPacePolicySet : CmdSpec :=
  { opcode := 0x0306, len := len 8, denied := onlyS0,
    bad := fun _ r =>
      let ok := fun v => 550 ≤ v && v ≤ 900 && v % 5 = 0
      firstBad r.body [.rg 0 (ok (rq r 0 2)), .rg 2 (ok (rq r 2 2) && rq r 2 2 ≤ rq r 0 2), .rs 4 4],
    nvm := fun _ _ => true,
    run := fun d r =>
      { dev := d.journal 0x0306 0 1 (some (r.slot, r.ref)) (.pace r.slot r.ref r.tagged (rq r 0 2) (rq r 2 2))
        reply := okBody [], held := true } }

def execPacePolicySet (r : Request) (s : State) : Host.Outcome State Fault Refusal := s.act (hostCmd cmdPacePolicySet r)

end Sys2Proof.Machine
end

