-- ==== Sys2Proof/Machine/Tollbook.lean ====
section
/-! DEFINITION. The Tollbook family: metering intervals and cycles, tamper episodes, the meter pulse, the seal value,
Quire M's saves and start, and the Tollbook commands (chapter 16). -/

namespace Sys2Proof.Machine

/-! ### Calibration (R495, R520) -/

/-- fs, gain and offset of a chain from the calibration record; a device with no record uses log entry 3's. -/
def Dev.meterCal (d : Dev) (k : Nat) : Int × Int × Int :=
  match d.toll.calRecord with
  | some b => (fld b (24 + 4 * k) 4, fldS b (40 + 4 * k) 4, fldS b (56 + 4 * k) 4)
  | none => (1, 0, 0)

/-- The denominator of R495 for values in µV and µA: 32,767 × 10^6 / 1,000. -/
def calDen : Int := 32767000

/-- fs × (10^6 + gain) of a chain: x times this over `calDen` is its value in µV or µA before the offset. -/
def Dev.calMul (d : Dev) (k : Nat) : Int := (d.meterCal k).1 * (1000000 + (d.meterCal k).2.1)

/-- Σ of the product of two calibrated chains over the samples, times `calDen`², in µV·µA (R495). -/
def Dev.calProduct (d : Dev) (m : MeterSums) (j k : Nat) (xy : Int) : Int :=
  let a := d.calMul j
  let b := d.calMul k
  let oa := (d.meterCal j).2.2
  let ob := (d.meterCal k).2.2
  a * b * xy - calDen * (a * ob * nth m.sums j + b * oa * nth m.sums k) + calDen * calDen * (m.n : Int) * oa * ob

/-- Energy in whole µJ of a sum of products over 0.25 ms samples. -/
def energyUj (p : Int) : Int := Int.tdiv p (calDen * calDen * 4000000000)

/-- The rms of a chain in mV or mA, rounded down (R496). -/
def Dev.meterRms (d : Dev) (m : MeterSums) (k : Nat) : Nat :=
  isqrt ((d.calProduct m k k (nth m.squares k : Nat)) / (calDen * calDen * max 1 (m.n : Int))).toNat / 1000

/-! ### Tamper conditions (Table TB-4) -/

/-- Bypass: I_L and I_N differ by more than 12 % of the larger and 50 mA. -/
def bypassed (il inn : Nat) : Bool :=
  let diff := max il inn - min il inn
  decide (12 * max il inn < 100 * diff ∧ 50 < diff)

/-- Conditions 2 and 3 judged from rms values: V_LN, I_L, I_N, V_NPE. A condition whose input is stuck is not judged
(R528). -/
def Dev.judgeRms (d : Dev) (v : List Nat) : Dev :=
  let stuck := fun k => nth d.toll.stuck k
  let lowV := decide (nth v 0 < 40000 ∧ 50 < nth v 1)
  let pe := !stuck 3 && decide (50000 < nth v 3)
  let d1 := if stuck 2 then d else d.judgeTamper 1 (bypassed (nth v 1) (nth v 2)) 0
  if stuck 3 && !lowV then d1.judgeTamper 2 false 0 else d1.judgeTamper 2 (lowV || pe) (if lowV then 0 else 1)

/-- The rms values published (Table TB-8). -/
def Dev.publishRms (d : Dev) (v : List Nat) : Dev :=
  let d1 := ((d.set pMainsVRms 0 (nth v 0 : Nat)).set pMainsIlRms 0 (nth v 1 : Nat)).set pMainsInRms 0 (nth v 2 : Nat)
  (d1.set pMainsVnpeRms 0 (nth v 3 : Nat)).updToll (fun t => { t with rms := v })

/-- MAINS_CYCLE_END: a cycle of V_LN within 45 to 66 Hz is accepted: its rms values, frequency and power factor, and the
tamper conditions judged from it (R496, R515). -/
def mainsCycleEnd (milliHz : Nat) (m : MeterSums) (d : Dev) : Dev :=
  if d.get pMeterState = 0 || d.get pMeterState = 3 then d
  else if milliHz < 45000 || 66000 < milliHz then d.set pMainsFreq 0 0
  else
    let v := (List.range 4).map (d.meterRms m)
    let p := (d.calProduct m 0 1 m.vi) / (calDen * calDen * max 1 (m.n : Int))
    let va : Int := (nth v 0 * nth v 1 : Nat)
    let pf := if va = 0 then 0 else clampI (-10000) 10000 (Int.tdiv (p * 10000) (va * 1000000))
    let d1 := ((d.publishRms v).set pMainsFreq 0 (milliHz : Nat)).set pMainsPf 0 pf
    (d1.updToll (fun t => { t with cycles := true })).judgeRms v

def execMainsCycleEnd (milliHz : Nat) (m : MeterSums) (s : State) : Host.Outcome State Fault Refusal :=
  s.act (mainsCycleEnd milliHz m)

/-! ### Integration intervals (R497 to R500, R503 to R510) -/

/-- The energy of an interval added to the registers at the tariff of its start, with its pulses, gap and overrange time and
the bypass evidence (R497, R498, R500, R501, R516). -/
def Dev.addInterval (d : Dev) (m : MeterSums) : Dev :=
  let stuck := nth d.toll.stuck 0 || nth d.toll.stuck 1
  let v := (List.range 4).map (d.meterRms m)
  let e := if stuck || nth v 1 < 4 then 0 else energyUj (d.calProduct m 0 1 m.vi)
  let bypass := if (nth d.toll.watch 1).start.isSome && !stuck then (energyUj (d.calProduct m 0 2 m.vn)).natAbs else 0
  let gaps := if stuck then 1000 else m.gaps
  let beyond := m.clipped ≠ 0 && !stuck
  let tariff := d.getN pTariffActive - 1
  let d1 := d.updRegs (fun r =>
    let carry := r.pulseCarry + e.toNat
    { r with imports := upd r.imports tariff (fun x => x + e.toNat), exported := r.exported + (-e).toNat
             evidence := r.evidence + bypass, pulseCarry := carry % 360000000, backlog := r.backlog + carry / 360000000
             gap := r.gap + gaps, gapTotal := r.gapTotal + gaps, overrange := r.overrange + (if beyond then 1000 else 0)
             flags := r.flags ||| (if beyond then 16 else 0) ||| (if gaps ≠ 0 then 8 else 0), power := Int.tdiv e 250 })
  let r := d1.toll.regs
  let d2 := (((d1.set pMeterGapTotal 0 (r.gapTotal / 4000 : Nat)).set pOverrangeTime 0 (r.overrange / 4000 : Nat)).set
    pPulseBacklog 0 (r.backlog : Nat)).set pMainsPActive 0 r.power
  let d3 := d2.set pMainsPower 0 (max 0 r.power)
  let d4 := if beyond && !d3.toll.clipped then
      d3.raiseMetro 0x0C89 (e8 (if bit m.clipped 0 then 40 else 41) ++ e8 2 ++ zs 2 ++ e32 d3.metroTime) else d3
  let d5 := (d4.updToll (fun t => { t with clipped := beyond, cycles := false })).judgeTamper 0 (decide (r.power < -2000)) 0
  if d.toll.cycles then d5 else ((d5.set pMainsFreq 0 0).publishRms v).judgeRms v

/-- Metrology time evaluated for the next interval: setbacks and jumps recorded, the boundaries reached closed, a pending
table activated, the tariff chosen, and a loaded calibration record takes effect (R503, R505, R506, R509, R510, R520). -/
def Dev.startInterval (d : Dev) : Dev :=
  let before := d.toll.regs.mtMark
  let mt := d.metroTime
  let wall := if d.wallValid then d.wallNow else none
  let back := match wall, d.toll.lastWall with
    | some w, some l => decide (w < l ∧ w < mt)
    | _, _ => false
  let d1 := (d.updToll (fun t =>
    { t with lastWall := wall.orElse (fun _ => t.lastWall)
             calRecord := t.calNext.orElse (fun _ => t.calRecord), calNext := none })).updRegs (fun r =>
    { r with mtMark := mt, flags := r.flags ||| back.toNat })
  let d2 := if back then
      let w := wall.getD 0
      let l := (d.toll.lastWall).getD 0
      d1.raiseMetro 0x0C81 (e32 l ++ e32 w ++ e32 mt ++ s32 ((w : Int) - l) ++ e8 (d1.tariffAt mt) ++ e8 (d1.dayTypeAt mt))
    else d1
  let jump := decide (before + 60 < mt)
  let d3 := if jump then d2.updRegs (fun r => { r with flags := r.flags ||| 2 }) else d2
  let (d4, n) := Dev.closeBoundaries mt 50000 d3
  let d5 := if jump then d4.raiseMetro 0x0C82 (e32 before ++ e32 mt ++ e16 (min 65535 n)) else d4
  let d6 := match d5.toll.pendingTable with
    | some b => if fld b 8 4 ≤ mt then d5.activateTariff b else d5
    | none => d5
  (d6.set pTariffActive 0 (d6.tariffAt mt : Nat)).set pMeterTime 0 (mt : Nat)

/-- INTEGRATION_INTERVAL_END: the interval's energy is added, and metrology time starts the next. -/
def intervalEnd (m : MeterSums) (d : Dev) : Dev :=
  if d.get pMeterState = 0 || d.get pMeterState = 3 then d else (d.addInterval m).startInterval

def execIntegrationIntervalEnd (m : MeterSums) (s : State) : Host.Outcome State Fault Refusal := s.act (intervalEnd m)

/-- METER_PULSE: a pulse that waits starts once the last began 60 ms ago; a high pin falls after 30 ms (R501). -/
def meterPulse (d : Dev) : Dev :=
  let pin := fun (e : Dev) (v : Bool) => { e with pins := { e.pins with meterPulse := v } }
  match d.toll.pulseHigh with
  | some t =>
    if msU 30 ≤ d.since t then pin (d.updToll (fun t => { t with pulseHigh := none })) false else d
  | none =>
    let rested := match d.toll.pulseAt with
      | some t => decide (msU 60 ≤ d.since t)
      | none => true
    if !d.toll.running || d.get pMeterState = 3 || d.toll.regs.backlog = 0 || !rested then d else
    let d1 := (d.updToll (fun t => { t with pulseHigh := some d.time, pulseAt := some d.time })).updRegs (fun r =>
      { r with backlog := r.backlog - 1 })
    pin (d1.set pPulseBacklog 0 (d1.toll.regs.backlog : Nat)) true

def execMeterPulse (s : State) : Host.Outcome State Fault Refusal := s.act meterPulse

/-! ### Tamper episodes (R515, R516) -/

/-- How long a condition must hold before its episode starts, and be absent before it ends, in s (Table TB-4). -/
def tamperTimes (k : Nat) : Nat × Nat := if k = 0 then (5, 5) else if k = 1 then (2, 10) else (1, 10)

/-- TAMPER_START: the condition has held for longer than its time. -/
def tamperStart (code : Nat) (d : Dev) : Dev :=
  let k := code - 1
  let w := nth d.toll.watch k
  match w.held with
  | some t =>
    if code = 0 || 3 < code || w.start.isSome || d.since t ≤ secU (tamperTimes k).1 then d else
    let d1 := d.updToll (fun t =>
      { t with watch := upd t.watch k (fun w => { w with start := some d.time, evidenceAt := t.regs.evidence })
               regs := { t.regs with flags := t.regs.flags ||| 4
                                     tamper := upd t.regs.tamper k (fun x => { x with episodes := inc32 x.episodes }) } })
    let d2 := d1.showTamper
    d2.raiseMetro 0x0C83 (e8 code ++ e8 w.sub ++ zs 2 ++ e32 (nth d2.toll.regs.tamper k).episodes ++
      s32 d2.toll.regs.power ++ e32 (nth d2.toll.rms 1) ++ e32 (nth d2.toll.rms (if code = 3 then 0 else 2)))
  | none => d

def execTamperStart (code : Nat) (s : State) : Host.Outcome State Fault Refusal := s.act (tamperStart code)

/-- TAMPER_END: the condition has been absent for its time. -/
def tamperEnd (code : Nat) (d : Dev) : Dev :=
  match (nth d.toll.watch (code - 1)).absent with
  | some t => if code = 0 || d.since t < secU (tamperTimes (code - 1)).2 then d else d.endTamper (code - 1)
  | none => d

def execTamperEnd (code : Nat) (s : State) : Host.Outcome State Fault Refusal := s.act (tamperEnd code)

/-! ### A stuck input (R342, R528) -/

/-- CHAIN_INPUT_STUCK: a 1-bit input shows no transition for 1,024 bits, at 10 MHz on an M chain and 10.24 MHz on the others;
for a metering chain Quire M acts by R528. -/
def chainInputStuck (c level : Nat) (d : Dev) : Dev :=
  let k := chainKind c
  if (k ≠ 2 && k ≠ 5 && k ≠ 6) || (d.chain c).stuck || !isChain c || lacksChain d c then d else
  let d1 := ((d.bump pInputStuckCount c).updChain c (fun x => { x with stuck := true })).chainEvent c 0x0683
    (e8 c ++ e8 level ++ zs 2 ++ e64 (d.ts - (if k = 5 then 6442450 else 6291456)))
  if k ≠ 5 then d1 else
  let m := c - 40
  let d2 := d1.updToll (fun t => { t with stuck := upd t.stuck m (fun _ => true) })
  let d3 := if m ≤ 1 then
      let e := d2.updToll (fun t => { t with inputGap := some (t.inputGap.getD d.metroTime) })
      if e.get pMeterState = 1 then e.set pMeterState 0 2 else e
    else if m = 2 then (d2.endTamper 1).updToll (fun t => { t with watch := upd t.watch 1 (fun w => { w with held := none }) })
    else if (nth d2.toll.watch 2).sub = 1 then
      (d2.endTamper 2).updToll (fun t => { t with watch := upd t.watch 2 (fun w => { w with held := none }) })
    else d2
  d3.raiseMetro 0x0C89 (e8 c ++ e8 0 ++ zs 2 ++ e32 d3.metroTime)

def execChainInputStuck (chain level : Nat) (s : State) : Host.Outcome State Fault Refusal := s.act (chainInputStuck chain level)

/-- CHAIN_INPUT_RESUME: the first transition after a stuck input (R342, R528). The gap of M0 and M1 is recorded once both
run. -/
def chainInputResume (c : Nat) (d : Dev) : Dev :=
  if !(d.chain c).stuck || !isChain c then d else
  let d1 := d.updChain c (fun x => { x with stuck := false })
  if chainKind c ≠ 5 then d1 else
  let m := c - 40
  let d2 := (d1.updToll (fun t => { t with stuck := upd t.stuck m (fun _ => false) })).raiseMetro 0x0C89
    (e8 c ++ e8 1 ++ zs 2 ++ e32 d1.metroTime)
  if 1 < m || nth d2.toll.stuck 0 || nth d2.toll.stuck 1 then d2 else
  let d3 := if d2.get pMeterState = 2 then d2.set pMeterState 0 1 else d2
  match d3.toll.inputGap with
  | none => d3
  | some t0 =>
    let now := d3.metroTime
    (d3.updToll (fun t => { t with inputGap := none })).raiseMetro 0x0C85
      (e8 4 ++ zs 3 ++ e32 t0 ++ e32 now ++ e32 (now - t0) ++ s32 d3.toll.regs.power)

def execChainInputResume (chain : Nat) (s : State) : Host.Outcome State Fault Refusal := s.act (chainInputResume chain)

/-! ### Seal, save and start (R517, R521, R522, R529, R530) -/

/-- SEAL_RECOMPUTE: every 24 h; a value that differs saves the registers and stops metering and the pulse (R517, R530). -/
def sealRecompute (computed : List Byte) (d : Dev) : Dev :=
  if d.get pMeterState = 0 then d
  else if padTo 4 computed = padTo 4 d.toll.sealId then d.updToll (fun t => { t with sealChecked := d.time })
  else
    let d1 := (d.saveToll.journal 0x0C00 0 4 none .none).raiseMetro 0x0C8E (padTo 4 d.toll.sealId ++ padTo 4 computed)
    let d2 := (d1.updToll (fun t => { t with running := false, pulseHigh := none })).set pMeterState 0 3
    { d2 with pins := { d2.pins with meterPulse := false } }

def execSealRecompute (computed : List Byte) (s : State) : Host.Outcome State Fault Refusal := s.act (sealRecompute computed)

/-- QUIRE_M_SAVE: every 1 s the state of R522 goes to the journal, drawing on no slot's share. -/
def quireMSave (d : Dev) : Dev :=
  if d.get pMeterState = 0 || d.get pMeterState = 3 then d
  else d.saveToll.journal 0x0C00 0 4 none .none

def execQuireMSave (s : State) : Host.Outcome State Fault Refusal := s.act quireMSave

/-- The cause of METER_GAP from the reset cause (R522): power off, hard abort, WATCH, else a Quire M restart. -/
def gapCause (cause : Nat) : Nat := if cause ≤ 2 then 0 else if cause = 6 then 2 else if cause = 7 then 3 else 1

/-- Quire M resumes from its newest valid save, else from the newest snapshots, records the gap with its cause, and integration
starts (R521, R522, R529). -/
def Dev.resumeMetering (d : Dev) (saveValid : Bool) (cause : Nat) : Dev :=
  let d1 := match (if saveValid then d.toll.saved else none) with
    | some r => d.updToll (fun t => { t with regs := r })
    | none =>
      let snap : Option Snapshot := d.toll.devSnaps.head?
      let regs : TollRegs := match snap with
        | some x => { imports := x.imports, exported := x.exported, mtMark := x.closed, period := x.period + 1
                      opened := x.closed
                      boundary := nextBoundary (d.getN pBillingMode) (d.getN pBillingBoundary) (d.localTime x.closed)
                      cause := d.getN pBillingMode + 1 }
        | none => {}
      let slots := (d.toll.slotSnaps.map (fun (l : List SlotSnapshot) => match l.head? with
        | some x => x.regs
        | none => ({} : SlotRegs)))
      (d.updToll (fun t => { t with regs := { regs with slots := slots } })).raiseMetro 0x0C8D
        (match snap with
          | some x => e32 x.period ++ e32 x.closed
          | none => zs 8)
  let from_ := d1.toll.regs.mtMark
  let power := d1.toll.regs.power
  let mt := d1.metroTime
  let d2 := d1.updToll (fun t => { t with running := true, lastWall := none, sealChecked := d1.time })
  let d3 := (d2.set pMeterState 0 (if nth d2.toll.stuck 0 || nth d2.toll.stuck 1 then 2 else 1)).meterGap
    cause from_ mt ((mt - from_) * 4000) power
  let d4 := match d3.toll.updated with
    | some old =>
      let e := (d3.updToll (fun t => { t with updated := none })).metroEvent
      e.raiseMetro 0x0C87 (padTo 4 old ++ padTo 4 e.toll.sealId ++ e32 e.factory.versionM ++
        e32 (e.getN pMetroEventCount) ++ e32 (e.toll.regs.period - 1))
    | none => d3
  { d4.startInterval with pins := { d4.startInterval.pins with meterPulse := false } }

/-- METERING_START: metering starts once Quire M runs, in FAULT too, its gap by the reset cause (R194, R522). -/
def meteringStart (saveValid : Bool) (d : Dev) : Dev :=
  if !d.pins.meterMclk || d.pwr.phase = .boot || d.toll.running || d.get pMeterState = 3 then d
  else (d.resumeMetering saveValid (gapCause (d.getN pResetCause))).subsys 0 true

def execMeteringStart (saveValid : Bool) (s : State) : Host.Outcome State Fault Refusal := s.act (meteringStart saveValid)

/-! ### Commands (Table TB-9, Table TB-11) -/

/-- The Tollbook commands wait for metering (R525). -/
def meterWait (d : Dev) (_ : Request) : Option Nat := d.waitFor (d.get pMeterState ≠ 0) 150 none

/-- The metrology partition has fewer than 16 free records; frozen, it counts as having none (R525). -/
def Dev.metroShort (d : Dev) : Bool := (nth d.colo 8).freeze.isSome || (nth d.colo 8).metroFree < 16

/-- The checks of a tariff table (Table TB-3). -/
def tariffChecks (tableId : Nat) (b : List Byte) : List Chk :=
  let f := fld b
  let entry := fun (o count k : Nat) =>
    if k < count then
      [Chk.rg (o + 4 + 4 * k) (f (o + 4 + 4 * k) 2 ≤ 1439 &&
        (if k = 0 then f (o + 4) 2 = 0 else f (o + 4 * k) 2 < f (o + 4 + 4 * k) 2)),
       .rg (o + 6 + 4 * k) (1 ≤ f (o + 6 + 4 * k) 1 && f (o + 6 + 4 * k) 1 ≤ 8), .rs (o + 7 + 4 * k) 1]
    else [.rs (o + 4 + 4 * k) 4]
  let dayT := fun (t : Nat) =>
    let o := 24 + 68 * t
    let n := f o 1
    [Chk.rg o (1 ≤ n && n ≤ 16), .rs (o + 1) 3] ++ ((List.range 16).map (entry o n)).flatten
  let special := fun (k : Nat) =>
    let o := 296 + 8 * k
    if (firstNonZero b o 8).isNone then [] else
      [Chk.rg o (f o 2 = 0 || (2000 ≤ f o 2 && f o 2 ≤ 2135)), .rg (o + 2) (1 ≤ f (o + 2) 1 && f (o + 2) 1 ≤ 12),
       .rg (o + 3) (1 ≤ f (o + 3) 1 && f (o + 3) 1 ≤ 31), .rg (o + 4) (f (o + 4) 1 ≤ 3), .rs (o + 5) 3]
  [Chk.rg 0 (f 0 1 = 1), .rs 1 1, .rg 2 (decide (-720 ≤ fldS b 2 2 ∧ fldS b 2 2 ≤ 840)), .rg 4 (tableId < f 4 4),
   .rs 12 4] ++ (List.range 7).map (fun k => Chk.rg (16 + k) (f (16 + k) 1 ≤ 3)) ++ [.rs 23 1] ++
  ((List.range 4).map dayT).flatten ++ ((List.range 32).map special).flatten

def cmdTariffLoad : CmdSpec :=
  { opcode := 0x0C01, len := len 4, blk := true, denied := onlyS0, nvm := fun _ _ => true, shared := false,
    bad := fun _ r => firstBad r.body [.rs 0 4], notReady := meterWait,
    run := fun d r =>
      if r.blk.length ≠ 552 then refuse d (fail .badLen)
      else match firstBad r.blk (tariffChecks (d.getN pTariffTableId) r.blk) with
      | some o => refuse d (failBlk .badArg o)
      | none =>
        if d.metroShort then refuse d (fail .state)
        else
          let id := fld r.blk 4 4
          if fld r.blk 8 4 = 0 then { dev := d.activateTariff r.blk, reply := okBody (e32 id ++ e8 1) }
          else
            { dev := (d.updToll (fun t => { t with pendingTable := some r.blk })).setNv pTariffPendingId 0 (id : Nat)
              reply := okBody (e32 id ++ e8 0) } }

def execTariffLoad (r : Request) (s : State) : Host.Outcome State Fault Refusal := s.act (hostCmd cmdTariffLoad r)

def cmdRegistersGet : CmdSpec :=
  { opcode := 0x0C02, len := len 4,
    bad := fun _ r => firstBad r.body [.rg 0 (rq r 0 1 ≤ 3), .rg 1 (if rq r 0 1 % 2 = 1 then rq r 1 1 ≤ 23 else rq r 1 1 = 0), .rs 2 2], notReady := meterWait,
    run := fun d r =>
      let kind := rq r 0 1
      let age := rq r 1 1
      let give := fun (b : List Byte) => ({ dev := d, reply := { status := .ok, body := e16 b.length, blk := b } } : Answer)
      if kind = 0 then give (d.devBlock 0 0).bytes
      else if kind = 2 then give (slotBlock d.toll.regs.period r.slot (nth d.toll.regs.slots r.slot))
      else if kind = 1 then
        match d.toll.devSnaps[age]? with
        | some x => give x.bytes
        | none => refuse d (fail .badArg)
      else match (nth d.toll.slotSnaps r.slot)[age]? with
      | some x => give (slotBlock x.period r.slot x.regs)
      | none => refuse d (fail .badArg) }

def execRegistersGet (r : Request) (s : State) : Host.Outcome State Fault Refusal := s.act (hostCmd cmdRegistersGet r)

def cmdPeriodClose : CmdSpec :=
  { opcode := 0x0C03, len := len 4, denied := onlyS0, nvm := fun _ _ => true, shared := false,
    bad := fun _ r => firstBad r.body [.rs 0 4], notReady := meterWait,
    run := fun d _ =>
      let mt := d.metroTime
      if d.metroShort || mt < d.toll.regs.opened + 60 then refuse d (fail .state)
      else
        let d1 := d.closePeriod mt 3 (d.localTime mt)
        { dev := d1, reply := okBody (e32 d.toll.regs.period ++ e32 d1.toll.regs.period) } }

def execPeriodClose (r : Request) (s : State) : Host.Outcome State Fault Refusal := s.act (hostCmd cmdPeriodClose r)

def cmdSealValueGet : CmdSpec :=
  { opcode := 0x0C04, len := len 4, bad := fun _ r => firstBad r.body [.rs 0 4],
    run := fun d _ =>
      { dev := d
        reply := okBody (padTo 4 d.toll.sealId ++ e32 d.factory.versionM ++ e32 (d.getN pMetroEventCount) ++
          e32 (d.getN pCalId) ++ e32 (d.getN pTariffTableId) ++ e32 (d.since d.toll.sealChecked / secU 1) ++
          e8 (d.getN pMeterState) ++ zs 3) } }

def execSealValueGet (r : Request) (s : State) : Host.Outcome State Fault Refusal := s.act (hostCmd cmdSealValueGet r)

def cmdTamperStatusGet : CmdSpec :=
  { opcode := 0x0C05, len := len 4, bad := fun _ r => firstBad r.body [.rs 0 4],
    run := fun d _ =>
      let one := fun (k : Nat) =>
        let w := nth d.toll.watch k
        let x := nth d.toll.regs.tamper k
        eb w.start.isSome ++ e8 (if k = 2 && w.start.isSome then w.sub else 0) ++ zs 2 ++ e32 x.episodes ++
          e32 (match w.start with
            | some t => min 4294967295 (x.seconds + d.since t / secU 1)
            | none => x.seconds)
      { dev := d
        reply := okBody (one 0 ++ one 1 ++ one 2 ++ e32 (min 4294967295 (d.toll.regs.evidence / 3600000000))) } }

def execTamperStatusGet (r : Request) (s : State) : Host.Outcome State Fault Refusal := s.act (hostCmd cmdTamperStatusGet r)

def cmdAttributionSet : CmdSpec :=
  { opcode := 0x0C06, len := len 8, denied := onlyS0, nvm := fun _ _ => true, shared := false,
    bad := fun _ r => firstBad r.body [.rg 0 (rq r 0 1 < 8), .rg 1 (isBool (rq r 1 1)), .rs 2 2],
    run := fun d r =>
      let slot := rq r 0 1
      if d.get pSlotState slot ≠ 2 then refuse d (fail .state)
      else
        let d1 := d.updRegs (fun x => { x with slots := upd x.slots slot (fun y =>
          { y with enabled := rq r 1 1 = 1, contract := rq r 4 4 }) })
        { dev := d1.raiseAs slot (slot = 0) 1 0x0C8C (e8 (rq r 1 1) ++ zs 3 ++ e32 (rq r 4 4) ++ e32 d1.metroTime)
          reply := okBody r.body } }

def execAttributionSet (r : Request) (s : State) : Host.Outcome State Fault Refusal := s.act (hostCmd cmdAttributionSet r)

/-- The checks of a calibration record's fields (Table TB-7). -/
def calChecks (b : List Byte) : List Chk :=
  let within := fun (o : Nat) (lim : Int) => (List.range 4).map (fun k =>
    Chk.rg (o + 4 * k) (decide ((fldS b (o + 4 * k) 4).natAbs ≤ lim)))
  [Chk.rg 0 (fld b 0 1 = 1), .rs 1 3] ++
    (List.range 4).map (fun k => Chk.rg (24 + 4 * k) (1 ≤ fld b (24 + 4 * k) 4 && fld b (24 + 4 * k) 4 ≤ 1000000)) ++
    within 40 100000 ++ within 56 1000000 ++ within 72 10000000 ++ [.rs 88 8]

def cmdMeterCalLoad : CmdSpec :=
  { opcode := 0x0C07, len := len 4, blk := true, denied := onlyS0, nvm := fun _ _ => true, shared := false,
    bad := fun _ r => firstBad r.body [.rs 0 4], notReady := meterWait,
    run := fun d r =>
      let b := r.blk
      if b.length ≠ 160 then refuse d (fail .badLen)
      else if !ecdsaCheck d.factory.metrologyKey (b.take 96) (b.drop 96) || slice b 4 16 ≠ d.factory.serial ||
          fld b 20 4 ≤ d.getN pCalId then refuse d (fail .denied)
      else match firstBad b (calChecks b) with
      | some _ => refuse d (fail .badArg)
      | none =>
        if d.metroShort then refuse d (fail .state)
        else
          let mt := d.metroTime
          let d1 := (d.closePeriod mt 5 (d.localTime mt)).updToll (fun t => { t with calNext := some b })
          let d2 := (d1.setNv pCalId 0 (fld b 20 4 : Nat)).metroEvent
          { dev := d2.raiseMetro 0x0C88 (e32 (fld b 20 4) ++ e32 (d2.getN pMetroEventCount) ++ (sha256 b).take 4)
            reply := okBody (e32 (fld b 20 4) ++ e32 (d2.getN pMetroEventCount)) } }

def execMeterCalLoad (r : Request) (s : State) : Host.Outcome State Fault Refusal := s.act (hostCmd cmdMeterCalLoad r)

end Sys2Proof.Machine
end

