-- ==== Sys2Proof/Machine/ParamOps.lean ====
section
/-! DEFINITION. Reading a parameter: the values that other state gives, and the value as it travels (R19, R142, Table CM-9). -/

namespace Sys2Proof.Machine

/-- The one-minute bin or 1 s frame that airtime is booked in now: the EU profile's bins, or the NA frame (R304). -/
def Dev.airBin (d : Dev) (sub : Nat) : Nat := if sub = 3 then d.tkc / 62914560000 else d.time / secU 60

/-- µs that a traffic class (a slot, or 8 for the device) has sent in a sub-band's rolling hour or in this NA frame (R304). -/
def Dev.airUsed (d : Dev) (cls sub : Nat) : Nat :=
  let now := d.airBin sub
  (d.cour.airtime.filter (fun e => e.1 = cls && e.2.1 = sub && (if sub = 3 then e.2.2.1 = now else now < e.2.2.1 + 60))).foldl
    (fun a e => a + e.2.2.2) 0

/-- The taps of a FIR in use by a chain. -/
def Dev.firTaps (d : Dev) (c : Nat) : Nat :=
  if c = 24 then (match d.scFir d.sc with
    | some f => f.taps
    | none => 0)
  else if d.get pChainPreset c = 5 then (match (d.chain c).fir with
    | some f => f.taps
    | none => 0)
  else 0

/-- A parameter whose value other state gives. -/
def Dev.derivedPar (d : Dev) (id i : Nat) : Option Int :=
  if id = pLinkShareUsed then some (d.shareUsed (i / 4) (i / 2 % 2) (i % 2 = 1) 64 : Nat)
  else if id = pPathDelay then some (d.pathDelay i : Nat)
  else if id = pVcoreCeilingEff then some (d.vcoreCeiling : Nat)
  else if id = pHelloLockout then some (match (d.slot i).lockEnd with
    | some t => (durOf (t - d.time) : Nat)
    | none => 0)
  else if id = pBatEnergy then some (mJ d.batUj)
  else if id = pOwnerResidual then some (mJ d.led.residual)
  else if id = pQuotaReserved then some (d.reserved i)
  else if id = pQuotaBalance then some (mJ (nth d.led.balance i))
  else if id = pAttribTotal then some (mJ (nth d.led.total i))
  else if id = pCalDriftNow then some (d.calDrift i)
  else if id = pCourierAirtimeUsed then some (d.airUsed (i / 4) (i % 4) / 1000 : Nat)
  else if id = pChainDecimation then some (d.chainDecim i : Nat)
  else if id = pChainOutPeriod then some (d.chainPeriod i : Nat)
  else if id = pChainGroupDelay then some (d.chainDelay i : Nat)
  else if id = pChainFirTaps then some (d.firTaps i : Nat)
  else if id = pRefQl && i = 1 then some (d.refLevel 1 : Nat)
  else if id = pFactorySteer then some d.factory.steer
  else if id = pWallTime then some (d.wallNow.getD 0 : Nat)
  else if id = pWallHighWater then some (d.highWater : Nat)
  else if id = pWallUncertainty then some (min 4294967295 (d.uncNow / 1000) : Nat)
  else if id = pSealValue then some (leNat d.toll.sealId : Nat)
  else if id = pLogNextSeq then some ((d.part i).next : Nat)
  else if id = pLogOldestSeq then some ((d.part i).oldest : Nat)
  else if id = pLogStored then some ((d.part i).readable.length : Nat)
  else if id = pMetroFree then some ((d.part 8).metroFree : Nat)
  else if id = pNvmEraseMax then some ((d.nvm.wear.getLast?.map (fun w => w.1)).getD 0 : Nat)
  else if id = pNvmBarredTime then some (d.barredMs : Nat)
  else if id = pFwStageState then some ((nth d.sto.stages i).state : Nat)
  else none

/-- The value of a parameter as PARAM_GET reports it. -/
def Dev.parValue (d : Dev) (id idx : Nat) : Int := (d.derivedPar id idx).getD (d.get id idx)

/-- A parameter's value as it travels (Table CM-9): ID, index, type, size, qfrac and the value. -/
def Dev.parBody (d : Dev) (id idx : Nat) : List Byte :=
  match paramRow id with
  | some row =>
    let n := row.ty.size
    e16 id ++ e16 idx ++ e8 row.ty.code ++ e8 n ++ zs 2 ++ leBytes n (wrapInt n (d.parValue id idx))
  | none => []

end Sys2Proof.Machine
end

