-- ==== Sys2Proof/Machine/PortOps.lean ====
section
/-! DEFINITION. The rings: their indices and room, where an entry lies, which CMD ring is due, and the stalls of a slot whose
RSP ring or up half is full (R99 to R102, R109 to R111, R118, Tables HR-7 and HR-8). -/

namespace Sys2Proof.Machine

/-! ### Indices (Table HR-7, Table HR-8, R101) -/

def Dev.ringCfg (d : Dev) (n : Nat) : Nat := nth d.host.ringCfg n
def Dev.doorbell (d : Dev) (n : Nat) : Nat := nth d.host.doorbell n
def Dev.devIndex (d : Dev) (n : Nat) : Nat := nth d.host.devIndex n

/-- ENABLE of a ring. -/
def Dev.ringOn (d : Dev) (n : Nat) : Bool := bit (d.ringCfg n) 15
/-- The depth a RING_CFG value codes. -/
def cfgDepth (v : Nat) : Nat := 16 * 2 ^ (v / 4096 % 8)
/-- The depth of a ring. -/
def Dev.depth (d : Dev) (n : Nat) : Nat := cfgDepth (d.ringCfg n)
/-- `a - b` of free-running indices of `2 ^ w` values. -/
def ixSub (w a b : Nat) : Nat := (a + 2 ^ w - b % 2 ^ w) % 2 ^ w

/-- The ring-window offset of position `k` of a ring. -/
def Dev.entryOffset (d : Dev) (n k : Nat) : Nat := (d.ringCfg n % 4096 + k) * 64
/-- The offset of the entry with index `i` of a ring, not a BLK one. -/
def Dev.entryAt (d : Dev) (n i : Nat) : Nat := d.entryOffset n (i % d.depth n)
/-- The offset of entry `j` of a BLK half: the up half lies behind the down half (R101). -/
def Dev.blockAt (d : Dev) (n : Nat) (up : Bool) (j : Nat) : Nat :=
  let h := d.depth n / 2
  d.entryOffset n (if up then h + j % h else j % h)

/-- Entries that wait in a slot's CMD ring. -/
def Dev.cmdWaiting (d : Dev) (slot : Nat) : Nat :=
  if d.ringOn (4 * slot) then ixSub 16 (d.doorbell (4 * slot)) (d.devIndex (4 * slot)) else 0

/-- Free entries of a ring the ZS8 produces, RSP or EVT: none while it is disabled (R117, R118). -/
def Dev.room (d : Dev) (n : Nat) : Nat :=
  if d.ringOn n then d.depth n - ixSub 16 (d.devIndex n) (d.doorbell n) else 0
/-- Free entries of a slot's up half. -/
def Dev.upRoom (d : Dev) (slot : Nat) : Nat :=
  let n := 4 * slot + 3
  if d.ringOn n then d.depth n / 2 - ixSub 8 (d.devIndex n / 256) (d.doorbell n / 256) else 0

/-- Blocks that `n` bytes take. -/
def blocksOf (n : Nat) : Nat := (n + 39) / 40

/-! ### Due entries and stalls (R109 to R111, R118) -/

/-- The first entry of a slot that waits for its RSP ring. -/
def Dev.waiting (d : Dev) (slot : Nat) : Option OutEntry := d.host.outbox.find? (fun o => o.slot == slot)

/-- The previous entry of a slot's CMD ring has no first response yet (R109). -/
def Dev.unanswered (d : Dev) (slot : Nat) : Bool :=
  (d.slot slot).awaiting.isSome || d.host.outbox.any (fun o => o.slot == slot && o.kind == .response)

/-- A slot's next CMD entry is due (R110). -/
def Dev.cmdDue (d : Dev) (slot : Nat) : Bool :=
  d.consumes && d.cmdWaiting slot ≠ 0 && !d.unanswered slot && d.room (4 * slot + 1) ≠ 0

/-- An entry that waits finds its ring and the up half with room (R108). -/
def Dev.fits (d : Dev) (o : OutEntry) : Bool :=
  d.room (4 * o.slot + 1) ≠ 0 && blocksOf o.reply.blk.length ≤ d.upRoom o.slot

/-- A slot stalls: an entry waits for room, or one of its CMD ring waits for RSP room alone (R118). -/
def Dev.stalled (d : Dev) (slot : Nat) : Bool :=
  match d.waiting slot with
  | some o => d.pwr.phase = .ready && !d.fits o
  | none => d.consumes && d.cmdWaiting slot ≠ 0 && !d.unanswered slot && d.room (4 * slot + 1) = 0

/-- The stall of a slot begun, or ended with RSP_STALL_ENDED (R118, Table HR-15). -/
def Dev.stallCheck (d : Dev) (slot : Nat) : Dev :=
  match d.stalled slot, (d.slot slot).stallSince with
  | true, none => (d.updSlot slot (fun s => { s with stallSince := some d.time })).bump pRspStalls slot
  | false, some t =>
    let dt := durOf (d.since t)
    let d1 := (d.updSlot slot (fun s => { s with stallSince := none })).set pRspStallTime slot
      (sat 4294967295 (d.getN pRspStallTime slot + dt) : Nat)
    d1.raiseSlot slot 0x00C2 (e32 dt ++ e16 (d1.cmdWaiting slot))
  | _, _ => d

/-- What a change of an index, a response or a state leaves at the port: each slot's stall, and the tick in which its next entry
became due. -/
def Dev.settlePort (d : Dev) : Dev :=
  (List.range 8).foldl (fun e k =>
    let e1 := e.stallCheck k
    let on := e1.cmdDue k
    e1.updSlot k (fun s => { s with dueTick := if on then some (s.dueTick.getD e1.tickNow) else none })) d

end Sys2Proof.Machine
end

