-- ==== Sys2Proof/Machine/Common.lean ====
section
/-! DEFINITION. The common commands: NOP, HELLO in its two phases, BYE, the parameter commands, EVENT_MASK_SET and STATUS_GET,
with the lapse of a challenge and the end of a lockout (R87, R136 to R146, R151 to R154). -/

namespace Sys2Proof.Machine

/-! ### NOP, BYE, STATUS_GET -/

/-- NOP answers with its request body. -/
def cmdNop : CmdSpec :=
  { opcode := 0x0001, len := fun _ => true, zeroTag := true, enrol := true, run := fun d r => { dev := d, reply := okBody r.body } }

def execNop (r : Request) (s : State) : Host.Outcome State Fault Refusal := s.act (hostCmd cmdNop r)

/-- BYE ends the session once its response is written (R141). -/
def cmdBye : CmdSpec :=
  { opcode := 0x0003, len := len 4, enrol := true, bad := fun _ r => firstBad r.body [.rs 0 4]
    run := fun d _ => { dev := d, reply := okBody [], after := .bye } }

def execBye (r : Request) (s : State) : Host.Outcome State Fault Refusal := s.act (hostCmd cmdBye r)

/-- The session field of STATUS_GET: a zero-tag request is outside any session (R133). -/
def Dev.sessionCode (d : Dev) (r : Request) : Nat :=
  if !r.tagged then 0 else match (d.slot r.slot).session with
  | some s => if s.full then 2 else 1
  | none => 0

/-- STATUS_GET (Table CM-9). -/
def Dev.statusGet (d : Dev) (r : Request) : List Byte :=
  e8 (d.getN pMode) ++ e8 (d.getN pTopology) ++ e8 (d.getN pUnitNumber) ++ e8 d.clk.state.code ++ e8 (d.clk.selected.getD 255) ++
    eb d.wallValid ++ e8 (d.sessionCode r) ++ e8 r.slot ++ e64 d.ts ++ e32 (if d.wallValid then d.wallNow.getD 0 else 0) ++
    e32 d.deviceFlags ++ e16 (if r.tagged then d.longCount r.slot else 0) ++ s16 d.junction ++ zs 4

def cmdStatusGet : CmdSpec :=
  { opcode := 0x0008, len := len 4, zeroTag := true, enrol := true, bad := fun _ r => firstBad r.body [.rs 0 4]
    run := fun d r => { dev := d, reply := okBody (d.statusGet r) } }

def execStatusGet (r : Request) (s : State) : Host.Outcome State Fault Refusal := s.act (hostCmd cmdStatusGet r)

/-! ### HELLO (R87, R136 to R140) -/

/-- A value of R136: HMAC-SHA-256 under the credential over the label ZS8-`xy`, the slot, both nonces and the serial. -/
def Dev.helloMac (d : Dev) (x y slot : Nat) (nh nd : List Byte) : List Byte :=
  hmac (d.slotN slot).credential (ascii [0x5A, 0x53, 0x38, 0x2D, x, y] ++ e8 slot ++ nh ++ nd ++ d.factory.serial)

/-- The NOT_YET of a lockout that runs: its remaining time, in ms (R87). -/
def Dev.helloLocked (d : Dev) (slot : Nat) : Option Reply :=
  match (d.slot slot).lockEnd with
  | some t => if d.time < t then some (notYet (toMsUp (t - d.time))) else none
  | none => none

/-- HELLO phase 1: a fresh nonce and the serial; the challenge is pending from the writing of its response (R137). A request of
phase 1 has 20 bytes of body. -/
def cmdHelloPhase1 : CmdSpec :=
  { opcode := 0x0002, len := fun b => len 20 b || len 36 b, zeroTag := true, enrol := true
    early := fun _ r => if rq r 0 1 = 1 && r.body.length ≠ 20 then some (fail .badLen) else none
    bad := fun _ r => firstBad r.body [.rg 0 (rq r 0 1 = 1), .rs 1 3]
    run := fun d r =>
      match d.helloLocked r.slot with
      | some rep => refuse d rep
      | none =>
        let (nd, d1) := d.draw 16
        { dev := d1, reply := okBody (e8 1 ++ zs 3 ++ nd ++ padTo 16 d1.factory.serial), after := .challenge (slice r.body 4 16) nd } }

def execHelloPhase1 (r : Request) (s : State) : Host.Outcome State Fault Refusal := s.act (hostCmd cmdHelloPhase1 r)

/-- The lockout a failure starts when it is the slot's `n`th in a row, in s (R87). -/
def lockSeconds (n : Nat) : Nat := if n < 5 then 0 else min 256 (2 ^ min 8 (n - 5))

/-- A failed phase 2: counted across resets, with HELLO_FAILED, and from the fifth on a lockout (R87, R138). -/
def Dev.helloFailed (d : Dev) (slot : Nat) : Dev :=
  let n := min 65535 (d.getN pHelloFails slot + 1)
  let lock := lockSeconds n
  let d1 := d.setNv pHelloFails slot n
  let d2 := if lock = 0 then d1 else d1.updSlot slot (fun s => { s with lockEnd := some (d1.time + secU lock) })
  d2.raiseSlot slot 0x0282 (e16 n ++ zs 2 ++ e32 (lock * 1000000))

/-- The pending challenge of a slot: its response written less than 1,000 ms ago (R137). -/
def Dev.pendingChallenge (d : Dev) (slot : Nat) : Option Challenge :=
  match (d.slot slot).challenge with
  | some c => if d.since c.since < msU 1000 then some c else none
  | none => none

/-- HELLO phase 2: the proof against the pending challenge, which every attempt ends; the session opens when the OK is written
(R138, R139). -/
def cmdHelloPhase2 : CmdSpec :=
  { opcode := 0x0002, len := fun b => len 20 b || len 36 b, zeroTag := true, enrol := true
    early := fun _ r => if rq r 0 1 = 2 && r.body.length ≠ 36 then some (fail .badLen) else none
    bad := fun _ r => firstBad r.body [.rg 0 (rq r 0 1 = 2), .rs 1 3]
    run := fun d r =>
      match d.helloLocked r.slot with
      | some rep => refuse d rep
      | none =>
        let d1 := d.updSlot r.slot (fun s => { s with challenge := none })
        match d.pendingChallenge r.slot with
        | none => refuse d1 (fail .state)
        | some c =>
          let st := d.get pSlotState r.slot
          if (st ≠ 1 && st ≠ 2) || slice r.body 4 32 ≠ d.helloMac 0x48 0x50 r.slot c.nh c.nd then
            refuse (d1.helloFailed r.slot) (failAt .denied 4)
          else
            let kind := if st = 1 then 1 else 2
            { dev := d1.setNv pHelloFails r.slot 0
              reply := okBody (e8 2 ++ e8 kind ++ zs 2 ++ d.helloMac 0x44 0x50 r.slot c.nh c.nd)
              after := .openSession kind (d.helloMac 0x4B 0x53 r.slot c.nh c.nd) } }

def execHelloPhase2 (r : Request) (s : State) : Host.Outcome State Fault Refusal := s.act (hostCmd cmdHelloPhase2 r)

/-- HELLO_CHALLENGE_LAPSE: a challenge 1,000 ms old is pending no more (R137). -/
def helloChallengeLapse (slot : Nat) (d : Dev) : Dev :=
  match (d.slot slot).challenge with
  | some c => if d.since c.since < msU 1000 then d else d.updSlot slot (fun s => { s with challenge := none })
  | none => d

def execHelloChallengeLapse (slot : Nat) (s : State) : Host.Outcome State Fault Refusal := s.act (helloChallengeLapse slot)

/-- HELLO_LOCKOUT_EXPIRY: the lockout's time has run out (R87). -/
def helloLockoutExpiry (slot : Nat) (d : Dev) : Dev :=
  match (d.slot slot).lockEnd with
  | some t => if d.time < t then d else d.updSlot slot (fun s => { s with lockEnd := none })
  | none => d

def execHelloLockoutExpiry (slot : Nat) (s : State) : Host.Outcome State Fault Refusal := s.act (helloLockoutExpiry slot)

/-! ### Who may read and write a parameter (R2, R20, R21, R143) -/

/-- The slot that owns the object an index names; none for a device-level value (R19, R334, R362, R431, R462, R548). -/
def Dev.paramOwner (d : Dev) (k : PIdx) (i : Nat) : Option Nat :=
  match k with
  | .slot | .slot17 => some i
  | .lane | .convoy8 => some (d.owner i)
  | .convoy => if i < 8 then some (d.owner i) else none
  | .drover => if i < 64 then some (d.owner (i / 8)) else none
  | .chain | .chainX | .chainXSC | .chainPB | .chainMPB => if i < 24 then some (d.owner (i % 8)) else none
  | .slotKind | .band => some (i / 8)
  | .slotPortDir | .slotSub => some (i / 4)
  | .partition => if i < 8 then some i else none
  | .dev | .port | .ref | .domain | .peer | .unit17 | .laneState | .source | .part8 | .quire => none

/-- Whether an index names an object the variant lacks (R2, R143). -/
def lacksIndex (d : Dev) (k : PIdx) (i : Nat) : Bool :=
  d.factory.variantH && (match k with
  | .lane | .convoy8 => 4 ≤ i
  | .convoy => 4 ≤ i && i < 8
  | .drover => 32 ≤ i && i < 64
  | .chain | .chainX | .chainXSC | .chainPB | .chainMPB => i < 24 && 4 ≤ i % 8
  | .port => i = 1
  | .slotKind => i % 8 = 6
  | .slotPortDir => i / 2 % 2 = 1
  | _ => false)

/-- Whether a session of a slot may read a parameter (R20). -/
def Dev.mayRead (d : Dev) (row : ParamRow) (slot i : Nat) : Bool :=
  match d.paramOwner row.idx i with
  | none => true
  | some o => o = slot || (slot = 0 && !row.tenantPrivate)

/-- Whether a session of a slot may write a parameter (R19, R144). -/
def Dev.mayWrite (d : Dev) (row : ParamRow) (slot i : Nat) : Bool :=
  match row.access with
  | .s0 => slot = 0
  | .any => true
  | .own => slot = (d.paramOwner row.idx i).getD 0
  | .ro | .m => false

/-- R143: an ID that is not assigned, or an index outside the parameter's. -/
def badParam (_ : Dev) (r : Request) : Option Reply :=
  match paramRow (rq r 0 2) with
  | none => some (failAt .badArg 0)
  | some row => if row.idx.valid (rq r 2 2) then none else some (failAt .badArg 2)

/-- Step 5 for the index of a parameter command. -/
def paramLacks (d : Dev) (r : Request) : Bool :=
  match paramRow (rq r 0 2) with
  | some row => lacksIndex d row.idx (rq r 2 2)
  | none => false

/-! ### PARAM_GET, PARAM_SET, PARAM_LIST -/

/-- PARAM_GET (R142, R143). -/
def cmdParamGet : CmdSpec :=
  { opcode := 0x0004, len := len 4, early := badParam, lacks := paramLacks
    denied := fun d r => match paramRow (rq r 0 2) with
      | some row => !d.mayRead row r.slot (rq r 2 2)
      | none => true
    run := fun d r => { dev := d, reply := okBody (d.parBody (rq r 0 2) (rq r 2 2)) } }

def execParamGet (r : Request) (s : State) : Host.Outcome State Fault Refusal := s.act (hostCmd cmdParamGet r)

/-- The value a PARAM_SET carries for a type. -/
def setValue (ty : PType) (r : Request) : Int := if ty.signed then rqS r 8 ty.size else rq r 8 ty.size

/-- The range of HOST_CEILING in a convoy (Table CV-1, Table CV-5). -/
def ceilingOk (c : Nat) (v : Int) : Bool :=
  if c < 8 then v = -32768 || (-640 ≤ v && v ≤ 6080) else 0 ≤ v && v ≤ convoyOutMax c

/-- Whether a value lies in the parameter's range and encoding. -/
def inRange (row : ParamRow) (i : Nat) (v : Int) : Bool :=
  row.lo ≤ v && v ≤ row.hi && row.extra v && (row.id ≠ pHostCeiling || ceilingOk i v)

/-- Type, size and qfrac, the reserved byte, and the value of a PARAM_SET, in that order (R144, R623). -/
def paramSetBad (_ : Dev) (r : Request) : Option Nat :=
  match paramRow (rq r 0 2) with
  | none => some 0
  | some row => firstBad r.body
      [.rg 4 (rq r 4 1 = row.ty.code && rq r 5 1 = row.ty.size && rq r 6 1 = 0), .rs 7 1,
       .rg 8 (inRange row (rq r 2 2) (setValue row.ty r))]

/-- The lane whose hardware a parameter of R271 describes (Tables RL-6, FC-5, BP-6 and SV-3). -/
def hardwareLane (id i : Nat) : Option Nat :=
  if id = pFeRxDelay || id = pFeTxDelay || id = pFePaLead || id = pFeSwLead || id = pPinPolarity || id = pBgcalFddWindow ||
    id = pPaTempSource || id = pDlInputLimit || id = pProbeRxNf then some i
  else if id = pChainFsUnits && i < 24 then some (i % 8)
  else none

/-- What a chapter asks of a PARAM_SET beyond its range: the status it answers with, if any. -/
def Dev.paramBar (d : Dev) (id i : Nat) (v : Int) : Option Status :=
  if (hardwareLane id i).any (fun l => d.owner l ≠ 0) then some .state
  else if id = pFeSwLead && v < d.get pFePaLead i then some .badArg
  else if id = pFePaLead && d.get pFeSwLead i < v then some .badArg
  else if id = pCourierPreamble && v < 32 && d.getB pCourierDiversity then some .badArg
  else if id = pCourierDiversity && v = 1 && d.get pCourierPreamble < 32 then some .badArg
  else if id = pCellSource && 0 ≤ v && v < 8 && d.owner v.toNat ≠ 0 then some .badArg
  else if (id = pBillingMode || id = pBillingBoundary) && (d.get id = v || (nth d.colo 8).freeze.isSome || (nth d.colo 8).metroFree < 16) then
    some .state
  else if (id = pLinkRateCfg || id = pLinkFec) && d.portBridging i then some .state
  else if id = pLinkFec && v = 1 && d.get pLinkRateCfg i = 1 then some .badArg
  else if id = pLinkRateCfg && v = 1 && d.get pLinkFec i = 1 then some .badArg
  else none

/-- PARAM_SET: a volatile parameter takes its value as the response is written, one in NVM once the journal holds it (R144,
R145). -/
def cmdParamSet : CmdSpec :=
  { opcode := 0x0005, len := fun b => 1 ≤ fld b 5 1 && fld b 5 1 ≤ 32 && b.length = 8 + fld b 5 1, early := badParam
    lacks := fun d r => paramLacks d r || (rq r 0 2 = pCellSource && lacksLane d (rq r 8 1))
    denied := fun d r => match paramRow (rq r 0 2) with
      | some row => !d.mayWrite row r.slot (rq r 2 2)
      | none => true
    bad := fun d r => if rq r 0 2 = pRefQl && rq r 2 2 = 1 then some 2 else paramSetBad d r
    nvm := fun _ r => ((paramRow (rq r 0 2)).map (fun row => row.nvm)).getD false
    run := fun d r =>
      let id := rq r 0 2
      let i := rq r 2 2
      match paramRow id with
      | none => refuse d (failAt .badArg 0)
      | some row =>
        let v := setValue row.ty r
        match d.paramBar id i v with
        | some st => refuse d (fail st)
        | none =>
          if row.nvm then
            { dev := d.journal (0x4000 + id) i 1 (some (r.slot, r.ref)) (.setParam r.slot r.ref r.tagged id i v)
              reply := okBody [], held := true }
          else { dev := d, reply := okBody ((d.set id i v).parBody id i), after := .param id i v false } }

def execParamSet (r : Request) (s : State) : Host.Outcome State Fault Refusal := s.act (hostCmd cmdParamSet r)

/-- A descriptor of PARAM_LIST (Table CM-9). -/
def ParamRow.descriptor (p : ParamRow) : List Byte :=
  e8 (p.id % 256) ++ e8 p.ty.code ++ e8 p.ty.size ++
    e8 (p.access.code + 8 * (p.idx ≠ .dev : Bool).toNat + 16 * p.tenantPrivate.toNat + 32 * p.nvm.toNat)

/-- PARAM_LIST: at most 8 descriptors from the first assigned ID at or above the start value (R146). -/
def cmdParamList : CmdSpec :=
  { opcode := 0x0006, len := len 4
    bad := fun _ r => firstBad r.body [.rg 0 (rq r 0 1 ≤ 15), .rg 1 (1 ≤ rq r 1 1 && rq r 1 1 ≤ 127), .rs 2 2]
    run := fun d r =>
      let rows := paramTable.filter (fun p => p.id / 256 = rq r 0 1 && rq r 1 1 ≤ p.id % 256)
      let now := rows.take 8
      { dev := d
        reply := okBody (e8 (rq r 0 1) ++ e8 now.length ++ e8 (((rows.drop 8).head?.map (fun p => p.id % 256)).getD 0) ++ zs 1 ++
          (now.map ParamRow.descriptor).flatten) } }

def execParamList (r : Request) (s : State) : Host.Outcome State Fault Refusal := s.act (hostCmd cmdParamList r)

/-! ### EVENT_MASK_SET (R151, R152) -/

/-- The mask of a class after an operation: replace, enable, disable. -/
def maskAfter (old op m : Nat) : Nat := if op = 0 then m else if op = 1 then old ||| m else old - (old &&& m)

/-- Whether a session's mask enables an event code. -/
def Session.enables (s : Session) (code : Nat) : Bool := bit (nth s.mask (code / 256)) (code % 256 - 128)

/-- EVENT_MASK_SET: the mask is in force from the writing of the response. -/
def cmdEventMaskSet : CmdSpec :=
  { opcode := 0x0007, len := len 20
    bad := fun _ r => firstBad r.body [.rg 0 (rq r 0 1 ≤ 15), .rg 1 (rq r 1 1 ≤ 2), .rs 2 2]
    run := fun d r =>
      let c := rq r 0 1
      let old := match (d.slot r.slot).session with
        | some s => nth s.mask c
        | none => 0
      let m := maskAfter old (rq r 1 1) (rq r 4 16)
      { dev := d, reply := okBody (e8 c ++ zs 3 ++ leBytes 16 m), after := .mask c m } }

def execEventMaskSet (r : Request) (s : State) : Host.Outcome State Fault Refusal := s.act (hostCmd cmdEventMaskSet r)

end Sys2Proof.Machine
end

