-- ==== Sys2Proof/Machine/Lanes.lean ====
section
/-! DEFINITION. The lane family: tuning, lane states, calibration, the PA table, transmit power mode, bursts and background
calibration (chapter 08). -/

namespace Sys2Proof.Machine

/-- The lane commands wait for lane calibration (Table PS-4). -/
def laneWait (d : Dev) (_ : Request) : Option Nat := d.waitFor d.pwr.lanesCal 1200 none

/-- Whether a survey job or a CAL_RUN uses the lane. -/
def Dev.laneBusy (d : Dev) (l : Nat) : Bool := (d.lane l).survey.isSome || (d.lane l).calRun.isSome

/-! ### LANE_TUNE (R275) -/

def cmdLaneTune : CmdSpec :=
  { opcode := 0x0401, len := len 12,
    lacks := fun d r => lacksLane d (rq r 0 1), denied := fun d r => notOwner d r.slot (rq r 0 1),
    bad := fun _ r => firstBad r.body
      [.rg 0 (rq r 0 1 < 8), .rg 1 (rq r 1 1 ≤ 2), .rg 2 (rq r 2 1 ≤ 4), .rg 3 (rq r 3 1 ≤ 1)],
    notReady := laneWait,
    run := fun d r =>
      let l := rq r 0 1
      let st := d.laneState l
      if !inTuningRange (rq r 4 8) (rq r 2 1) then refuse d (fail .badArg)
      else if (st ≠ 2 && st ≠ 4) || (d.laneBand l).isSome || d.laneBusy l then refuse d (fail .state)
      else match d.channelStatus r.slot { lane := l, dir := rq r 1 1, fc := rq r 4 8, rate := rq r 2 1 } with
      | some e => refuse d (fail e)
      | none =>
        let d1 := (d.set pLaneFreq l (rq r 4 8 : Nat)).set pLaneRate l (rq r 2 1 : Nat)
        if st = 2 then
          let (us, d2) := d1.took 2000
          { dev := d2, reply := okBody (e8 l ++ e8 2 ++ e8 2 ++ zs 1 ++ e32 us) }
        else
          let (d2, cal, u) := d1.passLock l (rq r 3 1 = 1)
          let d3 := (if rq r 3 1 = 1 then d2.bgRestore l else d2).updLane l (fun x =>
            { x with undo := some { slot := r.slot, ref := r.ref, entry := u } })
          let (us, d4) := ((d3.staleIso l 1).setLaneState l 4 (some 0)).took (if cal = 0 then 26 else 192)
          { dev := d4, reply := okBody (e8 l ++ e8 4 ++ e8 cal ++ zs 1 ++ e32 us) } }

def execLaneTune (r : Request) (s : State) : Host.Outcome State Fault Refusal := s.act (hostCmd cmdLaneTune r)

/-! ### LANE_STATE_SET (R276) -/

/-- The greatest time a change of state takes, in µs (Table RL-2). -/
def pathBound (old new cal : Nat) : Nat :=
  if old = new then 0
  else if new = 0 then 100
  else if new = 1 then (if old = 0 then 2000 else if old = 2 then 10 else 15)
  else
    let up := (if old = 0 then 2200 else if old = 1 then 200 else 0)
    if new = 2 then (if old ≤ 1 then up else 5) else up + 1 + (if cal = 0 then 24 else 190)

/-- A lane moved to OFF, DOZE, READY or LISTEN by the command at (`slot`, `ref`), through LOCK for LISTEN, where what the
calibration replaced is kept until the response is written. Answers its greatest time too. -/
def Dev.moveLane (d : Dev) (l new cause slot ref : Nat) : Dev × Nat :=
  let old := d.laneState l
  if old = new then (d, 0)
  else if new = 4 then
    let (d1, cal, u) := d.passLock l false
    let d2 := d1.updLane l (fun x => { x with undo := some { slot := slot, ref := ref, op := 0x0402, entry := u } })
    (d2.setLaneState l 4 (some cause), pathBound old 4 cal)
  else (d.setLaneState l new (some cause), pathBound old new 0)

def cmdLaneStateSet : CmdSpec :=
  { opcode := 0x0402, len := len 4,
    lacks := fun d r => lacksLane d (rq r 0 1), denied := fun d r => notOwner d r.slot (rq r 0 1),
    bad := fun _ r => firstBad r.body
      [.rg 0 (rq r 0 1 < 8), .rg 1 (rq r 1 1 ≤ 2 || rq r 1 1 = 4), .rs 2 2],
    notReady := laneWait,
    run := fun d r =>
      let l := rq r 0 1
      let old := d.laneState l
      let new := rq r 1 1
      if (d.laneBand l).isSome || d.laneBusy l || (new = 4 && d.get pLaneFreq l = 0) then refuse d (fail .state)
      else if old ≤ 1 && old < new && d.get pThermalState = 2 then refuse d (fail .thermal)
      else
        let (d1, bound) := (d.liftEscalation l).moveLane l new 0 r.slot r.ref
        let (us, d2) := d1.took bound
        { dev := d2, reply := okBody (e8 l ++ e8 old ++ e8 new ++ zs 1 ++ e32 us) } }

def execLaneStateSet (r : Request) (s : State) : Host.Outcome State Fault Refusal := s.act (hostCmd cmdLaneStateSet r)

/-! ### CAL_RUN (R277, R281) -/

/-- Channel `k` of a CAL_RUN's list: frequency and rate. -/
def calChan (b : List Byte) (k : Nat) : Nat × Nat := (fld b (12 * k) 8, fld b (12 * k + 8) 1)

/-- The first fault in a CAL_RUN's channel list (Table CM-2 numbers BLK offsets from 0x8000). -/
def calListBad (b : List Byte) : Option Nat :=
  (List.range (b.length / 12)).findSome? (fun k =>
    let o := 12 * k
    let c := calChan b k
    if 4 < c.2 then some (0x8000 + o + 8)
    else (firstNonZero b (o + 9) 3).map (fun x => 0x8000 + x))

/-- R64 for a channel in the direction of whichever permit entry covers it. -/
def Dev.anyDirection (d : Dev) (slot l fc rate : Nat) : Option Status :=
  let rs := ([0, 1, 2] : List Nat).map (fun k => d.channelStatus slot { lane := l, dir := k, fc := fc, rate := rate })
  if rs.contains none then none
  else if rs.contains (some .permitExpired) then some .permitExpired else some .noPermit

/-- Pinning the channels would leave no unpinned entry (R277). -/
def calPinsOver (cal : List (Option CalEntry)) (b : List Byte) : Bool :=
  let n := b.length / 12
  let mine := (List.range n).map (calChan b)
  let others := cal.filter (fun o => match o with
    | some e => e.pinned.isSome && !mine.contains (e.freq, e.rate)
    | none => false)
  64 ≤ others.length + (mine.eraseDups).length

/-- The job of a CAL_RUN over `n` channels (R277). -/
def calJob (l n : Nat) : Job :=
  { opcode := 0x0403, estimate := (6 * n + 9) / 10, duration := (1 + 2 * n) * 1000, lanes := [l] }

def cmdCalRun : CmdSpec :=
  { opcode := 0x0403, len := len 8, blk := true, long := true,
    early := fun _ r =>
      if r.blk.length % 12 ≠ 0 || r.blk.length = 0 || 768 < r.blk.length then some (fail .badLen) else none,
    lacks := fun d r => lacksLane d (rq r 0 1), denied := fun d r => notOwner d r.slot (rq r 0 1),
    bad := fun _ r =>
      (firstBad r.body [.rg 0 (rq r 0 1 < 8), .rg 1 (rq r 1 1 ≤ 1), .rs 4 4]).orElse (fun _ => calListBad r.blk),
    notReady := laneWait,
    run := fun d r =>
      let l := rq r 0 1
      let st := d.laneState l
      let n := r.blk.length / 12
      if (List.range n).any (fun k => !inTuningRange (calChan r.blk k).1 (calChan r.blk k).2) then refuse d (fail .badArg)
      else if (st ≠ 2 && st ≠ 4) || (d.laneBand l).isSome || d.laneBusy l then refuse d (fail .state)
      else match (List.range n).findSome? (fun k =>
          d.anyDirection r.slot l (calChan r.blk k).1 (calChan r.blk k).2) with
      | some e => refuse d (fail e)
      | none =>
        if rq r 1 1 = 1 && calPinsOver (d.lane l).cal r.blk then refuse d (fail .wouldExceed)
        else match d.startJob r.slot (rq r 2 2) (calJob l n) with
        | .error rep => refuse d rep
        | .ok (h, d1) =>
          let d2 := d1.updLane l (fun x => { x with calRun := some { slot := r.slot, ref := r.ref, job := h, before := st } })
          { dev := d2.setLaneState l 7 (some 0), reply := accepted (1 + 2 * n) } }

def execCalRun (r : Request) (s : State) : Host.Outcome State Fault Refusal := s.act (hostCmd cmdCalRun r)

/-- The channels of a run calibrated in order, those that did not lock left out; answers how many were stored. -/
def Dev.calChannels (d : Dev) (l : Nat) (b : List Byte) (pin : Option Nat) (failed : List Nat) : List Nat → Dev × Nat
  | [] => (d, 0)
  | k :: ks =>
    if failed.contains k then d.calChannels l b pin failed ks
    else
      let (d1, u) := d.fullCal l (calChan b k).1 (calChan b k).2 pin
      let (d2, n) := d1.calChannels l b pin failed ks
      (d2, n + u.isSome.toNat)

/-- The pins of a slot's entries on a lane taken off (R281). -/
def Dev.unpin (d : Dev) (l slot : Nat) : Dev :=
  d.updLane l (fun x => { x with cal := x.cal.map (fun o => o.map (fun e =>
    if e.pinned = some slot then { e with pinned := none } else e)) })

/-- CAL_RUN_COMPLETE: the channels are calibrated and stored and the lane returns to its state and f_c; a run whose lane
was withdrawn ends after the `done` channels it had reached, with DENIED, and the lane passes on in READY (R277, R281). -/
def calRunComplete (slot ref done : Nat) (d : Dev) : Dev :=
  match d.longIs slot ref 0x0403 with
  | none => d
  | some c =>
    let l := fld c.body 0 1
    match (d.lane l).calRun with
    | none => d
    | some run =>
      let n := c.blk.length / 12
      let m := if run.withdrawn then min done n else n
      let failed := run.failed.filter (fun k => k < m)
      let (d1, stored) := d.calChannels l c.blk (if fld c.body 1 1 = 1 then some slot else none) failed (List.range m)
      let body := e8 l ++ e8 stored ++ e8 failed.length ++ zs 1 ++ e16 run.job
      let d2 := (d1.bgRestore l).updLane l (fun x => { x with calRun := none })
      let d3 := if run.withdrawn then (d2.unpin l slot).setLaneState l 2 (some 4)
        else if run.before = 4 then ((d2.passLock l false).1).setLaneState l 4 (some 0)
        else d2.setLaneState l run.before (some 0)
      let d4 := d3.complete c (if run.withdrawn then fail .denied else okBody body)
      let d5 := d4.raiseSlot slot 0x0481 (e8 l ++ e8 stored ++ e8 failed.length ++ zs 1 ++ e16 run.job)
      d5.endJob slot run.job (if run.withdrawn then 4 else 0)

def execCalRunComplete (slot ref done : Nat) (s : State) : Host.Outcome State Fault Refusal :=
  s.act (calRunComplete slot ref done)

/-! ### CAL_STORE_GET -/

def cmdCalStoreGet : CmdSpec :=
  { opcode := 0x0404, len := len 4,
    lacks := fun d r => lacksLane d (rq r 0 1), denied := fun d r => notOwner d r.slot (rq r 0 1),
    bad := fun _ r => firstBad r.body [.rg 0 (rq r 0 1 < 8), .rg 1 (rq r 1 1 ≤ 63), .rs 2 2],
    run := fun d r => { dev := d, reply := okBody (calBytes (nth (d.lane (rq r 0 1)).cal (rq r 1 1))) } }

def execCalStoreGet (r : Request) (s : State) : Host.Outcome State Fault Refusal := s.act (hostCmd cmdCalStoreGet r)

/-! ### TXPOWER_MODE_SET and PA_TABLE_LOAD (R269, R271, R278, R279) -/

/-- R271 and R279: the lane is S0's and does not transmit. -/
def Dev.hardwareFree (d : Dev) (l : Nat) : Bool := d.owner l = 0 && !transmits (d.laneState l)

/-- The transmit power mode and its backoff in force and in the journal. -/
def Dev.setTxMode (d : Dev) (l mode : Nat) (backoff : Int) : Dev :=
  let d1 := (d.setNv pTxpowerMode l mode).updLane l (fun x => { x with backoff := backoff, fbQuiet := none })
  { d1 with laneNv := upd d1.laneNv l (fun e => (e.1, backoff)) }

def cmdTxpowerModeSet : CmdSpec :=
  { opcode := 0x0405, len := len 4,
    lacks := fun d r => lacksLane d (rq r 0 1), denied := onlyS0,
    bad := fun _ r => firstBad r.body
      [.rg 0 (rq r 0 1 < 8), .rg 1 (rq r 1 1 ≤ 1),
       .rg 2 (decide (0 ≤ rqS r 2 2 ∧ rqS r 2 2 ≤ 1280) && (rq r 1 1 = 1 || rq r 2 2 = 0))],
    nvm := fun _ _ => true,
    run := fun d r =>
      let l := rq r 0 1
      let wired := match (d.lane l).table with
        | some t => bit t.flags 0
        | none => false
      if !d.hardwareFree l || (rq r 1 1 = 0 && !wired) then refuse d (fail .state)
      else { dev := d.setTxMode l (rq r 1 1) (rqS r 2 2), reply := okBody r.body } }

def execTxpowerModeSet (r : Request) (s : State) : Host.Outcome State Fault Refusal :=
  s.act (hostCmd cmdTxpowerModeSet r)

/-- A table takes effect on a lane (R270, R278): its compensation computed, the isolation estimate STALE, the record
made. -/
def Dev.commitTable (d : Dev) (l : Nat) (bytes : List Byte) : Dev :=
  let t := paTableOf bytes
  let d1 := (d.updLane l (fun x => { x with table := some t, partialTable := none })).setNv pPaTableValid l 1
  let d2 : Dev := { d1 with laneNv := upd d1.laneNv l (fun e => (some t, e.2)) }
  let d3 := ((d2.set pRxEntry l 255).set pTxEntry l 255).recomp l
  let d4 := ((d3.split l).drivePins l).staleIso l 2
  d4.raiseDev 0x0484 (e8 l ++ e8 t.rx.length ++ e8 t.tx.length ++ e8 t.flags ++ e16 bytes.length)

def cmdPaTableLoad : CmdSpec :=
  { opcode := 0x0406, len := len 8, blk := true,
    lacks := fun d r => lacksLane d (rq r 0 1), denied := onlyS0,
    bad := fun _ r => firstBad r.body
      [.rg 0 (rq r 0 1 < 8), .rg 1 (rq r 1 1 ≤ 3), .rg 4 (16 ≤ rq r 4 2 && rq r 4 2 ≤ 1168), .rs 6 2],
    nvm := fun _ r => bit (rq r 1 1) 1,
    run := fun d r =>
      let l := rq r 0 1
      if !d.hardwareFree l then refuse d (fail .state) else
      let held := if bit (rq r 1 1) 0 then some (rq r 4 2, ([] : List Byte)) else (d.lane l).partialTable
      let drop := fun (st : Status) (why : Nat) =>
        refuse (d.updLane l (fun x => { x with partialTable := none })) (failWhy st 0xFFFF why)
      match held with
      | none => drop .badArg 6
      | some (total, got) =>
        if rq r 4 2 ≠ total || rq r 2 2 ≠ got.length || total < got.length + r.blk.length then drop .badArg 6 else
        let all := got ++ r.blk
        let d1 := d.updLane l (fun x => { x with partialTable := some (total, all) })
        if !bit (rq r 1 1) 1 then
          { dev := d1, reply := okBody (e8 l ++ e8 0 ++ e16 all.length ++ e16 0) }
        else
          let why := paTableReason total all
          if why = 1 then drop .badLen 1
          else if why ≠ 0 then drop .badArg why
          else
            { dev := d1.journal 0x0406 l (entryPages all.length) (some (r.slot, r.ref))
                (.table r.slot r.ref r.tagged l all)
              reply := okBody [], held := true } }

def execPaTableLoad (r : Request) (s : State) : Host.Outcome State Fault Refusal := s.act (hostCmd cmdPaTableLoad r)

/-! ### Bursts (R255, R261) -/

/-- BURST_START: at the instants of the schedule the switch pins change, Ln_PA_EN rises unless muted, and the lane enters
SPEAK or THROUGH with the antennas of the run's direction (R261, R449, Table FB-2). -/
def burstStart (l : Nat) (downlink : Bool) (d : Dev) : Dev :=
  match d.laneBand l with
  | none => d
  | some b =>
    let x := d.band b
    let pos := d.position
    let sends := pos = 0 || (pos = 1 && !downlink) || (pos = 2 && downlink)
    if !x.cfg.tdd || d.bandState b ≠ 3 || !x.sched || !sends || (d.lane l).table.isNone ||
        (!downlink && x.ulSuspended) then d
    else
      (d.updLane l (fun y => { y with burst := true, tdd := true, role := (!downlink, downlink) })).setLaneState l
        (if pos = 0 then 6 else 5) none

def execBurstStart (lane : Nat) (downlink : Bool) (s : State) : Host.Outcome State Fault Refusal :=
  s.act (burstStart lane downlink)

/-- BURST_END: Ln_PA_EN falls, the switch pins return, and the lane returns to its rest state (R255, R261). -/
def execBurstEnd (lane : Nat) (s : State) : Host.Outcome State Fault Refusal := s.act (fun d => d.endBurst lane)

/-! ### Synthesiser faults (R253, R283) -/

/-- SYNTH_UNLOCK (Table RL-10). -/
def Dev.unlockRecord (d : Dev) (l synth : Nat) (recovered : Bool) : Dev :=
  (d.bump pSynthUnlocks l).raiseLane l 0x0482
    (e8 l ++ e8 synth ++ s16 (d.laneTemp l) ++ e64 (d.getN pLaneFreq l) ++ eb recovered)

/-- A synthesiser of a lane out of OFF, DOZE, READY and LOCK loses lock: the lane mutes, recalibrates at f_c and returns
to its state (R253). -/
def synthUnlock (l synth : Nat) (d : Dev) : Dev :=
  if d.laneState l ≤ 3 || !d.hasLane l then d else
  let d1 := (d.faultLane 8 l synth).recoverLane 8 l
  let d2 := (d1.fullCal l (d1.getN pLaneFreq l) (d1.getN pLaneRate l) none).1
  d2.unlockRecord l synth true

def execSynthUnlock (lane synth : Nat) (s : State) : Host.Outcome State Fault Refusal := s.act (synthUnlock lane synth)

/-- A response not yet written becomes another. -/
def Dev.rewrite (d : Dev) (slot ref : Nat) (f : Reply → Reply) : Dev :=
  { d with host := { d.host with outbox := d.host.outbox.map (fun o =>
      if o.slot = slot && o.ref = ref && o.kind = .response then { o with reply := f o.reply } else o) } }

/-- What the command that passed LOCK answers when a synthesiser did not lock: LANE_TUNE FAULT; LANE_STATE_SET, whose table lists
no FAULT, the state the lane is left in (R134, R283, Table RL-8). -/
def TuneUndo.answer (u : TuneUndo) (rep : Reply) : Reply :=
  if u.op = 0x0401 then fail .fault else { rep with body := rep.body.take 2 ++ e8 2 ++ rep.body.drop 3 }

/-- A synthesiser has not locked 400 µs after LOCK: the lane of a tune or a change to LISTEN whose response is not yet written is
left in READY, what its calibration replaced restored, and a tune fails with FAULT; a CAL_RUN counts the channel as failed and goes on (R283). -/
def synthLockTimeout (l synth channel : Nat) (d : Dev) : Dev :=
  match (d.lane l).calRun, (d.lane l).undo with
  | some run, _ =>
    let d1 := (d.faultLane 8 l synth).unlockRecord l synth false
    d1.updLane l (fun x => { x with calRun := some { run with failed := run.failed ++ [channel] } })
  | none, some u =>
    if !d.host.outbox.any (fun o => o.slot = u.slot && o.ref = u.ref && o.kind = .response) then d else
    let d1 := d.updLane l (fun x =>
      { x with undo := none, active := none
               cal := match u.entry with
                 | some (k, e) => upd x.cal k (fun _ => e)
                 | none => x.cal })
    let d2 := (d1.set pCalStoreUsed l (((d1.lane l).cal.filter (·.isSome)).length : Nat)).rewrite u.slot u.ref u.answer
    (((d2.setLaneState l 2 (some 3)).faultLane 8 l synth)).unlockRecord l synth false
  | none, none => d

def execSynthLockTimeout (lane synth channel : Nat) (s : State) : Host.Outcome State Fault Refusal :=
  s.act (synthLockTimeout lane synth channel)

/-! ### Background calibration (R256 to R258, R282, R285) -/

/-- CAL_DRIFT (Table RL-10). -/
def Dev.driftRecord (d : Dev) (l : Nat) : Dev :=
  d.raiseLane l 0x0483 (e8 l ++ zs 1 ++ s16 (d.calDrift l) ++ eb (d.getB pBgcalFddWindow l))

/-- The active entry refined by a completed cycle: new corrections (free values), cal_temp the lane temperature. -/
def Dev.refine (d : Dev) (l : Nat) : Dev :=
  match (d.lane l).active with
  | none => d
  | some k =>
    let (v, d1) := d.measure 8
    d1.updLane l (fun x =>
      { x with driftSteps := 0
               cal := upd x.cal k (fun o => o.map (fun e =>
                 { e with refined := true, calTemp := d1.laneTemp l, corr := v })) })

/-- A step discarded as implausible; the eighth in a row stops background calibration on the lane (R285). -/
def Dev.bgDiscard (d : Dev) (l : Nat) : Dev :=
  let n := (d.lane l).bgDiscards + 1
  let d1 := d.updLane l (fun x => { x with bgDiscards := n, bgStopped := x.bgStopped || 8 ≤ n })
  if n = 8 then d1.driftRecord l else d1

/-- BGCAL_STEP: one step in a guard interval of a TDD lane; the 24th completes the cycle and refines the entry (R256,
R285). -/
def bgcalStep (l : Nat) (plausible : Bool) (d : Dev) : Dev :=
  let x := d.lane l
  if !x.tdd || x.burst || x.bgStopped || x.active.isNone then d
  else if !plausible then d.bgDiscard l
  else if x.bgSteps + 1 < 24 then d.updLane l (fun y => { y with bgSteps := y.bgSteps + 1, bgDiscards := 0 })
  else (d.updLane l (fun y => { y with bgSteps := 0, bgDiscards := 0 })).refine l

def execBgcalStep (lane : Nat) (plausible : Bool) (s : State) : Host.Outcome State Fault Refusal :=
  s.act (bgcalStep lane plausible)

/-- BGCAL_FDD_WINDOW: an FDD lane drifted by more than 8 °C takes its window, unless windows are off or stopped, when each
8 °C of drift is reported once; a ramp or a STALE estimate postpones it (R257, R258, R282). -/
def bgcalFddWindow (l : Nat) (plausible : Bool) (d : Dev) : Dev :=
  let x := d.lane l
  let st := d.laneState l
  let drift := (d.calDrift l).natAbs
  let spaced := match x.bgWindow with
    | some t => decide (secU 10 ≤ d.since t)
    | none => true
  if x.tdd || x.active.isNone || !(st = 4 || st = 5 || st = 6) || drift ≤ 128 then d
  else if !d.getB pBgcalFddWindow l || x.bgStopped then
    if x.driftSteps < (drift - 1) / 128 then
      (d.updLane l (fun y => { y with driftSteps := (drift - 1) / 128 })).driftRecord l
    else d
  else if !spaced || (d.convoy l).ramp.isSome || d.get pIsoState l = 4 then d
  else
    let d1 := (d.updLane l (fun y => { y with bgWindow := some d.time })).bump pBgcalWindows l
    if plausible then (d1.updLane l (fun y => { y with bgDiscards := 0 })).refine l else d1.bgDiscard l

def execBgcalFddWindow (lane : Nat) (plausible : Bool) (s : State) : Host.Outcome State Fault Refusal :=
  s.act (bgcalFddWindow lane plausible)

/-! ### Power feedback and compensation (R264, R284) -/

/-- FEEDBACK_LOST: in CLOSED mode the detector has been more than 10 dB low for 10 ms with Ln_PA_EN high; the lane turns
OPEN with a backoff of 3 dB (R284). -/
def feedbackLost (l : Nat) (d : Dev) : Dev :=
  match (d.lane l).fbQuiet, d.openOut l with
  | some t, some want =>
    if d.get pTxpowerMode l = 0 && (d.lane l).pins.paEn && msU 10 ≤ d.since t then
      (d.setTxMode l 1 192).raiseLane l 0x0485 (e8 l ++ zs 1 ++ s16 want ++ s16 (d.get pPaOutPower l))
    else d
  | _, _ => d

def execFeedbackLost (lane : Nat) (s : State) : Host.Outcome State Fault Refusal := s.act (feedbackLost lane)

/-- With PA_TEMP_SOURCE 1 and THERM_N open the lane sensor serves, and the fallback is recorded once (chapter 08, When the lane
temperature sensor is absent); the manual gives that record no code and no payload (log entry 48). -/
def Dev.thermNote (d : Dev) (l : Nat) : Dev :=
  let x := d.lane l
  if d.get pPaTempSource l = 1 && (d.sensor 7).isNone && x.table.isSome && !x.thermTold then
    (d.updLane l (fun y => { y with thermTold := true })).raiseDev Config.fallbackCode ((List.range 20).map Config.fallbackByte)
  else d

/-- PA_COMP_UPDATE: every 1 ms c of every TX entry is recomputed, and the split follows it (R264, R267). -/
def paCompUpdate (d : Dev) : Dev := d.laneIds.foldl (fun e l => (((e.thermNote l).recomp l).split l).drivePins l) d

def execPaCompUpdate (s : State) : Host.Outcome State Fault Refusal := s.act paCompUpdate

end Sys2Proof.Machine
end

