-- ==== Sys2Proof/Machine/DebugOps.lean ====
section
/-! DEFINITION. The raw overlay of the lanes and the relock of the debug port (R272, R610, R613, R614). -/

namespace Sys2Proof.Machine

def Dev.updDbg (d : Dev) (f : Debug → Debug) : Dev := { d with dbg := f d.dbg }

/-- The raw overlay of a lane, 8 for the SCAN lane. -/
def Dev.rawLane (d : Dev) (l : Nat) : RawLane := nth d.dbg.raw l

/-- The levels at a lane's pins with an override in force (R613 operation 5). -/
def Dev.pinsNow (d : Dev) (l : Nat) : LanePins := (d.rawLane l).pins.getD (d.pinLevels l)

/-- RAW_SEQUENCER (R272): 0 unlocked, 1 relocked, with the raw operations since the unlock. -/
def Dev.rawRecord (d : Dev) (what : Nat) : Dev := d.raiseDev 0x0486 (e8 what ++ zs 3 ++ e32 d.dbg.ops)

/-- A lane's convoy is muted, to leave MUTE by the default release (R347). -/
def Dev.muteForRelease (d : Dev) (l : Nat) : Dev :=
  (d.muteConvoy l).updConvoy l (fun x => { x with restart := none })

/-- The relock: every mute path asserted and every overlay gone, each lane back to what Quire C holds, its convoy to release it,
and RAW_SEQUENCER (R614). A TAP instruction that drove the pins under the unlock is BYPASS again (R608). -/
def Dev.relock (d : Dev) : Dev :=
  if !d.dbg.unlocked then d else
  let d1 := d.rawRecord 1
  let d2 := d1.updDbg (fun g => { g with unlocked := false, expiry := 0, ops := 0, result := 0, raw := List.replicate 9 {} })
  let d3 : Dev := { d2 with tap := { d2.tap with driving := d2.tap.driving && !d2.pins.resetN } }
  d3.laneIds.foldl (fun e l => e.muteForRelease l) d3

end Sys2Proof.Machine
end

