-- ==== Sys2Proof/Machine/SurveyOps.lean ====
section
/-! DEFINITION. The operations of a survey job: its requests for SCAN and probe time, its lanes, its result store, the end
of a probe and of a job, and the requests for the shared resources (R66, R69 to R71, R470 to R475, R485). -/

namespace Sys2Proof.Machine

/-! ### Requests for shared resources (R69, R70) -/

/-- The code of a shared resource, its share kind. -/
def Resource.kind : Resource → Nat
  | .scan => 1 | .courier => 2 | .nvm => 3 | .probe => 4

/-- A reservation per frame in the resource's unit: SCAN and probe ticks, NVM pages (Table TI-5). Courier airtime is kept
by its own budget (R296). -/
def shareUnits (res : Resource) (share : Nat) : Nat :=
  match res with
  | .scan => share * 4
  | .probe => share * 4
  | .nvm => share * 400 / 1000
  | .courier => share

def Dev.share (d : Dev) (slot kind : Nat) : Nat := d.getN pShare (slot * 8 + kind)

/-- The cell of the use and reservation tables of a resource and slot. -/
def schedIx (res : Resource) (slot : Nat) : Nat := (res.kind - 1) * 8 + slot

/-- What a slot's reservation has left in this frame. -/
def Sched.left (s : Sched) (res : Resource) (slot : Nat) : Nat :=
  nth s.reserve (schedIx res slot) - nth s.used (schedIx res slot)

/-- A request made now; it is ordered at the next tick (R69). -/
def Dev.request (d : Dev) (res : Resource) (slot ref need : Nat) : Dev :=
  { d with sched := { d.sched with
      fresh := d.sched.fresh ++ [{ res := res, slot := slot, ref := ref, need := need, tick := d.tkc / 256 / 61440 }] } }

/-- The requests of a slot's command withdrawn. -/
def Dev.withdrawRequest (d : Dev) (res : Resource) (slot ref : Nat) : Dev :=
  let keep := fun (q : SchedReq) => !(q.res = res && q.slot = slot && q.ref = ref)
  { d with sched := { d.sched with fresh := d.sched.fresh.filter keep, queue := d.sched.queue.filter keep } }

/-- The granted request that a slot's command has. -/
def Dev.grantOf (d : Dev) (res : Resource) (slot ref : Nat) : Option SchedReq :=
  d.sched.queue.find? (fun q => q.res = res && q.slot = slot && q.ref = ref && q.granted)

/-! ### Jobs and their lanes (R470) -/

def Dev.survey (d : Dev) (slot ref : Nat) : Option Survey :=
  d.sv.jobs.find? (fun x => x.slot = slot && x.ref = ref)

def Dev.updSurvey (d : Dev) (slot ref : Nat) (f : Survey → Survey) : Dev :=
  { d with sv := { d.sv with jobs := d.sv.jobs.map (fun x => if x.slot = slot && x.ref = ref then f x else x) } }

/-- The open survey commands of a slot (R474). -/
def Dev.surveyCount (d : Dev) (slot : Nat) : Nat := (d.sv.jobs.filter (fun x => x.slot = slot)).length

/-- Survey jobs with a capture on the SCAN lane, by slot (R230). -/
def Dev.scanning (d : Dev) : List Survey := d.sv.jobs.filter (fun x => x.rx = 255 && x.kind ≠ 3 && x.start.isSome)

/-- A lane may serve a survey job (R470). -/
def Dev.laneServes (d : Dev) (l : Nat) : Bool :=
  d.get pMode = 1 && (d.laneState l = 2 || d.laneState l = 4) && (d.laneBand l).isNone && (d.lane l).survey.isNone

/-- A lane taken by a survey job: what it returns to at the job's end. -/
def Dev.laneHeld (d : Dev) (l : Nat) : Nat × Nat × Nat × Nat :=
  (l, d.laneState l, d.getN pLaneFreq l, d.getN pLaneRate l)

/-- A lane taken by a survey job: tuned through LOCK, placed in a state on the antennas given (R470, R251). -/
def Dev.takeLane (d : Dev) (l slot ref fc rate st : Nat) (role : Bool × Bool) : Dev :=
  let d1 := ((d.set pLaneFreq l fc).set pLaneRate l rate).updLane l (fun x =>
    { x with survey := some (slot, ref), role := role, tdd := false })
  ((d1.passLock l false).1.staleIso l 1).setLaneState l st (some 1)

/-- A lane returned by a survey job to the state and f_c it held (R470). -/
def Dev.returnLane (d : Dev) (h : Nat × Nat × Nat × Nat) : Dev :=
  let l := h.1
  let d1 := (d.updLane l (fun x => { x with survey := none, probing := false, role := (false, true) }))
  let d2 := (d1.set pLaneFreq l h.2.2.1).set pLaneRate l h.2.2.2
  if d2.laneState l ≤ 1 then d2
  else if h.2.1 = 4 then ((d2.passLock l false).1).setLaneState l 4 (some 1)
  else d2.setLaneState l h.2.1 (some 1)

/-! ### Captures (R471, R480, R485) -/

/-- The capture or transmission of a job begins: its start time-stamp, and the clock as R480 reports it. -/
def Dev.beginCapture (d : Dev) (x : Survey) : Dev :=
  let d1 := d.updSurvey x.slot x.ref (fun y =>
    { y with start := some d.time, firstStart := some (y.firstStart.getD d.ts)
             clock := if y.firstStart.isSome then y.clock else (d.clk.state.code, (d.clk.selected).getD 255, d.clk.word)
             absolute := d.clk.state = .locked && (d.clk.selected = some 0 || d.clk.selected = some 3) })
  if x.kind = 3 then
    (d1.updLane x.tx (fun y => { y with probing := true })).drivePins x.tx
  else if x.rx = 255 then
    let rbw := fld x.body 20 4
    let decim := if x.kind = 2 then 32 else
      (([1, 2, 4, 8, 16, 32] : List Nat).find? (fun k => decide (245760000 / k ≤ rbw * 32768))).getD 32
    { d1 with sc := { preset := 3, order := 5, firDecim := 1, loaded := x.kind = 1 && bit (fld x.body 28 1) 1,
                      decim := decim, slot := x.slot, job := some x.slot } }
  else d1

/-- A capture ends: SC is free. -/
def Dev.endCapture (d : Dev) (x : Survey) : Dev :=
  let d1 := (d.updSurvey x.slot x.ref (fun y => { y with start := none })).withdrawRequest .scan x.slot x.ref
  if x.rx = 255 && x.start.isSome then { d1 with sc := { d1.sc with job := none } } else d1

/-- A probe ends, and asserts the mute path of its transmitter: 0 complete, 1 abort, 2 protective, 3 permit; it raises
PROBE_TRANSMITTED when it was on air (R485, R491). -/
def Dev.endProbe (d : Dev) (x : Survey) (code : Nat) : Dev :=
  if x.kind ≠ 3 || x.ended then d else
  let d1 := (d.updSurvey x.slot x.ref (fun y => { y with ended := true, start := none })).withdrawRequest .probe x.slot x.ref
  match x.start with
  | none => d1
  | some t =>
    let d2 := (d1.updLane x.tx (fun y => { y with probing := false })).drivePins x.tx
    d2.raiseSlot x.slot 0x0B80 (e8 x.tx ++ slice x.body 13 1 ++ slice x.body 16 2 ++ slice x.body 4 8 ++
      e32 (if code = 0 then 100000 else min 100000 (toUs (d.since t))) ++ slice x.body 12 1 ++ e8 code)

/-! ### Results and completion (R475) -/

/-- Bytes of a slot's result store in use. -/
def storeUsed (rs : List Result) : Nat := rs.foldl (fun a r => a + r.data.length) 0

/-- The oldest results removed until the store holds at most `n` bytes. -/
def storeTrim (n : Nat) : Nat → List Result → List Result
  | 0, rs => rs
  | k + 1, rs => if storeUsed rs ≤ n then rs else storeTrim n k rs.tail

/-- A result kept in a slot's store of 65,536 bytes. -/
def Dev.keepResult (d : Dev) (slot : Nat) (r : Result) : Dev :=
  let old := nth d.sv.results slot
  let rs := storeTrim (65536 - r.data.length) old.length old ++ [r]
  ({ d with sv := { d.sv with results := upd d.sv.results slot (fun _ => rs) } }).set pResultStoreUsed slot (storeUsed rs : Nat)

/-- A slot's store emptied, and its survey_id restarted (R475). -/
def Dev.emptyResults (d : Dev) (slot : Nat) : Dev :=
  ({ d with sv := { d.sv with results := upd d.sv.results slot (fun _ => []), next := upd d.sv.next slot (fun _ => 1) } }).set
    pResultStoreUsed slot 0

/-- RBW_actual and the spacing of a scan (R476, R478): 2 × fs / N and span / (points − 1), in whole Hz. -/
def scanFft (fs rbw : Nat) : Nat := ((List.range 17).map (fun k => 2 ^ k)).find? (fun n => 2 * fs ≤ n * rbw) |>.getD 65536

/-- fs of a survey receiver in Hz: the lane rate, or 245.76 MS/s / D on the SCAN lane. -/
def Dev.scanRate (d : Dev) (rx rbw : Nat) : Nat :=
  if rx = 255 then 245760000 / ((([1, 2, 4, 8, 16, 32] : List Nat).find? (fun k => decide (245760000 / k ≤ rbw * 32768))).getD 32)
  else 122880000 / 2 ^ d.getN pLaneRate rx

/-- The completion body of a job (Table SV-5). -/
def Dev.surveyBody (d : Dev) (x : Survey) (aborted : Bool) : List Byte :=
  if x.kind = 1 then
    let a := fld x.body 4 8
    let b := fld x.body 12 8
    let n := fld x.body 26 2
    let fs := d.scanRate x.rx (fld x.body 20 4)
    e32 x.id ++ e32 x.points ++ e32 (2 * fs / scanFft fs (fld x.body 20 4)) ++ e32 ((b - a) / (n - 1)) ++ e64 a ++
      e16 x.segments ++ e8 (x.flags % 4 + 4 * aborted.toNat) ++ zs 1 ++ e32 x.used
  else if x.kind = 2 then
    e32 x.id ++ e8 x.cells ++ e8 (x.flags % 4 + 4 * aborted.toNat) ++ e8 x.clock.1 ++ e8 x.clock.2.1 ++
      s32 x.clock.2.2 ++ e32 (fld x.body 12 4 * 1000)
  else
    let r := if x.result = [] then s16 (-32768) ++ s16 (fldS x.body 16 2 + 9856 - d.get pProbeRxNf x.rx) ++ e32 0 ++
        e8 0 ++ e8 0 ++ s16 (-32768) else x.result
    let f := fld r 9 1
    e32 x.id ++ r.take 9 ++ e8 (f ||| (4 * x.shock.toNat) ||| (8 * aborted.toNat)) ++ r.drop 10

/-- A survey job ends: its probe, requests and capture end, its lanes return, its results are kept, its completion is
written and its ledger job ends (R472, R475, R490; JOB_ENDED of Table EL-7). -/
def Dev.endSurvey (d : Dev) (x : Survey) (st : Status) (aborted : Bool) (probeEnd reason : Nat) : Dev :=
  let d0 := d.endProbe x probeEnd
  let d1 := (d0.endCapture x).withdrawRequest .probe x.slot x.ref
  let d2 := x.held.foldl Dev.returnLane d1
  let y := (d2.survey x.slot x.ref).getD x
  let d3 : Dev := { d2 with sv := { d2.sv with jobs := d2.sv.jobs.filter (fun z => !(z.slot = x.slot && z.ref = x.ref)) } }
  let d4 := (d3.set pSurveyOpen x.slot (d3.surveyCount x.slot : Nat)).keepResult x.slot { id := y.id, kind := y.kind, data := y.data }
  let body := d.surveyBody y aborted
  let d5 := match d4.longOf x.slot x.ref with
    | some l => d4.complete l (if st = Status.ok then okBody body else fail st)
    | none => d4
  d5.endJob x.slot x.job reason

/-- Every survey job that a condition names ends. -/
def Dev.endSurveys (d : Dev) (p : Survey → Bool) (st : Status) (aborted : Bool) (probeEnd reason : Nat) : Dev :=
  (d.sv.jobs.filter p).foldl (fun e x => match e.survey x.slot x.ref with
    | some y => e.endSurvey y st aborted probeEnd reason
    | none => e) d

/-- The job that uses a lane. -/
def Dev.laneSurvey (d : Dev) (l : Nat) : Option Survey :=
  match (d.lane l).survey with
  | some (slot, ref) => d.survey slot ref
  | none => none

/-- A protective action or fault that names a lane ends the probe it transmits (R485). -/
def Dev.stopProbe (d : Dev) (l : Nat) : Dev :=
  match d.laneSurvey l with
  | some x => if x.kind = 3 && (x.tx = l || x.rx = l) then d.endSurvey x .fault false 2 4 else d
  | none => d

/-- A lane moved to another slot: a job with no capture on it ends now, another after its current capture, with DENIED
(R281, R490). -/
def Dev.withdrawSurvey (d : Dev) (l : Nat) : Dev :=
  match d.laneSurvey l with
  | some x =>
    if x.start.isSome then d.updSurvey x.slot x.ref (fun y => { y with withdrawn := true })
    else d.endSurvey x .denied false 1 4
  | none => d

/-- The probes of a slot that a permit covers (R492). -/
def Dev.endProbesOf (d : Dev) (slot handle : Nat) : Dev :=
  d.endSurveys (fun x => x.slot = slot && x.kind = 3 && x.permit = handle) .permitExpired false 3 4

end Sys2Proof.Machine
end

