-- ==== Sys2Proof/Machine/EnergyOps.lean ====
section
/-! DEFINITION. The ENERGY targets a plan gives the lanes of a slot (R237). -/

namespace Sys2Proof.Machine

/-- B of R237 as a fraction (numerator, denominator) in mW: what the balance less its reservations leaves per second until the
planned end, less the slot's fixed rates; none where every target is unconstrained. -/
def Dev.planBudget (d : Dev) (slot : Nat) : Option (Int × Nat) :=
  let left := d.getN pPlanEnd slot - d.ts
  if slot = 0 || d.isGrid || d.get pExhaustAction slot ≠ 0 || d.get pPlanEnd slot = 0 || left = 0 then none else
  let held := (d.jobs slot).foldl (fun a e => if e.2.standing then a else a + e.2.reservation) 0
  let cores := (d.laneIds.filter (fun l => d.owner l = slot)).foldl (fun a l => a + coreRate (d.laneState l)) 0
  let scans := (d.scanning.filter (fun x => x.slot = slot)).length
  let rate : Nat := d.getN pOverheadRate slot + cores + 1350 * scans
  some ((nth d.led.balance slot - held * 1000) * 62914560000 - (rate * 1000 * left : Nat), 1000 * left)

/-- B × w / W of a lane in whole mW, not below 0. -/
def shareOf (num : Int) (den w total : Nat) : Nat :=
  min 4294967294 (num * w / ((den * total : Nat) : Int)).toNat

/-- The lanes that R237 finds free take their share and leave the rest their PA power: D6 did not win in the last second, and the
PA drew less than the share. `w` and `pa` give a lane's weight and its PA power in µW. Answers the targets. -/
def splitBudget (w pa : Nat → Nat) (recent : Nat → Bool) (den : Nat) :
    Nat → Int → List Nat → List (Nat × Nat)
  | 0, num, ls =>
    let total := (ls.map w).foldl (· + ·) 0
    ls.map (fun l => (l, shareOf num den (w l) total))
  | n + 1, num, ls =>
    let total := (ls.map w).foldl (· + ·) 0
    let free := ls.filter (fun l => !recent l && decide (((pa l * den * total : Nat) : Int) < num * w l * 1000))
    if free = [] then ls.map (fun l => (l, shareOf num den (w l) total)) else
    let (num', out) := free.foldl (fun (a : Int × List (Nat × Nat)) l =>
      (a.1 - ((pa l * den / 1000 : Nat) : Int), a.2 ++ [(l, shareOf a.1 den (w l) total)])) (num, [])
    out ++ splitBudget w pa recent den n num' (ls.filter (fun l => !free.contains l))

/-- The ENERGY target of every lane of a slot: of its bridging lanes with a PA supply by R237, unconstrained for the others and while
a lane's P chain has been invalid for more than 1 s (R229, R244). -/
def Dev.energyTargets (d : Dev) (slot : Nat) : Dev :=
  let mine := d.laneIds.filter (fun l => d.owner l = slot)
  let bridging := fun l => match d.laneBand l with
    | some b => d.bandState b = 3
    | none => false
  let stale : Nat → Bool := fun l => match nth d.led.paInvalidSince l with
    | some t => secU 1 < d.since t
    | none => false
  let ls := mine.filter (fun l => bridging l && d.get pPaSupplyMv l ≠ 0)
  let recent := fun l => match (d.convoy l).energyAt with
    | some t => d.since t < secU 1
    | none => false
  let d1 := mine.foldl (fun e l => e.set pEnergyTarget l 4294967295) d
  match d.planBudget slot with
  | none => d1
  | some (num, den) =>
    (splitBudget (fun l => d.getN pEnergyWeight l) (fun l => (nth d.led.lanePower1s l).toNat) recent den ls.length num ls).foldl
      (fun e t => if stale t.1 then e else e.set pEnergyTarget t.1 (t.2 : Nat)) d1

end Sys2Proof.Machine
end

