-- ==== Sys2Proof/Machine/Tenants.lean ====
section
/-! DEFINITION. The tenant family: provisioning, permits, lane assignment, vaults, rekeying and revocation (chapter 02). -/

namespace Sys2Proof.Machine

/-! ### Shares (R67, R68) -/

/-- A share changed, in force and in the journal, and told to its slot; link capacity follows the rule of R50. -/
def Dev.setShare (d : Dev) (slot kind new : Nat) : Dev :=
  let old := d.share slot kind
  if old = new then d else
  let d1 := (d.setNv pShare (slot * 8 + kind) (new : Nat)).raiseSlot slot 0x0287 (e8 kind ++ zs 1 ++ e16 old ++ e16 new)
  if kind = 5 || kind = 6 then d1.budgetCheck slot else d1

/-- The share field of a provisioning record. -/
def provShare (b : List Byte) (kind : Nat) : Nat := fld b (4 + 2 * kind) 2

/-- The sum of a share kind over every slot but one. -/
def Dev.otherShares (d : Dev) (slot kind : Nat) : Nat :=
  ((List.range 8).filter (fun k => k ≠ slot)).foldl (fun a k => a + d.share k kind) 0

/-! ### SLOT_PROVISION (R80) -/

/-- A full provision: the enrolment credential is not all zero. -/
def provFull (b : List Byte) : Bool := (slice b 32 32).any (fun x => x != 0)

/-- What refuses a provisioning record in the state of its slot (R67, R80). -/
def Dev.provRefusal (d : Dev) (b : List Byte) : Option Status :=
  let slot := fld b 0 1
  let st := d.get pSlotState slot
  if (if provFull b then slot = 0 || (st ≠ 0 && st ≠ 3) else st ≠ 2) then some .state
  else if (List.range 7).any (fun k => 1000 < d.otherShares slot k + provShare b k) then some .wouldExceed
  else none

def cmdSlotProvision : CmdSpec :=
  { opcode := 0x0201, len := len 0, blk := true, long := true, denied := onlyS0, nvm := fun _ _ => true,
    early := fun _ r => if r.blk.length ≠ 320 then some (fail .badLen) else none,
    lacks := fun d r => d.factory.variantH && provShare r.blk 6 ≠ 0,
    bad := fun _ r =>
      let n := bq r 1 1
      (firstBad r.blk
        ([.rg 0 (bq r 0 1 < 8), .rg 1 (n ≤ 4), .rs 2 2] ++
          (List.range 7).map (fun k => Chk.rg (4 + 2 * k) (provShare r.blk k ≤ 1000)) ++
          [.rs 18 2, .rg 20 (bq r 20 4 ≤ 5000),
           .rg 24 (decide (0 ≤ bqS r 24 8) && (bq r 24 8 = 0 || (provFull r.blk && bq r 0 1 ≠ 0))),
           .rs (64 + 64 * n) (256 - 64 * n)])).map (fun o => 0x8000 + o),
    run := fun d r =>
      match d.provRefusal r.blk with
      | some st => refuse d (fail st)
      | none => { dev := d, reply := accepted 250 } }

def execSlotProvision (r : Request) (s : State) : Host.Outcome State Fault Refusal := s.act (hostCmd cmdSlotProvision r)

/-- A permit of a slot changed. -/
def Dev.setPermit (d : Dev) (slot h : Nat) (p : Option Permit) : Dev :=
  let d1 := d.updSlotN slot (fun s => { s with permits := upd s.permits h (fun _ => p) })
  d1.setNv pPermitsUsed slot ((d1.permits slot).length : Nat)

/-- The bands and probes of a permit that ended: each band passes to another permit or trips, each probe stops (R61, R468,
R492). -/
def Dev.permitEnded (d : Dev) (slot h : Nat) : Dev :=
  ((d.slotBands slot).foldl (fun e b =>
    if e.getN pBandPermit b = h then e.permitLost b 2 else e) d).endProbesOf slot h

/-- Every permit whose issuer key the slot no longer holds becomes REVOKED (R62): all states first, then the records, then
what follows. -/
def Dev.revokeKeys (d : Dev) (slot : Nat) : Dev :=
  let ids := (d.slotN slot).keys.map keyIdOf
  let lost := (d.permits slot).filter (fun p => !ids.contains p.2.keyId && p.2.state ≠ .revoked)
  let d1 := lost.foldl (fun e p => e.setPermit slot p.1 (some { p.2 with state := .revoked })) d
  let d2 := lost.foldl (fun e p => e.permitEvent slot p.1 p.2.state.code 3 p.2.permitId) d1
  lost.foldl (fun e p => e.permitEnded slot p.1) d2

/-- A full provision's own part: partition, results and registers start afresh, a new vault key is drawn, the quota is set
and the HELLO count and lockout end (R80, R475, R514, R552). -/
def Dev.provisionFull (d : Dev) (slot : Nat) (b : List Byte) : Dev :=
  let (key, d1) := (((d.eraseTenant slot).emptyResults slot).provisionToll slot).draw 32
  let quota := fld b 24 8
  let d2 := d1.updSlotN slot (fun s =>
    { s with credential := slice b 32 32, permits := List.replicate 8 none, vaultKey := some key
             vault := List.replicate 32 none })
  let d3 : Dev := { d2 with led := { d2.led with
      balance := upd d2.led.balance slot (fun _ => (quota : Int) * 1000), total := upd d2.led.total slot (fun _ => 0)
      savedBalance := upd d2.led.savedBalance slot (fun _ => (quota : Int) * 1000)
      savedTotal := upd d2.led.savedTotal slot (fun _ => 0)
      exhausted := upd d2.led.exhausted slot (fun _ => quota = 0), low := upd d2.led.low slot (fun _ => quota = 0) } }
  let d4 := ((d3.setNv pQuotaGrant slot (quota : Nat)).setNv pQuotaBalance slot (quota : Nat)).setNv pAttribTotal slot 0
  let d5 := ((d4.setNv pHelloFails slot 0).set pHelloLockout slot 0).updSlot slot (fun s =>
    { s with lockEnd := none, challenge := none })
  ((d5.setNv pPermitsUsed slot 0).setNv pVaultUsed slot 0).setNv pSlotState slot 1

/-- SLOT_PROVISION_COMPLETE: the record takes effect and the completion is written; a record that no longer fits the state
of the slots completes with its refusal. -/
def slotProvisionComplete (slot ref : Nat) (d : Dev) : Dev :=
  match d.longIs slot ref 0x0201 with
  | none => d
  | some l =>
    let b := l.blk
    let k := fld b 0 1
    match d.provRefusal b with
    | some st => d.complete l (fail st)
    | none =>
      let full := provFull b
      let d1 := if full then d.provisionFull k b else d
      let keys := (List.range (fld b 1 1)).map (fun i => slice b (64 + 64 * i) 64)
      let d2 := (d1.updSlotN k (fun s => { s with keys := keys })).setNv pOverheadRate k (fld b 20 4 : Nat)
      let d3 := d2.raiseDev 0x0280 (e8 k ++ e8 (d2.getN pSlotState k) ++ eb full)
      let d4 := (List.range 7).foldl (fun e i => e.setShare k i (provShare b i)) (d3.revokeKeys k)
      (d4.journal 0x0201 k 2 none .none).complete l (okBody (e8 k ++ e8 (d4.getN pSlotState k) ++ zs 2))

def execSlotProvisionComplete (slot ref : Nat) (s : State) : Host.Outcome State Fault Refusal :=
  s.act (slotProvisionComplete slot ref)

/-! ### Lanes (R63, R65) -/

/-- A lane moves away from the slot that holds it: its band ends through the mute path and is cleared, a CAL_RUN or survey
job on it ends after its current step, the former slot is told, its ranges go, and its convoy takes its defaults; `reason`
is 0 reassigned, 1 revoked (R63, R65, R81, R281, R363). -/
def Dev.moveLaneTo (d : Dev) (l new reason : Nat) : Dev :=
  let old := d.owner l
  let band := d.laneBand l
  let d1 := match band with
    | some b => (((d.tripBand b 15).bandDown b 2).setBandState b 0 1).updBand b (fun _ => {})
    | none => d
  let d2 := (d1.updLane l (fun x => { x with calRun := x.calRun.map (fun c => { c with withdrawn := true }) })).withdrawSurvey l
  let d3 := if old ≠ 0 || band.isSome then d2.raiseSlot old 0x0284 (e8 l ++ e8 reason) else d2
  let d4 := ({ d3 with ranges := upd d3.ranges l (fun _ => [none, none, none, none]) }.convoyDefaults l).setNv pLaneOwner l (new : Nat)
  ((d4.set pEnergyTarget l 4294967295).energyTargets old).energyTargets new

/-- A change of a lane's ranges: a band or probe whose channel leaves them stops (Table BP-4 code 3, R485). -/
def Dev.rangesChanged (d : Dev) (l : Nat) : Dev :=
  let d1 := match d.laneBand l with
    | some b => if (d.band b).cfg.channels.all d.inOwnerRange then d else d.tripBand b 3
    | none => d
  match d1.laneSurvey l with
  | some x =>
    let rate := fld x.body 12 1
    if x.kind = 3 && x.tx = l && !d1.inOwnerRange { lane := l, dir := 0, fc := fld x.body 4 8, rate := rate } then
      d1.endSurvey x .noPermit false 2 4
    else d1
  | none => d1

def cmdLaneAssign : CmdSpec :=
  { opcode := 0x0205, len := len 20, lacks := fun d r => lacksLane d (rq r 0 1), denied := onlyS0, nvm := fun _ _ => true, shared := false,
    bad := fun _ r => firstBad r.body
      [.rg 0 (rq r 0 1 < 8), .rg 1 (rq r 1 1 < 8), .rg 2 (rq r 2 1 ≤ 3), .rg 3 (rq r 3 1 ≤ 3),
       .rg 12 (bit (rq r 3 1) 1 || rq r 4 8 < rq r 12 8)],
    run := fun d r =>
      let l := rq r 0 1
      let new := rq r 1 1
      let k := rq r 2 1
      let moved := d.owner l ≠ new
      let d1 := if moved then d.moveLaneTo l new 0 else d
      let range := if bit (rq r 3 1) 1 then none else some (rq r 4 8, rq r 12 8)
      let rs := (List.range 4).map (fun i =>
        if i = k then range else if bit (rq r 3 1) 0 then none else nth (nth d1.ranges l) i)
      let d2 : Dev := { d1 with ranges := upd d1.ranges l (fun _ => rs) }
      let d3 := if moved then d2 else d2.rangesChanged l
      let n := (rs.filter (fun x => x.isSome)).length
      { dev := d3.raiseSlot new 0x0285 (e8 l ++ e8 n), reply := okBody (e8 l ++ e8 new ++ e8 n) } }

def execLaneAssign (r : Request) (s : State) : Host.Outcome State Fault Refusal := s.act (hostCmd cmdLaneAssign r)

/-! ### SLOT_REVOKE (R77, R81, R86) -/

def cmdSlotRevoke : CmdSpec :=
  { opcode := 0x0202, len := len 4, long := true, denied := onlyS0, nvm := fun _ _ => true,
    bad := fun _ r => firstBad r.body [.rg 0 (1 ≤ rq r 0 1 && rq r 0 1 ≤ 7), .rs 1 3],
    run := fun d r =>
      let st := d.get pSlotState (rq r 0 1)
      if st ≠ 1 && st ≠ 2 then refuse d (fail .state) else { dev := d, reply := accepted 100 } }

def execSlotRevoke (r : Request) (s : State) : Host.Outcome State Fault Refusal := s.act (hostCmd cmdSlotRevoke r)

/-- The VAULT_WRITEs of a slot in flight complete with FAULT, their objects lost with the vault (R86). -/
def Dev.failVaultWrites (d : Dev) (slot : Nat) : Dev :=
  let d1 := (d.host.longs.filter (fun l => l.slot = slot && l.opcode = 0x0207)).foldl (fun e l => e.complete l (fail .fault)) d
  d1.updNvm (fun n => { n with queue := n.queue.filter (fun e => match e.act with
    | .vault s _ _ => s ≠ slot
    | _ => true) })

/-- SLOT_REVOKE_COMPLETE: session, lanes, secrets, quota and shares go in the order of R81, and the completion is
written. -/
def slotRevokeComplete (slot ref : Nat) (d : Dev) : Dev :=
  match d.longIs slot ref 0x0202 with
  | none => d
  | some c =>
    let k := fld c.body 0 1
    if d.get pSlotState k ≠ 1 && d.get pSlotState k ≠ 2 then d.complete c (fail .state) else
    let d1 := d.endSession k 2
    let d2 := (d1.laneIds.filter (fun l => d1.owner l = k)).foldl (fun e l => e.moveLaneTo l 0 1) d1
    let d3 := (d2.updSlotN k (fun _ => { vaultCounter := (d2.slotN k).vaultCounter })).failVaultWrites k
    let d4 := ((d3.setNv pPermitsUsed k 0).setNv pVaultUsed k 0).updSlot k (fun s => { s with challenge := none })
    let d5 := (d4.emptyResults k).setNv pSlotState k 3
    let d6 : Dev := { d5 with led := { d5.led with
      balance := upd d5.led.balance k (fun _ => 0), savedBalance := upd d5.led.savedBalance k (fun _ => 0) } }
    let d7 := (d6.setNv pQuotaGrant k 0).setNv pQuotaBalance k 0
    let d8 := ((List.range 7).foldl (fun e i => e.setShare k i 0) d7).setNv pOverheadRate k 0
    ((d8.raiseDev 0x0281 (e8 k)).journal 0x0202 k 2 none .none).complete c (okBody (e8 k ++ zs 3))

def execSlotRevokeComplete (slot ref : Nat) (s : State) : Host.Outcome State Fault Refusal :=
  s.act (slotRevokeComplete slot ref)

/-! ### Permits (R57 to R62, R82, R85) -/

/-- A band entry read from a permit (Table TI-3). -/
def permitBandOf (b : List Byte) (k : Nat) : PermitBand :=
  let o := 48 + 64 * k
  { fStart := fld b o 8, fStop := fld b (o + 8) 8, direction := fld b (o + 16) 1, duplex := fld b (o + 17) 1
    maxEirp := fldS b (o + 18) 2, ulNoise := fldS b (o + 20) 2, minGain := fldS b (o + 22) 2, period := fld b (o + 24) 4
    slots := fld b (o + 28) 1, pattern := fld b (o + 32) 8 }

/-- A band entry is well formed (Table TI-3). -/
def permitBandOk (b : List Byte) (k : Nat) : Bool :=
  let o := 48 + 64 * k
  let x := permitBandOf b k
  let tdd := x.duplex = 1
  decide (380000000 ≤ x.fStart ∧ x.fStart < x.fStop ∧ x.fStop ≤ 7125000000) && x.duplex ≤ 1 &&
    (if x.direction = 2 then tdd else x.direction ≤ 1) &&
    (if tdd then 1000 ≤ x.period && x.period ≤ 20000 && 1 ≤ x.slots && x.slots ≤ 32 && x.period % x.slots = 0
     else x.period = 0 && x.slots = 0) &&
    (List.range 32).all (fun i => if i < x.slots then x.pattern / 4 ^ i % 4 ≠ 3 else x.pattern / 4 ^ i % 4 = 0) &&
    (firstNonZero b (o + 29) 3).isNone && (firstNonZero b (o + 40) 24).isNone

/-- Every field of a permit lies within its encoding (Table TI-2, Table TI-4 step 7). -/
def permitFieldsOk (b : List Byte) : Bool :=
  let n := fld b 1 1
  1 ≤ n && n ≤ 8 && fld b 3 1 ≤ 7 && fld b 3 1 ≠ 0 && fld b 28 4 < fld b 32 4 && fld b 44 4 = 0 &&
    (List.range n).all (permitBandOk b)

/-- A permit read from its bytes, in its state at an effective time. -/
def permitOf (b : List Byte) (e : Nat) : Permit :=
  { state := permitStateAt (fld b 28 4) (fld b 32 4) e, topologies := fld b 3 1, keyId := slice b 4 8
    validFrom := fld b 28 4, validUntil := fld b 32 4, delayCeiling := fld b 36 4, permitId := fld b 40 4
    bands := (List.range (fld b 1 1)).map (permitBandOf b) }

/-- The entry a permit is stored in: that of equal issuer_key_id and permit_id, else the first free one (R58). -/
def Dev.permitPlace (d : Dev) (slot : Nat) (p : Permit) : Option Nat :=
  let t := (d.slotN slot).permits
  ((List.range 8).find? (fun h => match nth t h with
    | some q => q.keyId = p.keyId && q.permitId = p.permitId
    | none => false)).orElse (fun _ => (List.range 8).find? (fun h => (nth t h).isNone))

/-- Table TI-4: the first failing step's status and reason, or the permit's place. -/
def Dev.verifyPermit (d : Dev) (slot : Nat) (b : List Byte) : Except (Status × Nat) Nat :=
  let n := fld b 1 1
  let signed := 48 + 64 * n
  if b.length ≠ 112 + 64 * n || 1024 < b.length then .error (.badLen, 1)
  else if fld b 0 1 ≠ 1 then .error (.badArg, 2)
  else if fld b 2 1 ≠ slot || slice b 12 16 ≠ d.factory.serial then .error (.denied, 3)
  else match (d.slotN slot).keys.find? (fun k => keyIdOf k = slice b 4 8) with
  | none => .error (.denied, 4)
  | some key =>
    if !ecdsaCheck key (b.take signed) (b.drop signed) then .error (.denied, 5)
    else if !permitFieldsOk b then .error (.badArg, 6)
    else if fld b 32 4 ≤ d.effTime then .error (.permitExpired, 7)
    else match d.permitPlace slot (permitOf b d.effTime) with
    | some h => .ok h
    | none => .error (.wouldExceed, 8)

/-- The permit result layout (Table TI-9). -/
def permitResult (h st reason n id : Nat) : List Byte := e8 h ++ e8 st ++ e8 reason ++ e8 n ++ e32 id

/-- A replaced permit's bands and probes checked against the new one (R85). -/
def Dev.permitReplaced (d : Dev) (slot h : Nat) (p : Permit) : Dev :=
  let ok := p.state = .active
  let d1 := (d.slotBands slot).foldl (fun e b =>
    if e.getN pBandPermit b ≠ h || !e.bandBusy b then e
    else if ok && p.coversAll (e.band b).cfg.channels && p.allows (e.getN pTopology) then e.setEirp b p
    else e.tripBand b 3) d
  d1.endSurveys (fun x => x.slot = slot && x.kind = 3 && x.permit = h && !(ok && p.bands.any (fun q =>
    let hb := halfBand (fld x.body 12 1)
    decide (q.fStart + hb ≤ fld x.body 4 8 ∧ fld x.body 4 8 + hb ≤ q.fStop)))) .noPermit false 3 4

def cmdPermitLoad : CmdSpec :=
  { opcode := 0x0203, len := len 0, blk := true, nvm := fun _ _ => true, shared := false,
    run := fun d r =>
      match d.verifyPermit r.slot r.blk with
      | .error (st, why) =>
        refuse d { status := st
                   body := permitResult 255 255 why (if why < 7 then 0 else bq r 1 1) (if why < 7 then 0 else bq r 40 4) }
      | .ok h =>
        let p := permitOf r.blk d.effTime
        let old := (nth (d.slotN r.slot).permits h).map (fun q => q.state.code)
        let d1 := (d.setPermit r.slot h (some p)).permitEvent r.slot h (old.getD 255) p.state.code p.permitId
        { dev := if old.isSome then d1.permitReplaced r.slot h p else d1
          reply := okBody (permitResult h p.state.code 0 p.bands.length p.permitId) } }

def execPermitLoad (r : Request) (s : State) : Host.Outcome State Fault Refusal := s.act (hostCmd cmdPermitLoad r)

def cmdPermitStatus : CmdSpec :=
  { opcode := 0x0204, len := len 4, bad := fun _ r => firstBad r.body [.rg 0 (rq r 0 1 < 8), .rs 1 3],
    run := fun d r =>
      { dev := d
        reply := okBody (match nth (d.slotN r.slot).permits (rq r 0 1) with
          | some p => e8 p.state.code ++ e8 p.bands.length ++ zs 2 ++ e32 p.permitId ++ padTo 8 p.keyId ++
              e32 p.validFrom ++ e32 p.validUntil
          | none => e8 255 ++ zs 23) } }

def execPermitStatus (r : Request) (s : State) : Host.Outcome State Fault Refusal := s.act (hostCmd cmdPermitStatus r)

/-- The entry is bound to a started band, or covers a running probe or CAL_RUN of the slot (R82). -/
def Dev.permitInUse (d : Dev) (slot h : Nat) (p : Permit) : Bool :=
  (d.slotBands slot).any (fun b => d.getN pBandPermit b = h && d.bandBusy b) ||
    d.sv.jobs.any (fun x => x.slot = slot && x.kind = 3 && x.permit = h) ||
    d.laneIds.any (fun l => match (d.lane l).calRun with
      | some run => run.slot = slot && (match d.longOf slot run.ref with
          | some c => (List.range (c.blk.length / 12)).any (fun k =>
              let f := fld c.blk (12 * k) 8
              let hb := halfBand (fld c.blk (12 * k + 8) 1)
              p.bands.any (fun q => decide (q.fStart + hb ≤ f ∧ f + hb ≤ q.fStop)))
          | none => false)
      | none => false)

def cmdPermitRemove : CmdSpec :=
  { opcode := 0x0209, len := len 4, nvm := fun _ _ => true, shared := false,
    bad := fun d r => firstBad r.body
      [.rg 0 (rq r 0 1 < 8 && (nth (d.slotN r.slot).permits (rq r 0 1)).isSome), .rs 1 3],
    run := fun d r =>
      let h := rq r 0 1
      match nth (d.slotN r.slot).permits h with
      | none => refuse d (failAt .badArg 0)
      | some p =>
        if d.permitInUse r.slot h p then refuse d (fail .state)
        else
          { dev := (d.setPermit r.slot h none).permitEvent r.slot h p.state.code 255 p.permitId
            reply := okBody (e8 h) } }

def execPermitRemove (r : Request) (s : State) : Host.Outcome State Fault Refusal := s.act (hostCmd cmdPermitRemove r)

/-- The permits whose state at E differs from the one they hold, as slot, handle, permit and new state. EXPIRED and REVOKED
are final (R59, R60, R62). -/
def Dev.permitChanges (d : Dev) : List (Nat × Nat × Permit × PermitState) :=
  ((List.range 8).map (fun slot => (d.permits slot).filterMap (fun p =>
    let new := permitStateAt p.2.validFrom p.2.validUntil d.effTime
    if p.2.state = .revoked || p.2.state = .expired || new = p.2.state then none else some (slot, p.1, p.2, new)))).flatten

/-- PERMIT_EVALUATION: every permit is judged against E; all states move, then the records are made, then the bands and
probes of the expired ones hand over or stop (R59 to R61, R468, R492). -/
def permitEvaluation (d : Dev) : Dev :=
  let cs := d.permitChanges
  let d1 := cs.foldl (fun e c => e.setPermit c.1 c.2.1 (some { c.2.2.1 with state := c.2.2.2 })) d
  let d2 := cs.foldl (fun e c => e.permitEvent c.1 c.2.1 c.2.2.1.state.code c.2.2.2.code c.2.2.1.permitId) d1
  (cs.filter (fun c => c.2.2.2 = .expired)).foldl (fun e c => e.permitEnded c.1 c.2.1) d2

def execPermitEvaluation (s : State) : Host.Outcome State Fault Refusal := s.act permitEvaluation

/-! ### Vaults and SLOT_REKEY (R54, R76, R88) -/

/-- The nonce of a vault object: slot and object number in 4 bytes, then the write counter (R76). -/
def vaultNonce (slot object counter : Nat) : List Byte := e16 slot ++ e16 object ++ e64 counter
/-- The additional data of a vault object (R76). -/
def Dev.vaultAad (d : Dev) (slot object counter : Nat) : List Byte :=
  padTo 16 d.factory.serial ++ e8 slot ++ e8 object ++ e64 counter

/-- An object of a slot's vault changed, with VAULT_USED. -/
def Dev.setObject (d : Dev) (slot object : Nat) (o : Option VaultObject) : Dev :=
  let d1 := d.updSlotN slot (fun s => { s with vault := upd s.vault object (fun _ => o) })
  d1.setNv pVaultUsed slot (((d1.slotN slot).vault.filterMap (fun x => x.map (fun v => v.cipher.length))).foldl (· + ·) 0 : Nat)

def cmdVaultRead : CmdSpec :=
  { opcode := 0x0206, len := len 4, bad := fun _ r => firstBad r.body [.rg 0 (rq r 0 1 ≤ 31), .rs 1 3],
    run := fun d r =>
      let k := rq r 0 1
      match nth (d.slotN r.slot).vault k with
      | none => { dev := d, reply := okBody (e16 0) }
      | some o =>
        if 40 * d.halfDepth r.slot < o.cipher.length then refuse d (fail .badLen)
        else match (d.slotN r.slot).vaultKey.bind (fun key =>
            gcmOpen key (vaultNonce r.slot k o.counter) (d.vaultAad r.slot k o.counter) o.cipher o.tag) with
        | some p => { dev := d, reply := { status := .ok, body := e16 p.length, blk := p } }
        | none =>
          { dev := (d.setObject r.slot k none).raiseSlot r.slot 0x0286 (e8 k ++ zs 3 ++ e64 o.counter)
            reply := fail .fault } }

def execVaultRead (r : Request) (s : State) : Host.Outcome State Fault Refusal := s.act (hostCmd cmdVaultRead r)

/-- Pages of one copy of a vault object's entry: the ciphertext, tag and counter (Table FD-2; 532 bytes for 500). -/
def vaultPages (n : Nat) : Nat := entryPages (n + 32)

/-- The bound of a host write of `n` pages: within the slot's NVM share of this frame as its table states, else by R70: the
frames its reservation needs, or no better than 256 s when it cannot hold the write. -/
def Dev.nvmBound (d : Dev) (slot n within_ : Nat) : Nat :=
  if n ≤ d.sched.left .nvm slot then within_
  else if n ≤ shareUnits .nvm (d.share slot 3) then within_ + 1000 else 256000

def cmdVaultWrite : CmdSpec :=
  { opcode := 0x0207, len := len 0, blk := true, long := true, nvm := fun _ _ => true,
    early := fun _ r => if r.blk.length < 4 || r.blk.length ≠ 4 + bq r 2 2 then some (fail .badLen) else none,
    bad := fun _ r => (firstBad r.blk [.rg 0 (bq r 0 1 ≤ 31), .rs 1 1, .rg 2 (bq r 2 2 ≤ 512)]).map (fun o => 0x8000 + o),
    run := fun d r =>
      if (d.slotN r.slot).vaultKey.isNone then refuse d (fail .fault) else
      let n := vaultPages (bq r 2 2)
      { dev := d.journal 0x0207 (32 * r.slot + bq r 0 1) n (some (r.slot, r.ref)) (.vault r.slot r.ref (bq r 0 1))
        reply := accepted (d.nvmBound r.slot (2 * n) 60) } }

def execVaultWrite (r : Request) (s : State) : Host.Outcome State Fault Refusal := s.act (hostCmd cmdVaultWrite r)

/-- VAULT_WRITE_COMPLETE: the journal holds the object's entry: it takes the next write counter, and the completion is
written (R76). -/
def vaultWriteComplete (slot ref : Nat) (d : Dev) : Dev :=
  match d.longIs slot ref 0x0207 with
  | none => d
  | some l =>
    let waiting := d.nvm.queue.any (fun e => match e.act with
      | .vault s r _ => s = slot && r = ref
      | _ => false)
    if waiting then d else
    match (d.slotN slot).vaultKey with
    | none => d.complete l (fail .fault)
    | some key =>
      let k := fld l.blk 0 1
      let c := (d.slotN slot).vaultCounter + 1
      let text := l.blk.drop 4
      let cipher := gcmXor key (vaultNonce slot k c) text
      let o : VaultObject :=
        { counter := c, cipher := cipher, tag := gcmTag key (vaultNonce slot k c) (d.vaultAad slot k c) cipher }
      let d1 := (d.updSlotN slot (fun s => { s with vaultCounter := c })).setObject slot k (if text = [] then none else some o)
      d1.complete l (okBody (e8 k ++ zs 3 ++ e64 c))

def execVaultWriteComplete (slot ref : Nat) (s : State) : Host.Outcome State Fault Refusal :=
  s.act (vaultWriteComplete slot ref)

def cmdSlotRekey : CmdSpec :=
  { opcode := 0x0208, len := len 0, blk := true, enrol := true, nvm := fun _ _ => true, shared := false,
    early := fun _ r => if r.blk.length ≠ 60 then some (fail .badLen) else none,
    run := fun d r =>
      match (d.slot r.slot).session.bind (fun s =>
          gcmOpen s.key (slice r.blk 0 12) (e8 r.slot ++ padTo 16 d.factory.serial) (slice r.blk 12 32) (slice r.blk 44 16)) with
      | none => refuse d (fail .denied)
      | some c =>
        let d1 := (d.updSlotN r.slot (fun s => { s with credential := c })).setNv pSlotState r.slot 2
        let d2 := if r.slot = 0 then d1.relock else d1
        { dev := d2.updSlot r.slot (fun s => { s with session := s.session.map (fun x => { x with full := true }) })
          reply := okBody (e8 2) } }

def execSlotRekey (r : Request) (s : State) : Host.Outcome State Fault Refusal := s.act (hostCmd cmdSlotRekey r)

end Sys2Proof.Machine
end

