-- ==== Sys2Proof/Machine/CommitOps.lean ====
section
/-! DEFINITION. What a change of parameter brings about, what a journal entry does once both its copies hold the new version,
the ledger's journal save, and the shutdown flush (R144, R145, R205, R238, R555, R564). -/

namespace Sys2Proof.Machine

/-- A change of BILLING_MODE or BILLING_BOUNDARY is a metrology event; the open period keeps its boundary, and the new settings
apply from the period that opens at the next close (R507, R519, R523). -/
def Dev.billingChanged (d : Dev) : Dev :=
  let d1 := d.metroEvent
  d1.raiseMetro 0x0C8A (e8 (d1.getN pBillingMode) ++ zs 1 ++ e16 (d1.getN pBillingBoundary) ++ e32 (d1.getN pMetroEventCount))

/-- A parameter takes a value, in NVM where its table says so, with what follows at once. -/
def Dev.applyParam (d : Dev) (id idx : Nat) (v : Int) (nvm : Bool) : Dev :=
  let old := (d.getN pLinkRate idx, d.fecOn idx)
  let d1 := if nvm then d.setNv id idx v else d.set id idx v
  if id = pLinkRateCfg || id = pLinkFec then d1.applyLink idx old
  else if id = pBillingMode || id = pBillingBoundary then d1.billingChanged
  else if id = pClkRefOutEn then { d1 with pins := { d1.pins with clkRefOut := v ≠ 0 } }
  else if id = pChargeEnable then d1.driveChg
  else if id = pPaTempSource || id = pPaSupplyMv then if idx < 8 then (d1.recomp idx).split idx else d1
  else d1

/-- A journal entry is complete: its record has its new generation, and what waited for it happens (R145, R555). A vault
object takes effect with its completion; FW_COMMIT runs the orderly sequence when its response is written (R576). -/
def Dev.entryDone (d : Dev) (e : JournalEntry) : Dev :=
  let key := e.typ * 65536 + e.inst
  let d1 := d.updNvm (fun n => { n with gens := (key, e.gen) :: n.gens.filter (fun g => g.1 != key) })
  let reply := fun (x : Dev) (slot ref : Nat) (tagged : Bool) (op : Nat) (rep : Reply) (after : AfterWrite) =>
    x.push { slot := slot, kind := .response, code := op, ref := ref, tagged := tagged, reply := rep, after := after }
  match e.act with
  | .none => d1
  | .setParam slot ref tagged id idx v =>
    let d2 := d1.updNvm (fun n => { n with par := n.par.set id idx v })
    reply d2 slot ref tagged 0x0005 (okBody ((d2.set id idx v).parBody id idx)) (.param id idx v true)
  | .respond slot ref tagged op rep =>
    reply d1 slot ref tagged op rep (if op = 0x0E02 then .orderly 1 8 else .nothing)
  | .vault _ _ _ => d1
  | .table slot ref tagged lane bytes =>
    reply (d1.asCause slot ref (fun x => x.commitTable lane bytes)) slot ref tagged 0x0406
      (okBody (e8 lane ++ e8 1 ++ e16 bytes.length ++ e16 0)) .nothing
  | .pace slot ref tagged ceiling floor =>
    let d2 := (d1.setNv pVcoreCeilingHost 0 ceiling).setNv pVcoreFloorHost 0 floor
    reply d2 slot ref tagged 0x0306 (okBody d2.paceBody) .nothing

/-- The ledger's journal entry: every balance, total and rate as they stand (R238). -/
def Dev.saveLedger (d : Dev) : Dev :=
  let d1 : Dev := { d with led := { d.led with
    savedBalance := d.led.balance, savedTotal := d.led.total
    savedPower := (List.range 8).map (fun s => d.getN pAttribPower s)
    savedAwake := (List.range 8).map (fun s => d.slotAwake s []) } }
  ((List.range 8).foldl (fun (e : Dev) s => ((if s = 0 then e else e.setNv pQuotaBalance s (mJ (nth e.led.balance s))).setNv
    pAttribTotal s (mJ (nth e.led.total s)))) d1)

/-- The remaining pages of every entry whose copy 0 has begun, both copies (R564). -/
def Dev.flushJournal (d : Dev) : Dev :=
  let begun := fun (e : JournalEntry) => e.left0 < e.pages
  let done := d.nvm.queue.filter begun
  let pages := done.foldl (fun a e => a + e.left0 + e.left1) 0
  let d1 := d.updNvm (fun n =>
    { n with queue := n.queue.filter (fun e => !begun e), pagesProgrammed := n.pagesProgrammed + pages })
  done.foldl (fun e x => e.entryDone x) d1

/-- The shutdown flush: every staged record of every partition, the journal, the saves of Quire M and of the ledger, and last
the flush flag (R205, R522, R238, R564). -/
def Dev.flush (d : Dev) : Dev :=
  let d1 := (List.range 9).foldl (fun e p => if (e.part p).freeze.isSome then e else e.flushPart p (stageSize p)) d
  let d0 := d1.flushJournal.saveLedger.keepHw
  let d2 := d0.setNv pWallHighWater 0 (d0.highWater : Nat)
  let d3 := if d2.toll.running then d2.saveToll else d2
  { d3 with ao := { d3.ao with flushFlag := true } }

end Sys2Proof.Machine
end

