-- ==== Sys2Proof/Machine/PowerOps.lean ====
section
/-! DEFINITION. The operations of power and start-up: what a reset or an entry into WATCH leaves, the release from reset, the
muting and dozing of lanes, and the shutdown sequences (R187 to R219, R541, R557, R565). -/

namespace Sys2Proof.Machine

def Dev.updPwr (d : Dev) (f : Power → Power) : Dev := { d with pwr := f d.pwr }
def Dev.updAo (d : Dev) (f : AlwaysOn → AlwaysOn) : Dev := { d with ao := f d.ao }

/-! ### What a reset leaves -/

/-- A partition across a reset: staged records and, after POWER_ON, the rest of the number reservation are lost with cause 2;
a freeze ends, its losses still to report (R536, R541, R544). -/
def Partition.down (powerOn : Bool) (p : Partition) : Partition :=
  let kept : Partition := { p with staged := [], freeze := none, thawedAt := none, allotUsed := 0 }
  if powerOn then
    { kept with next := p.reserved + 1, reserved := p.reserved + 1024, overflowRun := none, thawLost := none
                losses := [⟨2, p.storedLast + 1, p.reserved, 4294967295⟩] }
  else
    let run : List LossRun := match p.staged.head?, p.staged.getLast? with
      | some a, some b => [⟨2, a.seq, b.seq, p.staged.length⟩]
      | _, _ => []
    { kept with losses := p.losses ++ run
                thawLost := match p.freeze with
                  | some f => some ⟨0, f.first, f.last, f.lost⟩
                  | none => p.thawLost }

/-- The journal entries whose copy 0 was complete: the reader finds their new generation (R556). -/
def Dev.halfWritten (d : Dev) : List JournalEntry := d.nvm.queue.filter (fun e => e.left0 = 0)

/-- The parameters in NVM after an interruption. -/
def Dev.parAfter (d : Dev) : ParStore :=
  d.halfWritten.foldl (fun p e => match e.act with
    | .setParam _ _ _ id idx v => p.set id idx v
    | .pace _ _ _ c f => (p.set pVcoreCeilingHost 0 c).set pVcoreFloorHost 0 f
    | _ => p) d.nvm.par

/-- The lanes' tables in NVM after an interruption. -/
def Dev.tablesAfter (d : Dev) : List (Option PaTable × Int) :=
  d.halfWritten.foldl (fun t e => match e.act with
    | .table _ _ _ lane bytes => upd t lane (fun x => (some (paTableOf bytes), x.2))
    | _ => t) d.laneNv

/-- The NVM after an interruption: an erase in flight is to run again (R562, R565). -/
def Dev.nvmAfter (d : Dev) : Nvm :=
  { par := d.parAfter
    gens := d.halfWritten.foldl (fun g e =>
      (e.typ * 65536 + e.inst, e.gen) :: g.filter (fun x => x.1 != e.typ * 65536 + e.inst)) d.nvm.gens
    eraseWanted := d.nvm.erase.toList ++ d.nvm.eraseWanted
    erasePending := d.nvm.erasePending + (if d.nvm.erase.isSome then 1 else 0)
    freePages := d.nvm.freePages, wear := d.nvm.wear
    barredSince := some d.time }

/-- What the next start reports before READY of an interrupted write or erase (R557, R562). -/
def Dev.foundAtStart (d : Dev) : List LatchedEvent :=
  d.halfWritten.map (fun e =>
    { ts := d.ts, code := 0x0E80, payload := e16 e.typ ++ e16 e.inst ++ e32 e.gen }) ++
  (match d.nvm.erase with
    | some _ => [{ ts := d.ts, code := 0x0E81, payload := e32 ((Config.analogue d.free 0).natAbs % 16384) ++ e8 3 }]
    | none => [])

/-- A committed image becomes active, the one before stays in the other slot; a commit whose record the journal does not hold
yet is void (R556, R576). -/
def Dev.imagesAfter (d : Dev) : Factory × List Image × List Byte :=
  let kept := fun (q : Nat) =>
    let x := nth d.sto.images q
    if d.nvm.queue.any (fun e => e.typ = 0x0E02 && e.inst = q && e.left0 ≠ 0) then { x with commit := none } else x
  let c := kept 0
  let m := kept 1
  let (f1, c1) := match c.commit with
    | some (v, _) => ({ d.factory with versionC := v }, { c with other := some d.factory.versionC, commit := none })
    | none => (d.factory, c)
  match m.commit with
  | some (v, s) => ({ f1 with versionM := v }, [c1, { m with other := some d.factory.versionM, commit := none }], s)
  | none => (f1, [c1, m], d.toll.sealId)

/-- The state code of START_PREVIOUS: 0 ACTIVE, 1 SLEEP, 2 WATCH, 3 brown-out hold (Table PS-12). -/
def Dev.stateCode (d : Dev) : Nat :=
  if d.pwr.state = .sleep then 1 else if d.pwr.state = .watch then 2 else if d.brownedOut then 3 else 0

/-- The always-on domain across a reset: lost at POWER_ON; else it keeps the state before, the junction peak and the lowest
VSYS (R200). -/
def Dev.aoAfter (d : Dev) (cause : Nat) : AlwaysOn :=
  if cause = 1 then {} else
  let a := d.keepHw.ao
  if d.pwr.state = .off then a
  else if d.pwr.state = .watch || d.pwr.state = .hardHold then { a with stateBefore := if cause = 6 then a.stateBefore else 2 }
  else { a with stateBefore := d.stateCode, junctionPeak := max d.junction (d.get pJunctionPeak), lowestVsys := d.pwr.vsysLow }

/-- Members as the head's journal keeps them: serial and port. -/
def Dev.membersAfter (d : Dev) : List (Option Member) :=
  d.link.members.map (fun m => m.map (fun x => { serial := x.serial, port := x.port, joined := false }))

/-- VCORE goes: everything the NVM and the always-on domain do not keep takes its reset value, and the unit is in the state
given, to start with the cause given (R187, R199, R565; a POWER_ON loses wall time and the always-on domain). -/
def Dev.down (d : Dev) (cause : Nat) (st : PowerState) : Dev :=
  let nv := d.nvmAfter
  let tables := d.tablesAfter
  let (factory, images, sealId) := d.imagesAfter
  let w := d.settleUnc.clk
  let keepWall := cause ≠ 1 && w.wallSet
  let base : Dev :=
    { time := d.time, tkc := d.tkc, free := d.free + 1, par := nv.par, factory := factory, slotNv := d.slotNv
      slots := d.slots.map (fun s => { lockEnd := s.lockEnd })
      latched := d.foundAtStart
      colo := d.colo.map (Partition.down (cause = 1)), nvm := nv
      pwr := { state := st, cause := cause, resetAt := if st = .off then some d.time else none
               faultResets := d.pwr.faultResets, vsys := d.pwr.vsys, vioValid := d.pwr.vioValid, vioMode := if cause = 1 && !d.pwr.vioValid then none else d.pwr.vioMode
               abortS := d.pwr.abortS, temps := d.pwr.temps }
      ao := d.aoAfter cause
      pins := { resetN := d.pins.resetN, mainsOk := d.pins.mainsOk, hostSel := d.pins.hostSel
                trstN := d.pins.trstN, usbVbus := d.pins.usbVbus }
      clk := { codes := w.codes, ppsCodes := w.ppsCodes, xo := w.xoSaved, xoSaved := w.xoSaved
               wallSet := keepWall, anchorTkc := if keepWall then w.anchorTkc else 0
               anchorWall := if keepWall then w.anchorWall else 0, unc := w.unc, uncAt := w.uncAt }
      led := { savedBalance := d.led.savedBalance, savedTotal := d.led.savedTotal, savedPower := d.led.savedPower
               savedAwake := d.led.savedAwake, mainsSince := d.led.mainsSince, balance := d.led.savedBalance, total := d.led.savedTotal
               watchEntry := if st = .watch then some d.led.bat else none }
      lanes := tables.map (fun t => { table := t.1, backoff := t.2 })
      laneNv := tables, ranges := d.ranges
      link := { secret := d.link.secret, format := d.link.format, members := d.membersAfter }
      toll := { saved := d.toll.saved, devSnaps := d.toll.devSnaps, slotSnaps := d.toll.slotSnaps, table := d.toll.table
                pendingTable := d.toll.pendingTable, calRecord := d.toll.calNext.orElse (fun _ => d.toll.calRecord), sealId := sealId
                updated := d.toll.updated }
      sto := { images := images, entered := d.sto.entered }
      cour := { table := d.cour.table, counter := d.cour.counter, highest := d.cour.highest
                reserve := nv.par.get pCourierDeviceReserve 0 |>.toNat }
      tap := if cause = 1 then {} else d.tap }
  let top := if base.get pChainRole = 0 then (0, 0, 1) else
    let n := base.memberCount
    ((if n ≤ 1 then 0 else if n = 2 then 1 else 2), if base.get pChainRole = 1 then 0 else d.getN pUnitNumber, max 1 n)
  let b1 := ((base.set pTopology 0 (top.1 : Nat)).set pUnitNumber 0 (top.2.1 : Nat)).set pUnitCount 0 (top.2.2 : Nat)
  (if keepWall then b1.set pWallSource 0 4 else b1).set pResetCause 0 cause

/-- Reset: OFF, to be released by R193. -/
def Dev.resetTo (d : Dev) (cause : Nat) : Dev := d.down cause .off

/-! ### Release (R193, R194) -/

/-- A pin-driving TAP instruction under R608 with RESET_N low holds the release (R615). -/
def Dev.tapHolds (d : Dev) : Bool := d.tap.driving

/-- Reset release, or the wake that takes its place: the start-up timeline begins, held at once while the junction is at 112 °C or
above (R198). At power-on the TKC reads 0 (R193, R199). -/
def Dev.release0 (d : Dev) : Dev :=
  let d1 : Dev := if d.pwr.cause = 1 then { d with tkc := 0 } else d
  let hot := decide (1792 ≤ d1.junction)
  let d2 := (d1.updPwr (fun p => { p with
    state := .active, phase := .boot, releaseAt := d1.time, resetAt := none, startHeld := if hot then some d1.time else none
    shutdownSince := d1.time
    heldPeak := if hot then d1.junction else -2048, abortS := 1792 })).set pThermalState 0 (if hot then 2 else 0)
  ((d2.set pResetCause 0 (d2.pwr.cause : Nat)).bumpNv pResetCount 0).set pHostTransport 0 d2.pins.hostSel.toNat

/-- A wake source from WATCH: the start begins with cause 7, the source kept for POWER_STATE_CHANGED (R191, R193). -/
def Dev.wakeWatch (d : Dev) (code : Nat) : Dev :=
  if d.pwr.state ≠ .watch then d else
  (d.updAo (fun a => { a with wakeSource := code, stateBefore := 2 })).updPwr (fun p => { p with cause := 7 }) |>.release0

/-- A wake source fires: from WATCH it starts the unit, from SLEEP it begins the return, during an orderly entry into WATCH
it waits for its end; in ACTIVE it keeps the unit from going back to WATCH, and starts the 60 s of R226 anew (R191, R217, R226,
R308). -/
def Dev.wake (d : Dev) (code : Nat) : Dev :=
  if d.pwr.state = .watch then d.wakeWatch code
  else if d.pwr.state = .sleep then d.updPwr (fun p => { p with wakePend := some (p.wakePend.getD code) })
  else match d.pwr.sequence with
  | some { kind := .orderly 0 _, .. } => d.updPwr (fun p => { p with orderlyWake := some (p.orderlyWake.getD code) })
  | _ => { d with cour := { d.cour with rewatch := none }, led := { d.led with hardHoldAt := d.led.hardHoldAt.map (fun _ => d.time) } }

/-- SLEEP_WAKE_SOURCES enables a source (Table PS-2). -/
def Dev.sleepSource (d : Dev) (k : Nat) : Bool := bit (d.getN pSleepWakeSources) k

/-- A ledger reserve event wakes from SLEEP (Table EL-7). -/
def Dev.ledgerWake (d : Dev) : Dev := if d.pwr.state = .sleep && d.sleepSource 3 then d.wake 5 else d

/-! ### Lanes and links in a sequence -/

/-- The CAL_RUNs in progress on the lanes given end with a status, their jobs with a reason. -/
def Dev.endCalRuns (d : Dev) (lanes : List Nat) (st : Status) (reason : Nat) : Dev :=
  lanes.foldl (fun e l => match (e.lane l).calRun with
    | some run =>
      let e1 := e.updLane l (fun x => { x with calRun := none })
      let e2 := match e1.longIs run.slot run.ref 0x0403 with
        | some c => e1.complete c (fail st)
        | none => e1
      e2.endJob run.slot run.job reason
    | none => e) d

/-- Every lane out of OFF goes to DOZE with LANE_STATE_CHANGED cause 2 (Tables PS-7 and PS-8, R189). -/
def Dev.dozeLanes (d : Dev) : Dev :=
  d.laneIds.foldl (fun e l => if 2 ≤ e.laneState l then e.setLaneState l 1 (some 2) else e) d

/-- POWER_STATE_CHANGED (Table PS-12). -/
def Dev.powerEvent (d : Dev) (old new cause : Nat) : Dev := d.raiseDev 0x0183 (e8 old ++ e8 new ++ e8 cause)

/-! ### The shutdown sequences (R202, R206, R208, R218) -/

/-- A sequence whose flush is still to come. -/
def Dev.flushDue (d : Dev) : Bool :=
  (match d.pwr.sequence with
    | some s => !s.flushed
    | none => false) || (match d.pwr.thermalSeq with
    | some s => !s.flushed
    | none => false)

/-- The orderly sequence starts: into WATCH with an entry cause (`target` 0) or to a reset of a cause (`target` 1). Every lane
mutes and goes to DOZE, SCAN is off, an erase in flight is abandoned; a sequence that runs already goes on to its own end
(R206, R216, R218). -/
def Dev.startOrderly (d : Dev) (target cause : Nat) (request : Option (Nat × Nat)) : Dev :=
  if d.pwr.sequence.isSome then d else
  let seq : Sequence := { kind := .orderly target cause, since := d.time, request := request, nvm := d.nvmInFlight }
  let d1 := (if target = 0 then d.powerEvent (if d.pwr.state = .sleep then 1 else 0) 2 cause else d).updPwr (fun p => { p with sequence := some seq, longEnded := 0 })
  let d2 := ((d1.relock.holdAll 4).endSurveys (fun _ => true) .state false 2 4).endCalRuns d.laneIds .state 4
  let d2 := d2.updPwr (fun p => { p with longEnded := d.host.longs.length - d2.host.longs.length })
  (d2.dozeLanes.abandonErase).updAo (fun a => { a with hardEntry := target = 0 && cause = 0x11 })

/-- Every lane mutes for a thermal or brown-out sequence: started bands trip, probes end, and what bears no band is held
muted by the convoy already (R202, R208, R459). -/
def Dev.sequenceMute (d : Dev) (code : Nat) (st : Status) : Dev :=
  ((d.tripAll code).endSurveys (fun x => x.kind = 3) st false 2 4).holdAll 4

/-- The brown-out sequence: lanes mute, BROWN_OUT is recorded, an erase in flight is abandoned; one that falls in a running
sequence joins it (R202, R218, R592). -/
def Dev.startBrownOut (d : Dev) (vsys : Nat) : Dev :=
  if d.brownedOut then d else
  let inFlight := d.nvmInFlight
  let d1 := (d.sequenceMute 12 .fault).bumpNv pBrownOutCount 0
  let d2 := match d1.pwr.sequence with
    | some _ => d1
    | none => d1.updPwr (fun p => { p with sequence := some { kind := .brownOut, since := d1.time, nvm := inFlight, low := vsys } })
  (d2.checkErase.abandonErase).raiseDev 0x0189 (e16 vsys ++ e8 inFlight)

/-- The sensor that holds the junction value (Table PS-11). -/
def Dev.hottest (d : Dev) : Nat := ((List.range 7).find? (fun k => d.sensor k = some d.junction)).getD 0

/-- The thermal shutdown sequence, joined to one that runs (R208, R218). -/
def Dev.startThermal (d : Dev) : Dev :=
  let seq : Sequence := { kind := .thermal, since := d.time, nvm := d.nvmInFlight, sensor := d.hottest, temp := d.junction }
  let d1 := (d.set pThermalState 0 2).updPwr (fun p => { p with shutdownSince := d.time, thermalSeq := some seq })
  (d1.driveChg.checkErase).sequenceMute 11 .thermal

/-- VSYS as it is found: VSYS_NOW, the lowest since the start and of the brown-out in progress, and the lowest of the dip below 4.5 V
(Table PS-9). -/
def Dev.takeVsys (d : Dev) (v : Nat) : Dev :=
  let dip := if 4500 ≤ v then d.getN pVsysDipMin else if d.pwr.vsys < 4500 then min v (d.getN pVsysDipMin) else v
  ((d.updPwr (fun p => { p with
    vsys := v, vsysLow := min p.vsysLow v, sequence := p.sequence.map (fun s => { s with low := min s.low v }) })).set
      pVsysNow 0 (min 20000 v : Nat)).set pVsysDipMin 0 (dip : Nat)

end Sys2Proof.Machine
end

