-- ==== Sys2Proof/Machine/CourierOps.lean ====
section
/-! DEFINITION. The operations of the courier radio: its channels and rates, the packet as it goes on air, airtime, the choice
and start of a transmission, and what a received packet brings (R286 to R308). -/

namespace Sys2Proof.Machine

def Dev.updCour (d : Dev) (f : Courier → Courier) : Dev := { d with cour := f d.cour }
def Dev.updPeer (d : Dev) (u : Nat) (f : Peer → Peer) : Dev := d.updCour (fun c => { c with peers := upd c.peers u f })

/-! ### Profile, channels and rates (Tables CU-1 and CU-2, R290, R294) -/

/-- The region is EU. -/
def Dev.eu (d : Dev) : Bool := d.get pCourierProfile = 1

/-- Channels of the profile. -/
def Dev.channels (d : Dev) : Nat := if d.get pCourierProfile = 0 then 0 else if d.eu then 16 else 64

/-- Centre frequency of a channel in Hz. -/
def Dev.courierFreq (d : Dev) (c : Nat) : Nat :=
  if !d.eu then 902200000 + 400000 * c
  else if c < 12 then 863200000 + 400000 * c
  else ([868100000, 868300000, 868500000, 869525000] : List Nat).getD (c - 12) 0

/-- Sub-band of a channel: 0 A, 1 B, 2 C, 3 the NA band. -/
def Dev.subBand (d : Dev) (c : Nat) : Nat := if !d.eu then 3 else if c < 12 then 0 else if c < 15 then 1 else 2

/-- Packets on the channel use 4-GFSK. -/
def Dev.fsk4 (d : Dev) (c : Nat) : Bool := d.get pCourierRate = 1 && !(d.eu && 12 ≤ c)

/-- Airtime in µs of a packet with an L-byte payload (Table CU-5). -/
def Dev.airtimeUs (d : Dev) (c l : Nat) : Nat :=
  let p := d.getN pCourierPreamble
  if d.fsk4 c then 10 * (p + 32 + 4 * (16 + l)) else 20 * (p + 32 + 8 * (16 + l))

/-- The TKC base the hop slots are counted in: a follower whose link does not align it corrects by the last BEACON. -/
def Dev.hopTkc (d : Dev) : Nat := if d.isFollower && !d.clk.aligned then ((d.tkc : Int) + d.cour.hopOffset).toNat else d.tkc

/-- The hop slot's number. -/
def Dev.hopSlot (d : Dev) : Nat := d.hopTkc / 256 / 12288000

/-- c(k) of R294. -/
def Dev.hopChannel (d : Dev) (k : Nat) : Nat :=
  let net := d.getN pCourierNetId
  if d.eu then (5 * (k % 16) + 3 * (k / 16) + net) % 16 else (37 * (k % 64) + 13 * (k / 64) + net) % 64

/-- Wake channel `i` of a train (Table CU-1, R307). -/
def Dev.wakeChannel (d : Dev) (i : Nat) : Nat :=
  if d.eu then 12 + i % 2 else (d.getN pCourierNetId + 8 * (i % 8)) % 64

/-! ### The power table (Table CU-7, R300) -/

def Dev.declaredOut (d : Dev) (k : Nat) : Int := fldS d.cour.table (8 * k + 4) 2
def Dev.extPa (d : Dev) (k : Nat) : Bool := fld d.cour.table (8 * k + 2) 1 = 1

/-- The highest declared output allowed on a channel, in 1/64 dB. -/
def Dev.outLimit (d : Dev) (c : Nat) : Int := if d.eu && c < 15 then 896 else 1728

/-- The step used on a channel: the current one, at most the highest allowed; none when no entry is allowed. -/
def Dev.stepFor (d : Dev) (c want : Nat) : Option Nat :=
  let ok := (List.range 16).filter (fun k => decide (d.declaredOut k ≤ d.outLimit c))
  if d.cour.table.length = 128 then ok.getLast?.map (fun m => min want m) else none

/-! ### The packet on air (Table CU-3, R291, R292) -/

/-- The PN9 bits: `s` holds the register, oldest bit first. -/
def pn9 : Nat → List Bool → List Bool
  | 0, _ => []
  | n + 1, s => (s.headD false) :: pn9 n (s.tail ++ [(s.headD false) != (s.getD 5 false)])

/-- A body whitened, or whitened back: each bit on air, most significant first, by XOR with PN9 restarted at the length byte. -/
def whiten (bs : List Byte) : List Byte :=
  let bits := pn9 (8 * bs.length) (List.replicate 9 true)
  bs.zipIdx.map (fun e =>
    e.1 ^^^ BitVec.ofNat 8 ((List.range 8).foldl (fun a k => 2 * a + (bits.getD (8 * e.2 + k) false).toNat) 0))

/-- The first 4 bytes of the HMAC under the courier key. -/
def courierTag (key body : List Byte) : List Byte := (hmac key body).take 4

/-- The body of a packet before whitening. -/
def Dev.packetBody (d : Dev) (p : Packet) (key : List Byte) : List Byte :=
  let head := e8 p.payload.length ++ e8 p.kind ++
    e8 (d.getN pUnitNumber + 8 * p.dest + 64 * p.broadcast.toNat) ++
    e8 (p.ackReq.toNat + 2 * (decide (1 < p.tries)).toNat + 4 * p.step) ++ e16 (d.getN pCourierNetId) ++ e32 p.counter ++ p.payload
  let b := head ++ courierTag key head
  b ++ e16 (crc16 b)

/-! ### Airtime (R304) -/

/-- The traffic class of a packet. -/
def Packet.cls (p : Packet) : Nat := if p.device then 8 else p.slot

/-- The airtime budget in µs of a traffic class in a sub-band. -/
def Dev.airBudget (d : Dev) (cls sub : Nat) : Nat :=
  let total := if sub = 3 then 400000 else if sub = 2 then 360000000 else 36000000
  if cls = 8 then total * d.cour.reserve / 1000 else total * d.share cls 2 * (1000 - d.cour.reserve) / 1000000

/-- Airtime charged, from the first preamble bit to the last CRC bit. -/
def Dev.chargeAir (d : Dev) (cls sub us : Nat) : Dev :=
  let now := d.airBin sub
  d.updCour (fun c => { c with airtime := (c.airtime.filter (fun e =>
    e.2.1 ≠ sub || (if sub = 3 then e.2.2.1 = now else now < e.2.2.1 + 60))) ++ [(cls, sub, now, us)] })

/-- A packet of `us` has room. A WAKE train, far longer than any frame's reserve, is charged and not held back (log entry
61); an NA slot's packet was placed by R70. -/
def Dev.hasAir (d : Dev) (p : Packet) (sub us : Nat) : Bool :=
  p.kind = 2 || (!p.device && sub = 3) || d.airUsed p.cls sub + us ≤ d.airBudget p.cls sub

/-- ms until time of a traffic class in a sub-band is free again. -/
def Dev.airFreeMs (d : Dev) (cls sub : Nat) : Nat :=
  if sub = 3 then toMsUp (62914560000 * (d.airBin 3 + 1) - d.tkc)
  else
    let now := d.airBin sub
    match (d.cour.airtime.filter (fun e => e.1 = cls && e.2.1 = sub && now < e.2.2.1 + 60)).head? with
    | some e => toMsUp (secU (60 * (e.2.2.1 + 60)) - d.time)
    | none => 0

/-- COURIER_DUTY_LIMIT, once per limit reached: kept with the airtime used then (Table CU-11). -/
def Dev.dutyLimit (d : Dev) (cls sub : Nat) : Dev :=
  if d.cour.limited.any (fun e => e.1 = cls && e.2.1 = sub) then d else
  let d1 := d.updCour (fun c => { c with limited := (cls, sub, d.airUsed cls sub) :: c.limited })
  let body := e8 sub ++ e8 (if cls = 8 then 255 else cls) ++ zs 2 ++ e32 (d.airFreeMs cls sub)
  if cls = 8 then d1.raiseDev 0x0582 body else d1.raiseSlot cls 0x0582 body

/-- Limits whose airtime has partly come free again may be reported anew. -/
def Dev.dutyFree (d : Dev) : Dev :=
  d.updCour (fun c => { c with limited := c.limited.filter (fun e => e.2.2 ≤ d.airUsed e.1 e.2.1) })

/-! ### Counts (Table CU-10) -/

/-- A count of the device and, for DATA of a slot, of that slot too. -/
def Dev.countAir (d : Dev) (p : Packet) (f : CourierStats → CourierStats) : Dev :=
  d.updCour (fun c =>
    let all := upd c.stats 8 f
    { c with stats := if p.device then all else upd all p.slot f })

/-- A count of the device alone. -/
def Dev.countDev (d : Dev) (f : CourierStats → CourierStats) : Dev := d.updCour (fun c => { c with stats := upd c.stats 8 f })

/-! ### Sending (R287, R295, R296, R300, R301, R305) -/

/-- The radio can transmit: enabled and not OFF, under a profile and a key, the clock not LOST. -/
def Dev.courierSends (d : Dev) : Bool :=
  d.pwr.state = .active && d.pwr.courierUp && d.get pCourierState ≠ 0 && d.get pCourierProfile ≠ 0 && d.courierKey.isSome &&
    d.clk.state ≠ .lost

/-- The radio is free to start: nothing on air and no ACK awaited. -/
def Dev.courierFree (d : Dev) : Bool := d.cour.air.isNone && d.cour.waiting.isNone

/-- The order of the queue: FALLBACK, BEACON, other device traffic, then slots in the order their requests were placed. -/
def Packet.rank (p : Packet) : Nat := if !p.device then 3 else if p.kind = 4 then 0 else if p.kind = 3 then 1 else 2

/-- A random 0 to 7 × 4 ms (R296, R297), a free value. -/
def Dev.backoffDraw (d : Dev) : Nat × Dev :=
  let (b, d1) := d.draw 1
  (msU (4 * (leNat b % 8)), d1)

/-- The packet ends, with its ACK, at least 500 µs before the slot's end when it starts at `start` µs (R295); a WAKE train
runs over hop slots. -/
def Dev.fitsSlot (d : Dev) (p : Packet) (c start : Nat) : Bool :=
  p.kind = 2 || start + d.airtimeUs c p.payload.length + (if p.ackReq then 500 + d.airtimeUs c 0 else 0) ≤ 49500

/-- The radio's state with the PA pins: in TX with ext_pa they are high, in every other state low (R301, R302). -/
def Dev.courierState (d : Dev) (st : Nat) (pa : Bool) : Dev :=
  { (d.set pCourierState 0 st) with pins := { d.pins with crPaEn := pa && st = 3, crTxRx := pa && st = 3 } }

/-- A packet goes on air on a channel with a step. -/
def Dev.transmit (d : Dev) (p : Packet) (c step : Nat) : Dev :=
  let key := d.courierKey.getD []
  let single := d.airtimeUs c p.payload.length
  let us := if p.kind = 2 then d.getN pCourierSniffInterval + 50000 else single
  let n := if p.kind = 1 then 0 else if p.kind = 2 then us / single else 1
  let counter := if p.kind = 1 then p.counter else (d.cour.counter + 1) % 4294967296
  let payload := if p.kind = 3 then
    e64 (d.ts + usU (160 + (if d.fsk4 c then 10 else 20) * d.getN pCourierPreamble)) else p.payload
  let q : Packet := { p with counter := counter, tries := p.tries + 1, airUs := us, channel := c, step := step, payload := payload }
  let d1 := d.updCour (fun x =>
    { x with air := some q, counter := (x.counter + n) % 4294967296, sent := whiten (d.packetBody q key) })
  d1.courierState 3 (d.extPa step)

/-- The start of the next packet of the queue in this hop slot, after an RSSI measured on its channel: over −85 dBm it is put
off (R295, R296); what lacks airtime waits and its class is told (R304). -/
def Dev.startNext (d : Dev) (rssi : Int) : Dev :=
  let c := d.hopChannel d.cour.hop
  let sub := d.subBand c
  let elapsed := toUs (d.since d.cour.hopAt)
  let start := max 500 elapsed + 160
  if !d.courierSends || !d.courierFree || (nth d.cour.cal c).isNone then d else
  let due := d.cour.queue.filter (fun p => p.granted && p.notBefore ≤ d.time && d.fitsSlot p c start)
  let air := fun (p : Packet) => d.airtimeUs c p.payload.length
  let short := due.filter (fun p => !d.hasAir p sub (air p))
  let d1 := short.foldl (fun e p => (e.dutyLimit p.cls sub).countAir p (fun s => { s with deferrals := inc32 s.deferrals })) d
  match ([0, 1, 2, 3] : List Nat).findSome? (fun r => due.find? (fun p => p.rank = r && d.hasAir p sub (air p))) with
  | none => d1
  | some p =>
    let want := if p.broadcast then d.getN pCourierStartStep else d.getN pCourierStep p.dest
    let ch := if p.kind = 2 then d.wakeChannel 0 else c
    match d.stepFor ch want with
    | none => d1
    | some step =>
      if -5440 < rssi then
        let (wait, d2) := d1.backoffDraw
        (d2.updCour (fun x => { x with queue := x.queue.map (fun q => if q = p then { q with notBefore := d.time + wait } else q) })).countAir
          p (fun s => { s with deferrals := inc32 s.deferrals })
      else (d1.updCour (fun x => { x with queue := x.queue.erase p })).transmit p ch step

/-- A packet of device traffic put in the queue. -/
def Dev.queueDevice (d : Dev) (p : Packet) : Dev :=
  if d.courierKey.isNone || d.get pCourierProfile = 0 || d.get pCourierState = 0 || !d.pwr.courierUp then d else d.updCour (fun c => { c with queue := c.queue ++ [p] })

/-- A FALLBACK to unit 0 with a message, as the unit that lost its path sends it; the head's is broadcast (R436). -/
def Dev.queueFallback (d : Dev) (typ : Nat) (body : List Byte) : Dev :=
  let head := !d.isFollower
  d.queueDevice { kind := 4, broadcast := head, ackReq := !head, payload := e8 typ ++ e8 body.length ++ body }

/-- The head's BEACON (R298). -/
def Dev.queueBeacon (d : Dev) : Dev := d.queueDevice { kind := 3, broadcast := true, payload := zs 8 }

/-- The radio returns to COURIER_RETURN_STATE, unless it was switched off (R302). -/
def Dev.courierReturn (d : Dev) : Dev :=
  if d.get pCourierState = 0 then d.courierState 0 false else d.courierState (d.getN pCourierReturnState) false

/-! ### The end of a send (R297, R306) -/

/-- The completion of COURIER_SEND (Table CU-10). -/
def Packet.completion (p : Packet) : List Byte :=
  e8 p.acked.toNat ++ e8 p.tries ++ e8 p.step ++ e8 p.channel ++ s16 p.rssi ++ zs 2 ++ e32 p.used

/-- A packet that is done with: a send still open waits for its completion, device traffic is gone. -/
def Dev.endPacket (d : Dev) (p : Packet) : Dev :=
  if (p.device && p.kind ≠ 2) || (d.longIs p.slot p.ref 0x0502).isNone then d else d.updCour (fun c => { c with ended := c.ended ++ [p] })

/-- A retry: the step rises by one and the packet waits for a later slot after a random backoff; a slot's asks for airtime
anew (R297, R300, R70). -/
def Dev.retryPacket (d : Dev) (p : Packet) : Dev :=
  let (wait, d1) := d.backoffDraw
  let d2 := (d1.updPeer p.dest (fun x => { x with firstTries := 0 })).set pCourierStep p.dest
    (min 15 (d1.getN pCourierStep p.dest + 1) : Nat)
  let later := d.cour.hopAt + msU 50 + wait
  let d3 := (d2.updCour (fun c => { c with queue := c.queue ++ [{ p with notBefore := later, granted := p.device }] })).countAir p
    (fun s => { s with retries := inc32 s.retries })
  if p.device then d3 else d3.request .courier p.slot p.ref p.airUs

/-! ### Receiving (R293, R299, R307) -/

/-- The checks of R293 on a body after whitening: 0 accepted; 1 CRC, 2 net, 3 destination, 4 tag or counter. -/
def Dev.packetCheck (d : Dev) (b : List Byte) : Nat :=
  let n := fld b 0 1
  let dest := fld b 2 1
  let src := dest % 8
  if b.length ≠ 16 + n || 96 < n || fld b (14 + n) 2 ≠ crc16 (b.take (14 + n)) then 1
  else if fld b 4 2 ≠ d.getN pCourierNetId then 2
  else if !bit dest 6 && dest / 8 % 8 ≠ d.getN pUnitNumber then 3
  else match d.courierKey with
  | none => 4
  | some key =>
    if slice b (10 + n) 4 ≠ courierTag key (b.take (10 + n)) then 4
    else if fld b 1 1 ≠ 1 && (match nth d.cour.highest src with
        | some h => decide (fld b 6 4 ≤ h)
        | none => false) then 4
    else 0

/-- A WAKE that names this unit as the sniffer sees it: net_id and destination alone (R307). -/
def Dev.wakeNames (d : Dev) (b : List Byte) : Bool :=
  fld b 1 1 = 2 && fld b 4 2 = d.getN pCourierNetId &&
    (bit (fld b 2 1) 6 || fld b 2 1 / 8 % 8 = d.getN pUnitNumber)

/-- COURIER_WAKE_RECEIVED (Table CU-11). -/
def Dev.wakeReceived (d : Dev) (b : List Byte) (rssi : Int) (verified : Bool) : Dev :=
  d.raiseDev 0x0583 (e8 (fld b 2 1 % 8) ++ e8 verified.toNat ++ s16 rssi)

/-- What an accepted packet leaves of its source: the counter, when it was heard, its RSSI and antenna (R293, R299). -/
def Dev.heardFrom (d : Dev) (b : List Byte) (rssi : Int) (antennaB : Bool) : Dev :=
  let u := fld b 2 1 % 8
  let d1 := d.updCour (fun c => { c with highest := if fld b 1 1 = 1 then c.highest else upd c.highest u (fun _ => some (fld b 6 4)) })
  let d2 := d1.updPeer u (fun x => { x with heard := d.time, silentAt := none })
  (d2.set pCourierRssi u rssi).set pCourierAntenna u (antennaB.toNat : Nat)

/-- The sniffer runs: a key is held and SLEEP, WATCH or the SNIFF state asks for it; a WATCH entered at the HARD reserve keeps
only the sources marked always (R225, R302, R307). -/
def Dev.sniffs (d : Dev) : Bool :=
  d.courierKey.isSome && d.get pCourierProfile ≠ 0 &&
    ((d.pwr.state = .sleep && d.sleepSource 1) || (d.pwr.state = .watch && d.getB pWatchCourierSniff && !d.ao.hardEntry) ||
      (d.pwr.state = .active && d.pwr.courierUp && d.get pCourierState = 4))

/-- At READY the WAKE packet that woke the unit is checked; one that fails is recorded and sends the unit back to WATCH after
10 s (R308). -/
def Dev.checkWake (d : Dev) : Dev :=
  match d.cour.wake with
  | none => d
  | some (b, rssi) =>
    let d1 := d.updCour (fun c => { c with wake := none })
    let ok := d1.packetCheck b = 0
    let d2 := if ok then d1.heardFrom b rssi false else d1.updCour (fun c => { c with rewatch := some d.time })
    d2.wakeReceived b rssi ok

end Sys2Proof.Machine
end

