-- ==== Sys2Proof/Machine/Courier.lean ====
section
/-! DEFINITION. The meanings of the courier radio's commands (R286 to R314, R436). -/

namespace Sys2Proof.Machine

/-- The readiness of the courier commands (Table PS-4). -/
def courierWait (d : Dev) (_ : Request) : Option Nat := d.waitFor d.pwr.courierUp 600 (some 10)

/-! ### Calibration and profile (R300, R303, R310, R311, R314) -/

/-- The checks of the power table's entries from entry `k` on (Table CU-7, R300). -/
def powerTableBad (b : List Byte) : List Nat → Option Nat
  | [] => none
  | k :: ks =>
    let o := 8 * k
    if fldS b o 2 < -1920 || 896 < fldS b o 2 then some (0x8000 + o)
    else if !isBool (fld b (o + 2) 1) then some (0x8000 + o + 2)
    else if fld b (o + 3) 1 ≠ 0 then some (0x8000 + o + 3)
    else match firstNonZero b (o + 6) 2 with
    | some z => some (0x8000 + z)
    | none => powerTableBad b ks

/-- Strictly ascending declared_out (R300). -/
def powerTableOrdered (b : List Byte) : Bool :=
  (List.range 15).all (fun k => decide (fldS b (8 * k + 4) 2 < fldS b (8 * k + 12) 2))

/-- The temperature of the courier's synthesiser: sensor 3. -/
def Dev.courierTemp (d : Dev) : Int := (d.sensor 3).getD d.coreTemp

/-- A channel's entry stored with its temperature, or marked invalid with COURIER_CAL_FAILED (R303, R314). -/
def Dev.calChannel (d : Dev) (c : Nat) (ok : Bool) : Dev :=
  let d1 := d.updCour (fun x => { x with cal := upd x.cal c (fun _ => if ok then some d.courierTemp else none) })
  let d2 := d1.set pCourierCalValid 0 (flags (d1.cour.cal.map (·.isSome)) : Nat)
  if ok then d2 else d2.raiseDev 0x0584 (e8 c ++ zs 3 ++ e64 (d.courierFreq c))

/-- Every channel of the profile calibrated but those that fail; entries of no channel are void. -/
def Dev.calProfile (d : Dev) (failed : List Nat) : Dev :=
  let d1 := d.updCour (fun x => { x with cal := List.replicate 64 none })
  (List.range d1.channels).foldl (fun e c => e.calChannel c (!failed.contains c)) d1

/-- Every peer's step starts at COURIER_START_STEP (R300). -/
def Dev.startSteps (d : Dev) : Dev :=
  (List.range 8).foldl (fun e u => e.set pCourierStep u (e.get pCourierStartStep)) d

def cmdCourierProfileSet : CmdSpec :=
  { opcode := 0x0501, len := len 8, blk := true, long := true, denied := onlyS0, nvm := fun _ _ => true,
    early := fun _ r => if r.blk.length ≠ 128 then some (fail .badLen) else none,
    bad := fun _ r =>
      (firstBad r.body [.rg 0 (rq r 0 1 = 1 || rq r 0 1 = 2), .rg 1 (rq r 1 1 ≤ 1),
        .rg 4 (100000 ≤ rq r 4 4 && rq r 4 4 ≤ 2000000)]).orElse (fun _ => powerTableBad r.blk (List.range 16)),
    notReady := courierWait,
    run := fun d r =>
      if d.host.longs.any (fun l => l.opcode = 0x0502) then refuse d (fail .state)
      else if !powerTableOrdered r.blk then refuse d (fail .badArg)
      else { dev := d, reply := accepted 300 } }

def execCourierProfileSet (r : Request) (s : State) : Host.Outcome State Fault Refusal :=
  s.act (hostCmd cmdCourierProfileSet r)

/-- COURIER_PROFILE_SET_COMPLETE: the profile replaces the old one and is journalled; queued device traffic is discarded and
counted; every channel is calibrated, `failed` naming those that do not lock (R303, R311, R314). -/
def courierProfileSetComplete (slot ref : Nat) (failed : List Nat) (d : Dev) : Dev :=
  match d.longIs slot ref 0x0501 with
  | none => d
  | some l =>
    let n := d.cour.queue.length
    let d1 := (((d.setNv pCourierProfile 0 (fld l.body 0 1)).setNv pCourierRate 0 (fld l.body 1 1)).setNv
      pCourierNetId 0 (fld l.body 2 2)).setNv pCourierSniffInterval 0 (fld l.body 4 4)
    let d2 := (d1.updCour (fun c => { c with table := l.blk, queue := [], waiting := none })).countDev
      (fun s => { s with deferrals := sat 4294967295 (s.deferrals + n) })
    let d3 := (d2.calProfile failed).startSteps
    let d4 := (d3.journal 0x0501 0 (entryPages 136) none .none).courierState (d3.getN pCourierReturnState) false
    let valid := (d4.cour.cal.filter (·.isSome)).length
    d4.complete l (okBody (slice l.body 0 1 ++ e8 valid ++ zs 2 ++ e32 (durOf (d.since l.since))))

def execCourierProfileSetComplete (slot ref : Nat) (failed : List Nat) (s : State) : Host.Outcome State Fault Refusal :=
  s.act (courierProfileSetComplete slot ref failed)

/-! ### COURIER_SEND (R304, R306, R311) -/

/-- A unit belongs to the chain: a member this unit knows, or its neighbour. -/
def Dev.inChain (d : Dev) (u : Nat) : Bool :=
  d.get pChainRole ≠ 0 && (bit (d.getN pChainMembers) u || d.link.ports.any (fun p => p.joined && p.peer = some u))

/-- EU airtime of a class in a sub-band for a packet of `us`, at a moment from now on (R304). -/
def Dev.airRoomAt (d : Dev) (cls sub us later : Nat) : Bool :=
  let bin := (d.time + later) / secU 60
  let used := (d.cour.airtime.filter (fun e => e.1 = cls && e.2.1 = sub && bin < e.2.2.1 + 60)).foldl (fun a e => a + e.2.2.2) 0
  used + us ≤ d.airBudget cls sub

/-- Some EU sub-band can carry a packet of a slot within 10 s (R304). -/
def Dev.euRoom (d : Dev) (slot n : Nat) : Bool :=
  ([(0, 0), (1, 12), (2, 15)] : List (Nat × Nat)).any (fun x => d.airRoomAt slot x.1 (d.airtimeUs x.2 n) (secU 10))

def cmdCourierSend : CmdSpec :=
  { opcode := 0x0502, len := len 20, long := true,
    denied := fun _ r => rq r 1 1 = 2 && r.slot ≠ 0,
    bad := fun _ r =>
      let wake := rq r 1 1 = 2
      let dest := rq r 0 1
      let n := rq r 3 1
      firstBad r.body
        [.rg 0 (dest ≤ 7 || dest = 255), .rg 1 (rq r 1 1 = 0 || wake),
         .rg 2 (rq r 2 1 ≤ 1 && !(rq r 2 1 = 1 && wake)), .rg 3 (n ≤ 16 && (!wake || n = 0)),
         .rs (4 + min n 16) (16 - min n 16)],
    notReady := courierWait,
    run := fun d r =>
      let wake := rq r 1 1 = 2
      let dest := rq r 0 1
      let n := rq r 3 1
      let size := if wake then 0 else 2 + n
      let p : Packet :=
        { device := wake, kind := if wake then 2 else 0, slot := r.slot, ref := r.ref, dest := dest % 8,
          broadcast := dest = 255, ackReq := rq r 2 1 = 1, granted := wake,
          payload := if wake then [] else e8 r.slot ++ e8 n ++ slice r.body 4 n }
      if d.get pCourierProfile = 0 || d.courierKey.isNone || (dest ≠ 255 && !d.inChain dest) then refuse d (fail .state)
      else if dest = d.getN pUnitNumber || (rq r 2 1 = 1 && dest = 255) then refuse d (fail .badArg)
      else if !wake && d.eu && !d.euRoom r.slot size then
        refuse d (fail .wouldExceed)
      else
        let d1 := d.updCour (fun c => { c with queue := c.queue ++ [p] })
        { dev := if wake then d1 else d1.request .courier r.slot r.ref (d1.airtimeUs 0 size)
          reply := accepted (if wake then (3 * d.getN pCourierSniffInterval + 200999) / 1000 else 10000) } }

def execCourierSend (r : Request) (s : State) : Host.Outcome State Fault Refusal := s.act (hostCmd cmdCourierSend r)

/-- COURIER_SEND_COMPLETE: a send that is acknowledged, out of retries or, for WAKE, answered by its target completes; so does
one whose bound has passed, wherever its packet stands (R297, R306, R313). -/
def courierSendComplete (slot ref : Nat) (d : Dev) : Dev :=
  match d.longIs slot ref 0x0502 with
  | none => d
  | some l =>
    let mine := fun (p : Packet) => p.slot = slot && p.ref = ref && (p.kind = 2 || !p.device)
    let late := decide (msU l.bound ≤ d.since l.since)
    let c := d.cour
    let ended := c.ended.find? mine
    let found := match ended with
      | some p => if p.kind ≠ 2 || p.acked || late then some p else none
      | none => if late then (c.queue ++ c.waiting.toList ++ c.air.toList).find? mine else none
    match found with
    | none => d
    | some p =>
      let d1 := (d.updCour (fun x =>
        { x with ended := x.ended.filter (fun q => !mine q), queue := x.queue.filter (fun q => !mine q)
                 waiting := x.waiting.filter (fun q => !mine q) })).withdrawRequest .courier slot ref
      d1.complete l (okBody p.completion)

def execCourierSendComplete (slot ref : Nat) (s : State) : Host.Outcome State Fault Refusal :=
  s.act (courierSendComplete slot ref)

/-! ### COURIER_STATE_SET and COURIER_STATS_GET (Table CU-10) -/

def cmdCourierStateSet : CmdSpec :=
  { opcode := 0x0503, len := len 4, denied := onlyS0, nvm := fun _ _ => true, shared := false,
    bad := fun _ r => firstBad r.body
      [.rg 0 (rq r 0 1 ≤ 2 || rq r 0 1 = 4), .rg 1 (rq r 1 1 = 1 || rq r 1 1 = 2 || rq r 1 1 = 4), .rs 2 2],
    notReady := courierWait,
    run := fun d r =>
      if rq r 0 1 ≠ 0 && d.get pCourierProfile = 0 then refuse d (fail .state)
      else
        let d1 := d.setNv pCourierReturnState 0 (rq r 1 1)
        let d2 := if d1.cour.air.isSome && rq r 0 1 ≠ 0 then d1 else
          (d1.updCour (fun c => { c with air := none })).courierState (rq r 0 1) false
        { dev := d2, reply := okBody (e8 (rq r 0 1) ++ e8 (rq r 1 1)) } }

def execCourierStateSet (r : Request) (s : State) : Host.Outcome State Fault Refusal := s.act (hostCmd cmdCourierStateSet r)

def cmdCourierStatsGet : CmdSpec :=
  { opcode := 0x0504, len := len 4,
    denied := fun _ r => rq r 0 1 = 0 && r.slot ≠ 0,
    bad := fun _ r => firstBad r.body [.rg 0 (rq r 0 1 ≤ 1), .rs 1 3],
    run := fun d r =>
      let x := nth d.cour.stats (if rq r 0 1 = 0 then 8 else r.slot)
      { dev := d, reply := okBody (e32 x.tx ++ e32 x.rx ++ e32 x.retries ++ e32 x.crcFail ++ e32 x.tagFail ++
          e32 x.deferrals ++ e32 x.lostToCal) } }

def execCourierStatsGet (r : Request) (s : State) : Host.Outcome State Fault Refusal := s.act (hostCmd cmdCourierStatsGet r)

/-! ### Hop slots and transmissions (R294 to R297, R302, R304, R305) -/

/-- A BREAK that the unit's first FALLBACK is to carry enters the queue (R436). -/
def Dev.queueBreak (d : Dev) : Dev :=
  match d.link.breakDue with
  | some body => (d.queueFallback 8 body).updLink (fun k => { k with breakDue := none })
  | none => d

/-- HOP_SLOT_START: the radio moves to the slot's channel, and the next packet that fits starts after `rssi` (1/64 dBm) is
measured (R294 to R296, R305). -/
def hopSlotStart (rssi : Int) (d : Dev) : Dev :=
  if !d.pwr.courierUp || d.get pCourierProfile = 0 then d else
  let d1 := d.updCour (fun c => { c with hop := d.hopSlot, hopAt := d.time })
  (d1.dutyFree.queueBreak).startNext rssi

def execHopSlotStart (rssi : Int) (s : State) : Host.Outcome State Fault Refusal := s.act (hopSlotStart rssi)

/-- COURIER_DEFER_EXPIRY: the random deferral has ended and the channel is measured again (R296). -/
def courierDeferExpiry (rssi : Int) (d : Dev) : Dev :=
  if d.cour.queue.any (fun p => p.notBefore ≠ 0 && p.notBefore ≤ d.time) then d.startNext rssi else d

def execCourierDeferExpiry (rssi : Int) (s : State) : Host.Outcome State Fault Refusal := s.act (courierDeferExpiry rssi)

/-- COURIER_PACKET_END: the packet on air has ended and is charged; one that asks for an ACK waits for it, any other is done
with, and the radio returns to its return state. A class whose airtime holds no further such packet has reached its limit (R297,
R302, R304). -/
def courierPacketEnd (d : Dev) : Dev :=
  match d.cour.air with
  | none => d
  | some p =>
    let n := if p.kind = 2 then p.airUs / max 1 (d.airtimeUs p.channel p.payload.length) else 1
    let q : Packet := { p with used := p.used + p.airUs }
    let sub := d.subBand p.channel
    let d0 := d.chargeAir p.cls sub p.airUs
    let d1 := ((if d0.hasAir p sub p.airUs then d0 else d0.dutyLimit p.cls sub).countAir p
      (fun s => { s with tx := sat 4294967295 (s.tx + n) })).updCour (fun c => { c with air := none })
    if p.ackReq then
      (d1.updCour (fun c => { c with waiting := some { q with notBefore := d.time + usU (700 + d.airtimeUs p.channel 0) } })).courierState 2 false
    else if p.kind = 1 then (if d1.cour.waiting.isSome then d1.courierState 2 false else d1.courierReturn)
    else (d1.endPacket q).courierReturn

def execCourierPacketEnd (s : State) : Host.Outcome State Fault Refusal := s.act courierPacketEnd

/-- COURIER_ACK_TIMEOUT: without an ACK in its time the packet is sent again, up to COURIER_RETRIES retries (R297). -/
def courierAckTimeout (d : Dev) : Dev :=
  match d.cour.waiting with
  | none => d
  | some p =>
    if d.time < p.notBefore then d else
    let d1 := d.updCour (fun c => { c with waiting := none })
    let d2 := if p.tries ≤ d.getN pCourierRetries then d1.retryPacket p else d1.endPacket p
    d2.courierReturn

def execCourierAckTimeout (s : State) : Host.Outcome State Fault Refusal := s.act courierAckTimeout

/-! ### Receptions (R293, R297 to R300, R306, R313) -/

/-- An accepted ACK ends the packet that waits for it; 16 strong first-try ACKs in a row lower the peer's step (R300). -/
def Dev.takeAck (d : Dev) (b : List Byte) (rssi : Int) : Dev :=
  match d.cour.waiting with
  | none => d
  | some p =>
    let u := fld b 2 1 % 8
    if p.counter ≠ fld b 6 4 || p.dest ≠ u then d else
    let run := if p.tries = 1 && -5760 < rssi then (nth d.cour.peers u).firstTries + 1 else 0
    let d1 := d.updPeer u (fun x => { x with firstTries := if 16 ≤ run then 0 else run })
    let d2 := if 16 ≤ run then d1.set pCourierStep u (d1.getN pCourierStep u - 1 : Nat) else d1
    (d2.updCour (fun c => { c with waiting := none })).endPacket { p with acked := true, rssi := rssi }

/-- Received DATA raises COURIER_RECEIVED for the slot with its number (R306). -/
def Dev.takeData (d : Dev) (b : List Byte) (antennaB : Bool) : Dev :=
  let slot := fld b 10 1
  let n := fld b 11 1
  if 7 < slot || 16 < n then d else
  let d1 := d.updCour (fun c => { c with stats := upd c.stats slot (fun s => { s with rx := inc32 s.rx }) })
  d1.raiseSlot slot 0x0580 (e8 (fld b 2 1 % 8) ++ e8 n ++ padTo 16 (slice b 12 n) ++ eb antennaB ++ zs 1)

/-- An awake unit reports a WAKE train once and answers in its next slot (R313). -/
def Dev.takeWake (d : Dev) (b : List Byte) (rssi : Int) (verified : Bool) : Dev :=
  let u := fld b 2 1 % 8
  let train := usU (d.getN pCourierSniffInterval + 50000)
  if (match (nth d.cour.peers u).wakeAt with
      | some t => decide (d.since t < train)
      | none => false) then d else
  let d1 := (d.updPeer u (fun x => { x with wakeAt := some d.time })).wakeReceived b rssi verified
  if d1.isFollower then d1.queueFallback 9 d1.statusBody else d1.queueBeacon

/-- The waybill messages of a FALLBACK: CLOCK reaches a follower, STATUS the head (R436). -/
def Dev.takeFallback : Nat → List Byte → Dev → Dev
  | 0, _, d => d
  | k + 1, m, d =>
    let n := fld m 1 1
    let body := slice m 2 n
    if m.length < 2 + n || fld m 0 1 = 0 then d else
    let d1 := if fld m 0 1 = 1 then clockMessage body d
      else if fld m 0 1 = 9 && d.get pChainRole = 1 then d.takeStatus body else d
    Dev.takeFallback k (m.drop (2 + n)) d1

/-- WAKEs that wait for a packet of a unit are answered by it (Table CU-10). -/
def Dev.answerWakes (d : Dev) (u : Nat) : Dev :=
  d.updCour (fun c => { c with ended := c.ended.map (fun p =>
    if p.kind = 2 && (p.broadcast || p.dest = u) then { p with acked := true } else p) })

/-- The ACK of an accepted packet, in the device's own airtime (R287, R297, R304). -/
def Dev.sendAck (d : Dev) (b : List Byte) : Dev :=
  let u := fld b 2 1 % 8
  let c := d.hopChannel d.cour.hop
  let sub := d.subBand c
  let p : Packet := { kind := 1, dest := u, counter := fld b 6 4 }
  if !d.courierSends || d.cour.air.isSome || (nth d.cour.cal c).isNone then d
  else if !d.hasAir p sub (d.airtimeUs c 0) then d.dutyLimit 8 sub
  else match d.stepFor c (d.getN pCourierStep u) with
  | some step => d.transmit p c step
  | none => d

/-- A packet received while the radio listens. -/
def Dev.takePacket (d : Dev) (b : List Byte) (rssi : Int) (antennaB : Bool) (sync : Nat) : Dev :=
  let check := d.packetCheck b
  let kind := fld b 1 1
  let src := fld b 2 1 % 8
  if check = 1 then d.countDev (fun s => { s with crcFail := inc32 s.crcFail })
  else if check = 4 then
    let d1 := d.countDev (fun s => { s with tagFail := inc32 s.tagFail })
    if kind = 2 && d1.courierKey.isSome then d1.takeWake b rssi false else d1
  else if check ≠ 0 then d else
  let d1 := ((d.heardFrom b rssi antennaB).answerWakes src).countDev (fun s => { s with rx := inc32 s.rx })
  let d2 := match kind with
    | 0 => d1.takeData b antennaB
    | 1 => d1.takeAck b rssi
    | 2 => d1.takeWake b rssi true
    | 3 => if d1.isFollower && src = 0 then
        d1.updCour (fun c => { c with hopOffset := (fld b 10 8 : Int) - sync }) else d1
    | 4 => Dev.takeFallback 48 (slice b 10 (fld b 0 1)) d1
    | _ => d1
  if bit (fld b 3 1) 0 && kind ≠ 1 && kind ≠ 2 && !bit (fld b 2 1) 6 then d2.sendAck b else d2

/-- COURIER_PACKET_RECEIVE: a packet heard in RX, as it is on air from its length byte, with its RSSI (1/64 dBm), the antenna
the diversity chose, and this unit's TKC at its sync word (R291 to R293, R298, R299, R302). -/
def courierPacketReceive (air : List Byte) (rssi : Int) (antennaB : Bool) (sync : Nat) (d : Dev) : Dev :=
  if d.pwr.state ≠ .active || !d.pwr.courierUp || d.get pCourierState ≠ 2 then d else
  let d1 := d.takePacket (whiten air) rssi (antennaB && d.getB pCourierDiversity) sync
  if d1.cour.air.isSome || d1.cour.waiting.isSome then d1 else d1.courierReturn

def execCourierPacketReceive (air : List Byte) (rssi : Int) (antennaB : Bool) (sync : Nat) (s : State) :
    Host.Outcome State Fault Refusal := s.act (courierPacketReceive air rssi antennaB sync)

/-- BEACON_SEND: every 1 s the head of a chain whose link is up queues a BEACON (R298). -/
def beaconSend (d : Dev) : Dev :=
  if d.get pChainRole = 1 && d.portIds.any d.portUp && !d.cour.queue.any (fun p => p.device && p.kind = 3) then d.queueBeacon else d

def execBeaconSend (s : State) : Host.Outcome State Fault Refusal := s.act beaconSend

/-! ### Sniffing and waking (R307, R308, R313) -/

/-- SNIFF_CYCLE: each sniff interval the wake channels are sampled; `heard` is what follows a preamble and sync, as on air,
with its RSSI. From WATCH it wakes the unit with its packet kept; from SLEEP only a verified WAKE does (R307, R308). -/
def sniffCycle (heard : Option (List Byte × Int)) (d : Dev) : Dev :=
  match heard with
  | none => d
  | some (air, rssi) =>
    let b := whiten air
    if !d.sniffs || !d.wakeNames b then d else
    if d.pwr.state = .watch then
      (d.updCour (fun c => { c with wake := some (b, rssi) })).wake 3
    else
      let check := d.packetCheck b
      let d1 := if check = 1 then d.countDev (fun s => { s with crcFail := inc32 s.crcFail })
        else if check = 4 then d.countDev (fun s => { s with tagFail := inc32 s.tagFail }) else d
      if d.pwr.state = .sleep then
        if check = 0 then ((d1.heardFrom b rssi false).wakeReceived b rssi true).wake 3 else d1
      else if check = 0 then ((d1.heardFrom b rssi false).answerWakes (fld b 2 1 % 8)).takeWake b rssi true
      else if check = 4 then d1.takeWake b rssi false else d1

def execSniffCycle (heard : Option (List Byte × Int)) (s : State) : Host.Outcome State Fault Refusal := s.act (sniffCycle heard)

/-- COURIER_WAKE_REWATCH: 10 s after a wake whose check failed the unit enters WATCH again, unless a session has opened or
another source has fired (R308). -/
def courierWakeRewatch (d : Dev) : Dev :=
  match d.cour.rewatch with
  | none => d
  | some t =>
    if d.slots.any (fun s => s.session.isSome) then d.updCour (fun c => { c with rewatch := none })
    else if d.since t < secU 10 || d.pwr.state ≠ .active then d
    else (d.updCour (fun c => { c with rewatch := none })).startOrderly 0 3 none

def execCourierWakeRewatch (s : State) : Host.Outcome State Fault Refusal := s.act courierWakeRewatch

/-! ### Background calibration (R303, R314) -/

/-- The channel whose entry is furthest from the temperature by more than 10 °C; an invalid entry counts as furthest. -/
def Dev.calDue (d : Dev) : Option Nat :=
  let t := d.courierTemp
  let far := fun c => match nth d.cour.cal c with
    | some x => (t - x).natAbs
    | none => 65536
  (List.range d.channels).foldl (fun a c => match a with
    | some k => if far k < far c then some c else a
    | none => if 160 < far c then some c else none) none

/-- COURIER_CAL_STEP: between packets, in IDLE or RX, the entry furthest from the temperature is calibrated again when the step
ends 300 µs before the hop boundary; `lost` tells that a reception began during the step (R303, R314). -/
def courierCalStep (ok lost : Bool) (d : Dev) : Dev :=
  if (d.get pCourierState ≠ 1 && d.get pCourierState ≠ 2) || !d.pwr.courierUp || !d.courierFree || d.cour.queue ≠ [] ||
    49450 < toUs (d.since d.cour.hopAt) then d else
  match d.calDue with
  | none => d
  | some c =>
    let d1 := d.calChannel c ok
    if lost then d1.countDev (fun s => { s with lostToCal := inc32 s.lostToCal }) else d1

def execCourierCalStep (ok lost : Bool) (s : State) : Host.Outcome State Fault Refusal := s.act (courierCalStep ok lost)

/-! ### The fallback path (R312, R436) -/

/-- Since when the link towards a unit of the chain is down; none while it is up. -/
def Dev.linkGone (d : Dev) (u : Nat) : Option Nat :=
  if d.get pChainRole = 1 then
    match d.member u with
    | some m => if u ≠ 0 && !d.portUp m.port then some ((d.port m.port).downSince.getD 0) else none
    | none => none
  else if d.isFollower && u = 0 && d.link.pathLost then some ((d.port 0).downSince.getD 0) else none

/-- COURIER_PEER_SILENT: a chain peer whose link is down has sent nothing for 5 s; reported again every 60 s (R312). -/
def courierPeerSilent (unit : Nat) (d : Dev) : Dev :=
  match (if unit < 8 then d.linkGone unit else none) with
  | none => d
  | some t =>
    let x := nth d.cour.peers unit
    let again := match x.silentAt with
      | some r => decide (secU 60 ≤ d.since r)
      | none => true
    if d.since (max t x.heard) < secU 5 || !again then d else
    (d.updPeer unit (fun p => { p with silentAt := some d.time })).raiseDev 0x0581
      (e8 unit ++ zs 3 ++ e32 (min 4294967295 (toMs (d.since x.heard))))

def execCourierPeerSilent (unit : Nat) (s : State) : Host.Outcome State Fault Refusal := s.act (courierPeerSilent unit)

/-- FALLBACK_STATUS_TIMER: every 2 s of a loss a unit that has lost its path to the head sends STATUS, and the head sends CLOCK
to all (R436). -/
def fallbackStatusTimer (d : Dev) : Dev :=
  if d.isFollower then (if d.link.pathLost then d.queueFallback 9 d.statusBody else d)
  else if (List.range 8).any (fun u => (d.linkGone u).isSome) then d.queueFallback 1 d.clockBody else d

def execFallbackStatusTimer (s : State) : Host.Outcome State Fault Refusal := s.act fallbackStatusTimer

/-! ### Start-up (R194) -/

/-- COURIER_ENABLE: the radio is enabled, SUBSYS_UP bit 4 set; under a profile its channels are calibrated and it goes to its
return state (R194, R303). -/
def courierEnable (failed : List Nat) (d : Dev) : Dev :=
  if d.pwr.state ≠ .active || d.pwr.courierUp then d else
  let d1 := (d.updPwr (fun p => { p with courierUp := true })).subsys 4 true
  if d1.get pCourierProfile = 0 then d1 else
  ((d1.calProfile failed).startSteps).courierState (d1.getN pCourierReturnState) false

def execCourierEnable (failed : List Nat) (s : State) : Host.Outcome State Fault Refusal := s.act (courierEnable failed)

end Sys2Proof.Machine
end

