-- ==== Sys2Proof/Machine/Debug.lean ====
section
/-! DEFINITION. The test access port and the debug port (R607 to R615). A row of the table is one instruction with one scan of
its data register: what shifts out stands in `Tap.captured`, a boundary register as one byte per cell. -/

namespace Sys2Proof.Machine

/-- The pins may be driven by the TAP: RESET_N low, or the debug port unlocked (R608). -/
def Dev.tapMayDrive (d : Dev) : Bool := !d.pins.resetN || d.dbg.unlocked

/-- An instruction selected with what its data register captures. One that drives pins does so under R608 only, and is BYPASS at
any other time; leaving such an instruction ends its hold on the reset release (R615). -/
def Dev.tapSelect (d : Dev) (code : Nat) (drives : Bool) (captured : List Byte) : Dev :=
  let ok := !drives || d.tapMayDrive
  { d with tap := { d.tap with instr := if ok then code else 0x1F, driving := drives && d.tapMayDrive
                               captured := if ok then captured else e8 0 } }

/-! ### Boundary scan (R607 to R609) -/

/-- The value of IDCODE (R609). -/
def Dev.idcode (d : Dev) : Nat :=
  d.factory.stepping % 16 * 268435456 + (if d.factory.variantH then 0xD082 else 0xD081) * 4096 + 0x2B7 * 2 + 1

def tapIdcode (d : Dev) : Dev := d.tapSelect 0x02 false (e32 d.idcode)

def execTapIdcode (s : State) : Host.Outcome State Fault Refusal := s.act tapIdcode

/-- The codes of Table EC-18 other than BYPASS. -/
def tapCodes : List Nat := [0x00, 0x01, 0x02, 0x03, 0x04, 0x10, 0x11, 0x12, 0x13, 0x14]

/-- TAP_BYPASS: BYPASS or a code not listed. A listed code is another row's instruction. -/
def tapBypass (code : Nat) (d : Dev) : Dev := if tapCodes.contains code then d else d.tapSelect 0x1F false (e8 0)

def execTapBypass (code : Nat) (s : State) : Host.Outcome State Fault Refusal := s.act (tapBypass code)

/-- One byte per boundary cell. -/
def tapBytes (cells : List Bool) : List Byte := (cells.map eb).flatten

/-- TAP_SAMPLE_PRELOAD: the pins are sampled always, the cells preloaded under R608. -/
def tapSamplePreload (pins preload : List Bool) (d : Dev) : Dev :=
  let d1 := d.tapSelect 0x01 false (tapBytes pins)
  if d.tapMayDrive then { d1 with tap := { d1.tap with cells := preload } } else d1

def execTapSamplePreload (pins preload : List Bool) (s : State) : Host.Outcome State Fault Refusal :=
  s.act (tapSamplePreload pins preload)

/-- TAP_EXTEST: the pins are driven from the cells shifted in. -/
def tapExtest (cells : List Bool) (d : Dev) : Dev :=
  let d1 := d.tapSelect 0x00 true (tapBytes d.tap.cells)
  if d.tapMayDrive then { d1 with tap := { d1.tap with cells := cells } } else d1

def execTapExtest (cells : List Bool) (s : State) : Host.Outcome State Fault Refusal := s.act (tapExtest cells)

def tapClamp (d : Dev) : Dev := d.tapSelect 0x03 true (e8 0)

def execTapClamp (s : State) : Host.Outcome State Fault Refusal := s.act tapClamp

def tapHighz (d : Dev) : Dev := d.tapSelect 0x04 true (e8 0)

def execTapHighz (s : State) : Host.Outcome State Fault Refusal := s.act tapHighz

/-! ### The debug port (R610 to R614) -/

def dbgStatus (d : Dev) : Dev := d.tapSelect 0x10 false (e32 d.dbgStatus)

def execDbgStatus (s : State) : Host.Outcome State Fault Refusal := s.act dbgStatus

/-- DBG_CHALLENGE: a fresh nonce and the serial, pending for 60 s; zeros during a lockout (R611, R612). -/
def dbgChallenge (d : Dev) : Dev :=
  if 0 < d.dbgLockLeft || !d.powered then d.tapSelect 0x11 false (zs 32) else
  let (nonce, d1) := d.draw 16
  (d1.updDbg (fun g => { g with nonce := some (nonce, d1.time) })).tapSelect 0x11 false (nonce ++ padTo 16 d1.factory.serial)

def execDbgChallenge (s : State) : Host.Outcome State Fault Refusal := s.act dbgChallenge

/-- The token of an unlock: 16 bytes of HMAC-SHA-256 under S0's credential over ZS8-DBG, the serial, the nonce and expiry
(R611). -/
def Dev.dbgToken (d : Dev) (nonce : List Byte) (expiry : Nat) : List Byte :=
  (hmac (d.slotN 0).credential
    (ascii [0x5A, 0x53, 0x38, 0x2D, 0x44, 0x42, 0x47] ++ padTo 16 d.factory.serial ++ nonce ++ e32 expiry)).take 16

/-- The conditions of an unlock (R611). -/
def Dev.dbgOpens (d : Dev) (expiry : Nat) (token : List Byte) : Bool :=
  match d.dbgPending with
  | some nonce => d.powered && d.get pSlotState 0 = 2 && d.wallValid && decide (d.effTime < expiry) &&
      decide (expiry ≤ d.effTime + 86400) && decide (token = d.dbgToken nonce expiry)
  | none => false

/-- DBG_UNLOCK: it ends the pending challenge; the port unlocks, or the failure counts and the third in a row starts the lockout
of 600 s (R611, R612). -/
def dbgUnlock (expiry : Nat) (token : List Byte) (d : Dev) : Dev :=
  let d1 := (d.updDbg (fun g => { g with nonce := none })).tapSelect 0x12 false (zs 20)
  if d.dbgOpens expiry token then
    let d2 : Dev := { d1 with ao := { d1.ao with dbgFails := 0, dbgLockEnd := none } }
    (d2.updDbg (fun g => { g with unlocked := true, expiry := expiry, ops := 0, result := 0, raw := List.replicate 9 {} })).rawRecord 0
  else
    let n := min 255 (d1.ao.dbgFails + 1)
    { d1 with ao := { d1.ao with
        dbgFails := n, dbgLockEnd := if 3 ≤ n && d1.dbgLockLeft = 0 then some (d1.time + secU 600) else d1.ao.dbgLockEnd } }

def execDbgUnlock (expiry : Nat) (token : List Byte) (s : State) : Host.Outcome State Fault Refusal :=
  s.act (dbgUnlock expiry token)

/-- The five pin levels of operation 5, in the order of Table RL-4. -/
def rawPins (arg : Nat) : LanePins :=
  { paEn := bit arg 0, tr := bit arg 1, lnaEn := bit arg 2, antRx := bit arg 3, antTx := bit arg 4 }

/-- A lane's pins as operation 7 finds them. -/
def pinBits (p : LanePins) : Nat := flags [p.paEn, p.tr, p.lnaEn, p.antRx, p.antTx]

/-- What an operation does to the lane's overlay (R613). -/
def RawLane.apply (x : RawLane) (op arg : Nat) : RawLane :=
  if op = 1 then { x with freq := some arg }
  else if op = 2 then { x with state := some arg }
  else if op = 3 then { x with rfCode := some arg }
  else if op = 4 then { x with tx := some (arg % 256, signExt 2 (arg / 256 % 65536)) }
  else if op = 5 then { x with pins := if bit arg 8 then some (rawPins arg) else none }
  else if op = 6 then { x with mute := some (bit arg 0) }
  else x

/-- The result of an operation, whose layout the manual gives for no operation: a free value of what the operation finds (log
entry 62). -/
def Dev.rawResult (d : Dev) (l op arg : Nat) : Nat :=
  if op = 7 then
    let x := d.rawLane l
    Config.rawResult 7 [x.state.getD (d.laneState l), x.freq.getD (d.getN pLaneFreq l), pinBits (d.pinsNow l)]
  else Config.rawResult op [l, arg]

/-- DBG_ACCESS: what shifts out is the result of the operation before; one raw operation is carried out while the port is
unlocked, and one on a lane the part lacks does nothing and gives zero (R610, R613). -/
def dbgAccess (lane op arg : Nat) (d : Dev) : Dev :=
  let d1 := d.tapSelect 0x13 false (zs 2 ++ e64 (if d.dbg.unlocked then d.dbg.result else 0) ++ zs 2)
  if !d.dbg.unlocked then d1 else
  let l := if lane = 15 then 8 else lane
  if lane ≠ 15 && !d.hasLane lane then d1.updDbg (fun g => { g with ops := inc32 g.ops, result := 0 })
  else
    d1.updDbg (fun g => { g with
      ops := inc32 g.ops, result := d.rawResult l op arg % 18446744073709551616, raw := upd g.raw l (fun x => x.apply op arg) })

def execDbgAccess (lane op arg : Nat) (s : State) : Host.Outcome State Fault Refusal := s.act (dbgAccess lane op arg)

def dbgRelock (d : Dev) : Dev := d.relock.tapSelect 0x14 false (e8 0)

def execDbgRelock (s : State) : Host.Outcome State Fault Refusal := s.act dbgRelock

/-- TRST_N_LOW: the instruction is IDCODE and the port locks (R607, R610). -/
def trstNLow (d : Dev) : Dev :=
  let d1 := d.relock
  { d1 with tap := { d1.tap with instr := 0x02, driving := false } }

def execTrstNLow (s : State) : Host.Outcome State Fault Refusal := s.act trstNLow

/-- DBG_EXPIRY: E has reached the expiry (R614). -/
def dbgExpiry (d : Dev) : Dev := if d.dbg.unlocked && d.dbg.expiry ≤ d.effTime then d.relock else d

def execDbgExpiry (s : State) : Host.Outcome State Fault Refusal := s.act dbgExpiry

/-- DBG_CHALLENGE_LAPSE: a challenge 60 s old is pending no more (R611). -/
def dbgChallengeLapse (d : Dev) : Dev := if d.dbgPending.isSome then d else d.updDbg (fun g => { g with nonce := none })

def execDbgChallengeLapse (s : State) : Host.Outcome State Fault Refusal := s.act dbgChallengeLapse

/-- DBG_LOCKOUT_EXPIRY: the 600 s are over (R612). -/
def dbgLockoutExpiry (d : Dev) : Dev := if 0 < d.dbgLockLeft then d else { d with ao := { d.ao with dbgLockEnd := none } }

def execDbgLockoutExpiry (s : State) : Host.Outcome State Fault Refusal := s.act dbgLockoutExpiry

end Sys2Proof.Machine
end

