-- ==== Sys2Proof/Machine/Survey.lean ====
section
/-! DEFINITION. The survey family: spectrum scans, cell searches, isolation probes, their results, and the CELL reference
captures (chapter 15). -/

namespace Sys2Proof.Machine

/-- The survey commands wait for lane calibration, ahead of every refusal of Table SV-6 (Table PS-4, R490). -/
def surveyWait (d : Dev) (_ : Request) : Option Nat := d.waitFor d.pwr.lanesCal 1200 none

/-- A receiver field: the SCAN lane or a lane. -/
def isReceiver (v : Nat) : Bool := v < 8 || v = 255

/-- A lane that is not the session slot's, once the commands are ready. -/
def surveyDenied (d : Dev) (r : Request) (v : Nat) : Bool := notOwner d r.slot v && (surveyWait d r).isNone

/-- The bound of R472 for a SCAN job of `total` ticks and a reservation of `res`. -/
def scanBound (total res : Nat) : Nat :=
  if res = 0 then 600000 else 1000 * ((total + res - 1) / res + 1) + 50

/-- An accepted survey job: its survey_id taken and the command open (R475). -/
def Dev.openSurvey (d : Dev) (x : Survey) : Dev :=
  let id := nth d.sv.next x.slot
  let d1 : Dev := { d with sv := { d.sv with jobs := d.sv.jobs ++ [{ x with id := id, since := d.time }],
                                             next := upd d.sv.next x.slot (fun n => n + 1) } }
  d1.set pSurveyOpen x.slot (d1.surveyCount x.slot : Nat)

/-- The lane a job receives with joins it in LISTEN on the antenna asked, and its capture begins at once; a SCAN job asks
for its ticks (R470, R471). -/
def Dev.launch (d : Dev) (slot ref : Nat) (service : Bool) : Dev :=
  match d.survey slot ref with
  | none => d
  | some x =>
    if x.rx = 255 then d.request .scan slot ref x.need
    else
      let d1 := d.takeLane x.rx slot ref (d.getN pLaneFreq x.rx) (d.getN pLaneRate x.rx) 4 (service, true)
      d1.beginCapture x

/-! ### SCAN_START (R476 to R478) -/

/-- The channel a lane is tuned to, as its lower and upper end. -/
def Dev.laneSpan (d : Dev) (l : Nat) : Nat × Nat :=
  (d.getN pLaneFreq l - halfBand (d.getN pLaneRate l), d.getN pLaneFreq l + halfBand (d.getN pLaneRate l))

/-- Scheduler ticks of one segment: 40 µs and the captures, in whole ticks (R477). -/
def segmentTicks (fs n averages : Nat) : Nat :=
  let units := averages * n * (245760000 / fs)
  (98304 + 10 * units + 614399) / 614400

/-- The arguments of a scan that chapter 15 bounds: the span inside the tuning range and the lane's channel, the RBW a lane
can give, and no more points than the span has bins (R476 to R478). -/
def Dev.scanArgs (d : Dev) (q : List Byte) : Bool :=
  let rx := fld q 0 1
  let a := fld q 4 8
  let b := fld q 12 8
  let fs := d.scanRate rx (fld q 20 4)
  decide (380000000 ≤ a ∧ b ≤ 7125000000 ∧ fld q 26 2 * fs ≤ (b - a) * scanFft fs (fld q 20 4)) &&
    (rx = 255 || decide (d.getN pLaneFreq rx ≠ 0 ∧ (d.laneSpan rx).1 ≤ a ∧ b ≤ (d.laneSpan rx).2 ∧
      fs ≤ fld q 20 4 * 32768))

/-- The job of a scan: its segments, the ticks of one and of all, and its estimate (R473, R477). -/
def Dev.scanJob (d : Dev) (q : List Byte) : Job × Nat × Nat × Nat :=
  let rx := fld q 0 1
  let fs := d.scanRate rx (fld q 20 4)
  let n := scanFft fs (fld q 20 4)
  let span := 160000000 * fs / 245760000
  let segs := if rx = 255 then (fld q 12 8 - fld q 4 8 + span - 1) / span else 1
  let need := segmentTicks fs n (fld q 24 2)
  let total := if rx = 255 then segs * need else 0
  let captureUs := fld q 24 2 * n * 1000000 / fs
  ({ opcode := 0x0B01
     estimate := if rx = 255 then (1350 * total + 3999) / 4000 else (380 * captureUs + 999999) / 1000000
     duration := if rx = 255 then 250 * total else captureUs
     lanes := if rx = 255 then [] else [rx], scan := rx = 255 }, segs, need, total)

def cmdScanStart : CmdSpec :=
  { opcode := 0x0B01, len := len 32, long := true,
    lacks := fun d r => lacksLane d (rq r 0 1), denied := fun d r => surveyDenied d r (rq r 0 1),
    bad := fun _ r => firstBad r.body
      [.rg 0 (isReceiver (rq r 0 1)), .rg 1 (rq r 1 1 ≤ 1), .rg 12 (decide (rq r 4 8 < rq r 12 8 ∧ rq r 12 8 ≤ rq r 4 8 + 6745000000)),
       .rg 20 (1000 ≤ rq r 20 4 && rq r 20 4 ≤ 1000000), .rg 24 (1 ≤ rq r 24 2 && rq r 24 2 ≤ 1024),
       .rg 26 (2 ≤ rq r 26 2 && rq r 26 2 ≤ 16384), .rg 28 (rq r 28 1 ≤ 3), .rs 29 3],
    notReady := surveyWait,
    run := fun d r =>
      let rx := rq r 0 1
      let (job, segs, need, total) := d.scanJob r.body
      let res := shareUnits .scan (d.share r.slot 1)
      if 4 ≤ d.surveyCount r.slot then refuse d (fail .busy)
      else if rx ≠ 255 && !d.laneServes rx then refuse d (fail .state)
      else if d.get pThermalState = 2 then refuse d (fail .thermal)
      else if !d.scanArgs r.body then refuse d (fail .badArg)
      else
        if rx = 255 && d.get pMode = 0 && res < need then refuse d (fail .wouldExceed)
        else match d.startJob r.slot (rq r 2 2) job with
        | .error rep => refuse d rep
        | .ok (h, d1) =>
          let bound := if rx = 255 then scanBound total res else 1050
          let d2 := d1.openSurvey
            { slot := r.slot, ref := r.ref, kind := 1, job := h, bound := bound, rx := rx, body := r.body, need := need
              total := total, segments := segs, held := if rx = 255 then [] else [d1.laneHeld rx] }
          { dev := d2.launch r.slot r.ref (bit (rq r 28 1) 0), reply := accepted bound } }

def execScanStart (r : Request) (s : State) : Host.Outcome State Fault Refusal := s.act (hostCmd cmdScanStart r)

/-- The segment that holds point `i` of a scan: points stand evenly from f_start to f_stop (R476, R478). -/
def pointSegment (a b points span segs i : Nat) : Nat :=
  min (segs - 1) ((b - a) * i / ((points - 1) * span))

/-- SCAN_SEGMENT_DONE: a granted capture of one segment ends and its points are formed; an invalid one reads −32,768 and
is reported; the next segment asks for its ticks, unless the reservation no longer holds it in BRIDGE mode (R47, R477,
R478). -/
def scanSegmentDone (slot ref : Nat) (m : ScanCapture) (d : Dev) : Dev :=
  match d.survey slot ref with
  | none => d
  | some x =>
    if x.kind ≠ 1 || x.start.isNone then d else
    let a := fld x.body 4 8
    let b := fld x.body 12 8
    let n := fld x.body 26 2
    let span := 160000000 * d.scanRate x.rx (fld x.body 20 4) / 245760000
    let mine := ((List.range n).filter (fun i => pointSegment a b n span x.segments i = x.done)).length
    let (free, d0) := d.measure mine
    let levels := (List.range mine).map (fun i =>
      if m.invalid.isSome then -32768 else clampI (-32767) 32767 ((m.levels[i]?).getD (nth free i)))
    let d1 := (d0.endCapture x).updSurvey slot ref (fun y =>
      { y with done := y.done + 1, points := y.points + mine, data := y.data ++ (levels.map s16).flatten
               used := y.used + (if y.rx = 255 then y.need else 0)
               flags := y.flags ||| m.clipped.toNat ||| (2 * m.invalid.isSome.toNat) })
    let centre := min b (a + x.done * span + span / 2)
    let d2 := match m.invalid with
      | some c => d1.raiseSlot slot 0x0B81 (e32 x.id ++ e64 centre ++ e8 c)
      | none => d1
    if x.withdrawn then
      match d2.survey slot ref with
      | some y => d2.endSurvey y .denied false 1 4
      | none => d2
    else if x.done + 1 < x.segments then
      if d2.get pMode = 0 && shareUnits .scan (d2.share slot 1) < x.need then
        match d2.survey slot ref with
        | some y => d2.endSurvey y .wouldExceed false 1 4
        | none => d2
      else d2.request .scan slot ref x.need
    else d2

def execScanSegmentDone (slot ref : Nat) (m : ScanCapture) (s : State) : Host.Outcome State Fault Refusal :=
  s.act (scanSegmentDone slot ref m)

/-! ### CELL_SEARCH (R482) -/

/-- A lane that searches must receive 7.2 MHz around the carrier (R482). -/
def Dev.cellArgs (d : Dev) (q : List Byte) : Bool :=
  let rx := fld q 0 1
  let f := fld q 4 8
  decide (380000000 ≤ f ∧ f ≤ 7125000000) &&
    (rx = 255 || decide (d.getN pLaneFreq rx ≠ 0 ∧ (d.laneSpan rx).1 + 3600000 ≤ f ∧ f + 3600000 ≤ (d.laneSpan rx).2))

/-- The job of a cell search (R473, R482). -/
def cellJob (q : List Byte) : Job :=
  let rx := fld q 0 1
  let ms := fld q 12 4
  { opcode := 0x0B02
    estimate := if rx = 255 then (1350 * 4 * ms + 3999) / 4000 else (380 * ms + 999) / 1000
    duration := 1000 * ms, lanes := if rx = 255 then [] else [rx], scan := rx = 255 }

def cmdCellSearch : CmdSpec :=
  { opcode := 0x0B02, len := len 24, long := true,
    lacks := fun d r => lacksLane d (rq r 0 1), denied := fun d r => surveyDenied d r (rq r 0 1),
    bad := fun _ r => firstBad r.body
      [.rg 0 (isReceiver (rq r 0 1)), .rg 1 (rq r 1 1 ≤ 1),
       .rg 12 (20 ≤ rq r 12 4 && rq r 12 4 ≤ 1000), .rg 16 (rq r 16 1 ≤ rq r 1 1), .rg 17 (rq r 17 1 ≤ 1), .rs 18 6],
    notReady := surveyWait,
    run := fun d r =>
      let rx := rq r 0 1
      let need := 4 * rq r 12 4
      let res := shareUnits .scan (d.share r.slot 1)
      if 4 ≤ d.surveyCount r.slot then refuse d (fail .busy)
      else if rx ≠ 255 && !d.laneServes rx then refuse d (fail .state)
      else if d.get pThermalState = 2 then refuse d (fail .thermal)
      else if !d.cellArgs r.body then refuse d (fail .badArg)
      else if rx = 255 && d.get pMode = 0 && res < need then refuse d (fail .wouldExceed)
      else match d.startJob r.slot (rq r 2 2) (cellJob r.body) with
      | .error rep => refuse d rep
      | .ok (h, d1) =>
        let bound := if rx = 255 then scanBound need res else 1050
        let d2 := d1.openSurvey
          { slot := r.slot, ref := r.ref, kind := 2, job := h, bound := bound, rx := rx, body := r.body, need := need
            total := if rx = 255 then need else 0, held := if rx = 255 then [] else [d1.laneHeld rx] }
        { dev := d2.launch r.slot r.ref (bit (rq r 17 1) 0), reply := accepted bound } }

def execCellSearch (r : Request) (s : State) : Host.Outcome State Fault Refusal := s.act (hostCmd cmdCellSearch r)

/-- A cell put in its place, strongest first. -/
def cellInsert (c : CellFound) : List CellFound → List CellFound
  | [] => [c]
  | x :: xs => if x.power < c.power then c :: x :: xs else x :: cellInsert c xs

/-- The 32 bytes of a cell of a search (Table SV-5). -/
def cellBytes (c : CellFound) (nr : Bool) : List Byte :=
  e16 c.identity ++ eb nr ++ e8 (if nr then c.block else 255) ++ e64 c.timing ++ s16 c.power ++ s16 c.sinr ++
    s32 c.offset ++ e16 c.detections ++ e16 c.period ++ zs 8

/-- The cells of a finished capture, up to 16, strongest first; the reading is absolute when the whole capture fell while
LOCKED with GNSS or EXT selected (R480, R482). -/
def Dev.takeCells (d : Dev) (x : Survey) (m : CellCapture) : Dev :=
  let cells := (m.cells.foldr cellInsert []).take 16
  let whole := match d.clk.lockedSince, x.start with
    | some l, some t => decide (l ≤ t)
    | _, _ => false
  let abs := x.absolute && d.clk.state = .locked && (d.clk.selected = some 0 || d.clk.selected = some 3) && whole
  d.updSurvey x.slot x.ref (fun y =>
    { y with cells := cells.length, data := (cells.map (fun c => cellBytes c (fld x.body 1 1 = 1))).flatten
             flags := abs.toNat + 2 * m.clipped.toNat, used := if y.rx = 255 then y.need else 0 })

/-! ### ISOLATION_PROBE (R483 to R487) -/

/-- The permit of lowest handle, with the entry, that covers a probe channel in any direction (R483). -/
def Dev.probeEntry (d : Dev) (slot fc rate : Nat) (st : PermitState) : Option (Nat × Nat × PermitBand) :=
  (d.permits slot).findSome? (fun p =>
    if p.2.state ≠ st then none else
    (p.2.bands.zipIdx).findSome? (fun e =>
      if e.1.fStart + halfBand rate ≤ fc && fc + halfBand rate ≤ e.1.fStop then some (p.1, e.2, e.1) else none))

/-- The TX entry for an output of `level`: the first that holds it, else the last (R266, R485). -/
def Dev.probeTx (d : Dev) (l : Nat) (level : Int) : Nat :=
  match (d.lane l).table with
  | some t =>
    let es := t.tx.zip (d.lane l).comp
    ((List.range es.length).find? (fun k => match es[k]? with
      | some (e, c) => decide (level * dBUnit ≤ e.pMax * dBUnit + c)
      | none => false)).getD (es.length - 1)
  | none => 255

/-- The job of a probe: 100 ms of its lanes and of the PA at its level (R473). -/
def Dev.probeJob (d : Dev) (q : List Byte) : Job :=
  let tx := fld q 0 1
  let rx := fld q 1 1
  let core := if tx = rx then 780 else 440 + 380
  { opcode := 0x0B03, estimate := (core * 4294967296 + d.paPower32 tx (fldS q 16 2) + 42949672959) / 42949672960
    duration := 100000, lanes := if tx = rx then [tx] else [tx, rx] }

def cmdIsolationProbe : CmdSpec :=
  { opcode := 0x0B03, len := len 20, long := true,
    lacks := fun d r => lacksLane d (rq r 0 1) || lacksLane d (rq r 1 1),
    denied := fun d r => surveyDenied d r (rq r 0 1) || surveyDenied d r (rq r 1 1),
    bad := fun _ r => firstBad r.body
      [.rg 0 (rq r 0 1 < 8), .rg 1 (rq r 1 1 < 8), .rg 12 (rq r 12 1 ≤ 4),
       .rg 13 (isBool (rq r 13 1)), .rg 14 (isBool (rq r 14 1) && (rq r 0 1 ≠ rq r 1 1 || rq r 13 1 ≠ rq r 14 1)),
       .rs 15 1, .rs 18 2],
    notReady := surveyWait,
    run := fun d r =>
      let tx := rq r 0 1
      let rx := rq r 1 1
      let fc := rq r 4 8
      let rate := rq r 12 1
      let level := rqS r 16 2
      let inRange := (nth d.ranges tx).any (fun o => match o with
        | some (a, b) => decide (a + halfBand rate ≤ fc ∧ fc + halfBand rate ≤ b)
        | none => false)
      let active := d.probeEntry r.slot fc rate .active
      let lapsed := (d.probeEntry r.slot fc rate .expired).isSome || (d.probeEntry r.slot fc rate .revoked).isSome
      if 4 ≤ d.surveyCount r.slot then refuse d (fail .busy)
      else if !d.laneServes tx || !d.laneServes rx || (d.lane tx).table.isNone || (d.lane rx).table.isNone ||
          d.pwr.modeSet.isSome || d.pwr.sequence.isSome then
        refuse d (fail .state)
      else if d.get pThermalState = 2 then refuse d (fail .thermal)
      else if !inTuningRange fc rate then refuse d (fail .badArg)
      else match (if inRange then active else none) with
      | none => refuse d (fail (if inRange && lapsed then .permitExpired else .noPermit))
      | some (h, k, band) =>
        let ant := match (d.lane tx).table with
          | some t => if rq r 13 1 = 1 then t.antService else t.antDonor
          | none => 0
        if min (d.get pProbeMaxLevel) (band.maxEirp - ant) < level then refuse d (fail .badArg)
        else
          match d.startJob r.slot (rq r 2 2) (d.probeJob r.body) with
          | .error rep => refuse d rep
          | .ok (j, d1) =>
            let bound := if 400 ≤ d1.sched.left .probe r.slot then 1050 else 600000
            let d2 := d1.openSurvey
              { slot := r.slot, ref := r.ref, kind := 3, job := j, bound := bound, rx := rx, tx := tx, body := r.body
                need := 400, permit := h, entry := k
                held := if tx = rx then [d1.laneHeld tx] else [d1.laneHeld tx, d1.laneHeld rx] }
            let d3 := if tx = rx then
                d2.takeLane tx r.slot r.ref fc rate 6 (rq r 14 1 = 1, rq r 13 1 = 1)
              else
                (d2.takeLane tx r.slot r.ref fc rate 5 (false, rq r 13 1 = 1)).takeLane rx r.slot r.ref fc rate 4
                  (rq r 14 1 = 1, true)
            let (v, d4) := d3.measure 1
            let d5 := (d4.set pTxEntry tx (d4.probeTx tx level : Nat)).set pDigitalGain tx (clampI (-5120) 1536 (nth v 0))
            { dev := d5.request .probe r.slot r.ref 400, reply := accepted bound } }

def execIsolationProbe (r : Request) (s : State) : Host.Outcome State Fault Refusal := s.act (hostCmd cmdIsolationProbe r)

/-- A peak put in its place, strongest first. -/
def peakInsert (p : Nat × Int) : List (Nat × Int) → List (Nat × Int)
  | [] => [p]
  | x :: xs => if x.2 < p.2 then p :: x :: xs else x :: peakInsert p xs

/-- The power of several paths together in 1/64 dBm (R487). -/
def pathSum : List (Nat × Int) → Int
  | [] => -32768
  | p :: ps => p.2 + Config.dB64 (((p :: ps).map (fun q => Config.linear32 (q.2 - p.2))).foldl (· + ·) 0) 4294967296

/-- The figures of a finished probe: the counted paths, 12 dB or more above the correlation noise, up to 4; isolation,
i_max, noise and flags (R487, Table SV-5). -/
def Dev.probeFigures (d : Dev) (x : Survey) (m : ProbeCapture) : List Byte × List Byte :=
  let level := fldS x.body 16 2
  let iMax := level + 9856 - d.get pProbeRxNf x.rx
  let found := ((m.peaks.filter (fun p => decide (m.corrNoise + 768 ≤ p.2 ∧ p.1 ≤ 64000))).foldr peakInsert []).take 4
  let iso := level - pathSum found
  let none := found = [] || decide (iMax ≤ iso)
  let paths := if none then [] else found
  let body := s16 (if none then -32768 else clampI (-32767) 32767 iso) ++ s16 (clampI (-32768) 32767 iMax) ++
    e32 ((paths.head?.map (·.1)).getD 0) ++ e8 paths.length ++
    e8 (flags [none, m.overload, false, false, m.clipped]) ++ s16 m.noise
  (body, (paths.map (fun p => e32 p.1 ++ s16 (level - p.2) ++ zs 2)).flatten)

/-- PROBE_END: a probe on air has run its 100 ms; the mute path is asserted and its figures are formed (R485, R487). -/
def probeEnd (slot ref : Nat) (m : ProbeCapture) (d : Dev) : Dev :=
  match d.survey slot ref with
  | none => d
  | some x =>
    if x.kind ≠ 3 || x.start.isNone || x.ended then d else
    let f := d.probeFigures x m
    (d.endProbe x 0).updSurvey slot ref (fun y => { y with result := f.1, data := f.2 })

def execProbeEnd (slot ref : Nat) (m : ProbeCapture) (s : State) : Host.Outcome State Fault Refusal :=
  s.act (probeEnd slot ref m)

/-! ### Ends, SURVEY_ABORT and RESULT_FETCH (R472, R475, R490) -/

/-- SURVEY_JOB_COMPLETE: a job whose captures are done, or a finished probe or cell search, writes its completion. -/
def surveyJobComplete (slot ref : Nat) (m : CellCapture) (d : Dev) : Dev :=
  match d.survey slot ref with
  | none => d
  | some x =>
    let fin := fun (e : Dev) => match e.survey slot ref with
      | some y => e.endSurvey y (if y.withdrawn then .denied else .ok) false 0 (if y.withdrawn then 4 else 0)
      | none => e
    if x.kind = 1 then (if x.segments ≤ x.done then fin d else d)
    else if x.kind = 2 then (if x.start.isSome then fin (d.takeCells x m) else d)
    else if x.ended then fin d else d

def execSurveyJobComplete (slot ref : Nat) (m : CellCapture) (s : State) : Host.Outcome State Fault Refusal :=
  s.act (surveyJobComplete slot ref m)

/-- SURVEY_BOUND_EXPIRY: a job not finished by its bound ends with BUSY, its results kept (R472). -/
def surveyBoundExpiry (slot ref : Nat) (d : Dev) : Dev :=
  match d.survey slot ref with
  | some x => if msU x.bound ≤ d.since x.since then d.endSurvey x .busy false 1 4 else d
  | none => d

def execSurveyBoundExpiry (slot ref : Nat) (s : State) : Host.Outcome State Fault Refusal :=
  s.act (surveyBoundExpiry slot ref)

def cmdSurveyAbort : CmdSpec :=
  { opcode := 0x0B04, len := len 4,
    bad := fun _ r => firstBad r.body [.rs 2 2],
    run := fun d r =>
      match d.survey r.slot (rq r 0 2) with
      | none => refuse d (fail .badArg)
      | some x =>
        { dev := d.endSurvey x .ok true 1 4
          reply := okBody (e16 x.ref ++ eb (x.start.isSome || x.done ≠ 0)) } }

def execSurveyAbort (r : Request) (s : State) : Host.Outcome State Fault Refusal := s.act (hostCmd cmdSurveyAbort r)

def cmdResultFetch : CmdSpec :=
  { opcode := 0x0B05, len := len 12,
    bad := fun _ r => firstBad r.body [.rg 8 (1 ≤ rq r 8 2 && rq r 8 2 ≤ 1024), .rs 10 2],
    run := fun d r =>
      let id := rq r 0 4
      if d.sv.jobs.any (fun x => x.slot = r.slot && x.id = id) then refuse d (fail .state)
      else match (nth d.sv.results r.slot).find? (fun x => x.id = id) with
      | none => refuse d (fail .badArg)
      | some x =>
        let o := rq r 4 4
        if x.data.length ≤ o then refuse d (fail .badArg)
        else if 40 * d.halfDepth r.slot < rq r 8 2 then refuse d (fail .badArg)
        else
          let out := slice x.data o (rq r 8 2)
          { dev := d
            reply := { status := .ok, blk := out
                       body := e32 id ++ e8 x.kind ++ zs 3 ++ e32 x.data.length ++ e32 o ++ e16 out.length } } }

def execResultFetch (r : Request) (s : State) : Host.Outcome State Fault Refusal := s.act (hostCmd cmdResultFetch r)

/-! ### The CELL reference (R481) -/

/-- The ref that marks the unit's own CELL capture among S0's requests: no CMD index has it. -/
def cellRef : Nat := 65536

/-- A CELL capture that was not served in its 100 ms: counted, and reported at most once per 10 s. -/
def Dev.cellMissed (d : Dev) : Dev :=
  let late := (d.sv.misses.filter (fun t => d.since t < secU 10)) ++ [d.time]
  let d1 := (({ d with sv := { d.sv with misses := late } }).bump pCellRefMisses 0).withdrawRequest .scan 0 cellRef
  match d1.sv.missedAt with
  | some t => if d1.since t < secU 10 then d1 else
      ({ d1 with sv := { d1.sv with missedAt := some d1.time } }).raiseDev 0x0B82 (e32 late.length ++ e64 d1.ts)
  | none => ({ d1 with sv := { d1.sv with missedAt := some d1.time } }).raiseDev 0x0B82 (e32 late.length ++ e64 d1.ts)

/-- CELL_REF_CAPTURE: every 100 ms, the result of the capture asked for 100 ms ago is taken or counted missed, and the
next is asked for; with CELL_SOURCE naming an S0 lane the detector runs on it in LISTEN at CELL_FREQ (R481). -/
def cellRefCapture (offset : Option Int) (phase : Int) (d : Dev) : Dev :=
  let take := fun (e : Dev) => match offset with
    | some o => e.refUpdate 2 o phase
    | none => e
  if d.get pCellFreq = 0 then d.withdrawRequest .scan 0 cellRef
  else if d.get pCellSource ≠ 255 then
    let l := d.getN pCellSource
    if d.owner l = 0 && d.laneState l = 4 && d.get pLaneFreq l = d.get pCellFreq then take d else d
  else
    let asked := (d.sched.fresh ++ d.sched.queue).any (fun q => q.res = .scan && q.slot = 0 && q.ref = cellRef)
    let d1 := match d.grantOf .scan 0 cellRef with
      | some _ => take (d.withdrawRequest .scan 0 cellRef)
      | none => if asked then d.cellMissed else d
    d1.request .scan 0 cellRef 20

def execCellRefCapture (offset : Option Int) (phase : Int) (s : State) : Host.Outcome State Fault Refusal :=
  s.act (cellRefCapture offset phase)

end Sys2Proof.Machine
end

