-- ==== Sys2Proof/Machine/Ledger.lean ====
section
/-! DEFINITION. The meanings of the energy ledger: the accounting step, the battery estimates, the tiers, quotas and their
exhaustion, jobs, and the ledger's commands (R220 to R244). -/

namespace Sys2Proof.Machine

def Dev.updLed (d : Dev) (f : Ledger → Ledger) : Dev := { d with led := f d.led }

/-! ### The samples of a step -/

/-- The place of a P or B chain in the lists of a sample. -/
def meanChains : List Nat := [16, 17, 18, 19, 20, 21, 22, 23, 48, 49]

/-- POWER_1MS and MEAN_1MS over the step; an invalid window leaves its mean (Table FC-7). -/
def Dev.takeMeans (d : Dev) (m : StepSample) : Dev :=
  let d1 := (m.power.zipIdx.take 8).foldl (fun e p => e.set pPower1ms p.2 (clampI (-32768) 32767 p.1)) d
  (meanChains.zipIdx).foldl (fun e c =>
    if nth m.invalid c.2 then e else e.set pMean1ms c.1 (Int.tdiv (nth m.means c.2 * e.getN pChainFsUnits c.1) 32767)) d1

/-- HOLDUP_C: the lower of the last measurement and HOLDUP_C_DECLARED, in µF (R227). -/
def Dev.holdupC (d : Dev) : Nat := min (d.led.holdupMeasured.getD 4294967295) (d.getN pHoldupCDeclared)

/-- The energy of a capacitance between a voltage in mV and 3.0 V, in mJ. -/
def holdupMj (c v : Nat) : Nat := c * (v * v - 9000000) / 2000000000

/-- HOLDUP_ENERGY, and HOLDUP_SHORT when it falls below the 40 mJ of a flush (R227). -/
def Dev.holdup (d : Dev) : Dev :=
  let e := holdupMj d.holdupC d.pwr.vsys
  let d1 := ((d.set pHoldupC 0 (d.holdupC : Nat)).set pHoldupEnergy 0 (e : Nat)).updLed (fun l => { l with holdupShort := e < 40 })
  if e < 40 && !d.led.holdupShort then d1.raiseDev 0x0388 (e64 e ++ e16 d.pwr.vsys) else d1

/-! ### Steps 1 to 3 of R220 -/

/-- The battery energy of the step: at the last valid power where B0 or B1 is invalid, counted; after 1,000 such steps in a row
BAT_ENERGY is held at HARD_RESERVE (R220, R223, R243). Answers the energy counted. -/
def Dev.countBattery (d : Dev) (m : StepSample) : Int × Dev :=
  let bad := nth m.invalid 8 || nth m.invalid 9
  let e := if bad then d.led.lastPower else m.battery
  let d1 := if bad then d.bump pLedgerInvalidSteps 0 else d
  let quiet := (d1.get pMean1ms 49).natAbs < 100
  (e, d1.updLed (fun l =>
    { l with bat := max 0 (l.bat - e), lastPower := e, mainsCount := l.mainsCount + d.get pMainsPower
             invalidRun := if bad then min 1000 (l.invalidRun + 1) else 0
             validSince := if bad then none else some (l.validSince.getD d.time)
             invalidHold := l.invalidHold || (bad && 1000 ≤ l.invalidRun + 1)
             quietSince := if quiet then some (l.quietSince.getD d.time) else none
             flowSum := l.flowSum + e }))

/-- The PA energy of a lane over the step in µJ: at the power of the last valid window while its P chain is invalid (R230, R244). -/
def Dev.paEnergy (d : Dev) (m : StepSample) (l : Nat) : Nat :=
  if nth m.invalid l then nth d.led.lanePower l
  else (d.getN pPaSupplyMv l * (nth m.means l).toNat * d.getN pChainFsUnits (16 + l)) / 32767000

/-- The energy of each lane of a slot over the step: PA and core, while it is out of OFF and DOZE (R230, R231). -/
def Dev.laneEnergy (d : Dev) (m : StepSample) (l : Nat) : Nat :=
  if d.laneState l ≤ 1 then 0 else d.paEnergy m l + coreRate (d.laneState l)

/-- E_s of R230 in µJ. -/
def Dev.slotEnergy (d : Dev) (m : StepSample) (s : Nat) : Nat :=
  (d.laneIds.filter (fun l => d.owner l = s)).foldl (fun a l => a + d.laneEnergy m l) 0 +
    1350 * (d.scanning.filter (fun x => x.slot = s)).length + (if d.slotAwake s [] then d.getN pOverheadRate s else 0)

/-- What a running job draws in the step: its lanes' energy and its SCAN time (R235). -/
def Dev.jobEnergy (d : Dev) (m : StepSample) (s h : Nat) (j : Job) : Nat :=
  if j.started.isNone then 0 else
  j.lanes.foldl (fun a l => a + d.laneEnergy m l) 0 +
    (if j.scan then 1350 * (d.scanning.filter (fun x => x.slot = s && x.job = h)).length else 0)

/-- Steps 2 and 3 of R220: each slot's energy attributed, in BATTERY mode debited, and what no slot is charged for left to the owner
(R229, R230); `input` is the battery's part. -/
def Dev.attribute (d : Dev) (m : StepSample) (battery : Int) : Dev :=
  let es := (List.range 8).map (d.slotEnergy m)
  let total := es.foldl (· + ·) 0
  let input := if d.isGrid then d.get pMainsPower else battery
  let pa := (List.range 8).map (fun l => if d.laneState l ≤ 1 then 0 else d.paEnergy m l)
  let d1 := d.updLed (fun l =>
    { l with
      total := (l.total.zipIdx).map (fun t => t.1 + (nth es t.2 : Nat))
      balance := if d.isGrid then l.balance else
        (l.balance.zipIdx).map (fun t => if t.2 = 0 then t.1 else t.1 - (nth es t.2 : Nat))
      residual := l.residual + input - (total : Nat)
      second := (l.second.zipIdx).map (fun t => t.1 + (nth es t.2 : Nat))
      laneSecond := (l.laneSecond.zipIdx).map (fun t => t.1 + (nth pa t.2 : Nat))
      lanePower := (l.lanePower.zipIdx).map (fun t => if nth m.invalid t.2 then t.1 else d.paEnergy m t.2)
      paInvalidSince := (l.paInvalidSince.zipIdx).map (fun t => if nth m.invalid t.2 then some (t.1.getD d.time) else none)
      jobs := (l.jobs.zipIdx).map (fun js => (js.1.zipIdx).map (fun o => o.1.map (fun j =>
        { j with consumed := j.consumed + (d.jobEnergy m js.2 o.2 j : Nat) }))) })
  (List.range 8).foldl (fun e s => e.tollAttribute s (nth es s : Nat)) d1

/-- Every 1,000 steps: ATTRIB_POWER, BAT_FLOW and each lane's PA power over the second (Table EL-4, R237). -/
def Dev.closeSecond (d : Dev) : Dev :=
  let n := d.led.steps + 1
  if n < 1000 then d.updLed (fun l => { l with steps := n }) else
  let d1 := (List.range 8).foldl (fun e s => e.set pAttribPower s (nth d.led.second s / 1000)) d
  (d1.set pBatFlow 0 (clampI (-100000) 100000 (Int.tdiv d.led.flowSum 1000))).updLed (fun l =>
    { l with steps := 0, second := List.replicate 8 0, flowSum := 0, lanePower1s := l.laneSecond, laneSecond := List.replicate 8 0 })

/-! ### Stopping a slot (R224, R225, R236) -/

/-- The slot's bands trip by a ledger trigger, its lanes go to DOZE, and what runs on its lanes ends: with `all`, every running job
of it with the reason given. -/
def Dev.stopSlot (d : Dev) (s code : Nat) (st : Status) (reason : Nat) (all : Bool) : Dev :=
  let lanes := d.laneIds.filter (fun l => d.owner l = s)
  let d1 := (d.slotBands s).foldl (fun e b => e.tripBand b code) d
  let d2 := d1.endSurveys (fun x => x.slot = s && (all || x.held ≠ [])) st false 2 reason
  let d3 := lanes.foldl (fun e l => if 2 ≤ e.laneState l then e.setLaneState l 1 (some 2) else e) (d2.endCalRuns lanes st reason)
  if all then
    (d3.jobs s).foldl (fun e j => if j.2.started.isSome then e.endJob s j.1 reason else e) d3
  else d3

/-- The action of an exhausted slot: STOP and REDUCE alike (R236). -/
def Dev.exhaustStop (d : Dev) (s : Nat) : Dev := d.stopSlot s 9 .exhausted 3 true

/-- A slot's crossings of its balance: QUOTA_LOW at 10 % of the grant, QUOTA_EXHAUSTED at 0 with its action; a balance above
either makes its next crossing new (R236). `again` tells the first step of BATTERY mode, which acts on every exhausted slot. -/
def Dev.quotaCross (d : Dev) (again : Bool) (s : Nat) : Dev :=
  let b := nth d.led.balance s
  let grant := d.get pQuotaGrant s
  let isLow := decide (b ≤ grant * 100)
  let isOut := decide (b ≤ 0)
  let newLow := isLow && !nth d.led.low s
  let newOut := isOut && !nth d.led.exhausted s
  let d1 := d.updLed (fun l =>
    { l with low := upd l.low s (fun _ => isLow), exhausted := upd l.exhausted s (fun _ => isOut) })
  let d2 := if newLow then (d1.raiseSlot s 0x0383 (s64 (mJ b) ++ s64 grant)).ledgerWake else d1
  let d3 := if newOut then (d2.raiseSlot s 0x0384 (e8 (d.getN pExhaustAction s) ++ zs 3 ++ s64 (mJ b))).ledgerWake else d2
  if (newOut || (again && isOut)) && d.get pExhaustAction s ≠ 2 then d3.exhaustStop s else d3

/-- Slots with a quota: those provisioned. -/
def Dev.quotaSlots (d : Dev) : List Nat :=
  ([1, 2, 3, 4, 5, 6, 7] : List Nat).filter (fun s => d.get pSlotState s = 1 || d.get pSlotState s = 2)

/-- The exhaustion conditions of a step in BATTERY mode (R229, R236). -/
def Dev.exhaustion (d : Dev) : Dev :=
  if d.isGrid then d else d.quotaSlots.foldl (fun e s => e.quotaCross d.led.gridStep s) d

/-! ### Tiers (R224 to R226) -/

/-- The level bits ECONOMY, TENANT_FLOOR and HARD as a step of BATTERY mode finds them (Table EL-1). -/
def Dev.levelNow (d : Dev) : Nat :=
  let h := d.get pBatEnergyFull * 10
  let pool := d.poolUj
  let economy := d.get pEconomyLevel * 1000
  let hard := d.get pHardReserve * 1000
  flags [ if d.level 0 then decide (pool < economy + h) else decide (pool < economy),
          if d.level 1 then decide (pool ≤ h) else decide (pool ≤ 0),
          if d.level 2 then decide (d.batUj ≤ hard + h) else decide (d.batUj ≤ hard) ]

/-- HARD_HOLD: every lane mutes and goes to DOZE, and the unit stays ACTIVE (R225). -/
def Dev.hardHold (d : Dev) : Dev :=
  let d1 := d.set pLedgerLevel 0 (d.getN pLedgerLevel ||| 8 : Nat)
  ((List.range 8).foldl (fun e s => e.stopSlot s 10 .state 4 false) d1).checkErase

/-- A level is entered: its event, which wakes from SLEEP (R224, Table EL-7). -/
def Dev.levelEvent (d : Dev) (before after : Nat) : Dev :=
  (d.raiseDev 0x0386 (e8 before ++ e8 after ++ zs 2 ++ s64 (mJ d.poolUj) ++ s64 (mJ d.batUj))).ledgerWake

/-- The tier levels of a step: each level entered raises its event; TENANT_FLOOR keeps every tenant's lanes in DOZE while it is in
force; HARD entered acts by MAINS_OK, and at a first estimate with MAINS_OK low holds for 60 s (R224 to R226). -/
def Dev.tiers (d : Dev) (first : Bool) : Dev :=
  let cap := fun (e : Dev) => e.set pVcoreCapLedger 0 (if e.level 0 then e.get pLedgerVcoreCap else 900)
  let old := d.getN pLedgerLevel
  if d.isGrid then
    let d1 := (cap (d.set pLedgerLevel 0 0)).updLed (fun l => { l with hardHoldAt := none })
    if bit old 3 then d1.checkErase else d1
  else if d.getB pColdBudget || d.led.invalidHold then d
  else
    let now := d.levelNow
    let new := now + (if bit now 2 && bit old 3 then 8 else 0)
    let d1 := cap (d.set pLedgerLevel 0 (new : Nat))
    let d2 := ([0, 1, 2] : List Nat).foldl (fun e k => if bit new k && !bit old k then e.levelEvent old new else e) d1
    let d3 := if bit new 1 then ([1, 2, 3, 4, 5, 6, 7] : List Nat).foldl (fun e s => e.stopSlot s 10 .state 4 false) d2 else d2
    if !bit new 2 then
      let d4 := d3.updLed (fun l => { l with hardHoldAt := none })
      if bit old 3 then d4.checkErase else d4
    else if bit old 2 then d3
    else if d3.pins.mainsOk then d3.hardHold
    else if first then d3.hardHold.updLed (fun l => { l with hardHoldAt := some d.time })
    else d3.startOrderly 0 0x11 none

/-! ### GRID and BATTERY (R228, R229) -/

/-- V_LN is at or above 80 V rms, as Quire M reports it in mV. -/
def Dev.vlnOk (d : Dev) : Bool := 80000 ≤ d.getN pMainsVRms

/-- The mode for the next step: GRID once MAINS_OK has been high for 1 s with CHG_EN active and V_LN at 80 V, and BATTERY as soon as a
step finds one of them gone. The cause is the condition that failed, or the one met last (R220, R228). -/
def Dev.modeStep (d : Dev) : Dev :=
  let mains := match d.led.mainsSince with
    | some t => d.pins.mainsOk && decide (secU 1 ≤ d.since t)
    | none => false
  let chg := d.pins.chgEn
  let ok := mains && chg && d.vlnOk
  let cause := if d.isGrid then (if !d.pins.mainsOk then 0 else if !chg then 1 else 2) else
    let tm := (d.led.mainsSince.getD 0) + secU 1
    let tc := d.led.chgDownAt.getD 0
    let tv := d.led.vlnLowAt.getD 0
    if tc ≤ tm && tv ≤ tm then 0 else if tv ≤ tc then 1 else 2
  let lost := d.pins.mainsOk && !d.vlnOk
  let d1 := d.updLed (fun l =>
    { l with gridStep := d.isGrid, chgDownAt := if chg then l.chgDownAt else some d.time
             vlnLowAt := if d.vlnOk then l.vlnLowAt else some d.time
             disagreeSince := if lost then some (l.disagreeSince.getD d.time) else none
             disagreed := l.disagreed && lost })
  let d2 := match d1.led.disagreeSince with
    | some t =>
      if secU 2 ≤ d1.since t && !d1.led.disagreed then
        (d1.updLed (fun l => { l with disagreed := true })).raiseDev 0x038B
          (e16 (min 65535 (d.getN pMainsVRms / 100)) ++ zs 2 ++ e32 (min 4294967295 (toMs (d1.since t))))
      else d1
    | none => d1
  if ok = d.isGrid then d2 else
  let d3 := d2.set pLedgerMode 0 (if ok then 1 else 0)
  (d3.raiseDev 0x0380 (eb d.isGrid ++ eb ok ++ e8 cause ++ zs 1 ++ s64 (mJ d.batUj))).checkErase

/-! ### Service flags (R512, R513) -/

/-- A lane serves in this step (R512): at a head with followers, one of the band's set must report it bridging too. -/
def Dev.serves (d : Dev) (l : Nat) : Bool :=
  match d.laneBand l with
  | none => false
  | some b =>
    let c := (d.band b).cfg
    let entry := (nth (d.slotN (b / 8)).permits (d.getN pBandPermit b)).bind (fun p =>
      (c.channels.find? (fun x => x.lane = l)).bind p.entryFor)
    let far := d.position ≠ 1 || (maskUnits (d.band b).setUnits).any (fun u => match d.member u with
      | some m => bit (fld m.status 4 1) l
      | none => false)
    d.bandState b = 3 && !d.laneMuted l && far && (match entry with
      | some e => decide (e.minGain ≤ d.get pConvoyOutput l)
      | none => false)

/-- The service flags of the step: each flagged lane is credited 1 ms, and a service that returns records its gap (R512, R513). -/
def Dev.serviceFlags (d : Dev) : Dev :=
  d.laneIds.foldl (fun e l =>
    let on := e.serves l
    let e1 := e.updToll (fun t => { t with inService := upd t.inService l (fun _ => on) })
    if on then (e1.tollService l).serviceGap l else e1) d

/-! ### ACCOUNTING_STEP -/

/-- ACCOUNTING_STEP: the ledger counts, attributes and debits, evaluates tiers and exhaustion, and finds the mode of the next step
(R220 to R244). -/
def accountingStep (m : StepSample) (d : Dev) : Dev :=
  if d.pwr.state ≠ .active && d.pwr.state ≠ .sleep then d else
  let d1 := (d.takeVsys m.vsys).holdup
  if d1.pwr.phase ≠ .ready then d1 else
  let (battery, d2) := (d1.takeMeans m).countBattery m
  let d3 := (d2.attribute m battery).closeSecond
  ((((d3.driveChg.tiers false).exhaustion).modeStep).serviceFlags).checkErase

def execAccountingStep (m : StepSample) (s : State) : Host.Outcome State Fault Refusal := s.act (accountingStep m)

/-! ### Battery estimates (R222, R223, R243) -/

/-- The OCV table in use: the pack's, else BAT_OCV_TABLE. -/
def Dev.ocvTable (d : Dev) : List Nat :=
  let b := d.led.packOcv.getD (leBytes 32 (d.getN pBatOcvTable))
  (List.range 16).map (fun k => fld b (2 * k) 2)

/-- Energy in µJ at a per-cell voltage `v / den` mV: the state of charge interpolated in the table, times BAT_ENERGY_FULL. -/
def ocvEnergy (t : List Nat) (full : Nat) (v : Int) (den : Nat) : Int :=
  if v ≤ (nth t 0 * den : Nat) then 0
  else if ((nth t 15 * den : Nat) : Int) ≤ v then (full : Int) * 1000
  else
    let k := ((List.range 15).filter (fun i => decide (((nth t i * den : Nat) : Int) ≤ v))).length - 1
    let width := nth t (k + 1) - nth t k
    (full : Int) * 1000 * ((k * width * den : Nat) + (v - (nth t k * den : Nat))) / ((15 * width * den : Nat) : Int)

/-- The OCV-table estimate from the last step's pack voltage and current (R222 source 3). -/
def Dev.ocvEstimate (d : Dev) : Int :=
  let v := d.get pMean1ms 48 * 1000 + d.get pMean1ms 49 * d.get pBatRint
  ocvEnergy d.ocvTable (d.getN pBatEnergyFull) v (1000 * max 1 (d.getN pBatCells))

/-- A pack's ManufacturerData as an OCV table: the mark, and 16 strictly ascending values (R222). -/
def packTable (b : List Byte) : Option (List Byte) :=
  let t := slice b 2 32
  if slice b 0 2 = e8 0x57 ++ e8 0x4B && t.length = 32 &&
      chained (fun x y => decide (x < y)) ((List.range 16).map (fun k => (fld t (2 * k) 2 : Int))) then some t
  else none

/-- 10 s of valid windows have passed since the last invalid one (R243). -/
def Dev.validTen (d : Dev) : Bool :=
  match d.led.validSince with
  | some t => secU 10 ≤ d.since t
  | none => false

/-- The crossings that a start finds already made (R236). -/
def Dev.quotaFound (d : Dev) : Dev :=
  d.updLed (fun l =>
    { l with low := (l.balance.zipIdx).map (fun t => decide (t.1 ≤ d.get pQuotaGrant t.2 * 100))
             exhausted := l.balance.map (fun b => decide (b ≤ 0)) })

/-- FIRST_BATTERY_ESTIMATE: the first source that is available gives BAT_ENERGY, cold budget ends, and MAINS_OK sets the first mode; it
is also the fresh estimate of R243 (R195, R222, R226). -/
def firstBatteryEstimate (smbus : Option SmbusPack) (d : Dev) : Dev :=
  if d.pwr.phase ≠ .ready || (d.led.estimated && !(d.led.invalidHold && d.validTen)) then d else
  let first := !d.led.estimated
  let restored := if first && d.pwr.cause = 7 then d.led.watchEntry.map (fun e => e - d.led.watchDrain) else none
  let d1 := match restored, smbus with
    | none, some p =>
      (d.updLed (fun l => { l with packOcv := packTable p.data })).raiseDev 0x038C (padTo 16 p.names ++ e32 p.full)
    | _, _ => d
  let (source, energy) : Nat × Int := match restored, smbus with
    | some e, _ => (1, e)
    | none, some p => (2, (p.remaining * 36000000 : Nat))
    | none, none => (3, d1.ocvEstimate)
  let d2 := d1.updLed (fun l =>
    { l with bat := max 0 energy, estimated := true, invalidHold := false, invalidRun := 0, watchEntry := none, watchDrain := 0 })
  let d3 := ((d2.set pColdBudget 0 0).set pBatSource 0 (source : Nat)).subsys 1 true
  let d4 := d3.raiseDev 0x0381 (e8 source ++ zs 3 ++ s64 (mJ d3.batUj) ++ e32 (durOf (match d.pwr.readyAt with
    | some t => d.since t
    | none => 0)))
  if first then d4.driveChg.quotaFound.modeStep.tiers true else d4

def execFirstBatteryEstimate (smbus : Option SmbusPack) (s : State) : Host.Outcome State Fault Refusal :=
  s.act (firstBatteryEstimate smbus)

/-- LEDGER_REANCHORED: after 20 min of small current in BATTERY mode, an OCV estimate more than 2 % of the full energy away replaces
BAT_ENERGY (R223, R243). -/
def ledgerReanchored (d : Dev) : Dev :=
  let e := d.ocvEstimate
  let quiet := match d.led.quietSince with
    | some t => secU 1200 ≤ d.since t
    | none => false
  let far := d.get pBatEnergyFull * 20 < (e - d.batUj).natAbs
  if !d.led.estimated || d.isGrid || !quiet || !far || (d.led.invalidHold && !d.validTen) then d else
  let d1 := (d.updLed (fun l => { l with bat := e, invalidHold := false })).set pBatSource 0 3
  d1.raiseDev 0x0389 (s64 (mJ d.batUj) ++ s64 (mJ e))

def execLedgerReanchored (s : State) : Host.Outcome State Fault Refusal := s.act ledgerReanchored

/-- HOLDUP_MEASURED: VSYS has fallen from `v1` to `v2` mV in `us` µs at a small pack current, while the ZS8 drew `energy` µJ (R227). -/
def holdupMeasured (v1 v2 us energy : Nat) (d : Dev) : Dev :=
  if v1 < v2 + 300 || 10000 < us || 50 ≤ (d.get pMean1ms 49).natAbs then d else
  let c := min 4294967295 (2 * (1000 * energy + d.getN pOtherLoadDeclared * us) * 1000 / (v1 * v1 - v2 * v2))
  let d1 := d.updLed (fun l => { l with holdupMeasured := some c })
  (d1.raiseDev 0x0387 (e32 c ++ s64 (holdupMj d1.holdupC 4500))).holdup

def execHoldupMeasured (v1 v2 us energy : Nat) (s : State) : Host.Outcome State Fault Refusal :=
  s.act (holdupMeasured v1 v2 us energy)

/-! ### Timed rows -/

/-- ENERGY_TARGET_UPDATE (R237). -/
def execEnergyTargetUpdate (slot : Nat) (s : State) : Host.Outcome State Fault Refusal := s.act (fun d => d.energyTargets slot)

/-- LEDGER_JOURNAL_SAVE: the ledger's entry is written, drawing on no slot's share (R238). -/
def ledgerJournalSave (d : Dev) : Dev := d.saveLedger.journal 0x0380 0 2 none .none

def execLedgerJournalSave (s : State) : Host.Outcome State Fault Refusal := s.act ledgerJournalSave

/-- HARD_HOLD_TIMEOUT: 60 s after the start or the last wake source, with MAINS_OK still low, the unit enters WATCH (R226). -/
def hardHoldTimeout (d : Dev) : Dev :=
  match d.led.hardHoldAt with
  | none => d
  | some t =>
    if d.since t < secU 60 then d else
    let d1 := d.updLed (fun l => { l with hardHoldAt := none })
    if d1.pins.mainsOk then d1 else d1.startOrderly 0 0x11 none

def execHardHoldTimeout (s : State) : Host.Outcome State Fault Refusal := s.act hardHoldTimeout

/-- JOB_ADMISSION_EXPIRY: a job admitted and not started within 10 s is released (R234). -/
def jobAdmissionExpiry (slot handle : Nat) (d : Dev) : Dev :=
  match (if handle < 16 then d.jobAt slot handle else none) with
  | some j => if j.started.isSome || d.since j.admitted < secU 10 then d else d.endJob slot handle 2
  | none => d

def execJobAdmissionExpiry (slot handle : Nat) (s : State) : Host.Outcome State Fault Refusal :=
  s.act (jobAdmissionExpiry slot handle)

/-! ### Commands (R240, R242) -/

def cmdLedgerGet : CmdSpec :=
  { opcode := 0x0301, len := len 4, bad := fun _ r => firstBad r.body [.rs 0 4],
    run := fun d r =>
      let level := d.getN pLedgerLevel % 16 + (if d.getB pColdBudget then 16 else 0)
      { dev := d
        reply := okBody (e8 (d.getN pLedgerMode) ++ e8 level ++ zs 2 ++ s32 (d.get pBatFlow) ++ s64 (mJ d.batUj) ++ s64 (mJ d.poolUj) ++
          s64 (d.available r.slot) ++ s64 (d.reserved r.slot)) } }

def execLedgerGet (r : Request) (s : State) : Host.Outcome State Fault Refusal := s.act (hostCmd cmdLedgerGet r)

def cmdQuotaSet : CmdSpec :=
  { opcode := 0x0302, len := len 12, denied := onlyS0, nvm := fun _ _ => true,
    bad := fun _ r =>
      let amount := rqS r 4 8
      firstBad r.body [.rg 0 (1 ≤ rq r 0 1 && rq r 0 1 ≤ 7), .rg 1 (rq r 1 1 ≤ 1), .rg 2 (rq r 2 1 ≤ 2), .rs 3 1,
        .rg 4 (decide (0 ≤ amount ∧ amount ≤ 1000000000000))],
    run := fun d r =>
      let s := rq r 0 1
      let op := rq r 1 1
      let action := rq r 2 1
      if d.get pSlotState s ≠ 2 then refuse d (fail .state) else
      let grant := if op = 1 then d.get pQuotaGrant s + rqS r 4 8 else rqS r 4 8
      if 1000000000000 < grant then refuse d (fail .badArg) else
      let balance := if op = 1 then nth d.led.balance s + rqS r 4 8 * 1000 else rqS r 4 8 * 1000
      let d1 := d.updLed (fun l =>
        { l with balance := upd l.balance s (fun _ => balance), savedBalance := upd l.savedBalance s (fun _ => balance)
                 low := upd l.low s (fun v => v && decide (balance ≤ grant * 100))
                 exhausted := upd l.exhausted s (fun v => v && decide (balance ≤ 0)) })
      let d2 := ((d1.setNv pQuotaGrant s grant).setNv pQuotaBalance s (mJ balance)).setNv pExhaustAction s (action : Nat)
      { dev := (d2.raiseSlot s 0x0382 (e8 op ++ e8 action ++ zs 2 ++ s64 (mJ balance))).energyTargets s
        reply := okBody (e8 s ++ e8 action ++ zs 2 ++ s64 grant) } }

def execQuotaSet (r : Request) (s : State) : Host.Outcome State Fault Refusal := s.act (hostCmd cmdQuotaSet r)

/-- The start command of a start opcode (Table EL-3). -/
def startCommand (op : Nat) : Option CmdSpec :=
  if op = 0x0A02 then some cmdBridgeStart
  else if op = 0x0B01 then some cmdScanStart
  else if op = 0x0B02 then some cmdCellSearch
  else if op = 0x0B03 then some cmdIsolationProbe
  else if op = 0x0905 then some cmdLinkTestStart
  else if op = 0x0403 then some cmdCalRun
  else none

/-- The start command a job request describes: the BLK data is its request body, for CAL_RUN followed by its channels. -/
def startRequest (r : Request) : Request :=
  if rq r 0 2 = 0x0403 then { r with body := r.blk.take 8, blk := r.blk.drop 8, blkAttached := true }
  else { r with body := r.blk, blk := [], blkAttached := false }

/-- The checks a start command's chapter makes of its arguments beyond their ranges (R245, R476 to R478). -/
def startArgs (d : Dev) (op : Nat) (body blk : List Byte) : Bool :=
  if op = 0x0B01 then d.scanArgs body
  else if op = 0x0B02 then d.cellArgs body
  else if op = 0x0B03 then inTuningRange (fld body 4 8) (fld body 12 1)
  else if op = 0x0403 then
    (List.range (blk.length / 12)).all (fun k => inTuningRange (calChan blk k).1 (calChan blk k).2)
  else true

/-- The job of a request: the estimate its chapter defines, a generic one by its rate and duration rounded up, or the refusal of its
start command (R232, R233, Table EL-3). -/
def Dev.jobOf (d : Dev) (r : Request) : Except Reply Job :=
  let op := rq r 0 2
  let q := (startRequest r).body
  if !startArgs d op q (startRequest r).blk then .error (fail .badArg)
  else if op = 0x0A02 then
    let b := bandIx r.slot (fld q 0 1)
    if d.bandState b = 0 then .error (fail .state) else
    match d.bindPermit r.slot (d.band b).cfg with
    | .error st => .error (fail st)
    | .ok (_, p) => .ok { opcode := op, standing := true, rate := d.standingRate b p, lanes := (d.band b).cfg.lanes }
  else if op = 0x0B01 then .ok (d.scanJob q).1
  else if op = 0x0B02 then .ok (cellJob q)
  else if op = 0x0B03 then .ok (d.probeJob q)
  else if op = 0x0905 then .ok (d.linkTestJob q)
  else if op = 0x0403 then .ok (calJob (fld q 0 1) ((startRequest r).blk.length / 12))
  else .ok { opcode := 0, estimate := (rq r 4 4 * rq r 8 4 + 999999) / 1000000, duration := rq r 8 4 }

/-- The job response (Table EL-6). -/
def jobBody (handle : Nat) (j : Job) (available : Int) : List Byte :=
  e16 handle ++ eb j.standing ++ zs 1 ++ e32 (if j.standing then j.rate else 0) ++
    e64 (if j.standing then j.rate * 60 else j.estimate) ++ e32 (if j.standing then 0 else j.duration) ++ s64 available

/-- JOB_ESTIMATE and JOB_ADMIT check alike, and as the start command would (Table EL-6). -/
def cmdJob (opcode : Nat) (admits : Bool) : CmdSpec :=
  { opcode := opcode, len := len 12, blkOptional := fun _ => true,
    early := fun d r => match startCommand (rq r 0 2) with
      | some c =>
        if !r.blkAttached || !c.len (startRequest r).body then some (fail .badLen) else c.early d (startRequest r)
      | none => if rq r 0 2 = 0 && r.blkAttached then some (fail .badLen) else none,
    lacks := fun d r => match startCommand (rq r 0 2) with
      | some c => c.lacks d (startRequest r)
      | none => false,
    denied := fun d r => match startCommand (rq r 0 2) with
      | some c => c.denied d (startRequest r)
      | none => false,
    bad := fun d r => match startCommand (rq r 0 2) with
      | some c =>
        (firstBad r.body [.rs 2 2, .rg 4 (rq r 4 4 = 0), .rg 8 (rq r 8 4 = 0)]).orElse (fun _ =>
          (c.bad d (startRequest r)).map (fun o =>
            if o < 0x8000 then 0x8000 + o else o + 8))
      | none => firstBad r.body [.rg 0 (rq r 0 2 = 0), .rs 2 2],
    notReady := fun d _ => d.estimateWait,
    run := fun d r =>
      match d.jobOf r with
      | .error rep => refuse d rep
      | .ok j =>
        if !admits then { dev := d, reply := okBody (jobBody 65535 j (d.available r.slot - j.reservation)) }
        else match d.admitRefusal r.slot j.reservation with
        | some rep => refuse d rep
        | none =>
          let (h, d1) := d.openJob r.slot { j with admitted := d.time }
          { dev := d1, reply := okBody (jobBody h j (d1.available r.slot)) } }

def cmdJobEstimate : CmdSpec := cmdJob 0x0303 false
def cmdJobAdmit : CmdSpec := cmdJob 0x0304 true

def execJobEstimate (r : Request) (s : State) : Host.Outcome State Fault Refusal := s.act (hostCmd cmdJobEstimate r)
def execJobAdmit (r : Request) (s : State) : Host.Outcome State Fault Refusal := s.act (hostCmd cmdJobAdmit r)

/-- B of R237 as a plan response carries it. -/
def Dev.paBudget (d : Dev) (slot : Nat) : Nat :=
  match d.planBudget slot with
  | some (num, den) => shareOf num den 1 1
  | none => 4294967295

def cmdPlanEndSet : CmdSpec :=
  { opcode := 0x0305, len := len 8, nvm := fun _ _ => true,
    bad := fun _ r =>
      let kind := rq r 0 1
      let v := rq r 4 4
      firstBad r.body [.rg 0 (kind ≤ 2), .rs 1 3,
        .rg 4 (if kind = 0 then v = 0 else kind = 1 || (1 ≤ v && v ≤ 2592000))],
    run := fun d r =>
      let kind := rq r 0 1
      let v := rq r 4 4
      if kind = 1 && !d.wallValid then refuse d (fail .state) else
      if kind = 1 && v ≤ d.wallNow.getD 0 then refuse d (fail .badArg) else
      let stop : Int := if kind = 0 then 0 else if kind = 2 then d.tkc + secU v
        else (d.clk.anchorTkc : Int) + ((v : Int) - d.clk.anchorWall) * 62914560000
      let stop := stop % 18446744073709551616
      let d1 := (d.setNv pPlanEnd r.slot stop).energyTargets r.slot
      { dev := d1, reply := okBody (e64 stop.toNat ++ e32 (d1.paBudget r.slot) ++ zs 4) } }

def execPlanEndSet (r : Request) (s : State) : Host.Outcome State Fault Refusal := s.act (hostCmd cmdPlanEndSet r)

def cmdJobRelease : CmdSpec :=
  { opcode := 0x0307, len := len 4,
    bad := fun _ r => firstBad r.body [.rs 2 2],
    run := fun d r =>
      match d.jobAt r.slot (rq r 0 2) with
      | some j =>
        if j.started.isSome then refuse d (fail .state)
        else { dev := d.endJob r.slot (rq r 0 2) 1, reply := okBody (e16 (rq r 0 2)) }
      | none => refuse d (fail .badArg) }

def execJobRelease (r : Request) (s : State) : Host.Outcome State Fault Refusal := s.act (hostCmd cmdJobRelease r)

/-! ### Across a start (R238) -/

/-- The ledger after a start: with the flush of the previous shutdown complete the journalled values stand; otherwise each tenant
that was awake at the last entry is debited 10 s at its rate then (R238). -/
def Dev.restoreLedger (d : Dev) : Dev :=
  if d.ao.flushFlag then d else
  (d.quotaSlots.filter (fun s => nth d.led.savedAwake s)).foldl (fun e s =>
    let rate := nth e.led.savedPower s
    (e.updLed (fun l => { l with balance := upd l.balance s (fun b => b - (rate * 10000 : Nat)) })).raiseSlot s 0x038A
      (s64 (rate * 10 : Nat) ++ e32 rate)) d

end Sys2Proof.Machine
end

