-- ==== Sys2Proof/Machine/Port.lean ====
section
/-! DEFINITION. The host port: quad-SPI transactions, the writable fields of the register window, the rings' configuration and
doorbells, the USB endpoints, and HOST_WAKE (R89 to R102, R119 to R124). -/

namespace Sys2Proof.Machine

def Dev.updHost (d : Dev) (f : HostPort → HostPort) : Dev := { d with host := f d.host }

/-- The quad-SPI target acts on transactions: chosen, readable, VIO valid, VCORE powered (R89, R94, R120, R591). -/
def Dev.qspiLive (d : Dev) : Bool := d.host.readable && !d.host.usb && d.pwr.vioValid && d.powered

/-- The USB device answers: chosen, readable, VCORE powered, and clocked (R89, R617). -/
def Dev.usbLive (d : Dev) : Bool := d.host.readable && d.host.usb && d.powered && d.clk.state ≠ .lost

/-! ### Quad-SPI transactions (R90, R91) -/

/-- The region of Table HR-3 a transaction lies wholly inside: 0 the register window, 1 the ring window. -/
def qspiRegion (addr count : Nat) : Option Nat :=
  let stop := addr + max 1 count
  if stop ≤ 256 then some 0
  else if 0x40000 ≤ addr && stop ≤ 0x80000 then some 1
  else none

/-- The code of the first condition of R91 that a transaction breaks. -/
def qspiFault (instr addr count : Nat) : Option Nat :=
  if instr ≠ 0x0B && instr ≠ 0x02 then some 1
  else match qspiRegion addr count with
  | none => some 3
  | some g =>
    let unit := if g = 0 then 2 else 4
    if count < 2 || 512 < count || addr % unit ≠ 0 || count % unit ≠ 0 then some 2 else none

/-- QSPI_TRANSACTION_REJECTED: a transaction that breaks a condition counts one host error (R91). A transaction that breaks none
is no such transaction. -/
def qspiRejected (instr addr count : Nat) (d : Dev) : Dev :=
  if !d.qspiLive then d else
  match qspiFault instr addr count with
  | some code => d.hostError code addr
  | none => d

def execQspiTransactionRejected (instr addr count : Nat) (s : State) : Host.Outcome State Fault Refusal :=
  s.act (qspiRejected instr addr count)

/-! ### RING_CFG (R99) -/

/-- Whether an extent of `n` units at `base` overlaps an enabled ring other than `ring`. -/
def Dev.overlaps (d : Dev) (ring base n : Nat) : Bool :=
  (List.range 32).any (fun m =>
    m ≠ ring && d.ringOn m && base < d.ringCfg m % 4096 + d.depth m && d.ringCfg m % 4096 < base + n)

/-- RING_CFG takes a value. -/
def Dev.storeCfg (d : Dev) (n v : Nat) : Dev := d.updHost (fun h => { h with ringCfg := upd h.ringCfg n (fun _ => v) })

/-- A ring is enabled: its indices start at 0. -/
def Dev.enableRing (d : Dev) (n v : Nat) : Dev :=
  let d1 := (d.storeCfg n v).updHost (fun h => { h with doorbell := upd h.doorbell n (fun _ => 0) })
  if d1.devIndex n = 0 then d1 else d1.setIndex n 0

/-- A write to RING_CFG[n] (R99). -/
def Dev.writeCfg (d : Dev) (n v address : Nat) : Dev :=
  if d.ringOn n then
    if bit v 15 || (d.slot (n / 4)).session.isSome then d.hostError 5 address else d.storeCfg n v
  else if !bit v 15 then d.storeCfg n v
  else if 4 < v / 4096 % 8 || 4096 < v % 4096 + cfgDepth v || d.overlaps n (v % 4096) (cfgDepth v) then d.hostError 6 address
  else d.enableRing n v

def ringCfgWrite (ring value : Nat) (d : Dev) : Dev :=
  if !d.qspiLive || 32 ≤ ring then d else (d.writeCfg ring (value % 65536) (0x40 + 2 * ring)).settlePort.irqLevel

def execRingCfgWrite (ring value : Nat) (s : State) : Host.Outcome State Fault Refusal := s.act (ringCfgWrite ring value)

/-! ### DOORBELL (R102) -/

/-- Entries available to a host producer index of a ring or half of depth `depth`. -/
def freeFor (w consumer depth old : Nat) : Nat := ixSub w (consumer + depth) old

/-- DOORBELL takes a value. -/
def Dev.storeBell (d : Dev) (n v : Nat) : Dev := d.updHost (fun h => { h with doorbell := upd h.doorbell n (fun _ => v) })

/-- A write to DOORBELL[n] (R102): each BLK half passes or is refused on its own, with one host error each. -/
def Dev.writeBell (d : Dev) (n v address : Nat) : Dev :=
  if !d.ringOn n then d.hostError 7 address else
  let old := d.doorbell n
  let ix := d.devIndex n
  if n % 4 = 3 then
    let downOk := ixSub 8 v old ≤ freeFor 8 (ix % 256) (d.depth n / 2) old
    let upOk := ixSub 8 (v / 256) (old / 256) ≤ ixSub 8 (ix / 256) (old / 256)
    let lo := if downOk then v % 256 else old % 256
    let hi := if upOk then v / 256 else old / 256
    let d1 := d.storeBell n (lo + 256 * hi)
    let d2 := if downOk then d1 else d1.hostError 7 address
    if upOk then d2 else d2.hostError 7 address
  else
    let available := if n % 4 = 0 then freeFor 16 ix (d.depth n) old else ixSub 16 ix old
    if ixSub 16 v old ≤ available then d.storeBell n v else d.hostError 7 address

def doorbellWrite (ring value : Nat) (d : Dev) : Dev :=
  if !d.qspiLive || 32 ≤ ring then d else (d.writeBell ring (value % 65536) (0x80 + 2 * ring)).settlePort.irqLevel

def execDoorbellWrite (ring value : Nat) (s : State) : Host.Outcome State Fault Refusal := s.act (doorbellWrite ring value)

/-! ### The interrupt fields (R95, R97, R98) -/

/-- The bits of `v` cleared where `m` has ones. -/
def clearBits (v m : Nat) : Nat := v - (v &&& m)

/-- RING_IRQ bits cleared by ones (R97). -/
def Dev.clearRingIrq (d : Dev) (m : Nat) : Dev := d.updHost (fun h => { h with ringIrq := clearBits h.ringIrq m })

/-- DEV_IRQ bits cleared by ones; a 1 in a reserved bit counts one host error (R95, R97). -/
def Dev.clearDevIrq (d : Dev) (m address : Nat) : Dev :=
  let d1 := d.updHost (fun h => { h with devIrq := clearBits h.devIrq m })
  if m / 16 ≠ 0 then d1.hostError 4 address else d1

def ringIrqClear (mask : Nat) (d : Dev) : Dev :=
  if !d.qspiLive then d else (d.clearRingIrq (mask % 4294967296)).irqLevel

def execRingIrqClear (mask : Nat) (s : State) : Host.Outcome State Fault Refusal := s.act (ringIrqClear mask)

def devIrqClear (mask : Nat) (d : Dev) : Dev :=
  if !d.qspiLive then d else (d.clearDevIrq (mask % 65536) 0x1C).irqLevel

def execDevIrqClear (mask : Nat) (s : State) : Host.Outcome State Fault Refusal := s.act (devIrqClear mask)

/-! ### HRW_WRITE (R95, Table HR-4) -/

/-- What a write does to a field of the register window. -/
inductive HrwField where
  | readOnly | ringIrq | ringIrqMask | devIrq | devIrqMask | hostCtrl | cfg (n : Nat) | bell (n : Nat)
  deriving DecidableEq, Repr

/-- The fields of Table HR-4 with offset and size, ascending. -/
def hrwFields : List (Nat × Nat × HrwField) :=
  [(0x00, 2, .readOnly), (0x02, 1, .readOnly), (0x03, 1, .readOnly), (0x04, 1, .readOnly), (0x05, 3, .readOnly),
   (0x08, 4, .readOnly), (0x0C, 4, .readOnly), (0x10, 4, .readOnly), (0x14, 4, .ringIrq), (0x18, 4, .ringIrqMask),
   (0x1C, 2, .devIrq), (0x1E, 2, .devIrqMask), (0x20, 4, .readOnly), (0x24, 4, .readOnly), (0x28, 4, .hostCtrl),
   (0x2C, 20, .readOnly)] ++
  (List.range 32).map (fun n => (0x40 + 2 * n, 2, HrwField.cfg n)) ++
  (List.range 32).map (fun n => (0x80 + 2 * n, 2, HrwField.bell n)) ++
  (List.range 32).map (fun n => (0xC0 + 2 * n, 2, HrwField.readOnly))

/-- The value of a mask field with a write's bytes put over it. -/
def overlay (old size off addr : Nat) (bytes : List Byte) : Nat :=
  leNat ((List.range size).map (fun k =>
    if addr ≤ off + k && off + k < addr + bytes.length then nth bytes (off + k - addr) else BitVec.ofNat 8 (old / 256 ^ k)))

/-- A write to one field: `fixed` tells that RING_CFG and DOORBELL are read-only, as they are through EP0 (R122). -/
def Dev.writeField (d : Dev) (fixed : Bool) (f : HrwField) (off size addr : Nat) (bytes : List Byte) (address : Nat) : Dev :=
  let ones := overlay 0 size off addr bytes
  match f with
  | .readOnly => d.hostError 4 address
  | .ringIrq => d.clearRingIrq ones
  | .ringIrqMask => d.updHost (fun h => { h with ringIrqMask := overlay h.ringIrqMask size off addr bytes })
  | .devIrq => d.clearDevIrq ones address
  | .devIrqMask =>
    let d1 := d.updHost (fun h => { h with devIrqMask := overlay h.devIrqMask size off addr bytes % 16 })
    if ones / 16 ≠ 0 then d1.hostError 4 address else d1
  | .hostCtrl =>
    let d1 := d.updHost (fun h => { h with hostCtrl := overlay h.hostCtrl size off addr bytes % 2 })
    if ones / 2 ≠ 0 then d1.hostError 4 address else d1
  | .cfg n => if fixed then d.hostError 4 address else d.writeCfg n (ones % 65536) address
  | .bell n => if fixed then d.hostError 4 address else d.writeBell n (ones % 65536) address

/-- A write to the register window: the fields it touches, in ascending address order (R95, R102). -/
def Dev.writeHrw (d : Dev) (fixed : Bool) (addr : Nat) (bytes : List Byte) : Dev :=
  let hit := hrwFields.filter (fun f => f.1 < addr + bytes.length && addr < f.1 + f.2.1)
  (hit.foldl (fun (e : Dev) f => e.writeField fixed f.2.2 f.1 f.2.1 addr bytes (if fixed then 0 else max f.1 addr)) d).settlePort.irqLevel

/-- HRW_WRITE: a quad-SPI write transaction (R91, R92, R95). -/
def hrwWrite (addr : Nat) (bytes : List Byte) (m : Memory) (d : Dev) : Memory × Dev :=
  if !d.qspiLive then (m, d) else
  match qspiFault 0x02 addr bytes.length with
  | some code => (m, d.hostError code addr)
  | none => if addr < 256 then (m, d.writeHrw false addr bytes) else (m.writes (addr - 0x40000) bytes, d)

def execHrwWrite (addr : Nat) (bytes : List Byte) (s : State) : Host.Outcome State Fault Refusal :=
  s.actMem (hrwWrite addr bytes)

/-! ### USB (R121 to R124) -/

/-- Remote wakeup is signalled while the bus is suspended, the host has enabled it, and an IN entry waits (R124). -/
def Dev.usbSignal (d : Dev) : Dev :=
  if d.host.usb && d.host.usbSuspended && d.host.usbWakeEnabled && d.host.usbIn ≠ [] then d.updHost (fun h => { h with usbWake := true })
  else d

/-- USB_SET_CONFIGURATION: every ring not yet enabled takes depth 64 at its 64 units (R122, R124, Table HR-15). -/
def usbSetConfiguration (full : Bool) (d : Dev) : Dev :=
  if !d.usbLive then d else
  let d1 := (List.range 32).foldl (fun (e : Dev) n => if e.ringOn n then e else e.enableRing n (0x8000 + 2 * 4096 + 64 * n)) d
  let d2 : Dev := { d1 with pins := { d1.pins with usbVbus := true } }
  ((d2.updHost (fun h => { h with usbConfigured := true, usbFullSpeed := full, usbSuspended := false, usbWake := false })).set
    pHostTransport 0 (if full then 2 else 1)).settlePort

def execUsbSetConfiguration (full : Bool) (s : State) : Host.Outcome State Fault Refusal := s.act (usbSetConfiguration full)

/-- The largest bulk packet (R121). -/
def Dev.usbPacket (d : Dev) : Nat := if d.host.usbFullSpeed then 64 else 512

/-- The ring an OUT entry is routed to by its kind: CMD 0, BLK 3, none discarded (R123). -/
def routeOf (e : List Byte) : Option Nat :=
  if fld e 6 1 = 1 then some 0 else if fld e 6 1 = 6 && !bit (fld e 0 2) 8 then some 3 else none

/-- One entry of an OUT packet, placed at its ring's host producer index, or discarded with host error 10. -/
def usbRoute (slot : Nat) (md : Memory × Dev) (e : List Byte) : Memory × Dev :=
  let (m, d) := md
  match routeOf e with
  | some 0 =>
    let n := 4 * slot
    (m.writes (d.entryAt n (d.doorbell n)) e, d.storeBell n ((d.doorbell n + 1) % 65536))
  | some _ =>
    let n := 4 * slot + 3
    let v := d.doorbell n
    (m.writes (d.blockAt n false (v % 256)) e, d.storeBell n (v / 256 * 256 + (v % 256 + 1) % 256))
  | none => (m, d.hostError 10 (1 + slot))

/-- USB_OUT_PACKET: accepted when every entry it routes fits its ring, else NAKed (R122, R123). -/
def usbOutPacket (slot : Nat) (bytes : List Byte) (m : Memory) (d : Dev) : Memory × Dev :=
  if !d.usbLive || !d.host.usbConfigured || 8 ≤ slot || d.usbPacket < bytes.length then (m, d) else
  let es := (List.range (bytes.length / 64)).map (fun k => slice bytes (64 * k) 64)
  let cmds := (es.filter (fun e => routeOf e = some 0)).length
  let blocks := (es.filter (fun e => routeOf e = some 3)).length
  let c := 4 * slot
  let b := 4 * slot + 3
  let fits := (cmds = 0 || (d.ringOn c && cmds ≤ freeFor 16 (d.devIndex c) (d.depth c) (d.doorbell c))) &&
    (blocks = 0 || (d.ringOn b && blocks ≤ freeFor 8 (d.devIndex b % 256) (d.depth b / 2) (d.doorbell b)))
  if !fits then (m, d) else
  let r := es.foldl (usbRoute slot) (m, d)
  let d1 := if bytes.length % 64 ≠ 0 then r.2.hostError 8 (1 + slot) else r.2
  (r.1, d1.settlePort)

def execUsbOutPacket (slot : Nat) (bytes : List Byte) (s : State) : Host.Outcome State Fault Refusal :=
  s.actMem (usbOutPacket slot bytes)

/-- The host consumer index of an acknowledged IN entry's ring or half moves on by one (R123). -/
def Dev.consumed (d : Dev) (slot typ : Nat) : Dev :=
  let n := 4 * slot + typ
  let v := d.doorbell n
  if typ = 3 then d.storeBell n (v % 256 + 256 * ((v / 256 + 1) % 256)) else d.storeBell n ((v + 1) % 65536)

/-- USB_IN_ACK: the host has acknowledged an IN packet with the first `n` of the slot's entries (R122, R123). -/
def usbInAck (slot n : Nat) (d : Dev) : Dev :=
  if !d.usbLive || !d.host.usbConfigured || d.usbPacket < 64 * n then d else
  let acked := (d.host.usbIn.filter (fun x => x.1 = slot)).take n
  let d1 := acked.foldl (fun (e : Dev) x =>
    (e.consumed slot x.2).updHost (fun h => { h with usbIn := h.usbIn.erase (slot, x.2) })) d
  d1.settlePort

def execUsbInAck (slot n : Nat) (s : State) : Host.Outcome State Fault Refusal := s.act (usbInAck slot n)

/-- Whether a vendor request is one of Table HR-14. -/
def hrwRequestOk (requestType request value length : Nat) : Bool :=
  ((requestType = 0xC0 && request = 1) || (requestType = 0x40 && request = 2)) &&
    2 ≤ length && length ≤ 256 && length % 2 = 0 && value + length ≤ 256

/-- USB_EP0_REQUEST: HRW_READ and HRW_WRITE of Table HR-14; a vendor request of any other form is answered with STALL and host error
9. Of the standard requests only the remote-wakeup feature acts on the ZS8's state (R122, R124, log entry 60). -/
def usbEp0 (requestType request value length : Nat) (data : List Byte) (d : Dev) : Dev :=
  if !d.usbLive then d else
  if requestType = 0x00 && request = 3 && value = 1 then d.updHost (fun h => { h with usbWakeEnabled := true })
  else if requestType = 0x00 && request = 1 && value = 1 then d.updHost (fun h => { h with usbWakeEnabled := false })
  else if requestType / 32 % 4 = 0 then d
  else if !hrwRequestOk requestType request value length || (request = 2 && data.length ≠ length) then d.hostError 9 0
  else if request = 1 then d
  else d.writeHrw true value data

def execUsbEp0Request (requestType request value length : Nat) (data : List Byte) (s : State) :
    Host.Outcome State Fault Refusal := s.act (usbEp0 requestType request value length data)

/-- USB_BUS_RESET: a bus reset (kind 0), a suspend (1) or the loss of USB_VBUS (2). No session ends and no ring changes; what the
host did not acknowledge is sent again (R124). -/
def usbBusReset (kind : Nat) (d : Dev) : Dev :=
  if !d.usbLive then d else
  if kind = 1 then (d.updHost (fun h => { h with usbSuspended := true })).usbSignal
  else
    let d1 := d.updHost (fun h => { h with usbConfigured := false, usbSuspended := false, usbWakeEnabled := false, usbWake := false })
    if kind = 2 then { d1 with pins := { d1.pins with usbVbus := false } } else d1

def execUsbBusReset (kind : Nat) (s : State) : Host.Outcome State Fault Refusal := s.act (usbBusReset kind)

/-- USB_RESUME: the bus leaves suspend; from SLEEP that wakes the unit (Table PS-2 code 0x06). -/
def usbResume (d : Dev) : Dev :=
  if !d.usbLive then d else
  let d1 := d.updHost (fun h => { h with usbSuspended := false, usbWake := false })
  if d1.pwr.state = .sleep then d1.wake 6 else d1

def execUsbResume (s : State) : Host.Outcome State Fault Refusal := s.act usbResume

/-- HOST_WAKE_EDGE: a rising edge that stayed high for `held` µs (R119). -/
def hostWakeEdge (held : Nat) (d : Dev) : Dev :=
  if held < 10 || d.pwr.state = .off || d.pwr.state = .hardHold then d else d.wake 1

def execHostWakeEdge (held : Nat) (s : State) : Host.Outcome State Fault Refusal := s.act (hostWakeEdge held)

end Sys2Proof.Machine
end

