-- ==== Sys2Proof/Machine/Sharing.lean ====
section
/-! DEFINITION. The scheduler of the four resources shared in time: SCAN, courier airtime, NVM writes and probes (R66, R68 to
R71, R471). -/

namespace Sys2Proof.Machine

/-! ### Reservations (R66, R68, R304, R538) -/

/-- A slot's reservation of a resource in a frame: ticks, pages, or µs of NA airtime. -/
def Dev.reservation (d : Dev) (res : Resource) (slot : Nat) : Nat :=
  match res with
  | .courier => d.share slot 2 * 400 * (1000 - d.cour.reserve) / 1000
  | _ => shareUnits res (d.share slot res.kind)

/-- The reservations of a new frame, by the shares in force. -/
def Dev.renewReserves (d : Dev) : Dev :=
  let row := fun (res : Resource) => (List.range 8).map (d.reservation res)
  { d with sched := { d.sched with
      reserve := row .scan ++ row .courier ++ row .nvm ++ row .probe, used := List.replicate 32 0
      beyondUsed := List.replicate 4 0 } }

/-- A request classified against its slot's reservation; one within it is charged. EU airtime is judged at its
transmission, by its own budget (R70, R304). -/
def Dev.classify (d : Dev) (q : SchedReq) : SchedReq × Dev :=
  if q.res = .courier && d.eu then ({ q with within := true }, d)
  else if q.need ≤ d.sched.left q.res q.slot then
    ({ q with within := true },
     { d with sched := { d.sched with used := upd d.sched.used (schedIx q.res q.slot) (fun v => v + q.need) } })
  else ({ q with within := false }, d)

/-- Requests classified in their order. -/
def Dev.classifyAll (d : Dev) : List SchedReq → List SchedReq × Dev
  | [] => ([], d)
  | q :: qs =>
    if q.granted then
      let (rest, e) := d.classifyAll qs
      (q :: rest, e)
    else
      let (x, d1) := d.classify q
      let (rest, e) := d1.classifyAll qs
      (x :: rest, e)

/-- Rotation order for requests that became pending in tick `n`: S0, then from S_p upward, p = 1 + (n mod 7) (R69). -/
def rotation (n : Nat) : List Nat := 0 :: (List.range 7).map (fun k => 1 + (n + k) % 7)

/-! ### Service (R70, R471) -/

/-- The place in the 1 s frame of the tick that runs. -/
def Dev.tickInFrame (d : Dev) : Nat := d.tickNow % 4000

/-- A lane-like resource serves one request at a time; a granted one holds its ticks. -/
def Dev.serving (d : Dev) (res : Resource) : Bool := d.sched.queue.any (fun q => q.res = res && q.granted)

/-- What every slot's still unused reservation sets aside. -/
def Dev.setAside (d : Dev) (res : Resource) : Nat := (List.range 8).foldl (fun a s => a + d.sched.left res s) 0

/-- Requests within share that still wait. -/
def Dev.waitingWithin (d : Dev) (res : Resource) : Nat :=
  (d.sched.queue.filter (fun q => q.res = res && q.within && !q.granted)).foldl (fun a q => a + q.need) 0

/-- Capacity of the frame that remains for requests beyond share. -/
def Dev.spare (d : Dev) (res : Resource) : Nat :=
  let used := (List.range 8).foldl (fun a s => a + nth d.sched.used (schedIx res s)) 0
  let beyond := nth d.sched.beyondUsed (res.kind - 1)
  match res with
  | .scan => if d.get pMode = 0 then 0 else 4000 - d.tickInFrame - d.setAside res - d.waitingWithin res
  | .probe => 4000 - d.tickInFrame - d.setAside res - d.waitingWithin res
  | .nvm => d.getN pNvmWriteBudget - used - beyond - d.setAside res
  | .courier => 400 * (1000 - d.cour.reserve) - used - beyond - d.setAside res

/-- A request is granted: the NVM takes the command's entry, the courier queues its packet, a survey job's capture or
transmission begins in this tick. -/
def Dev.grant (d : Dev) (q : SchedReq) : Dev :=
  let d1 : Dev := if q.within then d else
    { d with sched := { d.sched with beyondUsed := upd d.sched.beyondUsed (q.res.kind - 1) (fun v => v + q.need) } }
  let without : Dev := { d1 with sched := { d1.sched with queue := d1.sched.queue.erase q } }
  match q.res with
  | .nvm =>
    { without with nvm := { without.nvm with queue := without.nvm.queue.map (fun e =>
        if e.hostWrite && !e.granted && e.slot = q.slot && e.ref = q.ref then { e with granted := true } else e) } }
  | .courier =>
    let mine := fun (p : Packet) => !p.device && p.slot = q.slot && p.ref = q.ref
    without.updCour (fun c =>
      { c with queue := c.queue.filter (fun p => !mine p) ++ (c.queue.filter mine).map (fun p => { p with granted := true }) })
  | _ =>
    let e : Dev := { d1 with sched := { d1.sched with queue := d1.sched.queue.map (fun x =>
      if x = q then { x with granted := true, grantTick := d.tickNow } else x) } }
    match e.survey q.slot q.ref with
    | some x => e.beginCapture x
    | none => e

/-- The request of a resource that is served next, if any: the first within share, else the first beyond it when the
frame's spare capacity holds it. -/
def Dev.nextOf (d : Dev) (res : Resource) : Option SchedReq :=
  let waiting := d.sched.queue.filter (fun q => q.res = res && !q.granted)
  match waiting.find? (fun q => q.within) with
  | some q => some q
  | none => match waiting with
    | q :: _ => if q.need ≤ d.spare res then some q else none
    | [] => none

/-- Requests of a resource served in turn, at most `n`; SCAN and probes one at a time. -/
def Dev.serve : Nat → Resource → Dev → Dev
  | 0, _, d => d
  | n + 1, res, d =>
    if (res = .scan || res = .probe) && d.serving res then d else
    match d.nextOf res with
    | some q => Dev.serve n res (d.grant q)
    | none => d

def Dev.serveAll (d : Dev) : Dev :=
  ([.scan, .courier, .nvm, .probe] : List Resource).foldl (fun e r => Dev.serve e.sched.queue.length r e) d

/-- SCHEDULER_TICK: the requests that became pending in the previous tick join the queues, those within share first, each in
rotation order; then what can be served is served (R69, R70). -/
def schedulerTick (d : Dev) : Dev :=
  if (d.pwr.state ≠ .active && d.pwr.state ≠ .sleep) || d.pwr.phase ≠ .ready then d else
  let fresh := d.sched.fresh
  let n := (fresh.head?.map (·.tick)).getD 0
  let ordered := (rotation n).flatMap (fun s => fresh.filter (fun q => q.slot = s))
  let (seen, d1) := d.classifyAll ordered
  let joined := seen.filter (·.within) ++ seen.filter (fun q => !q.within)
  ({ d1 with sched := { d1.sched with fresh := [], queue := d1.sched.queue ++ joined } }).serveAll

def execSchedulerTick (s : State) : Host.Outcome State Fault Refusal := s.act schedulerTick

/-- FRAME_START: the reservations of the 1 s frame renew by the shares in force, and what still waits is classified again; the
device's airtime reserve and the partitions' storage allotments renew with it (R68, R70, R304, R538). -/
def frameStart (d : Dev) : Dev :=
  let minute := d.time / secU 60 ≠ (d.time - secU 1) / secU 60
  let d0 := if d.eu && !minute then d else d.updCour (fun c => { c with reserve := d.getN pCourierDeviceReserve })
  let d1 : Dev := { d0.renewReserves with colo := d.colo.map (fun p => { p with allotUsed := 0 }) }
  let (queue, d2) := d1.classifyAll d1.sched.queue
  let d3 : Dev := { d2 with sched := { d2.sched with queue := queue } }
  if d3.pwr.phase = .ready then d3.serveAll else d3

def execFrameStart (s : State) : Host.Outcome State Fault Refusal := s.act frameStart

end Sys2Proof.Machine
end

