-- ==== Sys2Proof/Machine/Storage.lean ====
section
/-! DEFINITION. The meanings of storage, faults, firmware, self-test and shock (R180, R181, R553 to R581). -/

namespace Sys2Proof.Machine

/-! ### FAULT and restarts of a quire (R181, R215, R527, R568, Table SF-3) -/

/-- PHASE=FAULT with its cause. -/
def Dev.enterFault (d : Dev) (cause : Nat) : Dev :=
  if d.pwr.phase = .fault then d else
  (d.updPwr (fun p => { p with faultCause := cause, faultSince := d.time })).setPhase .fault

/-- Every lane muted for a restart of Quire C, which leaves no SERVICE_GAP (R527). -/
def Dev.muteForRestart (d : Dev) : Dev :=
  ((d.updToll (fun t => { t with inService := List.replicate 8 false })).tripAll 16).holdAll 4

/-- Quire C starts again: sessions end, what its memory held of commands and jobs is gone without completions, and PHASE
returns to QUIRES (Table SF-3, log entry 43). -/
def Dev.restartQuireC (d : Dev) : Dev :=
  let d1 := ((d.muteForRestart.endSurveys (fun _ => true) .state false 2 4).endCalRuns d.laneIds .fault 4).endSessions 3
  let d2 := (List.range 8).foldl (fun e s => e.set pLongCmdsOpen s 0) d1
  let d3 : Dev :=
    { d2 with host := { d2.host with outbox := [], longs := [] }, sched := { d2.sched with fresh := [], queue := [] }
              slots := d2.slots.map (fun s => { s with challenge := none, stallSince := none, awaiting := none, due := false, dueTick := none })
              sto := { d2.sto with selftest := none, stages := [{}, {}] }
              link := { d2.link with joining := none } }
  (d3.updPwr (fun p => { p with restartC := true, modeSet := none, sleepReq := none })).setPhase .quires

/-- Quire M starts again from its newest save; the gap is recorded (Table SF-3, R522). -/
def Dev.restartQuireM (d : Dev) : Dev :=
  if d.toll.running then (d.updToll (fun t => { t with pulseHigh := none })).resumeMetering true 1 else d

/-! ### Fault sources (R180, R558, R566, R567) -/

/-- FAULT_DETECTED in a slot's partition. -/
def Dev.faultSlot (d : Dev) (slot src obj detail : Nat) : Dev :=
  let d1 := d.countFault src obj
  d1.raiseSlot slot 0x0F80 (d1.faultBody src obj detail)

/-- FAULT_DETECTED in the metrology partition. -/
def Dev.faultMetro (d : Dev) (src obj detail : Nat) : Dev :=
  let d1 := d.countFault src obj
  d1.raiseMetro 0x0F80 (d1.faultBody src obj detail)

/-- The slot that owns a journal record (log entry 44 numbers the records). -/
def recordSlot (d : Dev) (typ inst : Nat) : Nat :=
  if typ = 0x0207 then inst / 32 else if typ = 0x0201 || typ = 0x0203 then inst % 8 else if typ = 0x0406 then d.owner inst else 0

/-- A record of which no valid copy remains takes its default (R558). -/
def Dev.defaultRecord (d : Dev) (typ inst : Nat) : Dev :=
  if 0x4000 ≤ typ then d.setNv (typ - 0x4000) inst (paramDefault (typ - 0x4000) inst)
  else if typ = 0x0207 then
    let slot := inst / 32
    let counter := (nth (d.slotN slot).vault (inst % 32)).elim 0 (·.counter)
    (d.setObject slot (inst % 32) none).raiseSlot slot 0x0286 (e8 (inst % 32) ++ zs 3 ++ e64 counter)
  else if typ = 0x0201 then d.updSlotN inst (fun _ => {})
  else if typ = 0x0203 then d.updSlotN inst (fun s => { s with permits := List.replicate 8 none })
  else if typ = 0x0406 then
    { (d.updLane inst (fun x => { x with table := none })) with laneNv := upd d.laneNv inst (fun x => (none, x.2)) }
  else if typ = 0x0380 then
    { d with led := { d.led with balance := List.replicate 8 0, total := List.replicate 8 0
                                 savedBalance := List.replicate 8 0, savedTotal := List.replicate 8 0 } }
  else d

/-- Both copies of a record are lost: counted, recorded in its owner's partition, its default in force (R558). -/
def Dev.loseRecord (d : Dev) (typ inst : Nat) : Dev :=
  let slot := recordSlot d typ inst
  let d1 := (d.faultSlot slot 0x0E 255 0).raiseSlot slot 0x0E82 (e16 typ ++ e16 inst ++ e32 (d.gen typ inst))
  d1.defaultRecord typ inst

/-- A sector is retired for a spare one; with none left it cannot be mapped (R563, R568 cause 0x04). `count` is its erase
count. -/
def Dev.retire (d : Dev) (sector count : Nat) : Dev :=
  let spare := d.getN pNvmSpareSectors
  let d1 := (d.faultDevice 0x0D 255 sector).updNvm (fun n =>
    { n with wear := (n.wear.map (fun w => if w.1 = count then (w.1, w.2 - 1) else w)).filter (fun w => w.2 ≠ 0) })
  if spare = 0 then d1.enterFault 4 else
  (d1.setNv pNvmSpareSectors 0 (spare - 1 : Nat)).raiseDev 0x0E83 (e32 sector ++ e32 count ++ e16 (spare - 1))

/-- A lane that a fault of its path stops: its probe ends, it mutes and recovers (Table SF-3 codes 0x04, 0x05). -/
def Dev.laneFault (d : Dev) (src l detail : Nat) : Dev :=
  let d1 := d.faultLane src l detail
  (d1.stopProbe l).recoverLane src l

/-- FAULT_DETECTION: a source takes its action of Table SF-3 or FD-3. `object` is a lane, domain, port or quire, 255 for
none; `lost` names the journal record of sources 0x0C and 0x0E; `spoiled` a Colophon record that its ECC no longer gives. -/
def faultDetection (source object detail : Nat) (lost spoiled : Option (Nat × Nat)) (d : Dev) : Dev :=
  if d.pwr.state ≠ .active && d.pwr.state ≠ .sleep then d else
  if source = 2 || source = 6 then
    let d1 := d.faultDevice source object detail
    if d1.escalates source object then d1.muteForRestart.enterFault 3 else d1.restartQuireC
  else if source = 3 || source = 7 then (d.faultMetro source object detail).restartQuireM
  else if source = 4 || source = 5 then
    if d.hasLane object then d.laneFault source object detail else d.faultDevice source object detail
  else if source = 8 then
    if d.hasLane object then synthUnlock object detail d else d.faultDevice 8 object detail
  else if source = 9 then
    let d1 := d.faultDevice 9 object detail
    if d1.hasPort object then d1.linkLoss object 5 else d1
  else if source = 10 then (d.faultDevice 10 object detail).resetTo 5
  else if source = 12 then
    let d1 := d.faultDevice 12 object detail
    let d2 := match spoiled with
      | some (part, seq) => d1.updPart part (fun p =>
          { p with stored := p.stored.map (fun r => if r.seq = seq then { r with bad := true } else r) })
      | none => d1
    match lost with
    | some (typ, inst) => d2.raiseDev 0x0E80 (e16 typ ++ e16 inst ++ e32 (d2.gen typ inst))
    | none => d2
  else if source = 14 then
    match lost with
    | some (typ, inst) => d.loseRecord typ inst
    | none => d.faultDevice 14 object detail
  else if source = 15 && object = 2 then d.faultMetro 15 object detail
  else if 1 ≤ source && source ≤ 15 then d.faultDevice source object detail
  else d

def execFaultDetection (source object detail : Nat) (lost spoiled : Option (Nat × Nat)) (s : State) :
    Host.Outcome State Fault Refusal := s.act (faultDetection source object detail lost spoiled)

/-- FAULT_RESET_TIMER: 10 s after a recoverable cause the ZS8 resets with cause 0x09, at most 3 times in 600 s; the next
start after cause 0x02 runs without Quire M (R569, Table FD-4). -/
def faultResetTimer (d : Dev) : Dev :=
  let cause := d.pwr.faultCause
  let recent := d.pwr.faultResets.filter (fun t => d.since t < secU 600)
  if d.pwr.phase ≠ .fault || cause = 0 || 3 < cause || d.since d.pwr.faultSince < secU 10 || 3 ≤ recent.length then d else
  let d1 := (d.updPwr (fun p => { p with faultResets := recent ++ [d.time] })).bumpNv pFaultResetCount 0
  let d2 := d1.resetTo 9
  { d2 with sto := { d2.sto with entered := some (cause, recent.length + 1, d.ts), mDead := cause = 2 } }

def execFaultResetTimer (s : State) : Host.Outcome State Fault Refusal := s.act faultResetTimer

/-! ### Page programs, erases and compaction (R555, R559 to R564) -/

/-- Pages of an entry go to the journal halves: not those of Quire M's journal or of a firmware slot (Table FD-1). -/
def JournalEntry.halves (e : JournalEntry) : Bool := e.typ ≠ 0x0C00 && e.typ ≠ 0x0E01

/-- A half is down to its flush reserve (R561). -/
def Dev.atReserve (d : Dev) : Bool := d.nvm.freePages.any (fun n => decide (n ≤ 32))

/-- An entry may be programmed now: one not yet begun waits out a shutdown sequence and thermal SHUTDOWN, Quire M's saves
apart; a host's write waits for erases while a half is at its reserve (R209, R561, R564). -/
def Dev.mayProgram (d : Dev) (e : JournalEntry) : Bool :=
  e.granted && !(e.hostWrite && e.halves && !d.erasePermitted && d.atReserve) &&
    (e.left0 < e.pages || (d.pwr.sequence.isNone && (d.get pThermalState ≠ 2 || e.typ = 0x0C00)))

/-- PAGE_PROGRAM_COMPLETE: the next page of the entry at the front is programmed, copy 0 before copy 1; with the last one
the journal holds the new version. `retired` names the sector that failed, with its erase count; its page went to another
(R555, R563). -/
def pageProgramComplete (retired : Option (Nat × Nat)) (d : Dev) : Dev :=
  if d.pwr.state ≠ .active && d.pwr.state ≠ .sleep then d else
  match d.nvm.queue.find? d.mayProgram with
  | none => d
  | some e =>
    let half := if e.left0 ≠ 0 then 0 else 1
    let x : JournalEntry := if e.left0 ≠ 0 then { e with left0 := e.left0 - 1 } else { e with left1 := e.left1 - 1 }
    let done := x.left0 = 0 && x.left1 = 0
    let d1 := d.updNvm (fun n =>
      { n with queue := if done then n.queue.erase e else n.queue.map (fun y => if y = e then x else y)
               freePages := if e.halves then upd n.freePages half (fun v => v - 1) else n.freePages
               pagesProgrammed := inc32 n.pagesProgrammed })
    let d2 := match retired with
      | some (sector, count) => d1.retire sector count
      | none => d1
    if done then d2.entryDone x else d2

def execPageProgramComplete (retired : Option (Nat × Nat)) (s : State) : Host.Outcome State Fault Refusal :=
  s.act (pageProgramComplete retired)

/-- One sector of the wear pool with erase count `c` reaches `c + 1`; a count that no sector has stands for the least. -/
def wearOne (c : Nat) (w : List (Nat × Nat)) : List (Nat × Nat) :=
  let k := if w.any (fun x => x.1 = c) then c else (w.head?.map (·.1)).getD 0
  let less := (w.map (fun x => if x.1 = k then (x.1, x.2 - 1) else x)).filter (fun x => x.2 ≠ 0)
  if less.any (fun x => x.1 = k + 1) then less.map (fun x => if x.1 = k + 1 then (x.1, x.2 + 1) else x)
  else less.filter (fun x => x.1 ≤ k) ++ (k + 1, 1) :: less.filter (fun x => k + 1 < x.1)

/-- ERASE_COMPLETE: the erase in flight is done; `count` was its sector's erase count, and `retired` its number when the
erase failed. The next one that waits begins (R539, R559, R560, R563, R575). -/
def eraseComplete (count : Nat) (retired : Option Nat) (d : Dev) : Dev :=
  match d.nvm.erase with
  | none => d
  | some k =>
    let d1 := d.updNvm (fun n =>
      { n with erase := none, erases := inc32 n.erases, erasePending := n.erasePending - 1
               wear := match k with
                 | .stage _ => n.wear
                 | _ => wearOne count n.wear })
    let d2 := match k with
      | .journal h => d1.updNvm (fun n => { n with freePages := upd n.freePages h (fun v => v + 16) })
      | .colophon part =>
        if part = 8 then (d1.updPart 8 (fun p => { p with released := p.released - 128 })).metroClear
        else d1.updPart part (fun p => { p with erasedAhead := true })
      | .stage q => { d1 with sto := { d1.sto with stages := upd d1.sto.stages q (fun x => { x with eraseLeft := x.eraseLeft - 1 }) } }
    let d3 := match retired with
      | some sector => d2.retire sector (count + 1)
      | none => d2
    d3.checkErase

def execEraseComplete (count : Nat) (retired : Option Nat) (s : State) : Host.Outcome State Fault Refusal :=
  s.act (eraseComplete count retired)

/-- COMPACTION: a half with fewer than 16 erased sectors programs the live pages of its tail sector again at its head, and
the tail sector is to be erased (R560). -/
def compaction (half live : Nat) (d : Dev) : Dev :=
  let free := nth d.nvm.freePages half
  let busy := (d.nvm.erase.toList ++ d.nvm.eraseWanted).contains (.journal half)
  if 1 < half || 256 ≤ free || busy || 16 < live || free < live || (d.pwr.state ≠ .active && d.pwr.state ≠ .sleep) then d else
  (d.updNvm (fun n =>
    { n with freePages := upd n.freePages half (fun v => v - live), eraseWanted := n.eraseWanted ++ [.journal half]
             pagesProgrammed := sat 4294967295 (n.pagesProgrammed + live) })).checkErase

def execCompaction (half live : Nat) (s : State) : Host.Outcome State Fault Refusal := s.act (compaction half live)

/-! ### Firmware (R575, R576, R579, Table FD-7) -/

/-- Bytes of a quire's slot (Table FD-1); quire 0 is C, 1 is M. -/
def quireSlot (q : Nat) : Nat := if q = 0 then 3072 * 4096 else 512 * 4096

def Dev.stage (d : Dev) (q : Nat) : Stage := nth d.sto.stages q
def Dev.updStage (d : Dev) (q : Nat) (f : Stage → Stage) : Dev :=
  { d with sto := { d.sto with stages := upd d.sto.stages q f } }

/-- The version of a quire's active image. -/
def Dev.activeVersion (d : Dev) (q : Nat) : Nat := if q = 0 then d.factory.versionC else d.factory.versionM

/-- The stage response (Table FD-7). -/
def Stage.body (x : Stage) : List Byte :=
  e8 x.state ++ zs 3 ++ e32 x.data.length ++ e32 (if 64 ≤ x.data.length then fld x.data 4 4 else 0)

/-- FW_STAGED. -/
def Dev.stagedEvent (d : Dev) (q : Nat) : Dev :=
  let x := d.stage q
  d.raiseDev 0x0E84 (e8 (q + 1) ++ e8 x.state ++ zs 2 ++ e32 (if 64 ≤ x.data.length then fld x.data 4 4 else 0))

def cmdFwStage : CmdSpec :=
  { opcode := 0x0E01, len := len 8, blkOptional := fun _ => true, denied := onlyS0,
    early := fun _ r => if r.blkAttached ≠ decide (rq r 0 1 = 1) then some (fail .badLen) else none,
    nvm := fun _ r => rq r 0 1 ≤ 1,
    bad := fun _ r =>
      let op := rq r 0 1
      let q := rq r 1 1
      firstBad r.body [.rg 0 (op ≤ 3), .rg 1 (q = 1 || q = 2), .rs 2 2,
        .rg 4 (op ≤ 1 || rq r 4 4 = 0)],
    run := fun d r =>
      let op := rq r 0 1
      let q := rq r 1 1 - 1
      let x := d.stage q
      if (op = 0 || op = 2) && 8 ≤ d.longCount r.slot then refuse d (fail .busy)
      else if x.busy.isSome then refuse d (fail .busy)
      else if op = 0 then
        if d.anyBridging then refuse d (fail .state) else
        if quireSlot q < rq r 4 4 then refuse d (fail .badArg) else
        let sectors := (rq r 4 4 + 4095) / 4096
        let d1 := d.updStage q (fun _ => { state := 1, total := rq r 4 4, eraseLeft := sectors, busy := some (r.slot, r.ref) })
        let d2 : Dev := { d1 with sto := { d1.sto with images := upd d1.sto.images q (fun i => { i with other := none }) } }
        let d3 := (d2.updNvm (fun n => { n with eraseWanted := n.eraseWanted ++ List.replicate sectors (.stage q) })).checkErase
        { dev := d3, reply := accepted (1000 + 300 * sectors) }
      else if op = 3 then { dev := d.updStage q (fun _ => {}), reply := okBody (Stage.body {}) }
      else if x.state ≠ 1 then refuse d (fail .state)
      else if op = 2 then
        { dev := d.updStage q (fun y => { y with busy := some (r.slot, r.ref) }), reply := accepted 5000 }
      else
        let n := x.data.length
        let data := x.data ++ r.blk
        if rq r 4 4 ≠ n then refuse d (fail .badArg)
        else if x.total < data.length then refuse d (fail .state)
        else if n < 64 && 64 ≤ data.length && fld data 1 1 ≠ q + 1 then refuse d (fail .badArg)
        else if n < 64 && 64 ≤ data.length && fld data 4 4 ≤ d.activeVersion q then refuse d (fail .badArg)
        else
          let y : Stage := { x with data := data }
          let pages := (r.blk.length + 255) / 256
          let e : JournalEntry :=
            { typ := 0x0E01, inst := q, gen := d.gen 0x0E01 q + 1, pages := pages, left0 := pages, left1 := 0,
              slot := r.slot, ref := r.ref, hostWrite := true, granted := false,
              act := .respond r.slot r.ref r.tagged 0x0E01 (okBody y.body) }
          let d1 := (d.updStage q (fun _ => y)).updNvm (fun v => { v with queue := v.queue ++ [e] })
          { dev := d1.request .nvm r.slot r.ref pages, reply := okBody [], held := true } }

def execFwStage (r : Request) (s : State) : Host.Outcome State Fault Refusal := s.act (hostCmd cmdFwStage r)

/-- A staged image verifies (R521, R575): header, code length, SHA-256 over the code, and the signature over header and
code. -/
def Dev.imageGood (d : Dev) (q : Nat) : Bool :=
  let x := d.stage q
  let b := x.data
  let code := b.length - 128
  b.length = x.total && 128 ≤ b.length && fld b 0 1 = 1 && fld b 1 1 = q + 1 && d.activeVersion q < fld b 4 4 &&
    fld b 8 4 = code && slice b 32 32 = sha256 (slice b 64 code) &&
    ecdsaCheck (if q = 0 then d.factory.wileskoKey else d.factory.metrologyKey) (slice b 0 (64 + code)) (slice b (64 + code) 64)

/-- FW_STAGE_COMPLETE: an open is done once its sectors are erased, and ends with STATE when its bound passes first; a verify
gives VERIFIED or FAILED (R575, R579). -/
def fwStageComplete (slot ref : Nat) (d : Dev) : Dev :=
  match d.longIs slot ref 0x0E01 with
  | none => d
  | some l =>
    let q := fld l.body 1 1 - 1
    if (d.stage q).busy ≠ some (slot, ref) then d
    else if fld l.body 0 1 = 2 then
      let d1 := (d.updStage q (fun x => { x with busy := none, state := if d.imageGood q then 2 else 3 })).stagedEvent q
      d1.complete l (okBody (d1.stage q).body)
    else if (d.stage q).eraseLeft = 0 then
      let d1 := (d.updStage q (fun x => { x with busy := none })).stagedEvent q
      d1.complete l (okBody (d1.stage q).body)
    else if d.since l.since < msU l.bound then d
    else
      let d1 := (d.updStage q (fun _ => {})).updNvm (fun n => { n with eraseWanted := n.eraseWanted.filter (fun k => k ≠ .stage q) })
      (d1.stagedEvent q).complete l (fail .state)

def execFwStageComplete (slot ref : Nat) (s : State) : Host.Outcome State Fault Refusal := s.act (fwStageComplete slot ref)

def cmdFwCommit : CmdSpec :=
  { opcode := 0x0E02, len := len 4, denied := onlyS0, nvm := fun _ _ => true,
    bad := fun _ r => firstBad r.body [.rg 0 (rq r 0 1 = 1 || rq r 0 1 = 2), .rs 1 3],
    run := fun d r =>
      let q := rq r 0 1 - 1
      if (d.stage q).state ≠ 2 || d.anyBridging || (q = 1 && d.metroShort) then refuse d (fail .state)
      else
        let img := (d.stage q).data
        let d1 := if q = 1 then
            let e := (d.closePeriod d.metroTime 4 (d.localTime d.metroTime)).saveToll
            e.updToll (fun t => { t with updated := some t.sealId })
          else d
        let images := upd d1.sto.images q (fun i => { i with commit := some (fld img 4 4, (sha256 img).take 4) })
        let d2 : Dev := { d1 with sto := { d1.sto with images := images } }
        { dev := d2.journal 0x0E02 q 1 (some (r.slot, r.ref))
            (.respond r.slot r.ref r.tagged 0x0E02 (okBody (e8 (q + 1) ++ zs 3))) false
          reply := okBody [], held := true } }

def execFwCommit (r : Request) (s : State) : Host.Outcome State Fault Refusal := s.act (hostCmd cmdFwCommit r)

/-! ### Reports (Table FD-7) -/

/-- A command whose request is 4 reserved bytes and whose access is ANY. -/
def cmdReport (opcode : Nat) (body : Dev → List Byte) : CmdSpec :=
  { opcode := opcode, len := len 4, bad := fun _ r => firstBad r.body [.rs 0 4],
    run := fun d _ => { dev := d, reply := okBody (body d) } }

def cmdNvmStatus : CmdSpec := cmdReport 0x0E03 (fun d =>
  let w := d.nvm.wear
  e8 (flags [d.erasePermitted, d.eraseHot, d.erasePoor, d.brownedOut, d.atReserve]) ++ zs 3 ++
    e16 (d.getN pNvmSpareSectors) ++ e16 d.nvm.erasePending ++ e32 ((w.getLast?.map (fun x => x.1)).getD 0) ++
    e32 ((w.head?.map (fun x => x.1)).getD 0) ++ e32 (nth d.nvm.freePages 0) ++ e32 (nth d.nvm.freePages 1) ++
    e32 d.nvm.pagesProgrammed ++ e32 d.nvm.erases)

def execNvmStatus (r : Request) (s : State) : Host.Outcome State Fault Refusal := s.act (hostCmd cmdNvmStatus r)

def cmdFactoryDataGet : CmdSpec := cmdReport 0x0E04 (fun d =>
  let f := d.factory
  padTo 16 f.serial ++ s32 f.steer ++ e32 f.calId ++ keyIdOf f.metrologyKey ++ e32 f.manufactured ++ e8 f.stepping ++
    e8 (if f.variantH then 2 else 1) ++ zs 2)

def execFactoryDataGet (r : Request) (s : State) : Host.Outcome State Fault Refusal := s.act (hostCmd cmdFactoryDataGet r)

def cmdFaultCountersGet : CmdSpec :=
  { opcode := 0x0F01, len := len 4,
    bad := fun _ r => firstBad r.body [.rg 0 (1 ≤ rq r 0 1 && rq r 0 1 ≤ 15), .rs 1 3],
    run := fun d r =>
      let first := rq r 0 1
      let n := min 8 (16 - first)
      { dev := d, reply := okBody (e8 first ++ e8 n ++ zs 2 ++
          (List.range n).flatMap (fun k => e32 (d.getN pFaultSourceCount (first + k)))) } }

def execFaultCountersGet (r : Request) (s : State) : Host.Outcome State Fault Refusal := s.act (hostCmd cmdFaultCountersGet r)

/-! ### Self-test (R578, R579) -/

def cmdSelftestRun : CmdSpec :=
  { opcode := 0x0F02, len := len 4, long := true, denied := onlyS0,
    bad := fun _ r => firstBad r.body [.rg 0 (rq r 0 1 ≤ 15), .rs 1 3],
    run := fun d r =>
      if d.sto.selftest.isSome then refuse d (fail .busy)
      else if d.anyBridging || d.sv.jobs ≠ [] then refuse d (fail .state)
      else { dev := { d with sto := { d.sto with selftest := some (r.slot, r.ref, rq r 0 1) } }, reply := accepted 30000 } }

def execSelftestRun (r : Request) (s : State) : Host.Outcome State Fault Refusal := s.act (hostCmd cmdSelftestRun r)

/-- SELFTEST_COMPLETE: the tests have run; a failed SRAM word or a grant beyond 20 ns fails its test, `failed` names what else
did (R578). -/
def selftestComplete (slot ref failed arbLong sramFail scrubbed corrected : Nat) (d : Dev) : Dev :=
  match d.sto.selftest, d.longIs slot ref 0x0F02 with
  | some (s, f, tests), some l =>
    if s ≠ slot || f ≠ ref then d else
    let on := fun (k v : Nat) => if bit tests k then v else 0
    let bad := tests &&& ((failed &&& 10) ||| flags [sramFail ≠ 0, false, arbLong ≠ 0])
    let d1 := ({ d with sto := { d.sto with selftest := none } }).raiseDev 0x0F84 (e8 tests ++ e8 bad)
    d1.complete l (okBody (e8 tests ++ e8 bad ++ zs 2 ++ e32 (on 2 arbLong) ++ e32 (on 0 sramFail) ++ e32 (on 1 scrubbed) ++
      e32 (on 1 corrected)))
  | _, _ => d

def execSelftestComplete (slot ref failed arbLong sramFail scrubbed corrected : Nat) (s : State) :
    Host.Outcome State Fault Refusal := s.act (selftestComplete slot ref failed arbLong sramFail scrubbed corrected)

/-! ### Shock (R571 to R574, R581) -/

def Dev.updShock (d : Dev) (f : Shock → Shock) : Dev := { d with sto := { d.sto with shock := f d.sto.shock } }

/-- Every lane that bridges or carries a probe turns STALE, and a probe in progress completes with flags [2] (R572). -/
def Dev.shockStale (d : Dev) : Dev :=
  let d1 := d.laneIds.foldl (fun e l =>
    let bridging := match e.laneBand l with
      | some b => e.bandState b = 3
      | none => false
    if bridging || (e.lane l).probing then e.staleIso l 0 else e) d
  { d1 with sv := { d1.sv with jobs := d1.sv.jobs.map (fun x => if x.kind = 3 && x.start.isSome then { x with shock := true } else x) } }

/-- A shock is detected: an episode starts or is extended; it is a wake source of SLEEP (R571, R572, Table PS-2). -/
def Dev.shockSeen (d : Dev) (peak : Nat) : Dev :=
  match d.sto.shock.start with
  | some _ => d.updShock (fun x => { x with last := d.time, peak := max x.peak peak, count := x.count + 1 })
  | none =>
    let d1 := d.updShock (fun x =>
      { x with start := some d.time, startTs := d.ts, last := d.time, peak := peak, count := 1, episodes := inc32 x.episodes })
    let d2 := (d1.bumpNv pShockCount 0).shockStale
    if d2.pwr.state = .sleep && !d2.sleepSource 2 then d2 else d2.wake 4

/-- Shock is watched in ACTIVE and SLEEP (R571). -/
def Dev.watchesShock (d : Dev) (source : Nat) : Bool :=
  d.get pShockSource = source && (d.pwr.state = .active || d.pwr.state = .sleep)

/-- ACCEL_READ: X, Y and Z as read, or a failed read; three failures in a row are recorded once (R571, R581). -/
def accelRead (sample : Option (List Byte)) (d : Dev) : Dev :=
  if !d.watchesShock 2 then d else
  match sample with
  | none =>
    let n := d.sto.shock.fails + 1
    let d1 := d.updShock (fun x => { x with fails := min 3 n })
    if n = 3 then d1.faultDevice 4 0xFE 0 else d1
  | some b =>
    let axis := fun k => if bit (d.getN pAccelFlags) 0 then signExt 2 (beNat (slice b (2 * k) 2)) else fldS b (2 * k) 2
    let sum := (axis 0 * axis 0 + axis 1 * axis 1 + axis 2 * axis 2).toNat * d.getN pAccelLsbUg ^ 2
    let d1 := d.updShock (fun x => { x with fails := 0 })
    if (d.getN pShockThreshold * 100000) ^ 2 < sum then d1.shockSeen (min 65534 ((isqrt sum + 50000) / 100000)) else d1

def execAccelRead (sample : Option (List Byte)) (s : State) : Host.Outcome State Fault Refusal := s.act (accelRead sample)

/-- SHOCK_IN_EDGE: a high of at least 2 µs on SHOCK_IN is a detection, without a peak (R571). -/
def shockInEdge (highNs : Nat) (d : Dev) : Dev := if d.watchesShock 1 && 2000 ≤ highNs then d.shockSeen 65535 else d

def execShockInEdge (highNs : Nat) (s : State) : Host.Outcome State Fault Refusal := s.act (shockInEdge highNs)

/-- SHOCK_EPISODE_END: 50 ms after the last detection the episode is recorded, and the SFP recheck is due 100 ms later (R571
to R573). -/
def shockEpisodeEnd (d : Dev) : Dev :=
  let x := d.sto.shock
  match x.start with
  | none => d
  | some t =>
    if d.since x.last < msU 50 then d else
    let d1 := d.updShock (fun y =>
      { y with start := none, lastPeak := x.peak, lastTs := x.startTs, recheckAt := some (d.time + msU 100) })
    d1.raiseDev 0x0F81 (e16 x.peak ++ e16 (min 65535 x.count) ++ e64 x.startTs ++ e32 (min 4294967295 (toMs (d.since t))))

def execShockEpisodeEnd (s : State) : Host.Outcome State Fault Refusal := s.act shockEpisodeEnd

/-- SFP_RECHECK: 100 ms after an episode each port's module is read again; one whose vendor name or serial differs is removed
and inserted (R573, R574). -/
def sfpRecheck (reads : List (Option (List Byte))) (d : Dev) : Dev :=
  match d.sto.shock.recheckAt with
  | none => d
  | some t =>
    if d.time < t || d.pwr.phase ≠ .ready then d else
    let name := fun (a : List Byte) => slice a 20 16 ++ slice a 68 16
    let outcome : Nat → Nat := fun p => match nth reads p with
      | some a => if !(d.hasPort p && (d.port p).module) then 0 else if name a = name (d.port p).ident then 1 else 2
      | none => 0
    let bits := outcome 0 + 4 * outcome 1
    let d1 := d.portIds.foldl (fun e p =>
      if outcome p = 2 then sfpModuleIdentify p (nth reads p) (sfpModuleIdentify p none e) else e) d
    (d1.updShock (fun y => { y with recheck := bits, recheckAt := none })).raiseDev 0x0F82 (e8 bits)

def execSfpRecheck (reads : List (Option (List Byte))) (s : State) : Host.Outcome State Fault Refusal := s.act (sfpRecheck reads)

def cmdShockStatusGet : CmdSpec := cmdReport 0x0F03 (fun d =>
  let x := d.sto.shock
  e8 (d.getN pShockSource) ++ eb (x.start.isSome && x.fails < 3) ++ e16 x.lastPeak ++ e32 x.episodes ++ e64 x.lastTs ++ e8 x.recheck ++
    zs 3)

def execShockStatusGet (r : Request) (s : State) : Host.Outcome State Fault Refusal := s.act (hostCmd cmdShockStatusGet r)

end Sys2Proof.Machine
end

