-- ==== Sys2Proof/Machine/Power.lean ====
section
/-! DEFINITION. The meanings of power, start-up, shutdown and the change of mode (R23, R43 to R47, R187 to R219, R226). -/

namespace Sys2Proof.Machine

/-! ### Start-up (R193 to R198, Table PS-3) -/

/-- RESET_RELEASE: VSYS has been at 4.6 V with RESET_N high for the 2 ms of R193. HOST_SEL is sampled at a power-on start only
(R89); a TAP that drives the pins holds the release (R615). -/
def resetRelease (vsys : Nat) (hostSel : Bool) (d : Dev) : Dev :=
  let early := match d.pwr.resetAt with
    | some t => decide (d.since t < msU 2)
    | none => false
  if d.pwr.state ≠ .off || vsys < 4600 || !d.pins.resetN || d.tapHolds || early then d else
  let d1 : Dev := if d.pwr.cause = 1 then { d with pins := { d.pins with hostSel := hostSel } } else d
  (d1.takeVsys vsys).release0

def execResetRelease (vsys : Nat) (hostSel : Bool) (s : State) : Host.Outcome State Fault Refusal :=
  s.act (resetRelease vsys hostSel)

/-- HRW_READABLE: the register window answers, by the transport HOST_TRANSPORT names; under quad-SPI it needs VIO (R194, R591). -/
def hrwReadable (d : Dev) : Dev :=
  let usb := d.get pHostTransport = 1
  if d.pwr.state ≠ .active || d.pwr.startHeld.isSome || d.host.readable || !(usb || d.pwr.vioValid) then d else
  { d with host := { d.host with readable := true, usb := usb }, pins := { d.pins with hostIrqN := true } }

def execHrwReadable (s : State) : Host.Outcome State Fault Refusal := s.act hrwReadable

/-- The active Quire C image failed at a start that entered FAULT for it before: the other slot boots when it verifies (Table FD-4
code 0x01). -/
def Dev.fallBackC (d : Dev) (otherOk : Bool) : Option Dev :=
  match d.sto.entered, (nth d.sto.images 0).other with
  | some (1, _, _), some v =>
    if !otherOk then none else
    let failed := d.factory.versionC
    let d1 : Dev := { d with factory := { d.factory with versionC := v }
                             sto := { d.sto with images := upd d.sto.images 0 (fun x => { x with other := some failed }) } }
    some (d1.raiseDev 0x0E85 (e32 failed ++ e32 v))
  | _, _ => none

/-- The stored threshold is loaded and the quires that verified run (Table PS-3). -/
def Dev.quiresUp (d : Dev) (mRuns : Bool) : Dev :=
  let d1 := d.updPwr (fun p => { p with thresholdLoaded := true })
  { d1 with pins := { d1.pins with meterMclk := mRuns } }

/-- PHASE_QUIRES: Quire B has verified the images and the factory data; records with no valid copy left, named by `lost`, take
their defaults (R558, R568). A failure is FAULT; after a FAULT_RESET for Quire C its other slot boots, and for Quire M the start
runs without it. -/
def phaseQuires (cOk mOk otherOk factoryOk : Bool) (lost : List (Nat × Nat)) (d : Dev) : Dev :=
  if d.pwr.state ≠ .active || d.pwr.phase ≠ .boot || d.pwr.startHeld.isSome then d else
  let d1 := lost.foldl (fun e x => e.loseRecord x.1 x.2) d
  let d2 := if mOk then d1 else d1.faultMetro 15 2 0
  let d3 := if mOk || !d2.sto.mDead then d2 else d2.set pMeterState 0 3
  if !factoryOk then d3.enterFault 5
  else if !cOk then
    let d4 := d3.faultDevice 15 1 0
    match d4.fallBackC otherOk with
    | some e => if mOk || e.sto.mDead then (e.quiresUp mOk).setPhase .quires else (e.quiresUp false).enterFault 2
    | none => (d4.quiresUp mOk).enterFault 1
  else if mOk || d3.sto.mDead then (d3.quiresUp mOk).setPhase .quires
  else (d3.quiresUp false).enterFault 2

def execPhaseQuires (cOk mOk otherOk factoryOk : Bool) (lost : List (Nat × Nat)) (s : State) :
    Host.Outcome State Fault Refusal := s.act (phaseQuires cOk mOk otherOk factoryOk lost)

/-- START_PREVIOUS after every cause but POWER_ON (R200). -/
def Dev.startPrevious (d : Dev) : Dev :=
  if d.pwr.cause = 1 then d else
  d.raiseDev 0x0185 (e8 d.pwr.cause ++ e8 d.ao.stateBefore ++ eb d.ao.flushFlag ++ zs 1 ++ s16 d.ao.junctionPeak ++
    e16 d.ao.lowestVsys)

/-- The events that occurred before READY, recorded in their order with the LATCHED flag (R195, R207, R534, R621). -/
def Dev.recordLatched (d : Dev) : Dev :=
  let evs := d.latched
  evs.foldl (fun e x => e.recordAs x.part x.onlyS0 x.agent true x.ts x.code x.payload) { d with latched := [] }

/-- What a reset lost of a partition: the runs that waited, then the staged records or skipped numbers, each with the LATCHED flag;
and the losses of a freeze the reset ended (R541, R544). -/
def Dev.reportReset (d : Dev) (part : Nat) : Dev :=
  let p := d.part part
  let d1 := d.updPart part (fun x => { x with losses := [], thawLost := none })
  let d2 := match p.thawLost with
    | some f => d1.recordAs part (part = 0) 0 true d1.ts 0x0D80
        (e8 part ++ zs 1 ++ e48 f.first ++ e48 f.last ++ zs 2 ++ e32 f.count)
    | none => d1
  p.losses.foldl (fun e r =>
    let e1 := if r.cause = 2 && r.count ≠ 4294967295 then e.addLost part r.count else e
    e1.recordAs part (part = 0) 0 true e1.ts 0x0D81
      (e8 part ++ e8 r.cause ++ e48 r.first ++ e48 r.last ++ zs 2 ++ e32 r.count)) d2

/-- FAULT_ENTERED after a FAULT_RESET (R569). -/
def Dev.faultEntered (d : Dev) : Dev :=
  match d.sto.entered with
  | none => d
  | some (cause, n, ts) =>
    ({ d with sto := { d.sto with entered := none } }).raiseDev 0x0F83 (e8 cause ++ e8 n ++ zs 2 ++ e64 ts)

/-- THERMAL_START_HELD when the start was held (R198). -/
def Dev.startHeldEvent (d : Dev) : Dev :=
  if d.pwr.heldTotal = 0 then d
  else d.raiseDev 0x018B (e32 (min 4294967295 (toMs d.pwr.heldTotal)) ++ s16 d.pwr.heldPeak)

/-- The CMD rings that hold an entry at READY are due in slot order (R196). -/
def Dev.allDue (d : Dev) : Dev :=
  (List.range 8).foldl (fun e k => e.updSlot k (fun s => { s with due := d.cmdWaiting k ≠ 0 })) d.settlePort

/-- What a restart of Quire C alone leaves to do at its READY (R215). -/
def Dev.readyAgain (d : Dev) : Dev :=
  let d1 := ((d.updPwr (fun p => { p with restartC := false })).updAo (fun a => { a with flushFlag := false })).recordLatched
  (d1.clearAll 16).unholdAll 4

/-- PHASE_READY: Quire C runs; what the start found and held back is recorded, the ledger restored, the WAKE packet checked and
the GNSS bytes parsed, and the CMD rings are due in slot order (R194 to R196, R200, R216, R238, R308, R541). -/
def phaseReady (d : Dev) : Dev :=
  if d.pwr.state ≠ .active || d.pwr.phase ≠ .quires || d.pwr.startHeld.isSome then d else
  let d1 := d.setPhase .ready
  if d1.pwr.restartC then d1.readyAgain.allDue else
  let d2 := (d1.updPwr (fun p => { p with readyAt := some d1.time })).set pStartReadyTime 0 (durOf (d1.since d1.pwr.releaseAt) : Nat)
  let d3 := (d2.startPrevious.faultEntered).recordLatched
  let d4 := (List.range 9).foldl (fun e p => e.reportReset p) d3
  let d5 := (d4.startHeldEvent).updPwr (fun p => { p with heldTotal := 0 })
  let d6 := if d5.pwr.cause = 7 then d5.powerEvent 2 0 d5.ao.wakeSource else d5
  let d7 := (d6.restoreLedger).updAo (fun a => { a with flushFlag := false, junctionPeak := -2048, lowestVsys := 65535 })
  let d8 := ((d7.checkWake.parseGnss).driveChg).renewReserves
  ((d8.subsys 6 true).checkErase).allDue

def execPhaseReady (s : State) : Host.Outcome State Fault Refusal := s.act phaseReady

/-- LANE_CALIBRATION_COMPLETE: the lanes have calibrated (Table PS-3). -/
def laneCalibrationComplete (d : Dev) : Dev :=
  if d.pwr.state ≠ .active || d.pwr.startHeld.isSome || d.pwr.phase = .boot || d.pwr.lanesCal then d
  else (d.updPwr (fun p => { p with lanesCal := true })).subsys 5 true

def execLaneCalibrationComplete (s : State) : Host.Outcome State Fault Refusal := s.act laneCalibrationComplete

/-- Every step of Table PS-3 that applies has been reached; a port without a module is not waited for (R216). -/
def Dev.stepsReached (d : Dev) : Bool :=
  let up := d.getN pSubsysUp
  ([0, 1, 4, 5, 6] : List Nat).all (bit up) && d.portIds.all (fun p => !(d.port p).module || bit up (2 + p))

/-- START_COMPLETE: every step is reached, or 1,200 ms have passed since the release (R216, Table PS-12). -/
def startComplete (d : Dev) : Dev :=
  if d.pwr.phase ≠ .ready || d.pwr.startComplete || !(d.stepsReached || msU 1200 ≤ d.since d.pwr.releaseAt) then d else
  (d.updPwr (fun p => { p with startComplete := true })).raiseDev 0x0184
    (e8 d.pwr.cause ++ zs 1 ++ e16 (d.getN pSubsysUp % 65536) ++ e32 (d.getN pStartReadyTime) ++
      e32 (durOf (d.since d.pwr.releaseAt)) ++ e32 (d.getN pGnssEarlyOverflow))

def execStartComplete (s : State) : Host.Outcome State Fault Refusal := s.act startComplete

/-! ### Thermal protection (R198, R207 to R211) -/

/-- S: THERMAL_SHUTDOWN, or 112 °C until it is loaded (R198, R207). -/
def Dev.thermalS (d : Dev) : Int := if d.pwr.thresholdLoaded then d.get pThermalShutdown else 1792

/-- The temperatures as sampled; the ZS8-H has no sensor 2 (R213). -/
def Dev.takeTemps (d : Dev) (temps : List (Option Int)) : Dev :=
  let ts := (List.range 8).map (fun k => if k = 2 && d.factory.variantH then none else nth temps k)
  let d1 := d.updPwr (fun p => { p with temps := ts })
  d1.set pJunctionPeak 0 (max (d1.get pJunctionPeak) d1.junction)

/-- The end of the thermal sequence: what survey and calibration still runs ends, every lane is in DOZE and TX_DISABLE asserted,
and THERMAL_SHUTDOWN is recorded (Table PS-8). -/
def Dev.thermalEnd (d : Dev) (q : Sequence) : Dev :=
  let d1 := ((d.endSurveys (fun _ => true) .thermal false 2 4).endCalRuns d.laneIds .thermal 4).dozeLanes.disableTx
  let d2 := d1.updPwr (fun p => { p with thermalSeq := p.thermalSeq.map (fun s => { s with flushed := true, flushedAt := d.time }) })
  d2.raiseDev 0x0187 (e8 q.sensor ++ e8 q.nvm ++ s16 q.temp ++ e32 (durOf (d.since q.since)))

/-- The flush flag goes when a hold or SHUTDOWN is left without a reset (R205). -/
def Dev.dropFlushFlag (d : Dev) : Dev := d.updAo (fun a => { a with flushFlag := false })

/-- SHUTDOWN is left after READY: its flush has run, TX_DISABLE is released and the bands restart by the ladder (R210). -/
def Dev.thermalLeft (d : Dev) : Dev :=
  let d1 := match d.pwr.thermalSeq with
    | some q => if q.flushed then d else d.flush.thermalEnd q
    | none => d
  let d2 := ((d1.updPwr (fun p => { p with thermalSeq := none })).clearAll 11).dropFlushFlag
  let d3 := if d2.pwr.sequence.isSome then d2 else d2.unholdAll 4
  if d3.pwr.state = .active && d3.pwr.sequence.isNone then d3.releaseTx else d3

/-- SHUTDOWN before READY holds the start; the hold ends with it (R198). -/
def Dev.holdStart (d : Dev) : Dev :=
  (d.set pThermalState 0 2).updPwr (fun p =>
    { p with shutdownSince := d.time, startHeld := some (p.startHeld.getD d.time), heldPeak := max p.heldPeak d.junction })

def Dev.resumeStart (d : Dev) : Dev :=
  d.updPwr (fun p =>
    { p with startHeld := none, heldTotal := p.heldTotal + (match p.startHeld with
        | some t => d.since t
        | none => 0) })

/-- THERMAL_SAMPLE: the temperatures every 100 µs while VCORE is powered, and THERMAL_STATE by R207. `temps` holds sensors 0 to 7,
none where absent or open. -/
def thermalSample (temps : List (Option Int)) (d : Dev) : Dev :=
  if !d.powered then d else
  let d1 := d.takeTemps temps
  let s := d1.thermalS
  let d2 := d1.updPwr (fun p => { p with abortS := s, heldPeak := if p.startHeld.isSome then max p.heldPeak d1.junction else p.heldPeak })
  let j := d2.junction
  let st := d2.get pThermalState
  let d3 :=
    if st = 2 then
      if s - 240 ≤ j then d2 else
      let e := (d2.set pThermalState 0 0).raiseDev 0x0188
        (e32 (min 4294967295 (toMs (d2.since d2.pwr.shutdownSince))) ++ s16 j)
      if e.pwr.readyAt.isNone then e.resumeStart else e.thermalLeft
    else if s ≤ j then (if d2.pwr.readyAt.isNone then d2.holdStart else d2.startThermal)
    else if st = 0 && s - 128 ≤ j then
      (d2.set pThermalState 0 1).raiseDev 0x0186 (e8 d2.hottest ++ zs 1 ++ s16 j ++ s16 s)
    else if st = 1 && j < s - 176 then d2.set pThermalState 0 0
    else d2
  (d3.driveChg).checkErase

def execThermalSample (temps : List (Option Int)) (s : State) : Host.Outcome State Fault Refusal := s.act (thermalSample temps)

/-- HARD_ABORT: at S + 6 °C the hardware removes every rail, without a flush, in any state (R211). -/
def hardAbort (temps : List (Option Int)) (d : Dev) : Dev :=
  if d.pwr.state = .off || d.pwr.state = .hardHold then d else
  let d1 := d.takeTemps temps
  let s := if d1.powered then d1.thermalS else d1.pwr.abortS
  if d1.junction < s + 96 then d else
  let before := if d1.powered then 0 else 2
  let d2 := (d1.updPwr (fun p => { p with abortS := s })).down 6 .hardHold
  if before = 2 then d2.updAo (fun a => { a with stateBefore := 2 }) else d2

def execHardAbort (temps : List (Option Int)) (s : State) : Host.Outcome State Fault Refusal := s.act (hardAbort temps)

/-- HARD_ABORT_RELEASE: below S − 15 °C the hold ends and the unit is to start with cause 0x06 (R211). -/
def hardAbortRelease (junction : Int) (d : Dev) : Dev :=
  if d.pwr.state ≠ .hardHold || d.pwr.abortS - 240 ≤ junction then d else
  d.updPwr (fun p => { p with state := .off, resetAt := some d.time, temps := upd (p.temps.map (fun _ => none)) 0 (fun _ => some junction) })

def execHardAbortRelease (junction : Int) (s : State) : Host.Outcome State Fault Refusal := s.act (hardAbortRelease junction)

/-! ### The shutdown sequences (R202 to R206, R214, R217, R218) -/

/-- Each long command still open completes with STATE, counted, but for the request of the sequence (Table PS-7). -/
def Dev.endLongs (d : Dev) (keep : Option (Nat × Nat)) : Dev :=
  let ls := d.host.longs.filter (fun l => keep ≠ some (l.slot, l.ref))
  let d1 := ls.foldl (fun e l => e.complete l (fail .state)) d
  d1.updPwr (fun p => { p with longEnded := p.longEnded + ls.length })

/-- The body of a POWER_STATE_SET completion (Table PS-11). -/
def powerDone (previous target ended taken : Nat) : List Byte :=
  e8 previous ++ e8 target ++ e16 (min 65535 ended) ++ e32 taken

/-- The end of the flush in an orderly sequence: TX_DISABLE is asserted, the courier is off unless it is to sniff, and the request
completes (Table PS-7). -/
def Dev.orderlyFlushed (d : Dev) (q : Sequence) : Dev :=
  let d1 := d.disableTx
  let d2 := d1.updPwr (fun p => { p with courierUp := p.courierUp && d1.getB pWatchCourierSniff })
  match q.request with
  | none => d2
  | some (slot, ref) =>
    match d2.longIs slot ref 0x0102 with
    | some l => d2.complete l (okBody (powerDone 0 2 d2.pwr.longEnded (durOf (d2.since q.since))))
    | none => d2

/-- SHUTDOWN_FLUSH_COMPLETE: the one flush of the sequences in progress is done (R205, R218). -/
def shutdownFlushComplete (d : Dev) : Dev :=
  if !d.powered || !d.flushDue then d else
  let d1 := match d.pwr.sequence with
    | some { kind := .orderly _ _, request := r, flushed := false, .. } => d.endLongs r
    | _ => d
  let d2 := d1.flush
  let d3 := match d2.pwr.thermalSeq with
    | some q => if q.flushed then d2 else d2.thermalEnd q
    | none => d2
  match d3.pwr.sequence with
  | none => d3
  | some q =>
    if q.flushed then d3 else
    let d4 := d3.updPwr (fun p => { p with sequence := some { q with flushed := true, flushedAt := d3.time } })
    match q.kind with
    | .orderly _ _ => d4.orderlyFlushed q
    | _ => d4

def execShutdownFlushComplete (s : State) : Host.Outcome State Fault Refusal := s.act shutdownFlushComplete

/-- The records that the end of the sessions still staged go to NVM with the flush made (R205, Table PS-7). -/
def Dev.storeLast (d : Dev) : Dev :=
  (List.range 9).foldl (fun e p => if (e.part p).freeze.isSome then e else e.flushPart p (stageSize p)) d

/-- ORDERLY_SHUTDOWN_END: after the flush, once the completions are written or 1,100 ms have passed, sessions end and the unit is
in WATCH or in reset; a wake source that fired meanwhile starts it at once (R206, R217). -/
def orderlyShutdownEnd (d : Dev) : Dev :=
  match d.pwr.sequence with
  | some { kind := .orderly target cause, flushed := true, since := t, .. } =>
    if d.host.outbox ≠ [] && d.since t < msU 1100 then d else
    let wake := d.pwr.orderlyWake
    let d1 := (d.endSessions 3).storeLast
    if target ≠ 0 then d1.resetTo cause else
    let d2 := d1.down 7 .watch
    let d3 := d2.set pCourierState 0 (if d1.getB pWatchCourierSniff && d1.courierKey.isSome then 4 else 0)
    match wake with
    | some code => d3.wakeWatch code
    | none => d3
  | _ => d

def execOrderlyShutdownEnd (s : State) : Host.Outcome State Fault Refusal := s.act orderlyShutdownEnd

/-- BROWN_OUT_WARNING: VSYS falls below 4.5 V; it takes no action in WATCH (R201, R202). -/
def brownOutWarning (vsys : Nat) (d : Dev) : Dev :=
  if !d.powered || 4500 ≤ vsys then d else (d.takeVsys vsys).startBrownOut vsys

def execBrownOutWarning (vsys : Nat) (s : State) : Host.Outcome State Fault Refusal := s.act (brownOutWarning vsys)

/-- BROWN_OUT_RESET: VSYS falls below 3.0 V, in WATCH too (R201, R203). -/
def brownOutReset (vsys : Nat) (d : Dev) : Dev :=
  if d.pwr.state = .off || d.pwr.state = .hardHold || 3000 ≤ vsys then d else (d.takeVsys vsys).resetTo 2

def execBrownOutReset (vsys : Nat) (s : State) : Host.Outcome State Fault Refusal := s.act (brownOutReset vsys)

/-- ALWAYS_ON_LOSS: below 2.5 V the always-on domain is lost and the next start is POWER_ON, in a hard-abort hold too (R199, R201,
R211). -/
def alwaysOnLoss (vsys : Nat) (d : Dev) : Dev :=
  if 2500 ≤ vsys then d else ((d.down 1 .off).updPwr (fun p => { p with vsys := vsys, resetAt := some d.time }))

def execAlwaysOnLoss (vsys : Nat) (s : State) : Host.Outcome State Fault Refusal := s.act (alwaysOnLoss vsys)

/-- BROWN_OUT_RECOVERED: the hold ends 5 ms after its flush at the earliest, with VSYS at 4.6 V, and VIO back, for 5 ms; the bands
restart by the ladder (R203, R205, R592). -/
def brownOutRecovered (vsys : Nat) (d : Dev) : Dev :=
  match d.pwr.sequence with
  | some { kind := .brownOut, flushed := true, flushedAt := t, since := t0, low := low, .. } =>
    let vio := !d.pwr.vioLost || (d.pwr.vioValid && (match d.pwr.vioGoodSince with
      | some v => decide (msU 5 ≤ d.since v)
      | none => false))
    if vsys < 4600 || d.since t < msU 5 || !vio then d else
    let d1 := (d.takeVsys vsys).updPwr (fun p => { p with sequence := none, vioLost := false })
    let d2 := d1.raiseDev 0x018A (e32 (durOf (d1.since t0)) ++ e16 low)
    let d3 := d2.dropFlushFlag.clearAll 12
    (if d3.pwr.thermalSeq.isSome then d3 else d3.unholdAll 4).checkErase
  | _ => d

def execBrownOutRecovered (vsys : Nat) (s : State) : Host.Outcome State Fault Refusal := s.act (brownOutRecovered vsys)

/-! ### Resets, pins and supplies (R190, R191, R199, R591, R592) -/

/-- RESET_PIN: RESET_N has been low for `lowNs` and is low `still`, or has risen. From 10 µs on it resets, but for the hold of a hard
abort (Table PS-5, R211); in reset its rise starts the 2 ms anew (R193). -/
def resetPin (lowNs : Nat) (still : Bool) (d : Dev) : Dev :=
  let d1 : Dev := { d with pins := { d.pins with resetN := !still } }
  if d1.pwr.state = .hardHold then d1
  else if d1.pwr.state = .off then d1.updPwr (fun p => { p with resetAt := if p.resetAt.isSome || 10000 ≤ lowNs then some d1.time else none })
  else if lowNs < 10000 then d1
  else d1.resetTo 3

def execResetPin (lowNs : Nat) (still : Bool) (s : State) : Host.Outcome State Fault Refusal := s.act (resetPin lowNs still)

/-- MAINS_OK_CHANGE: a rise always wakes from WATCH, either edge from SLEEP where enabled (Table PS-2); ignored by the hold of a
hard abort but for the level itself (R211). -/
def mainsOkChange (level : Bool) (d : Dev) : Dev :=
  if level = d.pins.mainsOk then d else
  let d1 : Dev := { d with pins := { d.pins with mainsOk := level }
                           led := { d.led with mainsSince := if level then some d.time else none } }
  if d1.pwr.state = .off || d1.pwr.state = .hardHold then d1
  else if d1.pwr.state = .watch then (if level then d1.wake 2 else d1)
  else if d1.pwr.state = .sleep then (if d1.sleepSource 0 then d1.driveChg.wake 2 else d1.driveChg)
  else if level then d1.driveChg.wake 2 else d1.driveChg

def execMainsOkChange (level : Bool) (s : State) : Host.Outcome State Fault Refusal := s.act (mainsOkChange level)

/-- VIO_VALID: VIO lies in the range of 3.3 V (`high`) or 1.8 V. The first range after a POWER_ON is its mode; another range counts as
lost (R591). -/
def vioValid (high : Bool) (d : Dev) : Dev :=
  let d1 := d.updPwr (fun p => { p with vioMode := some (p.vioMode.getD high) })
  if d1.pwr.vioMode = some high then
    d1.updPwr (fun p => { p with vioValid := true, vioGoodSince := if p.vioValid then p.vioGoodSince else some d.time })
  else d1

def execVioValid (high : Bool) (s : State) : Host.Outcome State Fault Refusal := s.act (vioValid high)

/-- VIO_LOSS: VIO has been outside its mode's range for more than 10 µs; while VCORE is powered that runs the brown-out sequence
(R592). -/
def vioLoss (d : Dev) : Dev :=
  let d1 := d.updPwr (fun p => { p with vioValid := false, vioGoodSince := none })
  if d1.powered then (d1.updPwr (fun p => { p with vioLost := true })).startBrownOut d1.pwr.vsys else d1

def execVioLoss (s : State) : Host.Outcome State Fault Refusal := s.act vioLoss

/-- WATCH_SAMPLE: once per second of WATCH the battery and the junction are sampled (Table PS-1, R222). -/
def watchSample (energy junction : Int) (d : Dev) : Dev :=
  if d.pwr.state ≠ .watch then d else
  ({ d with led := { d.led with watchDrain := d.led.watchDrain + energy } }).updPwr (fun p =>
    { p with temps := upd (p.temps.map (fun _ => none)) 0 (fun _ => some junction) })

def execWatchSample (energy junction : Int) (s : State) : Host.Outcome State Fault Refusal := s.act (watchSample energy junction)

/-! ### SLEEP (R189, R214) -/

/-- SLEEP_ENTRY: once the completion of the request is written, every lane is in DOZE, SCAN off and TX_DISABLE asserted, and the
courier keeps on only as a wake source (R189, R214). -/
def sleepEntry (d : Dev) : Dev :=
  match d.pwr.sleepReq with
  | none => d
  | some (slot, ref, _) =>
    if d.pwr.state ≠ .active || d.host.outbox.any (fun o => o.slot = slot && o.ref = ref) then d else
    let d0 := d.updPwr (fun p => { p with sleepReq := none })
    if d0.pwr.sequence.isSome || d0.pwr.thermalSeq.isSome then d0 else
    let d1 := (d0.endSurveys (fun _ => true) .state false 2 4).endCalRuns d0.laneIds .state 4
    let d2 := d1.bandIds.foldl (fun e b => e.endBand b 4 1 2 .state 4) d1
    let d3 := d2.dozeLanes.disableTx
    let sniff := d3.sleepSource 1
    let d4 := ({ d3 with cour := { d3.cour with air := none, waiting := none } }).courierState (if sniff then 4 else 0) false
    let d5 := (d4.updPwr (fun p => { p with state := .sleep, courierUp := p.courierUp && sniff, wakePend := none })).subsys 4
      (d4.pwr.courierUp && sniff)
    d5.powerEvent 0 1 0x10

def execSleepEntry (s : State) : Host.Outcome State Fault Refusal := s.act sleepEntry

/-- SLEEP_RETURN: a wake source has fired and the unit is ACTIVE again: TX_DISABLE is released, and DEV_IRQ[3] is set (R120, R191,
R216). -/
def sleepReturn (d : Dev) : Dev :=
  match d.pwr.wakePend with
  | some code =>
    if d.pwr.state ≠ .sleep then d else
    let d1 := (d.updPwr (fun p => { p with state := .active, wakePend := none, sleepReturnAt := some d.time })).setDevIrq 3
    let d2 := if d1.pwr.thermalSeq.isSome || d1.pwr.sequence.isSome then d1 else d1.releaseTx
    d2.powerEvent 1 0 code
  | none => d

def execSleepReturn (s : State) : Host.Outcome State Fault Refusal := s.act sleepReturn

/-! ### Commands (Table PS-10, Table FB-5) -/

/-- A RESET whose response is still to be written, or written and in progress. -/
def Dev.resetting (d : Dev) : Bool :=
  d.host.outbox.any (fun o => match o.after with
    | .orderly _ _ => true
    | .restartQuireC => true
    | _ => false)

def cmdPowerStateSet : CmdSpec :=
  { opcode := 0x0102, len := len 4, long := true, denied := onlyS0,
    bad := fun _ r => firstBad r.body [.rg 0 (rq r 0 1 ≤ 2), .rs 1 3],
    run := fun d r =>
      let target := rq r 0 1
      if target = 0 then { dev := d, reply := okBody (powerDone 0 0 0 0) }
      else if d.pwr.sleepReq.isSome || d.resetting then refuse d (fail .busy)
      else if d.anyBridging || d.sv.jobs ≠ [] || d.pwr.modeSet.isSome || d.brownedOut then refuse d (fail .state)
      else if target = 1 then
        if d.host.longs ≠ [] then refuse d (fail .state) else
        { dev := d.updPwr (fun p => { p with sleepReq := some (r.slot, r.ref, d.time) }), reply := accepted 50
          completion := some (okBody (powerDone 0 1 0 0)) }
      else if d.pins.mainsOk then refuse d (fail .state)
      else { dev := d.startOrderly 0 0x10 (some (r.slot, r.ref)), reply := accepted 1100 } }

def execPowerStateSet (r : Request) (s : State) : Host.Outcome State Fault Refusal := s.act (hostCmd cmdPowerStateSet r)

def cmdReset : CmdSpec :=
  { opcode := 0x0103, len := len 4, denied := onlyS0,
    bad := fun _ r => firstBad r.body [.rg 0 (rq r 0 1 ≤ 1), .rs 1 3],
    run := fun d r =>
      let kind := rq r 0 1
      if d.anyBridging then refuse d (fail .state)
      else { dev := d, reply := okBody (e8 kind ++ zs 3), after := if kind = 0 then .orderly 1 4 else .restartQuireC } }

def execReset (r : Request) (s : State) : Host.Outcome State Fault Refusal := s.act (hostCmd cmdReset r)

/-- INFO_GET. -/
def cmdInfoGet : CmdSpec := cmdReport 0x0104 (fun d =>
  let f := d.factory
  e8 (if f.variantH then 2 else 1) ++ e8 f.stepping ++ e8 d.laneIds.length ++ e8 d.portIds.length ++ padTo 16 f.serial ++
    e32 f.versionB ++ e32 f.versionC ++ e32 f.versionM ++ e16 f.usbVid ++ e16 f.usbPid ++ zs 4)

def execInfoGet (r : Request) (s : State) : Host.Outcome State Fault Refusal := s.act (hostCmd cmdInfoGet r)

/-- TEMP_GET: 0x8000 for a sensor that is absent or open. -/
def cmdTempGet : CmdSpec := cmdReport 0x0105 (fun d =>
  (List.range 8).flatMap (fun k => s16 ((d.sensor k).getD (-32768))) ++ s16 d.thermalS ++ s16 (d.thermalS - 128) ++
    e8 (d.getN pThermalState) ++ e8 d.hottest ++ s16 (d.get pJunctionPeak))

def execTempGet (r : Request) (s : State) : Host.Outcome State Fault Refusal := s.act (hostCmd cmdTempGet r)

/-- MODE_SET (R23, R43, R44, R46). The OK of a mode in force carries the completion's layout. -/
def cmdModeSet : CmdSpec :=
  { opcode := 0x0101, len := len 4, long := true, denied := onlyS0,
    bad := fun _ r => firstBad r.body [.rg 0 (rq r 0 1 ≤ 1), .rs 1 3],
    notReady := fun d _ => d.waitFor d.pwr.lanesCal 1200 none,
    run := fun d r =>
      let mode := rq r 0 1
      if d.getN pMode = mode then { dev := d, reply := okBody (e8 mode ++ e8 mode ++ zs 2 ++ e32 0) }
      else if d.pwr.modeSet.isSome then refuse d (fail .busy)
      else if !d.laneIds.all d.laneMuted || d.laneIds.any (fun l => (d.lane l).probing) then refuse d (fail .state)
      else { dev := (d.holdAll 5).updPwr (fun p => { p with modeSet := some (r.slot, r.ref, mode) }), reply := accepted 300 } }

def execModeSet (r : Request) (s : State) : Host.Outcome State Fault Refusal := s.act (hostCmd cmdModeSet r)

/-- MODE_SET_COMPLETE: the mode is in force; every lane convoy is muted, every drover's integrator and derivative are zero and its
saturation supervisor starts again, the survey jobs on lanes end when the mode is BRIDGE, as do SCAN jobs that wait for more than
their reservation, and MODE_CHANGED is raised (R23, R45, R47, R471). -/
def modeSetComplete (d : Dev) : Dev :=
  match d.pwr.modeSet with
  | none => d
  | some (slot, ref, mode) =>
    let old := d.getN pMode
    let d1 := (d.updPwr (fun p => { p with modeSet := none })).set pMode 0 (mode : Nat)
    let d2 := if mode = 0 then d1.endSurveys (fun x => x.held ≠ [] || x.rx < 8 || x.tx < 8) .state false 2 4 else d1
    let d2 := if mode = 0 then d2.endSurveys (fun x =>
        x.rx = 255 && x.kind ≠ 3 && x.start.isNone && (x.kind = 2 || decide (x.done < x.segments)) &&
          decide (shareUnits .scan (d2.share x.slot 1) < x.need)) .wouldExceed false 1 4 else d2
    let d2 := d2.laneIds.foldl (fun e l => e.muteConvoy l) d2
    let d3 := (List.range 10).foldl (fun e c => e.updConvoy c (fun x =>
      { x with dr := x.dr.map (fun y => { y with i := 0, d := 0, satSince := none, satReported := false }) })) d2
    let d4 := d3.unholdAll 5
    match d4.longIs slot ref 0x0101 with
    | some l =>
      let body := e8 old ++ e8 mode ++ zs 2 ++ e32 (durOf (d4.since l.since))
      (d4.raiseDev 0x0180 body).complete l (okBody body)
    | none => d4.raiseDev 0x0180 (e8 old ++ e8 mode ++ zs 2 ++ e32 0)

def execModeSetComplete (s : State) : Host.Outcome State Fault Refusal := s.act modeSetComplete

end Sys2Proof.Machine
end

