-- ==== Sys2Proof/Machine/Host.lean ====
section
/-! DEFINITION. The rings at work: the consumption of CMD entries with their checks, blocks and tags, the writing of responses,
progress entries and completions, and the delivery of events (R103 to R118, R127, R128 to R135, R147 to R151, R158). -/

namespace Sys2Proof.Machine

/-! ### Tags and entries (R103 to R105) -/

/-- The tag of an entry: the ring, the counter and bytes 0 to 55 under the session key (R104). -/
def entryTag (key : List Byte) (ring n : Nat) (entry : List Byte) : List Byte :=
  (hmac key (e8 ring ++ e32 n ++ entry.take 56)).take 8

/-- An entry the ZS8 writes (Table HR-9): its fields before the tag. -/
structure Entry where
  index : Nat := 0
  code : Nat := 0
  status : Nat := 0
  kind : Nat := 0
  attached : Bool := false
  ref : Nat := 0
  body : List Byte := []
  blkLen : Nat := 0
  deriving DecidableEq, Repr, Inhabited

/-- Bytes 0 to 55 of an entry. -/
def Entry.bytes (e : Entry) : List Byte :=
  e16 e.index ++ e16 e.code ++ e16 e.status ++ e8 e.kind ++ eb e.attached ++ e16 e.ref ++ e16 e.body.length ++ e32 e.blkLen ++
    padTo 40 e.body

/-- The counter of a ring the ZS8 writes: RSP 1, EVT 2, the up half 3. -/
def Session.counter (s : Session) (typ : Nat) : Nat := if typ = 1 then s.rspN else if typ = 2 then s.evtN else s.upN

/-- That counter moved on. -/
def Session.count (s : Session) (typ : Nat) : Session :=
  if typ = 1 then { s with rspN := s.rspN + 1 } else if typ = 2 then { s with evtN := s.evtN + 1 } else { s with upN := s.upN + 1 }

/-- The tag an entry is written with, and the device with its counter moved on; zeros outside a session (R104, R105, R150). -/
def Dev.tag (d : Dev) (slot typ : Nat) (tagged : Bool) (entry : List Byte) : List Byte × Dev :=
  match tagged, (d.slot slot).session with
  | true, some s => (entryTag s.key (4 * slot + typ) (s.counter typ) entry,
      d.updSlot slot (fun x => { x with session := some (s.count typ) }))
  | _, _ => (zs 8, d)

/-- An entry written at the device index of a ring, every byte before the index moves on (R104, R115); under USB it waits on the
slot's IN endpoint (R123). -/
def produce (slot typ : Nat) (tagged : Bool) (e : Entry) (md : Memory × Dev) : Memory × Dev :=
  let (m, d) := md
  let n := 4 * slot + typ
  let ix := d.devIndex n
  let index := if typ = 3 then ix / 256 % 256 + 256 else ix
  let place := if typ = 3 then d.blockAt n true (ix / 256) else d.entryAt n ix
  let next := if typ = 3 then ix % 256 + 256 * ((ix / 256 + 1) % 256) else (ix + 1) % 65536
  let bytes := ({ e with index := index } : Entry).bytes
  let (tag, d1) := d.tag slot typ tagged bytes
  let d2 := d1.setIndex n next
  (m.writes place (bytes ++ tag),
   if d2.host.usb then (d2.updHost (fun h => { h with usbIn := h.usbIn ++ [(slot, typ)] })).usbSignal else d2)

/-- A session one of whose counters would pass 0xFFFF_FFFE ends (R158). -/
def Dev.checkCounters (d : Dev) (slot : Nat) : Dev :=
  match (d.slot slot).session with
  | some s => if 0xFFFFFFFE < max (max s.cmdN s.downN) (max (max s.rspN s.evtN) s.upN) then d.endSession slot 4 else d
  | none => d

/-! ### The commands by opcode (Table CM-3) -/

/-- Every command but HELLO. -/
def allCommands : List CmdSpec :=
  [cmdNop, cmdBye, cmdParamGet, cmdParamSet, cmdParamList, cmdEventMaskSet, cmdStatusGet,
   cmdModeSet, cmdPowerStateSet, cmdReset, cmdInfoGet, cmdTempGet,
   cmdSlotProvision, cmdLaneAssign, cmdSlotRevoke, cmdPermitLoad, cmdPermitStatus, cmdPermitRemove, cmdVaultRead, cmdVaultWrite,
   cmdSlotRekey,
   cmdLedgerGet, cmdQuotaSet, cmdJobEstimate, cmdJobAdmit, cmdPlanEndSet, cmdJobRelease, cmdPacePolicySet,
   cmdLaneTune, cmdLaneStateSet, cmdCalRun, cmdCalStoreGet, cmdTxpowerModeSet, cmdPaTableLoad,
   cmdCourierProfileSet, cmdCourierSend, cmdCourierStateSet, cmdCourierStatsGet,
   cmdChainConfig, cmdFirLoad, cmdThreshSet, cmdChainStatusGet, cmdDelayGet,
   cmdDroverOpen, cmdDroverClose, cmdDroverCoefSet, cmdConvoyStatusGet, cmdSupervisorSet, cmdIsolationGet,
   cmdRefConfig, cmdRefStatusGet, cmdClockBwSet, cmdSteerSet, cmdWalltimeSet, cmdRefForce,
   cmdLinkConfig, cmdLinkStatusGet, cmdChainJoin, cmdChainLeave, cmdLinkTestStart, cmdLinkTestResult,
   cmdBandConfig, cmdBridgeStart, cmdBridgeStop, cmdTddPatternGet, cmdProtectionStatusGet,
   cmdScanStart, cmdCellSearch, cmdIsolationProbe, cmdSurveyAbort, cmdResultFetch,
   cmdTariffLoad, cmdRegistersGet, cmdPeriodClose, cmdSealValueGet, cmdTamperStatusGet, cmdAttributionSet, cmdMeterCalLoad,
   cmdLogFreeze, cmdLogThaw, cmdLogRead, cmdLogInfo,
   cmdFwStage, cmdFwCommit, cmdNvmStatus, cmdFactoryDataGet, cmdFaultCountersGet, cmdSelftestRun, cmdShockStatusGet]

/-- The command of an opcode; HELLO's phase byte selects its layout (Table CM-5). -/
def commandOf (code : Nat) (body : List Byte) : Option CmdSpec :=
  if code = 0x0002 then some (if fld body 0 1 = 2 then cmdHelloPhase2 else cmdHelloPhase1)
  else allCommands.find? (fun c => c.opcode == code)

/-! ### Consumption (R106, R107, R109 to R111, R132) -/

/-- The slot whose entry is consumed next: in the first round at READY the lowest, else the one due since the earliest tick, in
the rotation order of that tick (R111, R196). -/
def Dev.nextSlot (d : Dev) : Option Nat :=
  match (List.range 8).find? (fun k => (d.slot k).due && d.cmdDue k) with
  | some k => some k
  | none =>
    let ticks := (List.range 8).filterMap (fun k => if d.cmdDue k then some ((d.slot k).dueTick.getD d.tickNow) else none)
    match ticks.min? with
    | some t => (rotation t).find? (fun k => d.cmdDue k && (d.slot k).dueTick.getD d.tickNow == t)
    | none => none

/-- The down-half entries from `j` on whose ref is `c`, up to the host producer index: at most `n` of them. -/
def Dev.blockRun (d : Dev) (m : Memory) (ring c : Nat) : Nat → Nat → List (List Byte)
  | 0, _ => []
  | n + 1, j =>
    let e := m.reads (d.blockAt ring false j) 64
    if fld e 8 2 = c then e :: d.blockRun m ring c n ((j + 1) % 256) else []

/-- The data of the blocks of a run that carry `left` bytes, with the number of blocks; `n` counts their tags and `j` their half
index. None where one is no block at its index or not tagged as the request is, or where the lengths do not meet (check 5). -/
def takeBlocks (ring : Nat) (key : Option (List Byte)) : List (List Byte) → Nat → Nat → Nat → Option (List Byte × Nat)
  | [], left, _, _ => if left = 0 then some ([], 0) else none
  | e :: es, left, n, j =>
    if left = 0 then some ([], 0) else
    let size := fld e 10 2
    let tag := match key with
      | some k => entryTag k ring n e
      | none => zs 8
    if fld e 6 1 = 6 && fld e 0 2 = j && size ≤ 40 && size ≤ left && slice e 56 8 = tag then
      match takeBlocks ring key es (left - size) (n + 1) ((j + 1) % 256) with
      | some (data, used) => some (slice e 16 size ++ data, used + 1)
      | none => none
    else none

/-- The down half's consumer index moved on by `n`. -/
def Dev.takeDown (d : Dev) (ring n : Nat) : Dev :=
  if n = 0 then d else
  let ix := d.devIndex ring
  d.setIndex ring (ix / 256 * 256 + (ix % 256 + n) % 256)

/-- A request that passed the entry checks: its opcode looked up, then its command's own checks and effect (R131, R132). -/
def runCommand (code : Nat) (r : Request) (d : Dev) : Dev :=
  match commandOf code r.body with
  | none => d.respond r code (fail .unknownOp)
  | some c => hostCmd c r d

/-- Whether the request fails step 4 of Table CM-4. -/
def Dev.failsLength (d : Dev) (code : Nat) (r : Request) : Bool :=
  match commandOf code r.body with
  | some c => (c.check d r).any (fun rep => rep.status = .badLen)
  | none => false

/-- A request with BLK data: check 5 of Table HR-10, the run discarded where it fails, or where step 4 does (R107, R135). -/
def consumeBlocks (code blkLen : Nat) (r : Request) (m : Memory) (d : Dev) : Dev :=
  let ring := 4 * r.slot + 3
  let j := d.devIndex ring % 256
  let run := d.blockRun m ring r.ref (ixSub 8 (d.doorbell ring) j) j
  let sess := (d.slot r.slot).session
  let key := if r.tagged then sess.map (fun s => s.key) else none
  match takeBlocks ring key run blkLen ((sess.map (fun s => s.downN)).getD 0) j with
  | none => (d.takeDown ring run.length).respond r code { status := .badLen }
  | some (data, used) =>
    let r1 : Request := { r with blk := data }
    let d1 := if r.tagged then d.updSlot r.slot (fun x => { x with session := x.session.map (fun s => { s with downN := s.downN + used }) }) else d
    let d2 := d1.takeDown ring (if d.failsLength code r1 then run.length else used)
    runCommand code r1 d2

/-- One CMD entry consumed: checks 1 to 4 of Table HR-10, then its blocks and its command (R105, R106). -/
def consumeEntry (slot : Nat) (m : Memory) (d : Dev) : Dev :=
  let ring := 4 * slot
  let c := d.devIndex ring
  let e := m.reads (d.entryAt ring c) 64
  let d1 := (d.setIndex ring ((c + 1) % 65536)).updSlot slot (fun s => { s with awaiting := some c, due := false, dueTick := none })
  let code := fld e 2 2
  let size := fld e 10 2
  let blkLen := fld e 12 4
  let attached := bit (fld e 7 1) 0
  let tag := slice e 56 8
  let tagged := decide (tag ≠ zs 8)
  let reject := fun (rep : Reply) => d1.respond { slot := slot, ref := c } code rep
  if fld e 0 2 ≠ c then reject { status := .badArg, body := e16 c }
  else if fld e 6 1 ≠ 1 || fld e 4 2 ≠ 0 || fld e 8 2 ≠ 0 || 2 ≤ fld e 7 1 then reject { status := .badArg }
  else if 40 < size || attached != decide (blkLen ≠ 0) || 40 * d.halfDepth slot < blkLen then reject { status := .badLen }
  else
    let ok := !tagged || (match (d.slot slot).session with
      | some s => decide (tag = entryTag s.key ring s.cmdN e)
      | none => false)
    if !ok then reject { status := .noSession } else
    let r : Request := { slot := slot, ref := c, tagged := tagged, body := slice e 16 size, blkAttached := attached }
    let d2 := if tagged then d1.updSlot slot (fun x => { x with session := x.session.map (fun s => { s with cmdN := s.cmdN + 1 }) }) else d1
    if attached then consumeBlocks code blkLen r m d2 else runCommand code r d2

/-- CMD_ENTRY_CONSUME: the next entry that is due (R110, R111, R196). -/
def cmdEntryConsume (m : Memory) (d : Dev) : Dev :=
  let d0 := d.settlePort
  match d0.nextSlot with
  | none => d0
  | some k =>
    let d1 := if (d0.slot k).due then d0 else { d0 with slots := d0.slots.map (fun s => { s with due := false }) }
    ((consumeEntry k m d1).checkCounters k).settlePort.irqLevel

def execCmdEntryConsume (s : State) : Host.Outcome State Fault Refusal := s.act (cmdEntryConsume s.mem)

/-! ### Responses, progress and completions (R104, R105, R108, R109, R129, R139, R141, R148, R150) -/

/-- The ZS8 writes ring entries: PHASE=READY with VCORE powered (R127). -/
def Dev.writes (d : Dev) : Bool := d.pwr.phase = .ready && d.powered

/-- The kind byte of an RSP entry. -/
def EntryKind.code : EntryKind → Nat
  | .response => 2 | .progress => 3 | .completion => 4

/-- `bs` in pieces of at most 40 bytes. -/
def blockData (bs : List Byte) : List (List Byte) := (List.range (blocksOf bs.length)).map (fun k => slice bs (40 * k) 40)

/-- A session opens: counters at 0, every event enabled, SESSION_OPENED, and SESSION_REPLACED where one was open (R55, R139,
R152). -/
def Dev.openSession (d : Dev) (slot kind : Nat) (key : List Byte) (replaced : Bool) : Dev :=
  let d1 := d.updSlot slot (fun s => { s with session := some { full := kind = 2, key := key }, dropRun := 0 })
  let d2 := (d1.set pSessionOpen slot 1).set pEvtDropped slot 0
  let d3 : Dev := { d2 with cour := { d2.cour with rewatch := none } }
  let d4 := d3.raiseSlot slot 0x0080 (e8 slot ++ e8 kind)
  if replaced then d4.raiseSlot slot 0x0288 (e8 slot) else d4

/-- What follows the writing of a response. -/
def Dev.afterWrite (d : Dev) (o : OutEntry) (replaced : Bool) : Dev :=
  match o.after with
  | .nothing => d
  | .challenge nh nd => d.updSlot o.slot (fun s => { s with challenge := some { nh := nh, nd := nd, since := d.time } })
  | .openSession kind key => d.openSession o.slot kind key replaced
  | .bye => d.endSession o.slot 0
  | .orderly target cause => d.startOrderly target cause none
  | .restartQuireC => d.flush.restartQuireC
  | .param id idx v nvm => d.applyParam id idx v nvm
  | .mask c bits => d.updSlot o.slot (fun x => { x with session := x.session.map (fun s => { s with mask := upd s.mask c (fun _ => bits) }) })

/-- An entry written: its up-half blocks, then itself (R108). -/
def writeOut (o : OutEntry) (md : Memory × Dev) : Memory × Dev :=
  let tagged := o.tagged || o.kind ≠ .response
  let md1 := (blockData o.reply.blk).foldl (fun x b => produce o.slot 3 tagged { kind := 6, ref := o.ref, body := b } x) md
  produce o.slot 1 tagged
    { code := o.code, status := o.reply.status.code, kind := o.kind.code, attached := o.reply.blk ≠ [], ref := o.ref
      body := o.reply.body, blkLen := o.reply.blk.length } md1

/-- RESPONSE_WRITE: the first entry that waits for a slot's RSP ring, once there is room (R108, R118). -/
def responseWrite (slot : Nat) (m : Memory) (d : Dev) : Memory × Dev :=
  if !d.writes then (m, d) else
  match d.waiting slot with
  | none => (m, d)
  | some o =>
    if !d.fits o then (m, d.settlePort) else
    let d0 := d.updHost (fun h => { h with outbox := h.outbox.erase o })
    let opens := match o.after with
      | .openSession _ _ => true
      | _ => false
    let replaced := opens && (d.slot slot).session.isSome
    let d1 := if opens then d0.endSession slot 1 else d0
    let (m1, d2) := writeOut o (m, d1)
    let d3 := if o.kind = .response then d2.updSlot slot (fun s => { s with awaiting := if s.awaiting = some o.ref then none else s.awaiting }) else d2
    let d4 : Dev := { d3 with lanes := d3.lanes.map (fun l => { l with undo := if l.undo.any (fun u => u.slot = slot && u.ref = o.ref) then none else l.undo }) }
    let d5 := d4.asCause slot o.ref (fun e => e.afterWrite o replaced)
    (m1, (d5.checkCounters slot).settlePort.irqLevel)

def execResponseWrite (slot : Nat) (s : State) : Host.Outcome State Fault Refusal := s.actMem (responseWrite slot)

/-- The first response of the command at (`slot`, `ref`) is still to be written (R112). -/
def Dev.responseDue (d : Dev) (slot ref : Nat) : Bool :=
  (d.slot slot).awaiting = some ref || d.host.outbox.any (fun o => o.slot = slot && o.ref = ref && o.kind = .response) ||
    d.nvm.queue.any (fun e => e.hostWrite && e.slot = slot && e.ref = ref)

/-- PROGRESS_ENTRY of a long command whose bound exceeds 1,000 ms, at most ten in a second; one that finds no room is dropped
(R148). -/
def progressEntry (slot ref permille : Nat) (detail : List Byte) (m : Memory) (d : Dev) : Memory × Dev :=
  match d.longOf slot ref with
  | none => (m, d)
  | some l =>
    if !d.writes || l.bound ≤ 1000 || d.since l.lastProgress < msU 100 || d.responseDue slot ref then (m, d) else
    let d1 := d.updHost (fun h => { h with longs := h.longs.map (fun x => if x.slot = slot && x.ref = ref then { x with lastProgress := d.time } else x) })
    if d1.room (4 * slot + 1) = 0 || (d1.waiting slot).isSome then (m, d1) else
    let body := e16 (if permille ≤ 1000 then permille else 0xFFFF) ++ zs 2 ++ e32 (durOf (d.since l.since)) ++ detail.take 32
    let (m1, d2) := produce slot 1 true { code := l.opcode, status := Status.accepted.code, kind := 3, ref := ref, body := body } (m, d1)
    (m1, (d2.checkCounters slot).settlePort.irqLevel)

def execProgressEntry (slot ref permille : Nat) (detail : List Byte) (s : State) : Host.Outcome State Fault Refusal :=
  s.actMem (progressEntry slot ref permille detail)

/-! ### Events (R112, R113, R117, R130, R151) -/

/-- The body of an event (Table CM-2). -/
def OutEvent.body (e : OutEvent) : List Byte :=
  e64 e.ts ++ e48 e.entry.seq ++ e8 e.entry.source ++ e8 e.entry.flags ++ padTo 20 e.entry.payload

/-- An event comes to one slot: its mask decides, and a full or disabled EVT ring drops it (R117, R151). -/
def deliverTo (e : OutEvent) (md : Memory × Dev) (slot : Nat) : Memory × Dev :=
  let (m, d) := md
  match (d.slot slot).session with
  | none => (m, d)
  | some s =>
    if !s.enables e.entry.code then (m, d)
    else if d.room (4 * slot + 2) = 0 then
      (m, (d.bump pEvtDropped slot).updSlot slot (fun x => { x with dropRun := x.dropRun + 1 }))
    else
      let lost := min 65535 (d.slot slot).dropRun
      let d1 := d.updSlot slot (fun x => { x with dropRun := 0 })
      let (m1, d2) := produce slot 2 true { code := e.entry.code, kind := 5, ref := lost, body := e.body } (m, d1)
      (m1, d2.checkCounters slot)

/-- EVENT_DELIVERY: the first event whose cause, if it has one, has its first response written (R112, R113). -/
def eventDelivery (m : Memory) (d : Dev) : Memory × Dev :=
  if !d.writes then (m, d) else
  match d.host.events.find? (fun e => !e.cause.any (fun c => d.responseDue c.1 c.2)) with
  | none => (m, d)
  | some e =>
    let d1 := d.updHost (fun h => { h with events := h.events.erase e })
    let (m1, d2) := e.dest.foldl (deliverTo e) (m, d1)
    (m1, d2.irqLevel)

def execEventDelivery (s : State) : Host.Outcome State Fault Refusal := s.actMem eventDelivery

end Sys2Proof.Machine
end

