-- ==== Sys2Proof/Machine/Dispatch.lean ====
section
/-! DEFINITION. The meaning of every command, one arm per constructor of `Instr`. -/

namespace Sys2Proof.Machine

/-- What a command does to everything but the queue. -/
def exec (i : Instr) (s : State) : Host.Outcome State Fault Refusal :=
  match i with
  | .qspiTransactionRejected instr addr count => Sys2Proof.Machine.execQspiTransactionRejected instr addr count s
  | .hrwWrite addr bytes => Sys2Proof.Machine.execHrwWrite addr bytes s
  | .ringCfgWrite ring value => Sys2Proof.Machine.execRingCfgWrite ring value s
  | .doorbellWrite ring value => Sys2Proof.Machine.execDoorbellWrite ring value s
  | .ringIrqClear mask => Sys2Proof.Machine.execRingIrqClear mask s
  | .devIrqClear mask => Sys2Proof.Machine.execDevIrqClear mask s
  | .usbSetConfiguration fullSpeed => Sys2Proof.Machine.execUsbSetConfiguration fullSpeed s
  | .usbOutPacket slot bytes => Sys2Proof.Machine.execUsbOutPacket slot bytes s
  | .usbInAck slot n => Sys2Proof.Machine.execUsbInAck slot n s
  | .usbEp0Request requestType request value length data => Sys2Proof.Machine.execUsbEp0Request requestType request value length data s
  | .usbBusReset kind => Sys2Proof.Machine.execUsbBusReset kind s
  | .usbResume => Sys2Proof.Machine.execUsbResume s
  | .hostWakeEdge held => Sys2Proof.Machine.execHostWakeEdge held s
  | .cmdEntryConsume => Sys2Proof.Machine.execCmdEntryConsume s
  | .responseWrite slot => Sys2Proof.Machine.execResponseWrite slot s
  | .progressEntry slot ref permille detail => Sys2Proof.Machine.execProgressEntry slot ref permille detail s
  | .eventDelivery => Sys2Proof.Machine.execEventDelivery s
  | .nop r => Sys2Proof.Machine.execNop r s
  | .helloPhase1 r => Sys2Proof.Machine.execHelloPhase1 r s
  | .helloPhase2 r => Sys2Proof.Machine.execHelloPhase2 r s
  | .helloLockoutExpiry slot => Sys2Proof.Machine.execHelloLockoutExpiry slot s
  | .helloChallengeLapse slot => Sys2Proof.Machine.execHelloChallengeLapse slot s
  | .bye r => Sys2Proof.Machine.execBye r s
  | .paramGet r => Sys2Proof.Machine.execParamGet r s
  | .paramSet r => Sys2Proof.Machine.execParamSet r s
  | .paramList r => Sys2Proof.Machine.execParamList r s
  | .eventMaskSet r => Sys2Proof.Machine.execEventMaskSet r s
  | .statusGet r => Sys2Proof.Machine.execStatusGet r s
  | .modeSet r => Sys2Proof.Machine.execModeSet r s
  | .modeSetComplete => Sys2Proof.Machine.execModeSetComplete s
  | .powerStateSet r => Sys2Proof.Machine.execPowerStateSet r s
  | .reset r => Sys2Proof.Machine.execReset r s
  | .infoGet r => Sys2Proof.Machine.execInfoGet r s
  | .tempGet r => Sys2Proof.Machine.execTempGet r s
  | .slotProvision r => Sys2Proof.Machine.execSlotProvision r s
  | .slotProvisionComplete slot ref => Sys2Proof.Machine.execSlotProvisionComplete slot ref s
  | .slotRevoke r => Sys2Proof.Machine.execSlotRevoke r s
  | .slotRevokeComplete slot ref => Sys2Proof.Machine.execSlotRevokeComplete slot ref s
  | .permitLoad r => Sys2Proof.Machine.execPermitLoad r s
  | .permitStatus r => Sys2Proof.Machine.execPermitStatus r s
  | .permitRemove r => Sys2Proof.Machine.execPermitRemove r s
  | .laneAssign r => Sys2Proof.Machine.execLaneAssign r s
  | .vaultRead r => Sys2Proof.Machine.execVaultRead r s
  | .vaultWrite r => Sys2Proof.Machine.execVaultWrite r s
  | .vaultWriteComplete slot ref => Sys2Proof.Machine.execVaultWriteComplete slot ref s
  | .slotRekey r => Sys2Proof.Machine.execSlotRekey r s
  | .permitEvaluation => Sys2Proof.Machine.execPermitEvaluation s
  | .schedulerTick => Sys2Proof.Machine.execSchedulerTick s
  | .frameStart => Sys2Proof.Machine.execFrameStart s
  | .ledgerGet r => Sys2Proof.Machine.execLedgerGet r s
  | .quotaSet r => Sys2Proof.Machine.execQuotaSet r s
  | .jobEstimate r => Sys2Proof.Machine.execJobEstimate r s
  | .jobAdmit r => Sys2Proof.Machine.execJobAdmit r s
  | .planEndSet r => Sys2Proof.Machine.execPlanEndSet r s
  | .jobRelease r => Sys2Proof.Machine.execJobRelease r s
  | .jobAdmissionExpiry slot handle => Sys2Proof.Machine.execJobAdmissionExpiry slot handle s
  | .pacePolicySet r => Sys2Proof.Machine.execPacePolicySet r s
  | .accountingStep m => Sys2Proof.Machine.execAccountingStep m s
  | .firstBatteryEstimate smbus => Sys2Proof.Machine.execFirstBatteryEstimate smbus s
  | .ledgerReanchored => Sys2Proof.Machine.execLedgerReanchored s
  | .holdupMeasured v1 v2 us energy => Sys2Proof.Machine.execHoldupMeasured v1 v2 us energy s
  | .energyTargetUpdate slot => Sys2Proof.Machine.execEnergyTargetUpdate slot s
  | .ledgerJournalSave => Sys2Proof.Machine.execLedgerJournalSave s
  | .hardHoldTimeout => Sys2Proof.Machine.execHardHoldTimeout s
  | .workUnitComplete domain slack => Sys2Proof.Machine.execWorkUnitComplete domain slack s
  | .slackWindowEnd => Sys2Proof.Machine.execSlackWindowEnd s
  | .ceilingDescentStep => Sys2Proof.Machine.execCeilingDescentStep s
  | .arbLongGrant => Sys2Proof.Machine.execArbLongGrant s
  | .faultDetection source object detail lost spoiled => Sys2Proof.Machine.execFaultDetection source object detail lost spoiled s
  | .faultResetTimer => Sys2Proof.Machine.execFaultResetTimer s
  | .resetRelease vsys hostSel => Sys2Proof.Machine.execResetRelease vsys hostSel s
  | .hrwReadable => Sys2Proof.Machine.execHrwReadable s
  | .phaseQuires cOk mOk otherOk factoryOk lost => Sys2Proof.Machine.execPhaseQuires cOk mOk otherOk factoryOk lost s
  | .meteringStart saveValid => Sys2Proof.Machine.execMeteringStart saveValid s
  | .phaseReady => Sys2Proof.Machine.execPhaseReady s
  | .txDisableRelease => Sys2Proof.Machine.execTxDisableRelease s
  | .laneCalibrationComplete => Sys2Proof.Machine.execLaneCalibrationComplete s
  | .startComplete => Sys2Proof.Machine.execStartComplete s
  | .thermalSample temps => Sys2Proof.Machine.execThermalSample temps s
  | .hardAbort temps => Sys2Proof.Machine.execHardAbort temps s
  | .hardAbortRelease junction => Sys2Proof.Machine.execHardAbortRelease junction s
  | .shutdownFlushComplete => Sys2Proof.Machine.execShutdownFlushComplete s
  | .brownOutWarning vsys => Sys2Proof.Machine.execBrownOutWarning vsys s
  | .brownOutReset vsys => Sys2Proof.Machine.execBrownOutReset vsys s
  | .alwaysOnLoss vsys => Sys2Proof.Machine.execAlwaysOnLoss vsys s
  | .brownOutRecovered vsys => Sys2Proof.Machine.execBrownOutRecovered vsys s
  | .orderlyShutdownEnd => Sys2Proof.Machine.execOrderlyShutdownEnd s
  | .sleepEntry => Sys2Proof.Machine.execSleepEntry s
  | .sleepReturn => Sys2Proof.Machine.execSleepReturn s
  | .mainsOkChange level => Sys2Proof.Machine.execMainsOkChange level s
  | .resetPin lowNs still => Sys2Proof.Machine.execResetPin lowNs still s
  | .vioValid high => Sys2Proof.Machine.execVioValid high s
  | .vioLoss => Sys2Proof.Machine.execVioLoss s
  | .laneTune r => Sys2Proof.Machine.execLaneTune r s
  | .laneStateSet r => Sys2Proof.Machine.execLaneStateSet r s
  | .calRun r => Sys2Proof.Machine.execCalRun r s
  | .calRunComplete slot ref done => Sys2Proof.Machine.execCalRunComplete slot ref done s
  | .calStoreGet r => Sys2Proof.Machine.execCalStoreGet r s
  | .txpowerModeSet r => Sys2Proof.Machine.execTxpowerModeSet r s
  | .paTableLoad r => Sys2Proof.Machine.execPaTableLoad r s
  | .burstStart lane downlink => Sys2Proof.Machine.execBurstStart lane downlink s
  | .burstEnd lane => Sys2Proof.Machine.execBurstEnd lane s
  | .synthUnlock lane synth => Sys2Proof.Machine.execSynthUnlock lane synth s
  | .synthLockTimeout lane synth channel => Sys2Proof.Machine.execSynthLockTimeout lane synth channel s
  | .bgcalStep lane plausible => Sys2Proof.Machine.execBgcalStep lane plausible s
  | .bgcalFddWindow lane plausible => Sys2Proof.Machine.execBgcalFddWindow lane plausible s
  | .feedbackLost lane => Sys2Proof.Machine.execFeedbackLost lane s
  | .paCompUpdate => Sys2Proof.Machine.execPaCompUpdate s
  | .courierProfileSet r => Sys2Proof.Machine.execCourierProfileSet r s
  | .courierProfileSetComplete slot ref failed => Sys2Proof.Machine.execCourierProfileSetComplete slot ref failed s
  | .courierSend r => Sys2Proof.Machine.execCourierSend r s
  | .courierSendComplete slot ref => Sys2Proof.Machine.execCourierSendComplete slot ref s
  | .courierStateSet r => Sys2Proof.Machine.execCourierStateSet r s
  | .courierStatsGet r => Sys2Proof.Machine.execCourierStatsGet r s
  | .hopSlotStart rssi => Sys2Proof.Machine.execHopSlotStart rssi s
  | .courierDeferExpiry rssi => Sys2Proof.Machine.execCourierDeferExpiry rssi s
  | .courierPacketEnd => Sys2Proof.Machine.execCourierPacketEnd s
  | .courierPacketReceive air rssi antennaB sync => Sys2Proof.Machine.execCourierPacketReceive air rssi antennaB sync s
  | .courierAckTimeout => Sys2Proof.Machine.execCourierAckTimeout s
  | .beaconSend => Sys2Proof.Machine.execBeaconSend s
  | .sniffCycle heard => Sys2Proof.Machine.execSniffCycle heard s
  | .courierWakeRewatch => Sys2Proof.Machine.execCourierWakeRewatch s
  | .courierCalStep ok lost => Sys2Proof.Machine.execCourierCalStep ok lost s
  | .courierPeerSilent unit => Sys2Proof.Machine.execCourierPeerSilent unit s
  | .fallbackStatusTimer => Sys2Proof.Machine.execFallbackStatusTimer s
  | .chainConfig r => Sys2Proof.Machine.execChainConfig r s
  | .firLoad r => Sys2Proof.Machine.execFirLoad r s
  | .threshSet r => Sys2Proof.Machine.execThreshSet r s
  | .chainStatusGet r => Sys2Proof.Machine.execChainStatusGet r s
  | .delayGet r => Sys2Proof.Machine.execDelayGet r s
  | .avgWindowEnd chain m => Sys2Proof.Machine.execAvgWindowEnd chain m s
  | .thresholdCrossed chain thr value => Sys2Proof.Machine.execThresholdCrossed chain thr value s
  | .chainSaturated chain stage clips => Sys2Proof.Machine.execChainSaturated chain stage clips s
  | .chainInputStuck chain level => Sys2Proof.Machine.execChainInputStuck chain level s
  | .chainInputResume chain => Sys2Proof.Machine.execChainInputResume chain s
  | .droverOpen r => Sys2Proof.Machine.execDroverOpen r s
  | .droverClose r => Sys2Proof.Machine.execDroverClose r s
  | .droverCoefSet r => Sys2Proof.Machine.execDroverCoefSet r s
  | .convoyStatusGet r => Sys2Proof.Machine.execConvoyStatusGet r s
  | .supervisorSet r => Sys2Proof.Machine.execSupervisorSet r s
  | .isolationGet r => Sys2Proof.Machine.execIsolationGet r s
  | .controlSample convoy m => Sys2Proof.Machine.execControlSample convoy m s
  | .compositePowerUpdate => Sys2Proof.Machine.execCompositePowerUpdate s
  | .remoteAged convoy => Sys2Proof.Machine.execRemoteAged convoy s
  | .convoyLimited convoy => Sys2Proof.Machine.execConvoyLimited convoy s
  | .droverSaturated convoy drover => Sys2Proof.Machine.execDroverSaturated convoy drover s
  | .convoyStarved convoy => Sys2Proof.Machine.execConvoyStarved convoy s
  | .isolationWindow lane validPercent reference estimate delay => Sys2Proof.Machine.execIsolationWindow lane validPercent reference estimate delay s
  | .oscillationDetected lane criterion => Sys2Proof.Machine.execOscillationDetected lane criterion s
  | .oscBackoffExpiry lane => Sys2Proof.Machine.execOscBackoffExpiry lane s
  | .oscLadderReset lane => Sys2Proof.Machine.execOscLadderReset lane s
  | .refConfig r => Sys2Proof.Machine.execRefConfig r s
  | .refStatusGet r => Sys2Proof.Machine.execRefStatusGet r s
  | .clockBwSet r => Sys2Proof.Machine.execClockBwSet r s
  | .steerSet r => Sys2Proof.Machine.execSteerSet r s
  | .walltimeSet r => Sys2Proof.Machine.execWalltimeSet r s
  | .refForce r => Sys2Proof.Machine.execRefForce r s
  | .selectionStep delta => Sys2Proof.Machine.execSelectionStep delta s
  | .holdOffExpiry => Sys2Proof.Machine.execHoldOffExpiry s
  | .refQualified ref => Sys2Proof.Machine.execRefQualified ref s
  | .failedWindowExpiry ref => Sys2Proof.Machine.execFailedWindowExpiry ref s
  | .lockDeclared => Sys2Proof.Machine.execLockDeclared s
  | .lockLost => Sys2Proof.Machine.execLockLost s
  | .holdoverExpired => Sys2Proof.Machine.execHoldoverExpired s
  | .freeRunUpdate => Sys2Proof.Machine.execFreeRunUpdate s
  | .xoTableLearn => Sys2Proof.Machine.execXoTableLearn s
  | .xoTableJournal => Sys2Proof.Machine.execXoTableJournal s
  | .clockLost cause => Sys2Proof.Machine.execClockLost cause s
  | .lostExit => Sys2Proof.Machine.execLostExit s
  | .gnssPpsEdge offset phase => Sys2Proof.Machine.execGnssPpsEdge offset phase s
  | .nmeaSentence label second60 statusV size => Sys2Proof.Machine.execNmeaSentence label second60 statusV size s
  | .wallHighWaterSave => Sys2Proof.Machine.execWallHighWaterSave s
  | .linkConfig r => Sys2Proof.Machine.execLinkConfig r s
  | .linkStatusGet r => Sys2Proof.Machine.execLinkStatusGet r s
  | .chainJoin r => Sys2Proof.Machine.execChainJoin r s
  | .chainLeave r => Sys2Proof.Machine.execChainLeave r s
  | .linkTestStart r => Sys2Proof.Machine.execLinkTestStart r s
  | .linkTestEnd port bits errors rtt locked => Sys2Proof.Machine.execLinkTestEnd port bits errors rtt locked s
  | .linkTestResult r => Sys2Proof.Machine.execLinkTestResult r s
  | .sfpModuleIdentify port a0 => Sys2Proof.Machine.execSfpModuleIdentify port a0 s
  | .portUp port count source tag => Sys2Proof.Machine.execPortUp port count source tag s
  | .linkLoss port cause => Sys2Proof.Machine.execLinkLoss port cause s
  | .baleReceive port headerBlock header waybill segments => Sys2Proof.Machine.execBaleReceive port headerBlock header waybill segments s
  | .clockMessage body => Sys2Proof.Machine.execClockMessage body s
  | .probeSend port t1 => Sys2Proof.Machine.execProbeSend port t1 s
  | .probeMessage body t2 t3 => Sys2Proof.Machine.execProbeMessage body t2 t3 s
  | .probeReplyMessage port body t4 => Sys2Proof.Machine.execProbeReplyMessage port body t4 s
  | .delayMessage body => Sys2Proof.Machine.execDelayMessage body s
  | .tkcStepDeferred => Sys2Proof.Machine.execTkcStepDeferred s
  | .remoteMessage body => Sys2Proof.Machine.execRemoteMessage body s
  | .tddMessage body => Sys2Proof.Machine.execTddMessage body s
  | .bandAnnounce body => Sys2Proof.Machine.execBandAnnounce body s
  | .bandStartMessage body => Sys2Proof.Machine.execBandStartMessage body s
  | .bandStopMessage body => Sys2Proof.Machine.execBandStopMessage body s
  | .bandStateMessage body => Sys2Proof.Machine.execBandStateMessage body s
  | .breakMessage body => Sys2Proof.Machine.execBreakMessage body s
  | .statusMessage body => Sys2Proof.Machine.execStatusMessage body s
  | .delayFigMessage body => Sys2Proof.Machine.execDelayFigMessage body s
  | .joinReq port body => Sys2Proof.Machine.execJoinReq port body s
  | .joinAck body => Sys2Proof.Machine.execJoinAck body s
  | .leaveMessage body => Sys2Proof.Machine.execLeaveMessage body s
  | .testMessage port body => Sys2Proof.Machine.execTestMessage port body s
  | .clockMessageSend => Sys2Proof.Machine.execClockMessageSend s
  | .statusMessageSend => Sys2Proof.Machine.execStatusMessageSend s
  | .remoteMessageSend => Sys2Proof.Machine.execRemoteMessageSend s
  | .tddMessageSend => Sys2Proof.Machine.execTddMessageSend s
  | .bandAnnounceSend => Sys2Proof.Machine.execBandAnnounceSend s
  | .delayFigSend => Sys2Proof.Machine.execDelayFigSend s
  | .sumSatWindow lane segments flagged => Sys2Proof.Machine.execSumSatWindow lane segments flagged s
  | .sumBackoffDecay lane => Sys2Proof.Machine.execSumBackoffDecay lane s
  | .unitUnreachable unit => Sys2Proof.Machine.execUnitUnreachable unit s
  | .bandResumeAfterRejoin band => Sys2Proof.Machine.execBandResumeAfterRejoin band s
  | .bandConfig r => Sys2Proof.Machine.execBandConfig r s
  | .bridgeStart r => Sys2Proof.Machine.execBridgeStart r s
  | .bridgeStartComplete band => Sys2Proof.Machine.execBridgeStartComplete band s
  | .followerAnswerTimeout band => Sys2Proof.Machine.execFollowerAnswerTimeout band s
  | .startNoCellTimeout band => Sys2Proof.Machine.execStartNoCellTimeout band s
  | .bridgeStop r => Sys2Proof.Machine.execBridgeStop r s
  | .tddPatternGet r => Sys2Proof.Machine.execTddPatternGet r s
  | .protectionStatusGet r => Sys2Proof.Machine.execProtectionStatusGet r s
  | .cellDetectorRun band found => Sys2Proof.Machine.execCellDetectorRun band found s
  | .noCell band => Sys2Proof.Machine.execNoCell band s
  | .tddMessageTimeout band => Sys2Proof.Machine.execTddMessageTimeout band s
  | .tddVerifyStart band => Sys2Proof.Machine.execTddVerifyStart band s
  | .learningWindowEnd band powers => Sys2Proof.Machine.execLearningWindowEnd band powers s
  | .ulNoiseUpdate => Sys2Proof.Machine.execUlNoiseUpdate s
  | .dlOverloadUpdate => Sys2Proof.Machine.execDlOverloadUpdate s
  | .restartBackoffExpiry band => Sys2Proof.Machine.execRestartBackoffExpiry band s
  | .bandRungReset band => Sys2Proof.Machine.execBandRungReset band s
  | .scanStart r => Sys2Proof.Machine.execScanStart r s
  | .cellSearch r => Sys2Proof.Machine.execCellSearch r s
  | .isolationProbe r => Sys2Proof.Machine.execIsolationProbe r s
  | .surveyAbort r => Sys2Proof.Machine.execSurveyAbort r s
  | .resultFetch r => Sys2Proof.Machine.execResultFetch r s
  | .scanSegmentDone slot ref m => Sys2Proof.Machine.execScanSegmentDone slot ref m s
  | .surveyJobComplete slot ref m => Sys2Proof.Machine.execSurveyJobComplete slot ref m s
  | .surveyBoundExpiry slot ref => Sys2Proof.Machine.execSurveyBoundExpiry slot ref s
  | .probeEnd slot ref m => Sys2Proof.Machine.execProbeEnd slot ref m s
  | .cellRefCapture offset phase => Sys2Proof.Machine.execCellRefCapture offset phase s
  | .tariffLoad r => Sys2Proof.Machine.execTariffLoad r s
  | .registersGet r => Sys2Proof.Machine.execRegistersGet r s
  | .periodClose r => Sys2Proof.Machine.execPeriodClose r s
  | .sealValueGet r => Sys2Proof.Machine.execSealValueGet r s
  | .tamperStatusGet r => Sys2Proof.Machine.execTamperStatusGet r s
  | .attributionSet r => Sys2Proof.Machine.execAttributionSet r s
  | .meterCalLoad r => Sys2Proof.Machine.execMeterCalLoad r s
  | .integrationIntervalEnd m => Sys2Proof.Machine.execIntegrationIntervalEnd m s
  | .mainsCycleEnd milliHz m => Sys2Proof.Machine.execMainsCycleEnd milliHz m s
  | .meterPulse => Sys2Proof.Machine.execMeterPulse s
  | .tamperStart code => Sys2Proof.Machine.execTamperStart code s
  | .tamperEnd code => Sys2Proof.Machine.execTamperEnd code s
  | .sealRecompute computed => Sys2Proof.Machine.execSealRecompute computed s
  | .quireMSave => Sys2Proof.Machine.execQuireMSave s
  | .logFreeze r => Sys2Proof.Machine.execLogFreeze r s
  | .logThaw r => Sys2Proof.Machine.execLogThaw r s
  | .logRead r => Sys2Proof.Machine.execLogRead r s
  | .logInfo r => Sys2Proof.Machine.execLogInfo r s
  | .freezeExpiry part => Sys2Proof.Machine.execFreezeExpiry part s
  | .colophonFlush part => Sys2Proof.Machine.execColophonFlush part s
  | .pageProgramComplete retired => Sys2Proof.Machine.execPageProgramComplete retired s
  | .eraseComplete count retired => Sys2Proof.Machine.execEraseComplete count retired s
  | .compaction half live => Sys2Proof.Machine.execCompaction half live s
  | .fwStage r => Sys2Proof.Machine.execFwStage r s
  | .fwStageComplete slot ref => Sys2Proof.Machine.execFwStageComplete slot ref s
  | .fwCommit r => Sys2Proof.Machine.execFwCommit r s
  | .nvmStatus r => Sys2Proof.Machine.execNvmStatus r s
  | .factoryDataGet r => Sys2Proof.Machine.execFactoryDataGet r s
  | .faultCountersGet r => Sys2Proof.Machine.execFaultCountersGet r s
  | .selftestRun r => Sys2Proof.Machine.execSelftestRun r s
  | .selftestComplete slot ref failed arbLong sramFail scrubbed corrected => Sys2Proof.Machine.execSelftestComplete slot ref failed arbLong sramFail scrubbed corrected s
  | .shockStatusGet r => Sys2Proof.Machine.execShockStatusGet r s
  | .accelRead sample => Sys2Proof.Machine.execAccelRead sample s
  | .shockInEdge highNs => Sys2Proof.Machine.execShockInEdge highNs s
  | .shockEpisodeEnd => Sys2Proof.Machine.execShockEpisodeEnd s
  | .sfpRecheck reads => Sys2Proof.Machine.execSfpRecheck reads s
  | .tapIdcode => Sys2Proof.Machine.execTapIdcode s
  | .tapBypass code => Sys2Proof.Machine.execTapBypass code s
  | .tapSamplePreload pins preload => Sys2Proof.Machine.execTapSamplePreload pins preload s
  | .tapExtest cells => Sys2Proof.Machine.execTapExtest cells s
  | .tapClamp => Sys2Proof.Machine.execTapClamp s
  | .tapHighz => Sys2Proof.Machine.execTapHighz s
  | .dbgStatus => Sys2Proof.Machine.execDbgStatus s
  | .dbgChallenge => Sys2Proof.Machine.execDbgChallenge s
  | .dbgUnlock expiry token => Sys2Proof.Machine.execDbgUnlock expiry token s
  | .dbgAccess lane op arg => Sys2Proof.Machine.execDbgAccess lane op arg s
  | .dbgRelock => Sys2Proof.Machine.execDbgRelock s
  | .trstNLow => Sys2Proof.Machine.execTrstNLow s
  | .dbgExpiry => Sys2Proof.Machine.execDbgExpiry s
  | .dbgChallengeLapse => Sys2Proof.Machine.execDbgChallengeLapse s
  | .dbgLockoutExpiry => Sys2Proof.Machine.execDbgLockoutExpiry s
  | .watchSample energy junction => Sys2Proof.Machine.execWatchSample energy junction s
  | .courierEnable failed => Sys2Proof.Machine.execCourierEnable failed s
  | .joinAckTimeout => Sys2Proof.Machine.execJoinAckTimeout s
  | .extRefUpdate pps present offset phase => Sys2Proof.Machine.execExtRefUpdate pps present offset phase s
  | .pathDelayTimeout port => Sys2Proof.Machine.execPathDelayTimeout port s

end Sys2Proof.Machine
end

