-- ==== Sys2Proof/Machine/Tick.lean ====
section
/-! DEFINITION. What a cycle of the clock does: the TKC counts, and each UP port sends its waybills (R192, R388, R391, R415).
A step on an empty queue is one such cycle (log entry 5). -/

namespace Sys2Proof.Machine

/-- TKC units in one cycle of the clock that drives it: SYSREF, or the low-rate oscillator at 7,500 ticks (R192, R388). -/
def Dev.cycle (d : Dev) : Nat :=
  if (d.pwr.state = .active || d.pwr.state = .sleep) && d.clk.state ≠ .lost then 256 else 1920000

/-- The waybill period of a line rate in 1/256 ticks: 6.656 µs and 2.6624 µs (Table CL-2). -/
def waybillPeriod (rate : Nat) : Nat := if rate = 2 then 167503 else 418759

/-- The messages that one waybill region of 124 bytes takes, in queue order: the first that does not fit ends it (R414). -/
def waybillTake : Nat → List WaybillMsg → List WaybillMsg
  | _, [] => []
  | left, m :: ms => if m.body.length + 2 ≤ left then m :: waybillTake (left - (m.body.length + 2)) ms else []

/-- A port sends its next waybill when its period has passed. -/
def Dev.sendWaybill (d : Dev) (p : Nat) : Dev :=
  let x := d.port p
  let period := waybillPeriod (d.getN pLinkRate p)
  if !d.portUp p || d.since x.waybillAt < period then d else
  let mine := d.link.out.filter (fun m => m.port = p)
  let sent := waybillTake 124 mine
  let d1 := d.updPort p (fun y => { y with waybillAt := x.waybillAt + period })
  { d1 with link := { d1.link with out := sent.foldl (fun q m => q.erase m) d1.link.out } }

/-- One clock cycle. -/
def tick (d : Dev) : Dev :=
  let d1 : Dev := { d with time := d.time + d.cycle, tkc := d.tkc + d.cycle }
  d1.portIds.foldl (fun e p => e.sendWaybill p) d1

end Sys2Proof.Machine
end

