-- ==== Sys2Proof/Safety.lean ====
section
/-! DEFINITION. What counts as a safe run: every state keeps the invariant that every step keeps, and no step stops; and the
words the statements use: when a host command is carried out, and what a set of parameters leaves alone. -/

namespace Sys2Proof

/-- What every reachable state keeps: the ring window in its canonical form. -/
def Machine.State.Inv (s : Machine.State) : Prop := s.mem.wf = true

/-- A step that goes on. -/
def Steps (s t : Machine.State) : Prop := Machine.step s = .next t

/-- The states `n` steps lead to. -/
def Reaches : Nat → Machine.State → Machine.State → Prop
  | 0, s, t => s = t
  | n + 1, s, t => ∃ u, Steps s u ∧ Reaches n u t

/-- A safe state: it keeps the invariant, and its step goes on. -/
def Safe (s : Machine.State) : Prop := s.Inv ∧ ∃ t, Steps s t

namespace Machine

/-- The state with another device: the queue and the ring window as they are. -/
def State.on (s : State) (d : Dev) : State := { s with dev := d }

/-- What `f` does as the effect of a request: the events it raises are marked with the request, and wait for its response (R112). -/
def Dev.caused (d : Dev) (r : Request) (f : Dev → Dev) : Dev := { f { d with cause := some (r.slot, r.ref) } with cause := d.cause }

/-- The entry of the first response to a request. -/
def answer (r : Request) (opcode : Nat) (rep : Reply) (after : AfterWrite := .nothing) : OutEntry :=
  { slot := r.slot, code := opcode, ref := r.ref, tagged := r.tagged, reply := rep, after := after }

/-- The entry of a long command's completion. -/
def completion (l : LongCmd) (rep : Reply) : OutEntry :=
  { slot := l.slot, kind := .completion, code := l.opcode, ref := l.ref, reply := rep }

/-- A long command has ended: its completion is the last entry queued, and it is open no more (R147). -/
def Ended (l : LongCmd) (rep : Reply) (e : Dev) : Prop := e.host.outbox.getLast? = some (completion l rep) ∧ e.longOf l.slot l.ref = none

/-- The device after ACCEPTED: the long command is open, its first response queued (R147). -/
def Dev.accept (d : Dev) (r : Request) (opcode bound : Nat) : Dev :=
  (d.openLong r opcode (leNat (e32 bound))).respond r opcode (accepted bound)

/-- The device with a response that the journal holds back until it holds the change (R145). -/
def Dev.holdBack (d : Dev) (r : Request) (opcode : Nat) (rep : Reply) (shared : Bool := true) : Dev :=
  d.journal opcode r.slot 1 (some (r.slot, r.ref)) (.respond r.slot r.ref r.tagged opcode rep) shared

/-- A request is carried out: the ZS8 consumes entries, and every common check of Table CM-4 passes (R131 to R133). -/
def Takes (c : CmdSpec) (s : State) (r : Request) : Prop := s.dev.consumes = true ∧ c.check s.dev r = none

/-- Every parameter but those of `ids` holds in `e` what it held in `d`. -/
def SamePar (ids : List Nat) (d e : Dev) : Prop := ∀ id i, id ∉ ids → i < 65536 → e.get id i = d.get id i

/-- The parameters of Colophon's counters, which a record that is lost moves (R540, R542). -/
def lossIds : List Nat := [pLogLost, pMetroOverflow]

/-- The command specification and the request of a host command; none for everything else that happens to the block. -/
def hostSpec : Instr → Option (CmdSpec × Request)
  | .nop r => some (cmdNop, r)
  | .helloPhase1 r => some (cmdHelloPhase1, r)
  | .helloPhase2 r => some (cmdHelloPhase2, r)
  | .bye r => some (cmdBye, r)
  | .paramGet r => some (cmdParamGet, r)
  | .paramSet r => some (cmdParamSet, r)
  | .paramList r => some (cmdParamList, r)
  | .eventMaskSet r => some (cmdEventMaskSet, r)
  | .statusGet r => some (cmdStatusGet, r)
  | .modeSet r => some (cmdModeSet, r)
  | .powerStateSet r => some (cmdPowerStateSet, r)
  | .reset r => some (cmdReset, r)
  | .infoGet r => some (cmdInfoGet, r)
  | .tempGet r => some (cmdTempGet, r)
  | .slotProvision r => some (cmdSlotProvision, r)
  | .slotRevoke r => some (cmdSlotRevoke, r)
  | .permitLoad r => some (cmdPermitLoad, r)
  | .permitStatus r => some (cmdPermitStatus, r)
  | .permitRemove r => some (cmdPermitRemove, r)
  | .laneAssign r => some (cmdLaneAssign, r)
  | .vaultRead r => some (cmdVaultRead, r)
  | .vaultWrite r => some (cmdVaultWrite, r)
  | .slotRekey r => some (cmdSlotRekey, r)
  | .ledgerGet r => some (cmdLedgerGet, r)
  | .quotaSet r => some (cmdQuotaSet, r)
  | .jobEstimate r => some (cmdJobEstimate, r)
  | .jobAdmit r => some (cmdJobAdmit, r)
  | .planEndSet r => some (cmdPlanEndSet, r)
  | .jobRelease r => some (cmdJobRelease, r)
  | .pacePolicySet r => some (cmdPacePolicySet, r)
  | .laneTune r => some (cmdLaneTune, r)
  | .laneStateSet r => some (cmdLaneStateSet, r)
  | .calRun r => some (cmdCalRun, r)
  | .calStoreGet r => some (cmdCalStoreGet, r)
  | .txpowerModeSet r => some (cmdTxpowerModeSet, r)
  | .paTableLoad r => some (cmdPaTableLoad, r)
  | .courierProfileSet r => some (cmdCourierProfileSet, r)
  | .courierSend r => some (cmdCourierSend, r)
  | .courierStateSet r => some (cmdCourierStateSet, r)
  | .courierStatsGet r => some (cmdCourierStatsGet, r)
  | .chainConfig r => some (cmdChainConfig, r)
  | .firLoad r => some (cmdFirLoad, r)
  | .threshSet r => some (cmdThreshSet, r)
  | .chainStatusGet r => some (cmdChainStatusGet, r)
  | .delayGet r => some (cmdDelayGet, r)
  | .droverOpen r => some (cmdDroverOpen, r)
  | .droverClose r => some (cmdDroverClose, r)
  | .droverCoefSet r => some (cmdDroverCoefSet, r)
  | .convoyStatusGet r => some (cmdConvoyStatusGet, r)
  | .supervisorSet r => some (cmdSupervisorSet, r)
  | .isolationGet r => some (cmdIsolationGet, r)
  | .refConfig r => some (cmdRefConfig, r)
  | .refStatusGet r => some (cmdRefStatusGet, r)
  | .clockBwSet r => some (cmdClockBwSet, r)
  | .steerSet r => some (cmdSteerSet, r)
  | .walltimeSet r => some (cmdWalltimeSet, r)
  | .refForce r => some (cmdRefForce, r)
  | .linkConfig r => some (cmdLinkConfig, r)
  | .linkStatusGet r => some (cmdLinkStatusGet, r)
  | .chainJoin r => some (cmdChainJoin, r)
  | .chainLeave r => some (cmdChainLeave, r)
  | .linkTestStart r => some (cmdLinkTestStart, r)
  | .linkTestResult r => some (cmdLinkTestResult, r)
  | .bandConfig r => some (cmdBandConfig, r)
  | .bridgeStart r => some (cmdBridgeStart, r)
  | .bridgeStop r => some (cmdBridgeStop, r)
  | .tddPatternGet r => some (cmdTddPatternGet, r)
  | .protectionStatusGet r => some (cmdProtectionStatusGet, r)
  | .scanStart r => some (cmdScanStart, r)
  | .cellSearch r => some (cmdCellSearch, r)
  | .isolationProbe r => some (cmdIsolationProbe, r)
  | .surveyAbort r => some (cmdSurveyAbort, r)
  | .resultFetch r => some (cmdResultFetch, r)
  | .tariffLoad r => some (cmdTariffLoad, r)
  | .registersGet r => some (cmdRegistersGet, r)
  | .periodClose r => some (cmdPeriodClose, r)
  | .sealValueGet r => some (cmdSealValueGet, r)
  | .tamperStatusGet r => some (cmdTamperStatusGet, r)
  | .attributionSet r => some (cmdAttributionSet, r)
  | .meterCalLoad r => some (cmdMeterCalLoad, r)
  | .logFreeze r => some (cmdLogFreeze, r)
  | .logThaw r => some (cmdLogThaw, r)
  | .logRead r => some (cmdLogRead, r)
  | .logInfo r => some (cmdLogInfo, r)
  | .fwStage r => some (cmdFwStage, r)
  | .fwCommit r => some (cmdFwCommit, r)
  | .nvmStatus r => some (cmdNvmStatus, r)
  | .factoryDataGet r => some (cmdFactoryDataGet, r)
  | .faultCountersGet r => some (cmdFaultCountersGet, r)
  | .selftestRun r => some (cmdSelftestRun, r)
  | .shockStatusGet r => some (cmdShockStatusGet, r)
  | _ => none

end Machine

end Sys2Proof
end

