-- ==== Sys2Proof/Certificates/Slice0/Obligations.lean ====
section
/-! DEFINITION. The statements for the provers, in the order of the manual's chapters: what each command does, what it leaves
alone, and what every command and every step keeps. -/

open Sys2Proof Sys2Proof.Machine

/-! ### Every command and every step -/

/-- A step of a state whose queue has a command in front answers what exec answers for that command in the state with the
rest of the queue. The queue is the model's own (log entry 5). (04 Command model: R132, 95 What each step holds.) -/
def Obligations.FrontCommandIsCarriedOut : Prop :=
  ∀ (c : Instr) (rest : List Instr) (s : State), s.pending = c :: rest → step s = exec c { s with pending := rest }

/-- Model's choice (log entry 5): on an empty queue a step lets one cycle of the clock in force pass. The time and the TKC
move on by that cycle, 256 units while SYSREF runs and 1,920,000 units on the low-rate oscillator, the link sends the
waybills that are due, and everything else stands; with no port UP the link stands too. (06 Power states: R192, 12
Reference: R388, 13 Caravan link: R415.) -/
def Obligations.EmptyQueueIsOneClockCycle : Prop :=
  ∀ s : State, s.pending = [] →
    s.dev.cycle = (if (s.dev.pwr.state = .active ∨ s.dev.pwr.state = .sleep) ∧ s.dev.clk.state ≠ .lost then 256 else 1920000) ∧
    ∃ l : Link, step s = .next (s.on ({ s.dev with time := s.dev.time + s.dev.cycle, tkc := s.dev.tkc + s.dev.cycle, link := l })) ∧
      ((∀ p ∈ s.dev.portIds, s.dev.portUp p = false) → l = s.dev.link)

/-- The ring window of the state after reset is in its canonical form: strictly rising offsets, no byte equal to what an
unlisted offset reads as. (03 Host port: Table HR-3, 95 What each step holds.) -/
def Obligations.ResetHoldsInvariant : Prop :=
  State.reset.Inv

/-- From every state whose ring window is in its canonical form, reached or not, whatever command stands in front, a step
that goes on leaves the ring window in its canonical form. (03 Host port: Table HR-3, R104, R108, R117, 95 What each
step holds.) -/
def Obligations.StepKeepsWindowCanonical : Prop :=
  ∀ s t : State, s.Inv → Steps s t → t.Inv

/-- Every command answers a next state, with the queue as it was; the ring window is as before for every command but a
quad-SPI write, a USB OUT packet and the three writings of ring entries (response, progress, event). (03 Host port:
R92, R104, R115, R123, 04 Command model: R150, R151.) -/
def Obligations.CommandsKeepQueueAndWindow : Prop :=
  ∀ (i : Instr) (s : State), ∃ t, exec i s = .next t ∧ t.pending = s.pending ∧
    ((∀ a b, i ≠ .hrwWrite a b) → (∀ k b, i ≠ .usbOutPacket k b) → (∀ k, i ≠ .responseWrite k) →
      (∀ k r p b, i ≠ .progressEntry k r p b) → i ≠ .eventDelivery → t.mem = s.mem)

/-- For each of the 91 host commands: while the ZS8 consumes no entry (not ACTIVE, not READY, or an orderly sequence runs)
the state is unchanged; where a common check fails, the response of that check is queued for the request's ring and
nothing else changes. (03 Host port: R110, 04 Command model: R132, R134, 06 Power states: R206.) -/
def Obligations.HostCommandWaitsOrIsRefused : Prop :=
  ∀ (i : Instr) (c : CmdSpec) (r : Request) (s : State), hostSpec i = some (c, r) →
    (s.dev.consumes = false → exec i s = .next s) ∧
    (∀ rep, s.dev.consumes = true → c.check s.dev r = some rep → exec i s = .next (s.on (s.dev.respond r c.opcode rep)))

/-- For every command but HELLO: a request outside a session gets NO_SESSION unless the command allows it, a body or BLK
length that is wrong BAD_LEN, what the chapter checks ahead of steps 5 and 6 (R143) its own reply, a lacking object
UNSUPPORTED, a missing right DENIED, a field out of range BAD_ARG with its offset, a ninth long command of the slot
BUSY, a subsystem not yet running NOT_YET; each only where every check before it passes. Where all pass, the command
goes on to its own checks. (04 Command model: R132, R133, R149, R623, Table CM-4, 06 Power states: Table PS-4.) -/
def Obligations.CommonChecksInOrder : Prop :=
  ∀ (c : CmdSpec) (d : Dev) (r : Request), c ∈ allCommands →
    (r.tagged = false → c.zeroTag = false → c.check d r = some (fail .noSession)) ∧
    (r.tagged = true → (d.slot r.slot).session = none → c.check d r = some (fail .noSession)) ∧
    (∀ x, r.tagged = true → (d.slot r.slot).session = some x → x.full = false → c.enrol = false → c.check d r = some (fail .state)) ∧
    ((r.tagged = true ∨ c.zeroTag = true) → (r.tagged = true → ∃ x, (d.slot r.slot).session = some x ∧ (x.full = true ∨ c.enrol = true)) →
      (c.len r.body = false → c.check d r = some (fail .badLen)) ∧
      (c.len r.body = true → c.blkOptional r = false → r.blkAttached ≠ c.blk → c.check d r = some (fail .badLen)) ∧
      (∀ rep, c.len r.body = true → (c.blkOptional r = true ∨ r.blkAttached = c.blk) → c.early d r = some rep → c.check d r = some rep) ∧
      (c.len r.body = true → (c.blkOptional r = true ∨ r.blkAttached = c.blk) → c.early d r = none →
        (c.lacks d r = true → c.check d r = some (fail .unsupported)) ∧
        (c.lacks d r = false → c.denied d r = true → c.check d r = some (fail .denied)) ∧
        (∀ o, c.lacks d r = false → c.denied d r = false → c.bad d r = some o → c.check d r = some (failAt .badArg o)) ∧
        (c.lacks d r = false → c.denied d r = false → c.bad d r = none →
          (c.long = true → 8 ≤ d.longCount r.slot → c.check d r = some (fail .busy)) ∧
          ((c.long = false ∨ d.longCount r.slot < 8) →
            (∀ ms, c.notReady d r = some ms → c.check d r = some (notYet ms)) ∧
            (c.notReady d r = none → c.check d r = none)))))

/-- The opcodes of the commands but HELLO and which of them are long commands are as listed from the tables of the
chapters, no two commands have one, and a request whose opcode is none of them is answered with UNKNOWN_OP and changes
nothing else. (04 Command model: Table CM-3, Table CM-8, R131, 95 What each step holds.) -/
def Obligations.CommandTableOfOpcodes : Prop :=
  allCommands.map (fun c => (c.opcode, c.long)) =
    [(0x0001, false), (0x0003, false), (0x0004, false), (0x0005, false), (0x0006, false), (0x0007, false), (0x0008, false),
     (0x0101, true), (0x0102, true), (0x0103, false), (0x0104, false), (0x0105, false), (0x0201, true), (0x0205, false),
     (0x0202, true), (0x0203, false), (0x0204, false), (0x0209, false), (0x0206, false), (0x0207, true), (0x0208, false),
     (0x0301, false), (0x0302, false), (0x0303, false), (0x0304, false), (0x0305, false), (0x0307, false), (0x0306, false),
     (0x0401, false), (0x0402, false), (0x0403, true), (0x0404, false), (0x0405, false), (0x0406, false), (0x0501, true),
     (0x0502, true), (0x0503, false), (0x0504, false), (0x0601, false), (0x0602, false), (0x0603, false), (0x0604, false),
     (0x0605, false), (0x0701, false), (0x0702, false), (0x0703, false), (0x0704, false), (0x0705, false), (0x0706, false),
     (0x0801, false), (0x0802, false), (0x0803, false), (0x0804, false), (0x0805, false), (0x0806, false), (0x0901, false),
     (0x0902, false), (0x0903, true), (0x0904, true), (0x0905, true), (0x0906, false), (0x0A01, false), (0x0A02, true),
     (0x0A03, false), (0x0A04, false), (0x0A05, false), (0x0B01, true), (0x0B02, true), (0x0B03, true), (0x0B04, false),
     (0x0B05, false), (0x0C01, false), (0x0C02, false), (0x0C03, false), (0x0C04, false), (0x0C05, false), (0x0C06, false),
     (0x0C07, false), (0x0D01, false), (0x0D02, false), (0x0D03, false), (0x0D04, false), (0x0E01, false), (0x0E02, false),
     (0x0E03, false), (0x0E04, false), (0x0F01, false), (0x0F02, true), (0x0F03, false)] ∧
  (allCommands.map (fun c => c.opcode)).Nodup ∧
  ∀ (code : Nat) (r : Request) (d : Dev), code ≠ 0x0002 → code ∉ allCommands.map (fun c => c.opcode) →
    runCommand code r d = d.respond r code (fail .unknownOp)

/-- Raising an event changes nothing of the device but the Colophon, the events that wait for delivery, the events latched
before READY, and the parameters LOG_LOST and METRO_OVERFLOW. Before READY it is latched, with no record; at READY its
partition's number goes up by one for the record, which carries the code, and the record is staged where the partition
is not frozen and has room. (04 Command model: R130, 06 Power states: R195, 17 Colophon: R534, R536, R540, R542.) -/
def Obligations.EventRecordsAndNothingElse : Prop :=
  ∀ (d : Dev) (part : Nat) (o : Bool) (agent code : Nat) (p : List Byte), part ≤ 8 →
    (∃ colo latched ev par npar, d.raiseAs part o agent code p =
      { d with colo := colo, latched := latched, host := { d.host with events := ev }, par := par, nvm := { d.nvm with par := npar } }) ∧
    SamePar lossIds d (d.raiseAs part o agent code p) ∧
    (d.pwr.phase ≠ .ready → (d.raiseAs part o agent code p).colo = d.colo ∧
      (d.raiseAs part o agent code p).latched = d.latched ++ [{ ts := d.ts, part := part, onlyS0 := o, agent := agent, code := code, payload := p }]) ∧
    (d.pwr.phase = .ready → part < d.colo.length → part ≠ 0 → part ≠ 8 →
      (nth (d.raiseAs part o agent code p).colo part).next = (nth d.colo part).next + 1 ∧
      ((nth d.colo part).freeze = none → (nth d.colo part).staged.length < 16 →
        ∃ rec, (nth (d.raiseAs part o agent code p).colo part).staged = (nth d.colo part).staged ++ [rec] ∧
          rec.code = code ∧ rec.seq = (nth d.colo part).next ∧ rec.payload = padTo 20 p))

/-! ### 02 Tenants, permits and isolation -/

/-- A record that fits the state of its slot and the shares is ACCEPTED with a bound of 250 ms; one that does not is
refused with STATE or WOULD_EXCEED. When a full record takes effect (its link shares those in force) the slot is in
ENROL with the record's credential and issuer keys, no permit, its quota, its other shares and no HELLO failure
counted, and the command completes with the slot and its state; a record that no longer fits completes with its
refusal and changes nothing else. (02 Tenants: R80, R62, R67, Table TI-7, Table TI-10, 04 Command model: R147.) -/
def Obligations.SlotProvisioned : Prop :=
  (∀ (s : State) (r : Request), Takes cmdSlotProvision s r →
    (s.dev.provRefusal r.blk = none → s.dev.nvmBar = none → exec (.slotProvision r) s = .next (s.on (s.dev.accept r 0x0201 250))) ∧
    (∀ st, s.dev.provRefusal r.blk = some st → exec (.slotProvision r) s = .next (s.on (s.dev.respond r 0x0201 (fail st))))) ∧
  (∀ (s : State) (slot ref : Nat) (l : LongCmd), s.dev.longIs slot ref 0x0201 = some l → l.slot = slot → l.ref = ref →
    let b := l.blk
    let k := fld b 0 1
    (∀ st, s.dev.provRefusal b = some st → exec (.slotProvisionComplete slot ref) s = .next (s.on (s.dev.complete l (fail st)))) ∧
    (s.dev.provRefusal b = none → provFull b = true → k < 8 → k < s.dev.slotNv.length →
      provShare b 5 = s.dev.share k 5 → provShare b 6 = s.dev.share k 6 →
      ∃ e, exec (.slotProvisionComplete slot ref) s = .next (s.on e) ∧ e.get pSlotState k = 1 ∧
        (e.slotN k).credential = slice b 32 32 ∧ (e.slotN k).keys = (List.range (fld b 1 1)).map (fun i => slice b (64 + 64 * i) 64) ∧
        (e.slotN k).permits = List.replicate 8 none ∧ e.get pQuotaGrant k = fld b 24 8 ∧ e.get pHelloFails k = 0 ∧
        e.get pOverheadRate k = fld b 20 4 ∧ (∀ i, i < 7 → e.share k i = provShare b i) ∧
        Ended l (okBody (e8 k ++ e8 1 ++ zs 2)) e))

/-- Of a slot in ENROL or ACTIVE the revocation is ACCEPTED with a bound of 100 ms, else refused with STATE. When it takes
effect the command completes with the slot; of a slot that holds no lane and no link share, its session has ended, its
credential, keys, permits and vault are gone, its quota and shares are 0 and it is REVOKED. (02 Tenants: R56, R77,
R81, R86, 04 Command model: R147.) -/
def Obligations.SlotRevoked : Prop :=
  (∀ (s : State) (r : Request), Takes cmdSlotRevoke s r →
    let st := s.dev.get pSlotState (rq r 0 1)
    ((st = 1 ∨ st = 2) → s.dev.nvmBar = none → exec (.slotRevoke r) s = .next (s.on (s.dev.accept r 0x0202 100))) ∧
    (st ≠ 1 → st ≠ 2 → exec (.slotRevoke r) s = .next (s.on (s.dev.respond r 0x0202 (fail .state))))) ∧
  (∀ (s : State) (slot ref : Nat) (l : LongCmd), s.dev.longIs slot ref 0x0202 = some l →
    let k := fld l.body 0 1
    (s.dev.get pSlotState k = 1 ∨ s.dev.get pSlotState k = 2) →
    (∃ e, exec (.slotRevokeComplete slot ref) s = .next (s.on e) ∧ e.get pOverheadRate k = 0 ∧ Ended l (okBody (e8 k ++ zs 3)) e) ∧
    (k < 8 → k < s.dev.slots.length → k < s.dev.slotNv.length → (∀ i ∈ s.dev.laneIds, s.dev.owner i ≠ k) → s.dev.share k 5 = 0 → s.dev.share k 6 = 0 →
      ∃ e, exec (.slotRevokeComplete slot ref) s = .next (s.on e) ∧ e.get pSlotState k = 3 ∧ (e.slot k).session = none ∧
        (e.slotN k).credential = [] ∧ (e.slotN k).keys = [] ∧ (e.slotN k).permits = List.replicate 8 none ∧ (e.slotN k).vaultKey = none ∧
        e.get pQuotaGrant k = 0 ∧ e.get pPermitsUsed k = 0 ∧ (∀ i, i < 7 → e.share k i = 0)))

/-- Assigning a lane that bears no band, calibration or survey to the slot that holds it puts the range at its place,
clears the others where asked, raises LANE_ASSIGNED and answers, once the journal holds the change, with lane, slot
and the number of ranges. Assigning it to another slot makes that slot its owner with that range alone, whatever the
lane bore. (02 Tenants: R63, R65, Table TI-7, Table TI-10, 04 Command model: R145.) -/
def Obligations.LaneAssigned : Prop :=
  ∀ (s : State) (r : Request), Takes cmdLaneAssign s r → s.dev.nvmBar = none →
    let l := rq r 0 1
    let new := rq r 1 1
    let range := if bit (rq r 3 1) 1 then none else some (rq r 4 8, rq r 12 8)
    (s.dev.owner l = new → s.dev.laneBand l = none → s.dev.laneSurvey l = none →
      let rs := (List.range 4).map (fun i =>
        if i = rq r 2 1 then range else if bit (rq r 3 1) 0 then none else nth (nth s.dev.ranges l) i)
      let n := (rs.filter (fun x => x.isSome)).length
      exec (.laneAssign r) s = .next (s.on
        ((s.dev.caused r (fun d => ({ d with ranges := upd d.ranges l (fun _ => rs) } : Dev).raiseSlot new 0x0285 (e8 l ++ e8 n))).holdBack r 0x0205 (okBody (e8 l ++ e8 new ++ e8 n)) false))) ∧
    (s.dev.owner l ≠ new → ∃ e, exec (.laneAssign r) s = .next (s.on e) ∧ e.owner l = new ∧
      (e.nvm.queue.getLast?).map (fun x => x.act) = some (.respond r.slot r.ref r.tagged 0x0205
        (okBody (e8 l ++ e8 new ++ e8 (if range.isSome then 1 else 0)))))

/-- A permit of the wrong length gets BAD_LEN with reason 1, another version BAD_ARG 2, another slot or serial DENIED 3,
an unknown issuer key DENIED 4, a signature that fails DENIED 5, a field out of its encoding BAD_ARG 6, an expired one
PERMIT_EXPIRED 7, one that finds no entry free WOULD_EXCEED 8; each only where the steps before it pass. The refusal
carries handle and state 255, the reason, and from step 7 on the permit's band count and ID, and changes nothing. (02
Tenants: R57, R58, Table TI-2, Table TI-4, Table TI-9.) -/
def Obligations.PermitChecksInOrder : Prop :=
  ∀ (s : State) (r : Request), Takes cmdPermitLoad s r →
    let b := r.blk
    let n := fld b 1 1
    let refused := fun (st : Status) (why : Nat) => exec (.permitLoad r) s = .next (s.on (s.dev.respond r 0x0203
      { status := st, body := e8 255 ++ e8 255 ++ e8 why ++ e8 (if why < 7 then 0 else n) ++ e32 (if why < 7 then 0 else fld b 40 4) }))
    let sized := b.length = 112 + 64 * n ∧ b.length ≤ 1024
    let bound := fld b 2 1 = r.slot ∧ slice b 12 16 = s.dev.factory.serial
    let key := (s.dev.slotN r.slot).keys.find? (fun k => keyIdOf k = slice b 4 8)
    (¬sized → refused .badLen 1) ∧
    (sized → fld b 0 1 ≠ 1 → refused .badArg 2) ∧
    (sized → fld b 0 1 = 1 → ¬bound → refused .denied 3) ∧
    (sized → fld b 0 1 = 1 → bound → key = none → refused .denied 4) ∧
    (∀ k, sized → fld b 0 1 = 1 → bound → key = some k →
      (ecdsaCheck k (b.take (48 + 64 * n)) (b.drop (48 + 64 * n)) = false → refused .denied 5) ∧
      (ecdsaCheck k (b.take (48 + 64 * n)) (b.drop (48 + 64 * n)) = true →
        (permitFieldsOk b = false → refused .badArg 6) ∧
        (permitFieldsOk b = true → fld b 32 4 ≤ s.dev.effTime → refused .permitExpired 7) ∧
        (permitFieldsOk b = true → s.dev.effTime < fld b 32 4 → s.dev.permitPlace r.slot (permitOf b s.dev.effTime) = none →
          refused .wouldExceed 8)))

/-- A permit that passes is stored in a free entry, PENDING or ACTIVE by the effective time, with its event, and answered
from the journal. PERMIT_STATUS reports the entry. PERMIT_REMOVE empties an entry no band, probe or calibration uses,
with its event, and is refused with STATE while one does. At an evaluation one permit whose state has changed takes
it, with its event; with none changed nothing happens. (02 Tenants: R58, R59, R60, R82, Table TI-9, Table TI-10, 04
Command model: R145.) -/
def Obligations.PermitsLoadedReadAndRemoved : Prop :=
  ∀ (s : State) (r : Request),
    (∀ h, Takes cmdPermitLoad s r → s.dev.nvmBar = none → s.dev.verifyPermit r.slot r.blk = .ok h → nth (s.dev.slotN r.slot).permits h = none →
      let p := permitOf r.blk s.dev.effTime
      p.state = permitStateAt (fld r.blk 28 4) (fld r.blk 32 4) s.dev.effTime ∧
      exec (.permitLoad r) s = .next (s.on
        ((s.dev.caused r (fun d => (d.setPermit r.slot h (some p)).permitEvent r.slot h 255 p.state.code p.permitId)).holdBack r 0x0203 (okBody (e8 h ++ e8 p.state.code ++ e8 0 ++ e8 p.bands.length ++ e32 p.permitId)) false))) ∧
    (Takes cmdPermitStatus s r → exec (.permitStatus r) s = .next (s.on (s.dev.respond r 0x0204 (okBody
      (match nth (s.dev.slotN r.slot).permits (rq r 0 1) with
        | some p => e8 p.state.code ++ e8 p.bands.length ++ zs 2 ++ e32 p.permitId ++ padTo 8 p.keyId ++ e32 p.validFrom ++ e32 p.validUntil
        | none => e8 255 ++ zs 23))))) ∧
    (∀ p, Takes cmdPermitRemove s r → nth (s.dev.slotN r.slot).permits (rq r 0 1) = some p →
      (s.dev.permitInUse r.slot (rq r 0 1) p = true → exec (.permitRemove r) s = .next (s.on (s.dev.respond r 0x0209 (fail .state)))) ∧
      (s.dev.permitInUse r.slot (rq r 0 1) p = false → s.dev.nvmBar = none → exec (.permitRemove r) s = .next (s.on
        ((s.dev.caused r (fun d => (d.setPermit r.slot (rq r 0 1) none).permitEvent r.slot (rq r 0 1) p.state.code 255 p.permitId)).holdBack r 0x0209 (okBody (e8 (rq r 0 1))) false)))) ∧
    (s.dev.permitChanges = [] → exec .permitEvaluation s = .next s) ∧
    (∀ k h p st, s.dev.permitChanges = [(k, h, p, st)] → (st = .expired → s.dev.slotBands k = [] ∧ s.dev.sv.jobs = []) →
      exec .permitEvaluation s = .next (s.on ((s.dev.setPermit k h (some { p with state := st })).permitEvent k h p.state.code st.code p.permitId)))

/-- VAULT_READ of an absent object answers length 0, of one that opens under the slot's vault key its plaintext, of one
that does not FAULT with the object dropped and its event. VAULT_WRITE starts the journal write of its pages and is
ACCEPTED; when the journal holds it the object takes the next write counter and is stored sealed, or dropped when
empty, and the command completes with that counter. SLOT_REKEY under the session key replaces the credential, makes
the slot ACTIVE and the session full, answered from the journal; a message that does not open is DENIED. (02 Tenants:
R54, R76, R86, R88, Table TI-11, 04 Command model: R145, R147.) -/
def Obligations.VaultObjectsSealed : Prop :=
  (∀ (s : State) (r : Request) (o : VaultObject), Takes cmdVaultRead s r →
    let k := rq r 0 1
    (nth (s.dev.slotN r.slot).vault k = none → exec (.vaultRead r) s = .next (s.on (s.dev.respond r 0x0206 (okBody (e16 0))))) ∧
    (nth (s.dev.slotN r.slot).vault k = some o → o.cipher.length ≤ 40 * s.dev.halfDepth r.slot → ∀ key, (s.dev.slotN r.slot).vaultKey = some key →
      let opened := gcmOpen key (vaultNonce r.slot k o.counter) (s.dev.vaultAad r.slot k o.counter) o.cipher o.tag
      (∀ p, opened = some p → p.length ≤ 40 * s.dev.halfDepth r.slot →
        exec (.vaultRead r) s = .next (s.on (s.dev.respond r 0x0206 { status := .ok, body := e16 p.length, blk := p }))) ∧
      (opened = none → r.slot < s.dev.slotNv.length → k < (s.dev.slotN r.slot).vault.length → ∃ e, exec (.vaultRead r) s = .next (s.on e) ∧
        nth (e.slotN r.slot).vault k = none ∧ e.host.outbox = s.dev.host.outbox ++ [answer r 0x0206 (fail .fault)]))) ∧
  (∀ (s : State) (r : Request), Takes cmdVaultWrite s r →
    let n := (20 + (bq r 2 2 + 32) + 255) / 256
    ((s.dev.slotN r.slot).vaultKey = none → exec (.vaultWrite r) s = .next (s.on (s.dev.respond r 0x0207 (fail .fault)))) ∧
    ((s.dev.slotN r.slot).vaultKey ≠ none → s.dev.nvmBar = none → exec (.vaultWrite r) s = .next (s.on
      ((s.dev.journal 0x0207 (32 * r.slot + bq r 0 1) n (some (r.slot, r.ref)) (.vault r.slot r.ref (bq r 0 1))).accept r 0x0207
        (s.dev.nvmBound r.slot (2 * n) 60))))) ∧
  (∀ (s : State) (slot ref : Nat) (l : LongCmd) (key : List Byte), s.dev.longIs slot ref 0x0207 = some l → slot < s.dev.slotNv.length →
    s.dev.nvm.queue = [] → (s.dev.slotN slot).vaultKey = some key → fld l.blk 0 1 < (s.dev.slotN slot).vault.length →
    let k := fld l.blk 0 1
    let c := (s.dev.slotN slot).vaultCounter + 1
    ∃ e, exec (.vaultWriteComplete slot ref) s = .next (s.on e) ∧ (e.slotN slot).vaultCounter = c ∧
      ((nth (e.slotN slot).vault k).isSome ↔ l.blk.drop 4 ≠ []) ∧
      (∀ o, nth (e.slotN slot).vault k = some o → o.counter = c ∧ o.cipher = gcmXor key (vaultNonce slot k c) (l.blk.drop 4)) ∧
      e.host.outbox = s.dev.host.outbox ++ [completion l (okBody (e8 k ++ zs 3 ++ e64 c))]) ∧
  (∀ (s : State) (r : Request) (x : Session), Takes cmdSlotRekey s r → (s.dev.slot r.slot).session = some x → r.slot < s.dev.slots.length →
    r.slot < s.dev.slotNv.length → r.slot < 8 →
    let opened := gcmOpen x.key (slice r.blk 0 12) (e8 r.slot ++ padTo 16 s.dev.factory.serial) (slice r.blk 12 32) (slice r.blk 44 16)
    (opened = none → exec (.slotRekey r) s = .next (s.on (s.dev.respond r 0x0208 (fail .denied)))) ∧
    (∀ c, opened = some c → s.dev.nvmBar = none → r.slot ≠ 0 → ∃ e, exec (.slotRekey r) s = .next (s.on e) ∧ (e.slotN r.slot).credential = c ∧
      e.get pSlotState r.slot = 2 ∧ (e.slot r.slot).session = some { x with full := true } ∧
      (e.nvm.queue.getLast?).map (fun y => y.act) = some (.respond r.slot r.ref r.tagged 0x0208 (okBody (e8 2)))) ∧
    (∀ c, opened = some c → s.dev.nvmBar = none → r.slot = 0 → ∃ e, exec (.slotRekey r) s = .next (s.on e) ∧ e.dbg.unlocked = false ∧
      (e.nvm.queue.getLast?).map (fun y => y.act) = some (.respond r.slot r.ref r.tagged 0x0208 (okBody (e8 2)))))

/-! ### 03 The host port and the rings -/

/-- One host error raises HOST_ERR's count, saturating at 0xFFFF, sets its code, sets DEV_IRQ[2] and raises
HOST_ERROR_COUNT, saturating; the rings, the masks and every other field of the window stand, and nothing beyond the
port, the interrupt pin and the record of HOST_PORT_ERROR changes. (03 Host port: R97, R98, Table HR-4, Table HR-16,
R621, 06 Power states: R195.) -/
def Obligations.HostErrorCounted : Prop :=
  ∀ (d : Dev) (code addr : Nat),
    (d.hostError code addr).host.hostErrCount = min 65535 (d.host.hostErrCount + 1) ∧
    (d.hostError code addr).host.hostErrCode = code ∧
    (d.hostError code addr).host.devIrq = d.host.devIrq ||| 4 ∧
    (d.hostError code addr).get pHostErrorCount = (inc32 (d.getN pHostErrorCount) : Nat) ∧
    SamePar (pHostErrorCount :: lossIds) d (d.hostError code addr) ∧
    ∃ early ev pins colo latched par npar, d.hostError code addr =
      { d with
        host := { d.host with
          hostErrCount := min 65535 (d.host.hostErrCount + 1), hostErrCode := code, devIrq := d.host.devIrq ||| 4
          earlyErrors := early, events := ev }
        pins := { d.pins with hostIrqN := pins }, colo := colo, latched := latched, par := par, nvm := { d.nvm with par := npar } }

/-- While the target acts on transactions: an instruction other than READ and WRITE counts host error 1; else an address
outside every region, or a transaction that crosses a region boundary, code 3; else a count outside 2 to 512 bytes or
a broken alignment code 2. The error is all the transaction does, and a write's bytes are discarded as a whole; a
WRITE's fault is also that of a quad-SPI write given with its bytes. (03 Host port: R91, Table HR-2, Table HR-3, Table
HR-17.) -/
def Obligations.QspiTransactionRejectedByCode : Prop :=
  ∀ (s : State) (instr addr count : Nat), s.dev.qspiLive = true →
    let stop := addr + max 1 count
    let inHrw := stop ≤ 256
    let inRings := 0x40000 ≤ addr ∧ stop ≤ 0x80000
    (instr ≠ 0x0B → instr ≠ 0x02 → exec (.qspiTransactionRejected instr addr count) s = .next (s.on (s.dev.hostError 1 addr))) ∧
    ((instr = 0x0B ∨ instr = 0x02) → ¬inHrw → ¬inRings →
      exec (.qspiTransactionRejected instr addr count) s = .next (s.on (s.dev.hostError 3 addr))) ∧
    ((instr = 0x0B ∨ instr = 0x02) → inHrw → (count < 2 ∨ addr % 2 ≠ 0 ∨ count % 2 ≠ 0) →
      exec (.qspiTransactionRejected instr addr count) s = .next (s.on (s.dev.hostError 2 addr))) ∧
    ((instr = 0x0B ∨ instr = 0x02) → inRings → (count < 2 ∨ 512 < count ∨ addr % 4 ≠ 0 ∨ count % 4 ≠ 0) →
      exec (.qspiTransactionRejected instr addr count) s = .next (s.on (s.dev.hostError 2 addr))) ∧
    (∀ bytes : List Byte, bytes.length = count → ∀ code, qspiFault 0x02 addr count = some code →
      exec (.hrwWrite addr bytes) s = .next (s.on (s.dev.hostError code addr)))

/-- A write that meets R91 in the ring window changes the window alone: each offset it covers then reads as the byte
written, every other offset as before. (03 Host port: R91, R92, Table HR-3, 95 What each step holds.) -/
def Obligations.RingWindowWriteReadsBack : Prop :=
  ∀ (s : State) (addr : Nat) (bytes : List Byte), s.dev.qspiLive = true → 0x40000 ≤ addr → addr + bytes.length ≤ 0x80000 →
    4 ≤ bytes.length → bytes.length ≤ 512 → addr % 4 = 0 → bytes.length % 4 = 0 →
    ∃ m, exec (.hrwWrite addr bytes) s = .next { s with mem := m } ∧
      (∀ k, k < bytes.length → m.read (addr - 0x40000 + k) = nth bytes k) ∧
      (∀ a, (a < addr - 0x40000 ∨ addr - 0x40000 + bytes.length ≤ a) → m.read a = s.mem.read a)

/-- In the register window a 32-bit write of RING_IRQ_MASK takes its value, one of HOST_CTRL its bit 0, a 16-bit write of
DEV_IRQ_MASK its bits 3 to 0; a reserved bit set counts one host error with code 4. A write of STATUS changes no field
but counts the error with code 4 at its address. The ring window and every ring stand, and HOST_IRQ_N is low exactly
while the interrupt condition holds. (03 Host port: R95, R98, R100, Table HR-4.) -/
def Obligations.RegisterWindowWrite : Prop :=
  ∀ (s : State) (bytes : List Byte), s.dev.qspiLive = true →
    (bytes.length = 4 → ∃ e, exec (.hrwWrite 0x18 bytes) s = .next (s.on e) ∧ e.host.ringIrqMask = leNat bytes ∧
      e.host.hostErrCount = s.dev.host.hostErrCount ∧ e.host.ringCfg = s.dev.host.ringCfg ∧ e.host.doorbell = s.dev.host.doorbell ∧
      (e.pins.hostIrqN = false ↔ (e.host.usb = false ∧ bit e.host.hostCtrl 0 = true ∧
        ((e.host.ringIrq &&& e.host.ringIrqMask) ≠ 0 ∨ (e.host.devIrq &&& e.host.devIrqMask) ≠ 0)))) ∧
    (bytes.length = 4 → ∃ e, exec (.hrwWrite 0x28 bytes) s = .next (s.on e) ∧ e.host.hostCtrl = leNat bytes % 2 ∧
      e.host.hostErrCount = (if leNat bytes / 2 ≠ 0 then min 65535 (s.dev.host.hostErrCount + 1) else s.dev.host.hostErrCount) ∧
      e.host.ringCfg = s.dev.host.ringCfg ∧ e.host.doorbell = s.dev.host.doorbell) ∧
    (bytes.length = 2 → ∃ e, exec (.hrwWrite 0x1E bytes) s = .next (s.on e) ∧ e.host.devIrqMask = leNat bytes % 16 ∧
      e.host.hostErrCount = (if leNat bytes / 16 ≠ 0 then min 65535 (s.dev.host.hostErrCount + 1) else s.dev.host.hostErrCount) ∧
      e.host.ringCfg = s.dev.host.ringCfg ∧ e.host.doorbell = s.dev.host.doorbell) ∧
    (bytes.length = 4 → ∃ e, exec (.hrwWrite 0x10 bytes) s = .next (s.on e) ∧ e.host.hostErrCode = 4 ∧
      e.host.hostErrCount = min 65535 (s.dev.host.hostErrCount + 1) ∧ e.pwr = s.dev.pwr ∧ e.host.ringCfg = s.dev.host.ringCfg)

/-- A write to RING_CFG of ring n: on an enabled ring it is refused while it sets ENABLE or the slot has a session, else
it disables the ring, whose entries wait no more; on a disabled ring a value without ENABLE is stored unchecked, and
one with ENABLE enables the ring with both indices 0 exactly where SIZE is 0 to 4, the extent ends within 4,096 units
and it overlaps no other enabled ring. A refused write keeps RING_CFG and counts one host error. No other ring's
register changes. (R99.) -/
def Obligations.RingCfgRules : Prop :=
  ∀ (s : State) (n v : Nat), s.dev.qspiLive = true → n < 32 → v < 65536 →
    let base := v % 4096
    let depth := 16 * 2 ^ (v / 4096 % 8)
    let clash := ∃ m, m < 32 ∧ m ≠ n ∧ s.dev.ringOn m = true ∧ base < s.dev.ringCfg m % 4096 + s.dev.depth m ∧ s.dev.ringCfg m % 4096 < base + depth
    let fits := v / 4096 % 8 ≤ 4 ∧ base + depth ≤ 4096 ∧ ¬clash
    ∃ e, exec (.ringCfgWrite n v) s = .next (s.on e) ∧
      e.host.ringIrqMask = s.dev.host.ringIrqMask ∧ e.host.hostCtrl = s.dev.host.hostCtrl ∧
      let refused := e.host.ringCfg = s.dev.host.ringCfg ∧ e.host.doorbell = s.dev.host.doorbell ∧ e.host.devIndex = s.dev.host.devIndex ∧
        e.host.hostErrCount = min 65535 (s.dev.host.hostErrCount + 1)
      let stored := e.host.ringCfg = upd s.dev.host.ringCfg n (fun _ => v) ∧ e.host.hostErrCount = s.dev.host.hostErrCount
      (s.dev.ringOn n = true → (bit v 15 = true ∨ (s.dev.slot (n / 4)).session.isSome = true) → refused) ∧
      (s.dev.ringOn n = true → bit v 15 = false → (s.dev.slot (n / 4)).session = none →
        stored ∧ e.ringOn n = false ∧ e.room n = 0 ∧ (n % 4 = 0 → e.cmdWaiting (n / 4) = 0)) ∧
      (s.dev.ringOn n = false → bit v 15 = false → stored ∧ e.host.doorbell = s.dev.host.doorbell ∧ e.host.devIndex = s.dev.host.devIndex) ∧
      (s.dev.ringOn n = false → bit v 15 = true → ¬fits → refused) ∧
      (s.dev.ringOn n = false → bit v 15 = true → fits → stored ∧ e.host.doorbell = upd s.dev.host.doorbell n (fun _ => 0) ∧ e.devIndex n = 0)

/-- A write to DOORBELL of an enabled CMD, RSP or EVT ring takes its value exactly where it advances the host index by no
more than what is available, (C + d - old) for the producer index of CMD and (P - old) for the consumer index of RSP
and EVT, modulo 65,536; else it is ignored and one host error counted. Of a BLK ring each half's byte is judged on its
own modulo 256, and each refused half counts one. A write to a disabled ring is refused and counted. Whatever the
write, no other ring's index and no RING_CFG changes; several doorbells written in one transaction are applied in
ascending address order. (R102.) -/
def Obligations.DoorbellRules : Prop :=
  (∀ (s : State) (n v : Nat), s.dev.qspiLive = true → n < 32 → v < 65536 →
    let old := s.dev.doorbell n
    let ix := s.dev.devIndex n
    let d := s.dev.depth n
    let err := fun k => min 65535 (s.dev.host.hostErrCount + k)
    ∃ e, exec (.doorbellWrite n v) s = .next (s.on e) ∧ e.host.ringCfg = s.dev.host.ringCfg ∧ e.host.devIndex = s.dev.host.devIndex ∧
      (s.dev.ringOn n = false → e.host.doorbell = s.dev.host.doorbell ∧ e.host.hostErrCount = err 1) ∧
      (s.dev.ringOn n = true → n % 4 ≠ 3 →
        let available := if n % 4 = 0 then ixSub 16 (ix + d) old else ixSub 16 ix old
        (ixSub 16 v old ≤ available → e.host.doorbell = upd s.dev.host.doorbell n (fun _ => v) ∧ e.host.hostErrCount = s.dev.host.hostErrCount) ∧
        (available < ixSub 16 v old → e.host.doorbell = s.dev.host.doorbell ∧ e.host.hostErrCount = err 1)) ∧
      (s.dev.ringOn n = true → n % 4 = 3 → old < 65536 →
        let down := decide (ixSub 8 (v % 256) (old % 256) ≤ ixSub 8 (ix % 256 + d / 2) (old % 256))
        let up := decide (ixSub 8 (v / 256) (old / 256) ≤ ixSub 8 (ix / 256) (old / 256))
        e.host.doorbell = upd s.dev.host.doorbell n (fun _ => (if down then v % 256 else old % 256) + 256 * (if up then v / 256 else old / 256)) ∧
        (down = true → up = true → e.host.hostErrCount = s.dev.host.hostErrCount) ∧
        (down = true → up = false → e.host.hostErrCount = err 1) ∧
        (down = false → up = true → e.host.hostErrCount = err 1) ∧
        (down = false → up = false → e.host.hostErrCount = min 65535 (err 1 + 1)))) ∧
  (∀ (s : State) (n : Nat) (a b c f : Byte), s.dev.qspiLive = true → n < 31 →
    exec (.hrwWrite (0x80 + 2 * n) [a, b, c, f]) s = .next (s.on (
      (((s.dev.writeBell n (leNat [a, b]) (0x80 + 2 * n)).writeBell (n + 1) (leNat [c, f]) (0x82 + 2 * n)).settlePort).irqLevel)))

/-- Each bit of RING_IRQ that the mask has as a 1 is 0 after the write and every other bit as before, the same for
DEV_IRQ, where a 1 in a reserved bit counts one host error; nothing else changes but HOST_IRQ_N. (03 Host port: R95,
R97, R98, Table HR-4.) -/
def Obligations.InterruptBitsCleared : Prop :=
  ∀ (s : State) (mask : Nat), s.dev.qspiLive = true →
    (mask < 4294967296 → exec (.ringIrqClear mask) s =
      .next (s.on (({ s.dev with host := { s.dev.host with ringIrq := s.dev.host.ringIrq - (s.dev.host.ringIrq &&& mask) } } : Dev).irqLevel))) ∧
    (mask < 16 → exec (.devIrqClear mask) s =
      .next (s.on (({ s.dev with host := { s.dev.host with devIrq := s.dev.host.devIrq - (s.dev.host.devIrq &&& mask) } } : Dev).irqLevel))) ∧
    (16 ≤ mask → mask < 65536 → exec (.devIrqClear mask) s =
      .next (s.on ((({ s.dev with host := { s.dev.host with devIrq := s.dev.host.devIrq - (s.dev.host.devIrq &&& mask) } } : Dev).hostError 4 0x1C).irqLevel))) ∧
    (∀ k, (s.dev.host.ringIrq - (s.dev.host.ringIrq &&& mask)).testBit k = (s.dev.host.ringIrq.testBit k && !mask.testBit k))

/-- SET_CONFIGURATION gives every ring not yet enabled depth 64 at its own 64 units with both indices 0, and an enabled
ring stays; HOST_TRANSPORT tells the speed. An OUT packet of one CMD entry that fits puts its 64 bytes at the host
producer index of the slot's CMD ring, which moves on by one, one of a BLK entry the same for the down half; one that
does not fit is NAKed and changes nothing; an entry of another kind counts host error 10. The acknowledgement of one
RSP entry moves the host consumer index on by one. An EP0 HRW_WRITE of RING_IRQ_MASK takes its value, an HRW_READ
changes nothing, a vendor request outside Table HR-14 counts host error 9 at address 0. A bus reset or the loss of
VBUS ends no session and changes no ring. Resume ends the suspend and from SLEEP lets the unit return. A HOST_WAKE
edge of 10 µs makes a SLEEP return due, and starts a unit in WATCH with reset cause 7 at PHASE BOOT; a shorter one
does nothing. (03 Host port: R119, R122, R123, R124, Table HR-14, Table HR-16, 06 Power states: R191, Table PS-2.) -/
def Obligations.UsbEndpointsAndBusEvents : Prop :=
  (∀ s : State, s.dev.usbLive = true →
      (∀ full, ∃ e, exec (.usbSetConfiguration full) s = .next (s.on e) ∧ e.host.usbConfigured = true ∧
        e.get pHostTransport = (if full then 2 else 1) ∧
        ∀ n, n < 32 → n < s.dev.host.ringCfg.length → n < s.dev.host.doorbell.length →
          nth e.host.ringCfg n = (if s.dev.ringOn n then s.dev.ringCfg n else 0xA000 + 64 * n) ∧
          nth e.host.doorbell n = (if s.dev.ringOn n then s.dev.doorbell n else 0) ∧
          nth e.host.devIndex n = (if s.dev.ringOn n then s.dev.devIndex n else 0)) ∧
      (∀ slot (entry : List Byte), s.dev.host.usbConfigured = true → slot < 8 → entry.length = 64 →
        (fld entry 6 1 = 1 → s.dev.ringOn (4 * slot) = true →
          (0 < ixSub 16 (s.dev.devIndex (4 * slot) + s.dev.depth (4 * slot)) (s.dev.doorbell (4 * slot)) →
            ∃ e, exec (.usbOutPacket slot entry) s = .next { s with
                mem := s.mem.writes (s.dev.entryAt (4 * slot) (s.dev.doorbell (4 * slot))) entry, dev := e } ∧
              e.host.doorbell = upd s.dev.host.doorbell (4 * slot) (fun _ => (s.dev.doorbell (4 * slot) + 1) % 65536) ∧
              e.host.ringCfg = s.dev.host.ringCfg) ∧
          (ixSub 16 (s.dev.devIndex (4 * slot) + s.dev.depth (4 * slot)) (s.dev.doorbell (4 * slot)) = 0 →
            exec (.usbOutPacket slot entry) s = .next s)) ∧
        (fld entry 6 1 = 6 → bit (fld entry 0 2) 8 = false → s.dev.ringOn (4 * slot + 3) = true →
          0 < ixSub 8 (s.dev.devIndex (4 * slot + 3) % 256 + s.dev.depth (4 * slot + 3) / 2) (s.dev.doorbell (4 * slot + 3)) →
            ∃ e, exec (.usbOutPacket slot entry) s = .next { s with
                mem := s.mem.writes (s.dev.blockAt (4 * slot + 3) false (s.dev.doorbell (4 * slot + 3) % 256)) entry, dev := e } ∧
              e.host.doorbell = upd s.dev.host.doorbell (4 * slot + 3)
                (fun _ => s.dev.doorbell (4 * slot + 3) / 256 * 256 + (s.dev.doorbell (4 * slot + 3) % 256 + 1) % 256)) ∧
        (fld entry 6 1 ≠ 1 → fld entry 6 1 ≠ 6 → ∃ e, exec (.usbOutPacket slot entry) s = .next (s.on e) ∧
          e.host.hostErrCode = 10 ∧ e.host.doorbell = s.dev.host.doorbell)) ∧
      (∀ slot rest, s.dev.host.usbConfigured = true → s.dev.host.usbIn = (slot, 1) :: rest →
        ∃ e, exec (.usbInAck slot 1) s = .next (s.on e) ∧ e.host.usbIn = rest ∧
          e.host.doorbell = upd s.dev.host.doorbell (4 * slot + 1) (fun _ => (s.dev.doorbell (4 * slot + 1) + 1) % 65536) ∧
          e.host.devIndex = s.dev.host.devIndex)) ∧
  (∀ s : State,
      (s.dev.usbLive = true →
        (∀ data : List Byte, data.length = 4 → ∃ e, exec (.usbEp0Request 0x40 2 0x18 4 data) s = .next (s.on e) ∧
          e.host.ringIrqMask = leNat data ∧ e.host.ringCfg = s.dev.host.ringCfg) ∧
        (∀ value length data, 2 ≤ length → length % 2 = 0 → value + length ≤ 256 → exec (.usbEp0Request 0xC0 1 value length data) s = .next s) ∧
        (∀ t q value length data, t / 32 % 4 ≠ 0 → hrwRequestOk t q value length = false →
          exec (.usbEp0Request t q value length data) s = .next (s.on (s.dev.hostError 9 0))) ∧
        (exec (.usbBusReset 0) s = .next (s.on ({ s.dev with host := { s.dev.host with
          usbConfigured := false, usbSuspended := false, usbWakeEnabled := false, usbWake := false } }))) ∧
        (exec (.usbBusReset 2) s = .next (s.on ({ s.dev with
          host := { s.dev.host with usbConfigured := false, usbSuspended := false, usbWakeEnabled := false, usbWake := false }
          pins := { s.dev.pins with usbVbus := false } }))) ∧
        (∃ e, exec (.usbBusReset 1) s = .next (s.on e) ∧ e.host.usbSuspended = true ∧ e.slots = s.dev.slots ∧
          e.host.ringCfg = s.dev.host.ringCfg ∧ e.host.usbIn = s.dev.host.usbIn) ∧
        (s.dev.pwr.state = .sleep → s.dev.pwr.wakePend = none → ∃ e, exec .usbResume s = .next (s.on e) ∧
          e.host.usbSuspended = false ∧ e.pwr = { s.dev.pwr with wakePend := some 6 })) ∧
      (∀ held, held < 10 → exec (.hostWakeEdge held) s = .next s) ∧
      (∀ held, 10 ≤ held → s.dev.pwr.state = .sleep → s.dev.pwr.wakePend = none →
        exec (.hostWakeEdge held) s = .next (s.on ({ s.dev with pwr := { s.dev.pwr with wakePend := some 1 } }))) ∧
      (∀ held, 10 ≤ held → s.dev.pwr.state = .watch → ∃ e, exec (.hostWakeEdge held) s = .next (s.on e) ∧
        e.pwr.state = .active ∧ e.pwr.phase = .boot ∧ e.pwr.cause = 7 ∧ e.ao.wakeSource = 1 ∧ e.get pResetCause = 7 ∧ e.pwr.releaseAt = s.dev.time))

/-! ### 04 The command model: entries, sessions, parameters -/

/-- NOP answers with its body, STATUS_GET with the layout of Table CM-9, BYE with an empty body after whose writing the
session ends, PARAM_GET with ID, index, type, size, qfrac 0 and the value, PARAM_LIST with at most eight descriptors
from the first ID at or above start, EVENT_MASK_SET with the mask that is in force once the response is written. HELLO
phase 1 draws a fresh nonce and answers with it and the serial, and the challenge is pending from the writing of that
response; during a lockout it answers NOT_YET with the time left. Nothing else changes. (04 Command model: R137, R141,
R142, R146, R151, Table CM-5, Table CM-8, Table CM-9, 02 Tenants: R87.) -/
def Obligations.CommonCommandsAnswer : Prop :=
  ∀ (s : State) (r : Request),
    (Takes cmdNop s r → exec (.nop r) s = .next (s.on (s.dev.respond r 0x0001 (okBody r.body)))) ∧
    (Takes cmdStatusGet s r → exec (.statusGet r) s = .next (s.on (s.dev.respond r 0x0008 (okBody (
      e8 (s.dev.getN pMode) ++ e8 (s.dev.getN pTopology) ++ e8 (s.dev.getN pUnitNumber) ++ e8 s.dev.clk.state.code ++
      e8 (s.dev.clk.selected.getD 255) ++ eb s.dev.wallValid ++ e8 (s.dev.sessionCode r) ++ e8 r.slot ++ e64 s.dev.ts ++
      e32 (if s.dev.wallValid then s.dev.wallNow.getD 0 else 0) ++ e32 s.dev.deviceFlags ++
      e16 (if r.tagged then s.dev.longCount r.slot else 0) ++ s16 s.dev.junction ++ zs 4))))) ∧
    (Takes cmdBye s r → exec (.bye r) s = .next (s.on (s.dev.respond r 0x0003 (okBody []) .bye))) ∧
    (∀ row, paramRow (rq r 0 2) = some row → Takes cmdParamGet s r → exec (.paramGet r) s = .next (s.on (
      s.dev.respond r 0x0004 (okBody (e16 (rq r 0 2) ++ e16 (rq r 2 2) ++ e8 row.ty.code ++ e8 row.ty.size ++ zs 2 ++
        leBytes row.ty.size (wrapInt row.ty.size (s.dev.parValue (rq r 0 2) (rq r 2 2)))))))) ∧
    (Takes cmdParamList s r →
      let rows := paramTable.filter (fun p => p.id / 256 = rq r 0 1 && rq r 1 1 ≤ p.id % 256)
      exec (.paramList r) s = .next (s.on (s.dev.respond r 0x0006 (okBody (
        e8 (rq r 0 1) ++ e8 (rows.take 8).length ++ e8 (((rows.drop 8).head?.map (fun p => p.id % 256)).getD 0) ++ zs 1 ++
        ((rows.take 8).map ParamRow.descriptor).flatten))))) ∧
    (∀ x, (s.dev.slot r.slot).session = some x → Takes cmdEventMaskSet s r →
      let old := nth x.mask (rq r 0 1)
      let new := if rq r 1 1 = 0 then rq r 4 16 else if rq r 1 1 = 1 then old ||| rq r 4 16 else old - (old &&& rq r 4 16)
      exec (.eventMaskSet r) s = .next (s.on (
        s.dev.respond r 0x0007 (okBody (e8 (rq r 0 1) ++ zs 3 ++ leBytes 16 new)) (.mask (rq r 0 1) new)))) ∧
    (Takes cmdHelloPhase1 s r → (s.dev.slot r.slot).lockEnd = none →
      let nd := (List.range 16).map (Config.randomByte s.dev.free)
      exec (.helloPhase1 r) s = .next (s.on (({ s.dev with free := s.dev.free + 1 } : Dev).respond r 0x0002
        (okBody (e8 1 ++ zs 3 ++ nd ++ padTo 16 s.dev.factory.serial)) (.challenge (slice r.body 4 16) nd)))) ∧
    (∀ t, Takes cmdHelloPhase1 s r → (s.dev.slot r.slot).lockEnd = some t → s.dev.time < t →
      exec (.helloPhase1 r) s = .next (s.on (s.dev.respond r 0x0002 (notYet (toMsUp (t - s.dev.time))))))

/-- With a challenge pending and no lockout: a host_proof that matches in state ENROL or ACTIVE answers OK with the
session kind and device_proof, sets the failures to 0 and opens the session under K_s when that response is written; a
slot EMPTY or REVOKED, or a proof that does not match, answers DENIED and counts one failure more, from the fifth on
with a lockout of 1 s that doubles up to 256 s. Without a pending challenge it answers STATE and counts nothing. Every
such attempt ends the pending challenge. (04 Command model: R136, R137, R138, R139, R152, Table CM-5, 02 Tenants:
R87.) -/
def Obligations.HelloPhaseTwoOpensOrCounts : Prop :=
  ∀ (s : State) (r : Request), Takes cmdHelloPhase2 s r → (s.dev.slot r.slot).lockEnd = none → r.slot < s.dev.slots.length → r.slot < 8 →
    let mac := fun (a b : Nat) (c : Challenge) => hmac (s.dev.slotN r.slot).credential
      (ascii [0x5A, 0x53, 0x38, 0x2D, a, b] ++ e8 r.slot ++ c.nh ++ c.nd ++ s.dev.factory.serial)
    let state := s.dev.get pSlotState r.slot
    let fails := min 65535 (s.dev.getN pHelloFails r.slot + 1)
    ∃ e, exec (.helloPhase2 r) s = .next (s.on e) ∧ (e.slot r.slot).challenge = none ∧
      (s.dev.pendingChallenge r.slot = none → e.get pHelloFails r.slot = s.dev.get pHelloFails r.slot ∧
        e.host.outbox = s.dev.host.outbox ++ [answer r 0x0002 (fail .state)]) ∧
      (∀ c, s.dev.pendingChallenge r.slot = some c → (state = 1 ∨ state = 2) → slice r.body 4 32 = mac 0x48 0x50 c →
        let kind := if state = 1 then 1 else 2
        e.get pHelloFails r.slot = 0 ∧ e.host.outbox = s.dev.host.outbox ++ [answer r 0x0002 (okBody (e8 2 ++ e8 kind ++ zs 2 ++ mac 0x44 0x50 c)) (.openSession kind (mac 0x4B 0x53 c))]) ∧
      (∀ c, s.dev.pendingChallenge r.slot = some c → ((state ≠ 1 ∧ state ≠ 2) ∨ slice r.body 4 32 ≠ mac 0x48 0x50 c) →
        e.get pHelloFails r.slot = fails ∧ (e.slot r.slot).session = (s.dev.slot r.slot).session ∧
        e.host.outbox = s.dev.host.outbox ++ [answer r 0x0002 (failAt .denied 4)] ∧
        (fails < 5 → (e.slot r.slot).lockEnd = none) ∧
        (5 ≤ fails → (e.slot r.slot).lockEnd = some (s.dev.time + secU (min 256 (2 ^ min 8 (fails - 5))))))

/-- A PARAM_SET that no check of its chapter bars: a volatile parameter is answered at once with the new value and takes
it as the response is written; one in NVM starts a journal write of one page per copy, which draws on the slot's NVM
share, and is answered once the journal holds it. An unassigned ID is BAD_ARG at 0, an index outside the parameter's
indexing BAD_ARG at 2, ahead of steps 5 and 6. (04 Command model: R143, R144, R145, Table CM-9, 02 Tenants: Table
TI-5.) -/
def Obligations.ParamSetTakesEffect : Prop :=
  (∀ (s : State) (r : Request) (row : ParamRow), Takes cmdParamSet s r → paramRow (rq r 0 2) = some row →
    let id := rq r 0 2
    let i := rq r 2 2
    let v := setValue row.ty r
    s.dev.paramBar id i v = none →
    (row.nvm = false → exec (.paramSet r) s = .next (s.on (
      s.dev.respond r 0x0005 (okBody ((s.dev.set id i v).parBody id i)) (.param id i v false)))) ∧
    (row.nvm = true → s.dev.nvmBar = none → exec (.paramSet r) s = .next (s.on (
      s.dev.journal (0x4000 + id) i 1 (some (r.slot, r.ref)) (.setParam r.slot r.ref r.tagged id i v))))) ∧
  (∀ (s : State) (r : Request), s.dev.consumes = true → r.tagged = true → r.blkAttached = false → r.body.length = 4 →
    (∃ x, (s.dev.slot r.slot).session = some x ∧ x.full = true) →
    (paramRow (rq r 0 2) = none → exec (.paramGet r) s = .next (s.on (s.dev.respond r 0x0004 (failAt .badArg 0)))) ∧
    (∀ row, paramRow (rq r 0 2) = some row → row.idx.valid (rq r 2 2) = false →
      exec (.paramGet r) s = .next (s.on (s.dev.respond r 0x0004 (failAt .badArg 2)))))

/-- For the slot whose entry is due next: the consumer index moves on by one. An entry whose index is not the consumer
index is answered with BAD_ARG and the index expected; one of another kind, status, ref or flags with BAD_ARG; one
longer than 40 bytes, or whose block flag and length disagree, or too long for the half, with BAD_LEN; one with a tag
and no session open with NO_SESSION; and a zero-tag entry with an opcode of no command with UNKNOWN_OP, with NOP with
its own body. Each answer is the one response to the entry, and the ring window stands. (03 Host port: R105, R106,
R109, R111, Table HR-9, Table HR-10, 04 Command model: R131, R132, Table CM-8.) -/
def Obligations.CmdEntryConsumedInOrder : Prop :=
  ∀ (s : State) (k : Nat), s.dev.settlePort.nextSlot = some k → k < 8 → s.dev.consumes = true →
    let c := s.dev.devIndex (4 * k)
    let e := s.mem.reads (s.dev.entryAt (4 * k) c) 64
    let code := fld e 2 2
    let size := fld e 10 2
    let blk := fld e 12 4
    let plain := fld e 6 1 = 1 ∧ fld e 4 2 = 0 ∧ fld e 8 2 = 0 ∧ fld e 7 1 < 2
    let fits := size ≤ 40 ∧ bit (fld e 7 1) 0 = decide (blk ≠ 0) ∧ blk ≤ 40 * s.dev.halfDepth k
    let reply := fun (rep : Reply) (d : Dev) => d.host.outbox = s.dev.host.outbox ++ [{ slot := k, code := code, ref := c, reply := rep }]
    (4 * k < s.dev.host.devIndex.length) →
    ((fld e 0 2 ≠ c ∨ ¬plain ∨ ¬fits ∨ slice e 56 8 = zs 8 ∨ (s.dev.slot k).session = none) →
      (blk = 0 ∨ fld e 0 2 ≠ c ∨ ¬plain ∨ ¬fits ∨ slice e 56 8 ≠ zs 8) →
      (code = 0x0001 ∨ commandOf code (slice e 16 size) = none ∨ fld e 0 2 ≠ c ∨ ¬plain ∨ ¬fits ∨ slice e 56 8 ≠ zs 8) →
      ∃ d, exec .cmdEntryConsume s = .next (s.on d) ∧ d.devIndex (4 * k) = (c + 1) % 65536 ∧
        (fld e 0 2 ≠ c → reply { status := .badArg, body := e16 c } d) ∧
        (fld e 0 2 = c → ¬plain → reply { status := .badArg } d) ∧
        (fld e 0 2 = c → plain → ¬fits → reply { status := .badLen } d) ∧
        (fld e 0 2 = c → plain → fits → slice e 56 8 ≠ zs 8 → reply { status := .noSession } d) ∧
        (fld e 0 2 = c → plain → fits → slice e 56 8 = zs 8 → commandOf code (slice e 16 size) = none → reply (fail .unknownOp) d) ∧
        (fld e 0 2 = c → plain → fits → slice e 56 8 = zs 8 → code = 0x0001 → reply (okBody (slice e 16 size)) d))

/-- The first entry that waits for a slot's RSP ring, without blocks and with room, is written at the ring's device index:
index, opcode, status, kind, ref, body length and body padded to 40 bytes, then the tag, 8 bytes of HMAC-SHA-256 under
the session key for a tagged entry and zeros for a zero-tag one. The index moves on by one, RING_IRQ shows it, and the
entry waits no more. The OK of HELLO phase 2 opens the session of its kind under K_s with every counter 0 and every
event enabled. (03 Host port: R97, R103, R104, R105, R108, R109, R115, Table HR-9, 04 Command model: R139, R150,
R152.) -/
def Obligations.ResponseWrittenToItsRing : Prop :=
  ∀ (s : State) (slot : Nat) (o : OutEntry), s.dev.writes = true → slot < 8 → s.dev.waiting slot = some o → s.dev.fits o = true → o.reply.blk = [] →
    o.kind = .response → s.dev.host.usb = false → 4 * slot + 1 < s.dev.host.devIndex.length →
    let n := 4 * slot + 1
    let ix := s.dev.devIndex n
    let entry := e16 ix ++ e16 o.code ++ e16 o.reply.status.code ++ e8 2 ++ eb false ++ e16 o.ref ++ e16 o.reply.body.length ++ e32 0 ++
      padTo 40 o.reply.body
    (o.after = .nothing →
      ∃ d, exec (.responseWrite slot) s = .next { s with
          mem := s.mem.writes (s.dev.entryAt n ix) (entry ++ (match o.tagged, (s.dev.slot slot).session with
            | true, some x => (hmac x.key (e8 n ++ e32 x.rspN ++ entry.take 56)).take 8
            | _, _ => zs 8)), dev := d } ∧
        d.devIndex n = (ix + 1) % 65536 ∧ d.host.ringIrq = s.dev.host.ringIrq ||| 2 ^ n ∧ d.host.outbox = s.dev.host.outbox.erase o ∧
        d.host.doorbell = s.dev.host.doorbell) ∧
    (∀ kind key, o.after = .openSession kind key → o.tagged = false → slot < s.dev.slots.length →
      ∃ d, exec (.responseWrite slot) s = .next { s with mem := s.mem.writes (s.dev.entryAt n ix) (entry ++ zs 8), dev := d } ∧
        (d.slot slot).session = some { full := decide (kind = 2), key := key } ∧ d.get pSessionOpen slot = 1 ∧
        ∀ c j, c < 16 → j < 128 → (nth ({ full := decide (kind = 2), key := key : Session }).mask c).testBit j = true)

/-- A PROGRESS of a long command whose bound exceeds 1,000 ms, at least 100 ms after the one before, with the first
response written and room, is written at the RSP ring's device index. An event whose first response does not still
wait is written to the EVT ring of a session that enables it and has room; one its mask disables is not written and
not counted; one that finds the ring full counts in EVT_DROPPED. (03 Host port: R112, R117, 04 Command model: R129,
R130, R148, R151, Table CM-2.) -/
def Obligations.ProgressAndEventsWritten : Prop :=
  (∀ (s : State) (slot ref permille : Nat) (detail : List Byte) (l : LongCmd), slot < 8 → s.dev.longOf slot ref = some l → s.dev.writes = true →
    1000 < l.bound → msU 100 ≤ s.dev.since l.lastProgress → s.dev.responseDue slot ref = false → s.dev.room (4 * slot + 1) ≠ 0 →
    s.dev.waiting slot = none → s.dev.host.usb = false → 4 * slot + 1 < s.dev.host.devIndex.length →
    ∃ m d, exec (.progressEntry slot ref permille detail) s = .next { s with mem := m, dev := d } ∧
      d.devIndex (4 * slot + 1) = (s.dev.devIndex (4 * slot + 1) + 1) % 65536 ∧ d.host.doorbell = s.dev.host.doorbell ∧
      (∀ a, (a < s.dev.entryAt (4 * slot + 1) (s.dev.devIndex (4 * slot + 1)) ∨
        s.dev.entryAt (4 * slot + 1) (s.dev.devIndex (4 * slot + 1)) + 64 ≤ a) → m.read a = s.mem.read a)) ∧
  (∀ (s : State) (ev : OutEvent) (rest : List OutEvent) (k : Nat) (x : Session), s.dev.writes = true → s.dev.host.events = ev :: rest →
    ev.cause = none → ev.dest = [k] → k < 8 → (s.dev.slot k).session = some x → s.dev.host.usb = false →
    (x.enables ev.entry.code = false → ∃ d, exec .eventDelivery s = .next (s.on d) ∧ d.host.events = rest ∧ d.par = s.dev.par) ∧
    (x.enables ev.entry.code = true → s.dev.room (4 * k + 2) = 0 → ∃ d, exec .eventDelivery s = .next (s.on d) ∧
      d.host.events = rest ∧ d.get pEvtDropped k = (inc32 (s.dev.getN pEvtDropped k) : Nat)) ∧
    (x.enables ev.entry.code = true → s.dev.room (4 * k + 2) ≠ 0 → 4 * k + 2 < s.dev.host.devIndex.length →
      ∃ m d, exec .eventDelivery s = .next { s with mem := m, dev := d } ∧ d.devIndex (4 * k + 2) = (s.dev.devIndex (4 * k + 2) + 1) % 65536))

/-- A pending challenge 1,000 ms old is pending no more, a younger one stays; a lockout ends at its time and not before.
(04 Command model: R137, 02 Tenants: R87.) -/
def Obligations.ChallengesAndLockoutsLapse : Prop :=
  ∀ (s : State) (k : Nat),
    (∀ c, (s.dev.slot k).challenge = some c → msU 1000 ≤ s.dev.since c.since → exec (.helloChallengeLapse k) s =
      .next (s.on ({ s.dev with slots := upd s.dev.slots k (fun x => { x with challenge := none }) }))) ∧
    (∀ c, (s.dev.slot k).challenge = some c → s.dev.since c.since < msU 1000 → exec (.helloChallengeLapse k) s = .next s) ∧
    (∀ t, (s.dev.slot k).lockEnd = some t → t ≤ s.dev.time → exec (.helloLockoutExpiry k) s =
      .next (s.on ({ s.dev with slots := upd s.dev.slots k (fun x => { x with lockEnd := none }) }))) ∧
    (∀ t, (s.dev.slot k).lockEnd = some t → s.dev.time < t → exec (.helloLockoutExpiry k) s = .next s)

/-! ### 05 The pace loop and the fault sources -/

/-- A completed work unit joins its domain's slack minimum, a missed deadline counts. Unless a raise is less than 20 µs
old, slack below the target raises VCORE by 5 mV, never past 900 mV, while VCORE is below the effective ceiling; at
the ceiling, slack below 5.0 % enters the override with its first raise, its count and its event, and more slack
leaves VCORE alone. A unit with slack enough moves nothing but the minima. A unit of no domain does nothing. (05
Self-timed pace: R164, R166, R168, R170, R171, Table SF-7.) -/
def Obligations.PaceRaisesOnDeficit : Prop :=
  ∀ (s : State) (domain : Nat) (slack : Int),
    (5 ≤ domain → exec (.workUnitComplete domain slack) s = .next s) ∧
    (domain < 5 → (∀ t, s.dev.pace.lastRaise = some t → usU 20 ≤ s.dev.since t) → s.dev.inOverride = false →
      let sl := (clampI 0 1000 slack).toNat
      let v := s.dev.getN pVcore
      ∃ e, exec (.workUnitComplete domain slack) s = .next (s.on e) ∧
        e.get pDeadlineMisses domain = (if slack < 0 then ((inc32 (s.dev.getN pDeadlineMisses domain) : Nat) : Int) else s.dev.get pDeadlineMisses domain) ∧
        SamePar ([pVcore, pDeadlineMisses, pPaceOverride, pOverrideCount] ++ lossIds) s.dev e ∧
        (s.dev.targetSlack ≤ sl → 50 ≤ s.dev.targetSlack → e.get pVcore = s.dev.get pVcore ∧ e.inOverride = false ∧ e.pace.lastRaise = s.dev.pace.lastRaise) ∧
        (sl < s.dev.targetSlack → v < s.dev.vcoreCeiling → v < 900 → e.getN pVcore = min 900 (v + 5) ∧ e.inOverride = false ∧
          e.pace.lastRaise = some s.dev.time) ∧
        (sl < s.dev.targetSlack → s.dev.vcoreCeiling ≤ v → v < 900 → sl < 50 → e.getN pVcore = min 900 (v + 5) ∧ e.inOverride = true ∧
          e.get pPaceOverride = 1 ∧ e.get pOverrideCount = (inc32 (s.dev.getN pOverrideCount) : Nat)) ∧
        (sl < s.dev.targetSlack → s.dev.vcoreCeiling ≤ v → 50 ≤ sl → e.get pVcore = s.dev.get pVcore ∧ e.inOverride = false))

/-- At the end of a 1 ms window SLACK_MIN of each domain is what the window found, SLACK_LOW_WATER the lowest yet; outside
an override VCORE falls by 5 mV exactly where nothing was raised, the lowest slack is at least T + 5 % and the floor
allows it, and the minima start anew. A VCORE above a lowered ceiling falls by 5 mV towards it while its level has
shown 5 % of slack, and enters the override where it has not. A long grant of the arbiter counts once. PACE_POLICY_SET
is answered, and takes effect, when the journal holds it. (05 Self-timed pace: R164, R166, R172, R173, R177, R185,
Table SF-5, Table SF-6.) -/
def Obligations.PaceLowersOncePerWindow : Prop :=
  ∀ s : State,
    (s.dev.inOverride = false →
      let low := s.dev.pace.windowMin.foldl min 1000
      let v := s.dev.getN pVcore
      let lower := s.dev.pace.raised = false ∧ s.dev.targetSlack + 50 ≤ low ∧ s.dev.vcoreFloor + 5 ≤ v
      ∃ e, exec .slackWindowEnd s = .next (s.on e) ∧
        (∀ k, k < 5 → e.getN pSlackMin k = nth s.dev.pace.windowMin k ∧
          e.getN pSlackLowWater k = min (s.dev.getN pSlackLowWater k) (nth s.dev.pace.windowMin k)) ∧
        e.pace.windowMin = [1000, 1000, 1000, 1000, 1000] ∧ e.pace.raised = false ∧ (lower → e.getN pVcore = v - 5) ∧ (¬lower → e.getN pVcore = v)) ∧
    (s.dev.inOverride = false → s.dev.vcoreCeiling < s.dev.getN pVcore → 50 ≤ s.dev.pace.recent → ∃ e, exec .ceilingDescentStep s = .next (s.on e) ∧
      e.getN pVcore = max s.dev.vcoreCeiling (s.dev.getN pVcore - 5) ∧ e.inOverride = false ∧ SamePar [pVcore] s.dev e) ∧
    (s.dev.inOverride = false → s.dev.vcoreCeiling < s.dev.getN pVcore → s.dev.pace.recent < 50 → ∃ e, exec .ceilingDescentStep s = .next (s.on e) ∧
      e.inOverride = true ∧ e.get pPaceOverride = 1) ∧
    (s.dev.getN pVcore ≤ s.dev.vcoreCeiling → exec .ceilingDescentStep s = .next s) ∧
    exec .arbLongGrant s = .next (s.on (s.dev.set pArbLongCount 0 (inc32 (s.dev.getN pArbLongCount) : Nat))) ∧
    (∀ r, Takes cmdPacePolicySet s r → s.dev.nvmBar = none → exec (.pacePolicySet r) s = .next (s.on
      (s.dev.journal 0x0306 0 1 (some (r.slot, r.ref)) (.pace r.slot r.ref r.tagged (rq r 0 2) (rq r 2 2)))))

/-- While VCORE is powered a detection of a source without an action of its own is counted under its code, remembered, and
recorded with FAULT_DETECTED; VCORE out of regulation also resets the unit with cause 5; the fifth Quire C detection
within 10 s enters FAULT 3 instead of another restart; a corrected word or an uncorrected record is reported. A FAULT
of cause 1 to 3 that has lasted 10 s resets with cause 9, at most three times in 10 minutes; any other FAULT stays.
(05 Self-timed pace: R180, R181, Table SF-3, 18 Faults: R567, R569, Table FD-3.) -/
def Obligations.FaultSourcesAct : Prop :=
  (∀ (s : State) (source object detail : Nat), (s.dev.pwr.state = .active ∨ s.dev.pwr.state = .sleep) →
    (source = 1 ∨ source = 11 ∨ source = 13 → exec (.faultDetection source object detail none none) s =
      .next (s.on (s.dev.faultDevice source object detail))) ∧
    (source = 10 → ∃ e, exec (.faultDetection source object detail none none) s = .next (s.on e) ∧ e.pwr.state = .off ∧ e.get pResetCause = 5) ∧
    ((source = 2 ∨ source = 6) → (s.dev.faultDevice source object detail).escalates source object = true →
      s.dev.pwr.phase ≠ .fault → exec (.faultDetection source object detail none none) s =
        .next (s.on ((s.dev.faultDevice source object detail).muteForRestart.enterFault 3))) ∧
    ((source = 2 ∨ source = 6) → (s.dev.faultDevice source object detail).escalates source object = false →
      exec (.faultDetection source object detail none none) s = .next (s.on ((s.dev.faultDevice source object detail).restartQuireC))) ∧
    (∀ typ inst, source = 12 → exec (.faultDetection source object detail (some (typ, inst)) none) s = .next (s.on
      ((s.dev.faultDevice 12 object detail).raiseDev 0x0E80 (e16 typ ++ e16 inst ++ e32 ((s.dev.faultDevice 12 object detail).gen typ inst)))))) ∧
  (∀ (d : Dev) (source object detail : Nat), 1 ≤ source → source ≤ 15 →
    (d.faultDevice source object detail).get pFaultSourceCount source = (inc32 (d.getN pFaultSourceCount source) : Nat)) ∧
  (∀ s : State, s.dev.pwr.phase = .fault →
    let recent := s.dev.pwr.faultResets.filter (fun t => s.dev.since t < secU 600)
    (1 ≤ s.dev.pwr.faultCause → s.dev.pwr.faultCause ≤ 3 → secU 10 ≤ s.dev.since s.dev.pwr.faultSince → recent.length < 3 →
      ∃ e, exec .faultResetTimer s = .next (s.on e) ∧ e.pwr.state = .off ∧ e.get pResetCause = 9 ∧ e.pwr.faultResets = recent ++ [s.dev.time] ∧
        e.sto.entered = some (s.dev.pwr.faultCause, recent.length + 1, s.dev.ts)) ∧
    ((s.dev.pwr.faultCause = 0 ∨ 3 < s.dev.pwr.faultCause ∨ s.dev.since s.dev.pwr.faultSince < secU 10 ∨ 3 ≤ recent.length) →
      exec .faultResetTimer s = .next s))

/-! ### 06 Power, start-up and shutdown; 01 modes -/

/-- In OFF with VSYS at 4.6 V, RESET_N high, no TAP driving and 2 ms passed, the unit is ACTIVE at PHASE BOOT from then
on, RESET_CAUSE is the cause, and below 112 °C nothing is held; at a power-on the TKC reads 0 and HOST_SEL is sampled.
The window answers by HOST_TRANSPORT. Images and factory data that verify bring PHASE QUIRES, factory data that do not
FAULT 5. READY follows QUIRES, with its time. The lanes' calibration is a step of SUBSYS_UP, and when every step is
reached START_COMPLETE is raised once. (06 Power states: R193, R194, R195, R198, R199, R216, Table PS-3, Table PS-12,
03 Host port: R89, R97.) -/
def Obligations.StartUpTimeline : Prop :=
  ∀ s : State,
    (∀ vsys sel, s.dev.pwr.state = .off → 4600 ≤ vsys → s.dev.pins.resetN = true → s.dev.tapHolds = false →
      (∀ t, s.dev.pwr.resetAt = some t → msU 2 ≤ s.dev.since t) → ∃ e, exec (.resetRelease vsys sel) s = .next (s.on e) ∧
        e.pwr.state = .active ∧ e.pwr.phase = .boot ∧ e.pwr.releaseAt = s.dev.time ∧ e.get pResetCause = s.dev.pwr.cause ∧
        e.get pVsysNow = (min 20000 vsys : Nat) ∧ e.pwr.startHeld = (if 1792 ≤ s.dev.junction then some s.dev.time else none) ∧
        (s.dev.pwr.cause = 1 → e.tkc = 0 ∧ e.pins.hostSel = sel) ∧ (s.dev.pwr.cause ≠ 1 → e.tkc = s.dev.tkc ∧ e.pins.hostSel = s.dev.pins.hostSel)) ∧
    (s.dev.pwr.state = .active → s.dev.pwr.startHeld = none → s.dev.host.readable = false → (s.dev.get pHostTransport = 1 ∨ s.dev.pwr.vioValid = true) →
      exec .hrwReadable s = .next (s.on { s.dev with
        host := { s.dev.host with readable := true, usb := decide (s.dev.get pHostTransport = 1) }, pins := { s.dev.pins with hostIrqN := true } })) ∧
    (∀ other, s.dev.pwr.state = .active → s.dev.pwr.phase = .boot → s.dev.pwr.startHeld = none →
      (∃ e, exec (.phaseQuires true true other true []) s = .next (s.on e) ∧ e.pwr.phase = .quires ∧ e.pwr.thresholdLoaded = true ∧
        e.host.devIrq = s.dev.host.devIrq ||| 1 ∧ e.pins.meterMclk = true) ∧
      (∃ e, exec (.phaseQuires true true other false []) s = .next (s.on e) ∧ e.pwr.phase = .fault ∧ e.pwr.faultCause = 5)) ∧
    (s.dev.pwr.state = .active → s.dev.pwr.phase = .quires → s.dev.pwr.startHeld = none → s.dev.pwr.restartC = false →
      ∃ e, exec .phaseReady s = .next (s.on e) ∧ e.pwr.phase = .ready ∧ e.pwr.readyAt = some s.dev.time ∧ e.time = s.dev.time) ∧
    (s.dev.pwr.state = .active → s.dev.pwr.startHeld = none → s.dev.pwr.phase ≠ .boot → s.dev.pwr.lanesCal = false →
      exec .laneCalibrationComplete s = .next (s.on (({ s.dev with pwr := { s.dev.pwr with lanesCal := true } } : Dev).subsys 5 true))) ∧
    (s.dev.pwr.phase = .ready → s.dev.pwr.startComplete = false → (s.dev.stepsReached = true ∨ msU 1200 ≤ s.dev.since s.dev.pwr.releaseAt) →
      exec .startComplete s = .next (s.on (({ s.dev with pwr := { s.dev.pwr with startComplete := true } } : Dev).raiseDev 0x0184
        (e8 s.dev.pwr.cause ++ zs 1 ++ e16 (s.dev.getN pSubsysUp % 65536) ++ e32 (s.dev.getN pStartReadyTime) ++
          e32 (durOf (s.dev.since s.dev.pwr.releaseAt)) ++ e32 (s.dev.getN pGnssEarlyOverflow))))) ∧
    (s.dev.pwr.startComplete = true → exec .startComplete s = .next s)

/-- VSYS below 3.0 V resets with cause 2, and below 2.5 V the always-on domain goes too and the next start is a power-on;
RESET_N low for 10 µs resets with cause 3; a junction at S + 6 °C removes every rail into the hold with cause 6, and
the hold ends into OFF below S - 15 °C. The end of an orderly sequence leaves WATCH, or OFF with its cause. After each
no session is open and no long command left, and the time goes on. (06 Power states: R190, R199, R200, R201, R203,
R211, Table PS-5, 12 Reference clock: R388.) -/
def Obligations.ResetsTakeTheirCause : Prop :=
  ∀ s : State,
    let fresh := fun (e : Dev) => e.time = s.dev.time ∧ e.host.longs = [] ∧ e.host.outbox = [] ∧ (∀ x ∈ e.slots, x.session = none) ∧ e.cause = none
    (∀ v, v < 3000 → s.dev.pwr.state ≠ .off → s.dev.pwr.state ≠ .hardHold → ∃ e, exec (.brownOutReset v) s = .next (s.on e) ∧
      e.pwr.state = .off ∧ e.pwr.cause = 2 ∧ e.get pResetCause = 2 ∧ fresh e) ∧
    (∀ v, v < 2500 → ∃ e, exec (.alwaysOnLoss v) s = .next (s.on e) ∧ e.pwr.state = .off ∧ e.pwr.cause = 1 ∧ e.ao = {} ∧ e.clk.wallSet = false ∧
      e.pwr.vsys = v ∧ fresh e) ∧
    (∀ ns still, 10000 ≤ ns → s.dev.pwr.state ≠ .off → s.dev.pwr.state ≠ .hardHold → ∃ e, exec (.resetPin ns still) s = .next (s.on e) ∧
      e.pwr.state = .off ∧ e.pwr.cause = 3 ∧ e.pins.resetN = !still ∧ fresh e) ∧
    (∀ ns still, ns < 10000 → s.dev.pwr.state ≠ .off → exec (.resetPin ns still) s = .next (s.on { s.dev with pins := { s.dev.pins with resetN := !still } })) ∧
    (∀ temps, s.dev.pwr.state ≠ .off → s.dev.pwr.state ≠ .hardHold → s.dev.powered = true →
      (s.dev.takeTemps temps).thermalS + 96 ≤ (s.dev.takeTemps temps).junction → ∃ e, exec (.hardAbort temps) s = .next (s.on e) ∧
        e.pwr.state = .hardHold ∧ e.pwr.cause = 6 ∧ e.get pResetCause = 6 ∧ e.pwr.abortS = (s.dev.takeTemps temps).thermalS ∧ fresh e) ∧
    (∀ j, s.dev.pwr.state = .hardHold → j < s.dev.pwr.abortS - 240 → exec (.hardAbortRelease j) s = .next (s.on { s.dev with
      pwr := { s.dev.pwr with state := .off, resetAt := some s.dev.time, temps := upd (s.dev.pwr.temps.map (fun _ => none)) 0 (fun _ => some j) } })) ∧
    (∀ target cause q, s.dev.pwr.sequence = some q → q.kind = .orderly target cause → q.flushed = true →
      (s.dev.host.outbox = [] ∨ msU 1100 ≤ s.dev.since q.since) → s.dev.pwr.orderlyWake = none →
      ∃ e, exec .orderlyShutdownEnd s = .next (s.on e) ∧ (target = 0 → e.pwr.state = .watch) ∧ (target ≠ 0 → e.pwr.state = .off ∧ e.pwr.cause = cause) ∧
        e.host.longs = [] ∧ (∀ x ∈ e.slots, x.session = none))

/-- VSYS below 4.5 V, or VIO lost, while VCORE is powered puts a sequence in force; its end needs 4.6 V, VIO back for 5 ms
and 5 ms since its flush, and then no sequence runs. THERMAL_STATE goes to WARNING at S - 8 °C, back to NORMAL below S
- 11 °C, and at S the shutdown sequence starts (before READY the start is held); SHUTDOWN ends below S - 15 °C. When
the flush is done the sequence that runs is marked flushed. VIO in its mode's range counts as valid, in another as
lost. (06 Power states: R201, R202, R203, R205, R206, R207, R208, R591, R592, Table PS-7, Table PS-8.) -/
def Obligations.ShutdownSequences : Prop :=
  ∀ s : State,
    (∀ v, v < 4500 → s.dev.powered = true → ∃ e, exec (.brownOutWarning v) s = .next (s.on e) ∧ e.pwr.sequence.isSome = true) ∧
    (∀ v, 4500 ≤ v → exec (.brownOutWarning v) s = .next s) ∧
    (∀ v q, s.dev.pwr.sequence = some q → q.kind = .brownOut → q.flushed = true → 4600 ≤ v → msU 5 ≤ s.dev.since q.flushedAt →
      (s.dev.pwr.vioLost = true → s.dev.pwr.vioValid = true ∧ ∃ t, s.dev.pwr.vioGoodSince = some t ∧ msU 5 ≤ s.dev.since t) →
      ∃ e, exec (.brownOutRecovered v) s = .next (s.on e) ∧ e.pwr.sequence = none ∧ e.pwr.vioLost = false ∧ e.ao.flushFlag = false) ∧
    (s.dev.powered = true → ∃ e, exec .vioLoss s = .next (s.on e) ∧ e.pwr.sequence.isSome = true) ∧
    (s.dev.powered = false → exec .vioLoss s = .next (s.on { s.dev with pwr := { s.dev.pwr with vioValid := false, vioGoodSince := none } })) ∧
    (∀ high, s.dev.pwr.vioMode = none → s.dev.pwr.vioValid = false → exec (.vioValid high) s = .next (s.on { s.dev with
      pwr := { s.dev.pwr with vioMode := some high, vioValid := true, vioGoodSince := some s.dev.time } })) ∧
    (∀ high, s.dev.pwr.vioMode = some (!high) → exec (.vioValid high) s = .next s) ∧
    (∀ temps, s.dev.powered = true →
      let d := s.dev.takeTemps temps
      let j := d.junction
      let st := s.dev.get pThermalState
      (st = 0 → j < d.thermalS - 128 → ∃ e, exec (.thermalSample temps) s = .next (s.on e) ∧ e.get pThermalState = 0) ∧
      (st = 0 → d.thermalS - 128 ≤ j → j < d.thermalS → ∃ e, exec (.thermalSample temps) s = .next (s.on e) ∧ e.get pThermalState = 1) ∧
      (st = 1 → j < d.thermalS - 176 → ∃ e, exec (.thermalSample temps) s = .next (s.on e) ∧ e.get pThermalState = 0) ∧
      (st = 1 → d.thermalS - 176 ≤ j → j < d.thermalS → ∃ e, exec (.thermalSample temps) s = .next (s.on e) ∧ e.get pThermalState = 1) ∧
      (st ≠ 2 → d.thermalS ≤ j → s.dev.pwr.readyAt = none → ∃ e, exec (.thermalSample temps) s = .next (s.on e) ∧ e.get pThermalState = 2 ∧
        e.pwr.startHeld.isSome = true) ∧
      (st = 2 → d.thermalS - 240 ≤ j → ∃ e, exec (.thermalSample temps) s = .next (s.on e) ∧ e.get pThermalState = 2)) ∧
    (s.dev.powered = true → s.dev.flushDue = true → ∃ e, exec .shutdownFlushComplete s = .next (s.on e) ∧
      (∀ q, e.pwr.sequence = some q → (∃ t c, q.kind = .orderly t c) ∨ q.flushed = true)) ∧
    (s.dev.flushDue = false → exec .shutdownFlushComplete s = .next s)

/-- POWER_STATE_SET to the state in force answers OK; to SLEEP it is ACCEPTED and completed at once and the request noted;
to WATCH it is ACCEPTED with 1,100 ms and the orderly sequence starts; each is BUSY or STATE where Table PS-10 says.
SLEEP then follows, and a wake source that fired ends it with DEV_IRQ[3]. RESET answers, and acts when its response is
written. MODE_SET to another mode holds every lane and is ACCEPTED with 300 ms; then the mode is in force and the
command completes. A rise of MAINS_OK wakes from WATCH. WATCH samples battery and junction once a second. TX_DISABLE
is released at READY, on each port with a module accepted. (06 Power states: R189, R191, R206, R214, Table PS-2, Table
PS-10, 01 Field bridge: R23, R43, R44, R45, R47, Table FB-5.) -/
def Obligations.SleepWatchAndModes : Prop :=
  ∀ (s : State) (r : Request),
    (Takes cmdPowerStateSet s r →
      let target := rq r 0 1
      let busy := s.dev.pwr.sleepReq.isSome = true ∨ s.dev.resetting = true
      let barred := s.dev.anyBridging = true ∨ s.dev.sv.jobs ≠ [] ∨ s.dev.pwr.modeSet.isSome = true ∨ s.dev.brownedOut = true
      (target = 0 → exec (.powerStateSet r) s = .next (s.on (s.dev.respond r 0x0102 (okBody (e8 0 ++ e8 0 ++ e16 0 ++ e32 0))))) ∧
      (target ≠ 0 → busy → exec (.powerStateSet r) s = .next (s.on (s.dev.respond r 0x0102 (fail .busy)))) ∧
      (target ≠ 0 → ¬busy → barred → exec (.powerStateSet r) s = .next (s.on (s.dev.respond r 0x0102 (fail .state)))) ∧
      (target = 1 → ¬busy → ¬barred → s.dev.host.longs = [] → ∃ e, exec (.powerStateSet r) s = .next (s.on e) ∧
        e.pwr = { s.dev.pwr with sleepReq := some (r.slot, r.ref, s.dev.time) } ∧ e.host.longs = [] ∧
        (e.host.outbox.drop s.dev.host.outbox.length).map (fun o => (o.kind, o.reply)) =
          [(.response, accepted 50), (.completion, okBody (e8 0 ++ e8 1 ++ e16 0 ++ e32 0))]) ∧
      (target = 2 → ¬busy → ¬barred → s.dev.pins.mainsOk = false → exec (.powerStateSet r) s =
        .next (s.on ((s.dev.caused r (fun d => d.startOrderly 0 0x10 (some (r.slot, r.ref)))).accept r 0x0102 1100))) ∧
      (target = 2 → ¬busy → ¬barred → s.dev.pins.mainsOk = true → exec (.powerStateSet r) s = .next (s.on (s.dev.respond r 0x0102 (fail .state))))) ∧
    (Takes cmdReset s r →
      (s.dev.anyBridging = true → exec (.reset r) s = .next (s.on (s.dev.respond r 0x0103 (fail .state)))) ∧
      (s.dev.anyBridging = false → exec (.reset r) s = .next (s.on (s.dev.respond r 0x0103 (okBody (e8 (rq r 0 1) ++ zs 3))
        (if rq r 0 1 = 0 then .orderly 1 4 else .restartQuireC))))) ∧
    (Takes cmdModeSet s r →
      let mode := rq r 0 1
      let free := s.dev.laneIds.all s.dev.laneMuted = true ∧ s.dev.laneIds.any (fun l => (s.dev.lane l).probing) = false
      (s.dev.getN pMode = mode → exec (.modeSet r) s = .next (s.on (s.dev.respond r 0x0101 (okBody (e8 mode ++ e8 mode ++ zs 2 ++ e32 0))))) ∧
      (s.dev.getN pMode ≠ mode → s.dev.pwr.modeSet.isSome = true → exec (.modeSet r) s = .next (s.on (s.dev.respond r 0x0101 (fail .busy)))) ∧
      (s.dev.getN pMode ≠ mode → s.dev.pwr.modeSet = none → ¬free → exec (.modeSet r) s = .next (s.on (s.dev.respond r 0x0101 (fail .state)))) ∧
      (s.dev.getN pMode ≠ mode → s.dev.pwr.modeSet = none → free → exec (.modeSet r) s = .next (s.on
        ((s.dev.caused r (fun d => (d.holdAll 5).updPwr (fun p => { p with modeSet := some (r.slot, r.ref, mode) }))).accept r 0x0101 300)))) ∧
    (∀ slot ref mode, s.dev.pwr.modeSet = some (slot, ref, mode) → (mode = 1 ∨ s.dev.sv.jobs = []) → ∃ e, exec .modeSetComplete s = .next (s.on e) ∧
      e.get pMode = mode ∧ e.pwr.modeSet = none ∧ (∀ l, s.dev.longIs slot ref 0x0101 = some l → e.longOf slot ref = none)) ∧
    (∀ slot ref t, s.dev.pwr.sleepReq = some (slot, ref, t) → s.dev.pwr.state = .active →
      (∀ o ∈ s.dev.host.outbox, ¬(o.slot = slot ∧ o.ref = ref)) → s.dev.pwr.sequence = none → s.dev.pwr.thermalSeq = none →
      ∃ e, exec .sleepEntry s = .next (s.on e) ∧ e.pwr.state = .sleep ∧ e.pwr.wakePend = none) ∧
    (∀ code, s.dev.pwr.wakePend = some code → s.dev.pwr.state = .sleep → ∃ e, exec .sleepReturn s = .next (s.on e) ∧ e.pwr.state = .active ∧
      e.pwr.wakePend = none ∧ e.pwr.sleepReturnAt = some s.dev.time ∧ e.host.devIrq = s.dev.host.devIrq ||| 8) ∧
    (∀ level, s.dev.pins.mainsOk ≠ level → s.dev.pwr.state = .watch → ∃ e, exec (.mainsOkChange level) s = .next (s.on e) ∧ e.pins.mainsOk = level ∧
      (level = true → e.pwr.state = .active ∧ e.pwr.phase = .boot ∧ e.get pResetCause = 7 ∧ e.ao.wakeSource = 2) ∧ (level = false → e.pwr = s.dev.pwr)) ∧
    (∀ en j, s.dev.pwr.state = .watch → exec (.watchSample en j) s = .next (s.on { s.dev with
      led := { s.dev.led with watchDrain := s.dev.led.watchDrain + en }, pwr := { s.dev.pwr with temps := upd (s.dev.pwr.temps.map (fun _ => none)) 0 (fun _ => some j) } })) ∧
    (let go := s.dev.pwr.phase = .ready ∧ s.dev.pwr.state = .active ∧ s.dev.get pThermalState ≠ 2
     (¬go → exec .txDisableRelease s = .next s) ∧
     (go → ∃ e, exec .txDisableRelease s = .next (s.on e) ∧ SamePar [pPortState] s.dev e ∧ ∀ p ∈ s.dev.portIds, (s.dev.port p).module = true →
       (s.dev.port p).accepted = true → p < s.dev.pins.txDisable.length → nth e.pins.txDisable p = false))

/-- Each of the six answers with the layout of its table and changes nothing else. (06 Power states: Table PS-10, Table
PS-11, 18 Storage and faults: Table FD-7.) -/
def Obligations.UnitReports : Prop :=
  ∀ (s : State) (r : Request),
    (Takes cmdInfoGet s r → exec (.infoGet r) s = .next (s.on (s.dev.respond r 0x0104 (okBody (
      let f := s.dev.factory
      e8 (if f.variantH then 2 else 1) ++ e8 f.stepping ++ e8 s.dev.laneIds.length ++ e8 s.dev.portIds.length ++ padTo 16 f.serial ++
        e32 f.versionB ++ e32 f.versionC ++ e32 f.versionM ++ e16 f.usbVid ++ e16 f.usbPid ++ zs 4))))) ∧
    (Takes cmdTempGet s r → exec (.tempGet r) s = .next (s.on (s.dev.respond r 0x0105 (okBody (
      (List.range 8).flatMap (fun k => s16 ((s.dev.sensor k).getD (-32768))) ++ s16 s.dev.thermalS ++ s16 (s.dev.thermalS - 128) ++
        e8 (s.dev.getN pThermalState) ++ e8 s.dev.hottest ++ s16 (s.dev.get pJunctionPeak)))))) ∧
    (Takes cmdNvmStatus s r → let n := s.dev.nvm
      exec (.nvmStatus r) s = .next (s.on (s.dev.respond r 0x0E03 (okBody (
        e8 (flags [s.dev.erasePermitted, s.dev.eraseHot, s.dev.erasePoor, s.dev.brownedOut, s.dev.atReserve]) ++ zs 3 ++
          e16 (s.dev.getN pNvmSpareSectors) ++ e16 n.erasePending ++ e32 ((n.wear.getLast?.map (fun x => x.1)).getD 0) ++
          e32 ((n.wear.head?.map (fun x => x.1)).getD 0) ++ e32 (nth n.freePages 0) ++ e32 (nth n.freePages 1) ++ e32 n.pagesProgrammed ++ e32 n.erases))))) ∧
    (Takes cmdFactoryDataGet s r → let f := s.dev.factory
      exec (.factoryDataGet r) s = .next (s.on (s.dev.respond r 0x0E04 (okBody (padTo 16 f.serial ++ s32 f.steer ++ e32 f.calId ++
        keyIdOf f.metrologyKey ++ e32 f.manufactured ++ e8 f.stepping ++ e8 (if f.variantH then 2 else 1) ++ zs 2))))) ∧
    (Takes cmdFaultCountersGet s r → let first := rq r 0 1
      let n := min 8 (16 - first)
      exec (.faultCountersGet r) s = .next (s.on (s.dev.respond r 0x0F01 (okBody (e8 first ++ e8 n ++ zs 2 ++
        (List.range n).flatMap (fun k => e32 (s.dev.getN pFaultSourceCount (first + k)))))))) ∧
    (Takes cmdShockStatusGet s r → let x := s.dev.sto.shock
      exec (.shockStatusGet r) s = .next (s.on (s.dev.respond r 0x0F03 (okBody (e8 (s.dev.getN pShockSource) ++ eb (x.start.isSome && x.fails < 3) ++
        e16 x.lastPeak ++ e32 x.episodes ++ e64 x.lastTs ++ e8 x.recheck ++ zs 3)))))

/-! ### 02 The shared resources; 07 The energy ledger -/

/-- Before READY, or without VCORE, a scheduler tick does nothing. A lone NVM request of an idle queue is granted at the
next tick: within its slot's share it is charged to that share; past it, it is charged to the spare capacity if that
holds it, and waits, ungranted, if not. A new frame starts with nothing used, with reservations by the shares in force
and with every partition's storage allotment unused. (02 Tenants: R66, R68, R69, R70, Table TI-5, 17 Colophon: R538.) -/
def Obligations.SharesServedByTickAndFrame : Prop :=
  ∀ s : State,
    (s.dev.powered = false ∨ s.dev.pwr.phase ≠ .ready → exec .schedulerTick s = .next s) ∧
    (∀ q : SchedReq, s.dev.powered = true → s.dev.pwr.phase = .ready → s.dev.sched.fresh = [q] → s.dev.sched.queue = [] → q.res = .nvm → q.slot < 8 →
      q.granted = false →
      let grant : Nvm := { s.dev.nvm with queue := s.dev.nvm.queue.map (fun e =>
        if e.hostWrite && !e.granted && e.slot = q.slot && e.ref = q.ref then { e with granted := true } else e) }
      let spare := s.dev.getN pNvmWriteBudget - (List.range 8).foldl (fun a k => a + nth s.dev.sched.used (16 + k)) 0 - nth s.dev.sched.beyondUsed 2 -
        (List.range 8).foldl (fun a k => a + (nth s.dev.sched.reserve (16 + k) - nth s.dev.sched.used (16 + k))) 0
      (q.need ≤ nth s.dev.sched.reserve (16 + q.slot) - nth s.dev.sched.used (16 + q.slot) → exec .schedulerTick s = .next (s.on { s.dev with
        nvm := grant, sched := { s.dev.sched with fresh := [], used := upd s.dev.sched.used (16 + q.slot) (fun v => v + q.need) } })) ∧
      (nth s.dev.sched.reserve (16 + q.slot) - nth s.dev.sched.used (16 + q.slot) < q.need → q.need ≤ spare → exec .schedulerTick s =
        .next (s.on { s.dev with
          nvm := grant, sched := { s.dev.sched with fresh := [], beyondUsed := upd s.dev.sched.beyondUsed 2 (fun v => v + q.need) } })) ∧
      (nth s.dev.sched.reserve (16 + q.slot) - nth s.dev.sched.used (16 + q.slot) < q.need → spare < q.need → exec .schedulerTick s =
        .next (s.on { s.dev with sched := { s.dev.sched with fresh := [], queue := [{ q with within := false }] } }))) ∧
    (s.dev.sched.queue = [] → ∃ e, exec .frameStart s = .next (s.on e) ∧ e.sched.queue = [] ∧ e.sched.fresh = s.dev.sched.fresh ∧
      e.sched.used = List.replicate 32 0 ∧ e.sched.beyondUsed = List.replicate 4 0 ∧
      (∀ k, k < 8 → nth e.sched.reserve k = s.dev.share k 1 * 4 ∧ nth e.sched.reserve (16 + k) = s.dev.share k 3 * 400 / 1000 ∧
        nth e.sched.reserve (24 + k) = s.dev.share k 4 * 4) ∧
      e.colo = s.dev.colo.map (fun p => { p with allotUsed := 0 }) ∧ e.par = s.dev.par ∧ e.nvm = s.dev.nvm)

/-- LEDGER_GET reports mode, level, battery flow and energies. QUOTA_SET needs an ACTIVE slot and gives it the amount as
grant and balance, with its exhaustion action. A generic job is estimated as rate times duration, rounded up;
JOB_ADMIT puts it in the lowest free handle or answers why it cannot. PLAN_END_SET clears or sets the planned end.
JOB_RELEASE ends an admitted job, and so does the expiry 10 s after its admission; a started job stays. (07 Energy
ledger: R221, R232, R233, R234, R235, R236, R240, R242, Table EL-3, Table EL-6, Table EL-7, 04 Command model: R145.) -/
def Obligations.LedgerCommands : Prop :=
  (∀ (s : State) (r : Request),
    (Takes cmdLedgerGet s r → exec (.ledgerGet r) s = .next (s.on (s.dev.respond r 0x0301 (okBody (e8 (s.dev.getN pLedgerMode) ++
      e8 (s.dev.getN pLedgerLevel % 16 + (if s.dev.getB pColdBudget then 16 else 0)) ++ zs 2 ++ s32 (s.dev.get pBatFlow) ++ s64 (mJ s.dev.batUj) ++
      s64 (mJ s.dev.poolUj) ++ s64 (s.dev.available r.slot) ++ s64 (s.dev.reserved r.slot)))))) ∧
    (Takes cmdQuotaSet s r →
      let k := rq r 0 1
      (s.dev.get pSlotState k ≠ 2 → exec (.quotaSet r) s = .next (s.on (s.dev.respond r 0x0302 (fail .state)))) ∧
      (s.dev.get pSlotState k = 2 → rq r 1 1 = 0 → s.dev.nvmBar = none → k < s.dev.led.balance.length → ∃ e, exec (.quotaSet r) s = .next (s.on e) ∧
        e.get pQuotaGrant k = rqS r 4 8 ∧ nth e.led.balance k = rqS r 4 8 * 1000 ∧ e.get pExhaustAction k = (rq r 2 1 : Nat) ∧
        (e.nvm.queue.getLast?).map (fun x => x.act) = some (.respond r.slot r.ref r.tagged 0x0302 (okBody (e8 k ++ e8 (rq r 2 1) ++ zs 2 ++ s64 (rqS r 4 8)))))) ∧
    (let j : Job := { opcode := 0, estimate := (rq r 4 4 * rq r 8 4 + 999999) / 1000000, duration := rq r 8 4 }
     let body := fun (h : Nat) (a : Int) => e16 h ++ e8 0 ++ zs 1 ++ e32 0 ++ e64 j.estimate ++ e32 j.duration ++ s64 a
     (Takes cmdJobEstimate s r → rq r 0 2 = 0 → exec (.jobEstimate r) s = .next (s.on (s.dev.respond r 0x0303
        (okBody (body 65535 (s.dev.available r.slot - j.estimate)))))) ∧
     (∀ rep, Takes cmdJobAdmit s r → rq r 0 2 = 0 → s.dev.admitRefusal r.slot j.estimate = some rep →
        exec (.jobAdmit r) s = .next (s.on (s.dev.respond r 0x0304 rep))) ∧
     (∀ h, Takes cmdJobAdmit s r → rq r 0 2 = 0 → s.dev.admitRefusal r.slot j.estimate = none → h < 16 → s.dev.jobAt r.slot h = none →
        (∀ k, k < h → s.dev.jobAt r.slot k ≠ none) →
        let jobs := upd s.dev.led.jobs r.slot (fun js => upd js h (fun _ => some { j with admitted := s.dev.time }))
        let d : Dev := { s.dev with led := { s.dev.led with jobs := jobs } }
        let e := d.set pJobsOpen r.slot ((d.jobs r.slot).length : Nat)
        exec (.jobAdmit r) s = .next (s.on (e.respond r 0x0304 (okBody (body h (e.available r.slot))))))) ∧
    (Takes cmdPlanEndSet s r → r.slot < 8 →
      (rq r 0 1 = 1 → s.dev.wallValid = false → exec (.planEndSet r) s = .next (s.on (s.dev.respond r 0x0305 (fail .state)))) ∧
      (rq r 0 1 = 0 → s.dev.nvmBar = none → ∃ e, exec (.planEndSet r) s = .next (s.on e) ∧ e.get pPlanEnd r.slot = 0 ∧ SamePar [pPlanEnd, pEnergyTarget] s.dev e ∧
        (e.nvm.queue.getLast?).map (fun x => x.act) = some (.respond r.slot r.ref r.tagged 0x0305 (okBody (e64 0 ++ e32 4294967295 ++ zs 4)))) ∧
      (rq r 0 1 = 2 → s.dev.nvmBar = none → ∃ e, exec (.planEndSet r) s = .next (s.on e) ∧ SamePar [pPlanEnd, pEnergyTarget] s.dev e ∧
        e.get pPlanEnd r.slot = ((s.dev.tkc + secU (rq r 4 4)) % 18446744073709551616 : Nat))) ∧
    (Takes cmdJobRelease s r →
      let h := rq r 0 2
      (s.dev.jobAt r.slot h = none → exec (.jobRelease r) s = .next (s.on (s.dev.respond r 0x0307 (fail .badArg)))) ∧
      (∀ j, s.dev.jobAt r.slot h = some j → j.started.isSome = true → exec (.jobRelease r) s = .next (s.on (s.dev.respond r 0x0307 (fail .state)))) ∧
      (∀ j, s.dev.jobAt r.slot h = some j → j.started = none → exec (.jobRelease r) s = .next (s.on
        ((s.dev.caused r (fun d => d.endJob r.slot h 1)).respond r 0x0307 (okBody (e16 h))))))) ∧
  (∀ (s : State) (slot h : Nat) (j : Job), h < 16 → s.dev.jobAt slot h = some j →
    (j.started.isSome = true ∨ s.dev.since j.admitted < secU 10 → exec (.jobAdmissionExpiry slot h) s = .next s) ∧
    (j.started = none → secU 10 ≤ s.dev.since j.admitted → exec (.jobAdmissionExpiry slot h) s = .next (s.on (s.dev.endJob slot h 2)))) ∧
  (∀ (d : Dev) (slot h reason : Nat) (j : Job), h < 16 → slot < 8 → slot < d.led.jobs.length → d.jobAt slot h = some j →
    (d.endJob slot h reason).jobAt slot h = none ∧
    (∀ k i, (k ≠ slot ∨ i ≠ h) → (d.endJob slot h reason).jobAt k i = d.jobAt k i) ∧ SamePar (pJobsOpen :: lossIds) d (d.endJob slot h reason))

/-- Without VCORE a step does nothing; before READY it takes VSYS and the hold-up energy alone. From READY on BAT_ENERGY
falls by the energy of the window (by the last valid one's where B0 or B1 is invalid), not below 0; each slot's total
grows by its energy; what no slot is charged for joins the owner's residue; in GRID balances stand, in BATTERY each
tenant's falls by its energy (stated where no level and no quota is crossed). The mode is then GRID exactly where
MAINS_OK has stood 1 s with charging active and V_LN at 80 V or more. (07 Energy ledger: R220, R221, R223, R228, R229,
R230, R231.) -/
def Obligations.AccountingStepCounts : Prop :=
  ∀ (s : State) (m : StepSample),
    (s.dev.powered = false → exec (.accountingStep m) s = .next s) ∧
    (s.dev.powered = true →
      let d0 := (s.dev.takeVsys m.vsys).holdup
      (s.dev.pwr.phase ≠ .ready → exec (.accountingStep m) s = .next (s.on d0)) ∧
      (s.dev.pwr.phase = .ready →
        let b := if nth m.invalid 8 || nth m.invalid 9 then s.dev.led.lastPower else m.battery
        let d1 := ((d0.takeMeans m).countBattery m).2
        let d2 := (d1.attribute m b).closeSecond
        let es := (List.range 8).map (d1.slotEnergy m)
        let mains := s.dev.pins.mainsOk = true ∧ (∃ t, s.dev.led.mainsSince = some t ∧ secU 1 ≤ s.dev.since t) ∧ s.dev.getB pChargeEnable = true ∧
          s.dev.get pThermalState ≠ 2 ∧ 80000 ≤ s.dev.getN pMainsVRms
        let calm := s.dev.isGrid = true ∨ (s.dev.get pLedgerLevel = 0 ∧ d2.levelNow = 0 ∧
          ∀ k ∈ s.dev.quotaSlots, 0 < nth d2.led.balance k ∧ s.dev.get pQuotaGrant k * 100 < nth d2.led.balance k)
        calm → ∃ e, exec (.accountingStep m) s = .next (s.on e) ∧
          e.led.bat = max 0 (s.dev.led.bat - b) ∧
          (∀ k, k < 8 → k < s.dev.led.total.length → nth e.led.total k = nth s.dev.led.total k + (nth es k : Nat)) ∧
          e.led.residual = s.dev.led.residual + (if s.dev.isGrid then s.dev.get pMainsPower else b) - (es.foldl (· + ·) 0 : Nat) ∧
          (s.dev.isGrid = true → e.led.balance = s.dev.led.balance) ∧
          (s.dev.isGrid = false → ∀ k, k < 8 → k < s.dev.led.balance.length →
            nth e.led.balance k = (if k = 0 then nth s.dev.led.balance k else nth s.dev.led.balance k - ((nth es k : Nat) : Int))) ∧
          (e.get pLedgerMode = 1 ↔ mains)))

/-- Before READY no estimate is taken. A fresh estimate after invalid windows, from SMBus or the OCV table, becomes
BAT_ENERGY and its source; at the first one with the mains conditions met the mode is GRID too. A re-anchoring acts
only after 20 min of small current in BATTERY and beyond 2 %. A hold-up measurement bounds HOLDUP_C. With no plan
every lane of a slot has an unconstrained target; a lone bridging lane whose PA draws its share gets the budget. The
ledger's values are saved to the journal; 60 s of hard hold without mains start the sequence to WATCH. (07 Energy
ledger: R222, R223, R226, R227, R229, R237, R238, R243, Table EL-7.) -/
def Obligations.LedgerEstimatesAndTimers : Prop :=
  ∀ s : State,
    (∀ smbus, s.dev.pwr.phase ≠ .ready → exec (.firstBatteryEstimate smbus) s = .next s) ∧
    (∀ smbus, s.dev.pwr.phase = .ready → s.dev.led.estimated = true → s.dev.led.invalidHold = true → s.dev.validTen = true →
      ∃ e, exec (.firstBatteryEstimate smbus) s = .next (s.on e) ∧ e.led.invalidHold = false ∧ e.get pColdBudget = 0 ∧
        (smbus = none → e.led.bat = max 0 s.dev.ocvEstimate ∧ e.get pBatSource = 3) ∧
        (∀ p, smbus = some p → e.led.bat = (p.remaining * 36000000 : Nat) ∧ e.get pBatSource = 2 ∧ e.led.packOcv = packTable p.data)) ∧
    (∀ smbus, s.dev.pwr.phase = .ready → s.dev.led.estimated = false → s.dev.pwr.cause ≠ 7 → s.dev.pins.mainsOk = true →
      (∃ t, s.dev.led.mainsSince = some t ∧ secU 1 ≤ s.dev.since t) → s.dev.getB pChargeEnable = true → s.dev.get pThermalState ≠ 2 →
      80000 ≤ s.dev.getN pMainsVRms → ∃ e, exec (.firstBatteryEstimate smbus) s = .next (s.on e) ∧ e.led.estimated = true ∧
        e.get pLedgerMode = 1 ∧ e.get pLedgerLevel = 0 ∧ e.get pColdBudget = 0 ∧ (smbus = none → e.led.bat = max 0 s.dev.ocvEstimate)) ∧
    (let quiet := s.dev.led.estimated = true ∧ s.dev.isGrid = false ∧ (∃ t, s.dev.led.quietSince = some t ∧ secU 1200 ≤ s.dev.since t) ∧
        s.dev.get pBatEnergyFull * 20 < (s.dev.ocvEstimate - s.dev.batUj).natAbs ∧ (s.dev.led.invalidHold = true → s.dev.validTen = true)
     (¬quiet → exec .ledgerReanchored s = .next s) ∧
     (quiet → exec .ledgerReanchored s = .next (s.on (({ s.dev with led := { s.dev.led with bat := s.dev.ocvEstimate, invalidHold := false } } : Dev).set
        pBatSource 0 3 |>.raiseDev 0x0389 (s64 (mJ s.dev.batUj) ++ s64 (mJ s.dev.ocvEstimate)))))) ∧
    (∀ v1 v2 us energy,
     let fit := v2 + 300 ≤ v1 ∧ us ≤ 10000 ∧ (s.dev.get pMean1ms 49).natAbs < 50
     (¬fit → exec (.holdupMeasured v1 v2 us energy) s = .next s) ∧
     (fit → ∃ e, exec (.holdupMeasured v1 v2 us energy) s = .next (s.on e) ∧
        let c := min 4294967295 (2 * (1000 * energy + s.dev.getN pOtherLoadDeclared * us) * 1000 / (v1 * v1 - v2 * v2))
        e.led.holdupMeasured = some c ∧ e.getN pHoldupC = min c (s.dev.getN pHoldupCDeclared))) ∧
    (∀ slot, ∃ e, exec (.energyTargetUpdate slot) s = .next (s.on e) ∧ SamePar [pEnergyTarget] s.dev e ∧ { e with par := s.dev.par } = s.dev ∧
      (s.dev.planBudget slot = none → ∀ l ∈ s.dev.laneIds, s.dev.owner l = slot → e.get pEnergyTarget l = 4294967295) ∧
      (∀ num den l b, s.dev.planBudget slot = some (num, den) → s.dev.laneIds.filter (fun x => s.dev.owner x = slot) = [l] → s.dev.laneBand l = some b →
        s.dev.bandState b = 3 → s.dev.get pPaSupplyMv l ≠ 0 → (s.dev.convoy l).energyAt = none → nth s.dev.led.paInvalidSince l = none →
        (num * s.dev.getN pEnergyWeight l * 1000 ≤ ((nth s.dev.led.lanePower1s l).toNat * den * s.dev.getN pEnergyWeight l : Nat)) →
        e.getN pEnergyTarget l = shareOf num den (s.dev.getN pEnergyWeight l) (s.dev.getN pEnergyWeight l))) ∧
    (∃ e, exec .ledgerJournalSave s = .next (s.on e) ∧ e.led.savedBalance = s.dev.led.balance ∧ e.led.savedTotal = s.dev.led.total ∧
      (∀ k, 1 ≤ k → k < 8 → e.get pQuotaBalance k = mJ (nth s.dev.led.balance k)) ∧ (∀ k, k < 8 → e.get pAttribTotal k = mJ (nth s.dev.led.total k)) ∧
      (e.nvm.queue.getLast?).map (fun x => (x.typ, x.pages, x.hostWrite)) = some (0x0380, 2, false)) ∧
    (s.dev.led.hardHoldAt = none → exec .hardHoldTimeout s = .next s) ∧
    (∀ t, s.dev.led.hardHoldAt = some t →
      (s.dev.since t < secU 60 → exec .hardHoldTimeout s = .next s) ∧
      (secU 60 ≤ s.dev.since t → s.dev.pins.mainsOk = true → exec .hardHoldTimeout s = .next (s.on { s.dev with led := { s.dev.led with hardHoldAt := none } })) ∧
      (secU 60 ≤ s.dev.since t → s.dev.pins.mainsOk = false → exec .hardHoldTimeout s = .next (s.on
        (({ s.dev with led := { s.dev.led with hardHoldAt := none } } : Dev).startOrderly 0 0x11 none))))

/-! ### 08 Radio lanes -/

/-- An idle READY lane takes a tune at once; a LISTEN lane passes LOCK, with a full calibration unless a stored entry
matches. A change of state is answered with both states and a time within its bound (a free value). CAL_RUN over n
channels is ACCEPTED with 1 + 2n ms and puts the lane in CAL; its end returns the lane to its state and reports what
was stored and what failed. A PA table is gathered segment by segment and checked, and the response to a complete one
waits for the journal. A lane in use, or one that is not S0's for the table and the power mode, answers STATE. (08
Radio lanes: R249, R251, R252, R275, R276, R277, R278, R279, Table RL-1, Table RL-2, Table RL-8, Table RL-9.) -/
def Obligations.LaneCommands : Prop :=
  ∀ (s : State) (r : Request),
    let l := rq r 0 1
    let idle := s.dev.laneBand l = none ∧ s.dev.laneBusy l = false
    (Takes cmdLaneTune s r → l < 8 →
      let fc := rq r 4 8
      let rate := rq r 2 1
      let may := s.dev.channelStatus r.slot { lane := l, dir := rq r 1 1, fc := fc, rate := rate }
      (inTuningRange fc rate = false → exec (.laneTune r) s = .next (s.on (s.dev.respond r 0x0401 (fail .badArg)))) ∧
      (inTuningRange fc rate = true → ¬idle → exec (.laneTune r) s = .next (s.on (s.dev.respond r 0x0401 (fail .state)))) ∧
      (∀ st, inTuningRange fc rate = true → idle → (s.dev.laneState l = 2 ∨ s.dev.laneState l = 4) → may = some st →
        exec (.laneTune r) s = .next (s.on (s.dev.respond r 0x0401 (fail st)))) ∧
      (inTuningRange fc rate = true → idle → s.dev.laneState l = 2 → may = none → exec (.laneTune r) s = .next (s.on
        (({ (s.dev.set pLaneFreq l (fc : Nat)).set pLaneRate l (rate : Nat) with free := s.dev.free + 1 } : Dev).respond r 0x0401
          (okBody (e8 l ++ e8 2 ++ e8 2 ++ zs 1 ++ e32 ((Config.analogue s.dev.free 0).natAbs % 2001)))))) ∧
      (inTuningRange fc rate = true → idle → s.dev.laneState l = 4 → may = none →
        let cal := if rq r 3 1 = 1 ∨ s.dev.calMatch l fc rate = none then 1 else 0
        ∃ e us, exec (.laneTune r) s = .next (s.on e) ∧ us ≤ (if cal = 0 then 26 else 192) ∧ e.laneState l = 4 ∧ e.getN pLaneFreq l = fc ∧
          e.getN pLaneRate l = rate ∧
          e.host.outbox = s.dev.host.outbox ++ [answer r 0x0401 (okBody (e8 l ++ e8 4 ++ e8 cal ++ zs 1 ++ e32 us))])) ∧
    (Takes cmdLaneStateSet s r → l < 8 →
      let old := s.dev.laneState l
      let new := rq r 1 1
      (¬idle → exec (.laneStateSet r) s = .next (s.on (s.dev.respond r 0x0402 (fail .state)))) ∧
      (idle → new ≠ 4 → old ≤ 1 → old < new → s.dev.get pThermalState = 2 →
        exec (.laneStateSet r) s = .next (s.on (s.dev.respond r 0x0402 (fail .thermal)))) ∧
      (idle → (new = 4 → s.dev.get pLaneFreq l ≠ 0) → ¬(old ≤ 1 ∧ old < new ∧ s.dev.get pThermalState = 2) →
        ∃ e us, exec (.laneStateSet r) s = .next (s.on e) ∧ us ≤ 2391 ∧ e.laneState l = new ∧ (l < s.dev.lanes.length → (e.lane l).escHold = false) ∧
          e.host.outbox = s.dev.host.outbox ++ [answer r 0x0402 (okBody (e8 l ++ e8 old ++ e8 new ++ zs 1 ++ e32 us))])) ∧
    (Takes cmdCalRun s r → l < s.dev.lanes.length → l < 8 → r.slot < 8 →
      let n := r.blk.length / 12
      (∀ h d1, (∀ k, k < n → inTuningRange (calChan r.blk k).1 (calChan r.blk k).2 = true) → (s.dev.laneState l = 2 ∨ s.dev.laneState l = 4) → idle →
        (∀ k, k < n → s.dev.anyDirection r.slot l (calChan r.blk k).1 (calChan r.blk k).2 = none) →
        (rq r 1 1 = 1 → calPinsOver (s.dev.lane l).cal r.blk = false) → s.dev.startJob r.slot (rq r 2 2) (calJob l n) = .ok (h, d1) →
        ∃ e, exec (.calRun r) s = .next (s.on e) ∧ e.laneState l = 7 ∧
          (e.lane l).calRun = some { slot := r.slot, ref := r.ref, job := h, before := s.dev.laneState l } ∧
          e.host.outbox = s.dev.host.outbox ++ [answer r 0x0403 (accepted (1 + 2 * n))] ∧ e.host.longs.length = s.dev.host.longs.length + 1)) ∧
    (∀ slot ref done c run, s.dev.longIs slot ref 0x0403 = some c → slot < 8 →
      let x := fld c.body 0 1
      let failed := run.failed.filter (fun k => k < c.blk.length / 12)
      x < 8 → x < s.dev.lanes.length → (s.dev.lane x).calRun = some run →
      ∃ e stored, exec (.calRunComplete slot ref done) s = .next (s.on e) ∧ (e.lane x).calRun = none ∧ stored ≤ c.blk.length / 12 ∧
        (run.withdrawn = false → e.laneState x = run.before ∧
          Ended c (okBody (e8 x ++ e8 stored ++ e8 failed.length ++ zs 1 ++ e16 run.job)) e) ∧
        (run.withdrawn = true → e.laneState x = 2 ∧ Ended c (fail .denied) e)) ∧
    (Takes cmdCalStoreGet s r → exec (.calStoreGet r) s = .next (s.on (s.dev.respond r 0x0404 (okBody (calBytes (nth (s.dev.lane l).cal (rq r 1 1))))))) ∧
    (Takes cmdTxpowerModeSet s r →
      let wired := ∃ t, (s.dev.lane l).table = some t ∧ bit t.flags 0 = true
      (s.dev.hardwareFree l = false → exec (.txpowerModeSet r) s = .next (s.on (s.dev.respond r 0x0405 (fail .state)))) ∧
      (rq r 1 1 = 0 → ¬wired → exec (.txpowerModeSet r) s = .next (s.on (s.dev.respond r 0x0405 (fail .state)))) ∧
      (s.dev.hardwareFree l = true → (rq r 1 1 ≠ 0 ∨ wired) → s.dev.nvmBar = none → l < s.dev.lanes.length →
        ∃ e, exec (.txpowerModeSet r) s = .next (s.on e) ∧ e.get pTxpowerMode l = (rq r 1 1 : Nat) ∧ (e.lane l).backoff = rqS r 2 2 ∧
          SamePar [pTxpowerMode] s.dev e ∧
          (e.nvm.queue.getLast?).map (fun q => q.act) = some (.respond r.slot r.ref r.tagged 0x0405 (okBody r.body)))) ∧
    (Takes cmdPaTableLoad s r →
      let total := rq r 4 2
      let held := fun (p : Option (Nat × List Byte)) => s.dev.updLane l (fun x => { x with partialTable := p })
      (s.dev.hardwareFree l = false → exec (.paTableLoad r) s = .next (s.on (s.dev.respond r 0x0406 (fail .state)))) ∧
      (s.dev.hardwareFree l = true → rq r 1 1 = 1 → rq r 2 2 = 0 → r.blk.length ≤ total → exec (.paTableLoad r) s = .next (s.on
        ((held (some (total, r.blk))).respond r 0x0406 (okBody (e8 l ++ e8 0 ++ e16 r.blk.length ++ e16 0))))) ∧
      (s.dev.hardwareFree l = true → rq r 1 1 = 0 → (s.dev.lane l).partialTable = none → exec (.paTableLoad r) s = .next (s.on
        ((held none).respond r 0x0406 (failWhy .badArg 0xFFFF 6)))) ∧
      (s.dev.hardwareFree l = true → rq r 1 1 = 3 → rq r 2 2 = 0 → r.blk.length ≤ total →
        let why := paTableReason total r.blk
        (why = 1 → exec (.paTableLoad r) s = .next (s.on ((held none).respond r 0x0406 (failWhy .badLen 0xFFFF 1)))) ∧
        (why ≠ 0 → why ≠ 1 → exec (.paTableLoad r) s = .next (s.on ((held none).respond r 0x0406 (failWhy .badArg 0xFFFF why)))) ∧
        (why = 0 → s.dev.nvmBar = none → exec (.paTableLoad r) s = .next (s.on ((held (some (total, r.blk))).journal 0x0406 l (entryPages r.blk.length)
          (some (r.slot, r.ref)) (.table r.slot r.ref r.tagged l r.blk))))))

/-- A burst that the schedule of a bridging TDD band gives this unit puts the lane in THROUGH or SPEAK with the antennas
of the run, any other does nothing; its end returns the lane to its rest state. A lost lock mutes a lane of no band,
counts, and leaves its state. A LOCK that times out fails the unwritten tune, or a channel of the run. 24 plausible
steps refine the active entry; the eighth implausible one in a row stops them. A drifted FDD lane takes its window.
Lost feedback turns the lane OPEN with 3 dB. Every 1 ms c follows temperature and supply. (08 Radio lanes: R253, R255,
R256, R257, R258, R261, R264, R282, R283, R284, R285.) -/
def Obligations.LaneEventsAct : Prop :=
  ∀ (s : State) (l : Nat), l < 8 → l < s.dev.lanes.length →
    (∀ dl, s.dev.laneBand l = none → exec (.burstStart l dl) s = .next s) ∧
    (∀ dl b, s.dev.laneBand l = some b →
      let x := s.dev.band b
      let pos := s.dev.position
      let go := x.cfg.tdd = true ∧ s.dev.bandState b = 3 ∧ x.sched = true ∧ (pos = 0 ∨ (pos = 1 ∧ dl = false) ∨ (pos = 2 ∧ dl = true)) ∧
        (s.dev.lane l).table ≠ none ∧ (dl = true ∨ x.ulSuspended = false)
      (¬go → exec (.burstStart l dl) s = .next s) ∧
      (go → ∃ e, exec (.burstStart l dl) s = .next (s.on e) ∧ e.laneState l = (if pos = 0 then 6 else 5) ∧ (e.lane l).burst = true ∧ (e.lane l).role = (!dl, dl))) ∧
    ((s.dev.lane l).burst = false → exec (.burstEnd l) s = .next s) ∧
    ((s.dev.lane l).burst = true → ∃ e, exec (.burstEnd l) s = .next (s.on e) ∧ (e.lane l).burst = false ∧ e.laneState l = s.dev.getN pRestState l) ∧
    (∀ synth, s.dev.laneState l ≤ 3 → exec (.synthUnlock l synth) s = .next s) ∧
    (∀ synth, 3 < s.dev.laneState l → s.dev.hasLane l = true → s.dev.laneBand l = none → l < s.dev.convoys.length →
      ∃ e, exec (.synthUnlock l synth) s = .next (s.on e) ∧ e.laneState l = s.dev.laneState l ∧ e.laneMuted l = true ∧
        e.getN pSynthUnlocks l = inc32 (s.dev.getN pSynthUnlocks l) ∧ e.getN pFaultSourceCount 8 = inc32 (s.dev.getN pFaultSourceCount 8)) ∧
    (∀ synth ch run, (s.dev.lane l).calRun = some run → ∃ e, exec (.synthLockTimeout l synth ch) s = .next (s.on e) ∧
      (e.lane l).calRun = some { run with failed := run.failed ++ [ch] } ∧ e.getN pSynthUnlocks l = inc32 (s.dev.getN pSynthUnlocks l)) ∧
    (∀ synth ch u, (s.dev.lane l).calRun = none → (s.dev.lane l).undo = some u →
      (∃ o ∈ s.dev.host.outbox, o.slot = u.slot ∧ o.ref = u.ref ∧ o.kind = .response) → ∃ e, exec (.synthLockTimeout l synth ch) s = .next (s.on e) ∧
        e.laneState l = 2 ∧ (e.lane l).undo = none ∧
        (∀ o ∈ e.host.outbox, o.slot = u.slot → o.ref = u.ref → o.kind = .response → u.op = 0x0401 → o.reply = fail .fault)) ∧
    (∀ synth ch, (s.dev.lane l).calRun = none → (s.dev.lane l).undo = none → exec (.synthLockTimeout l synth ch) s = .next s) ∧
    (∀ p, (s.dev.lane l).tdd = false ∨ (s.dev.lane l).burst = true ∨ (s.dev.lane l).bgStopped = true ∨ (s.dev.lane l).active = none →
      exec (.bgcalStep l p) s = .next s) ∧
    ((s.dev.lane l).tdd = true → (s.dev.lane l).burst = false → (s.dev.lane l).bgStopped = false → ∀ k, (s.dev.lane l).active = some k →
      ((s.dev.lane l).bgSteps + 1 < 24 → exec (.bgcalStep l true) s = .next (s.on
        (s.dev.updLane l (fun y => { y with bgSteps := (s.dev.lane l).bgSteps + 1, bgDiscards := 0 })))) ∧
      (∀ c, 24 ≤ (s.dev.lane l).bgSteps + 1 → nth (s.dev.lane l).cal k = some c → k < (s.dev.lane l).cal.length → ∃ e c', exec (.bgcalStep l true) s = .next (s.on e) ∧
        (e.lane l).bgSteps = 0 ∧ nth (e.lane l).cal k = some c' ∧ c'.refined = true ∧ c'.calTemp = s.dev.laneTemp l ∧ c'.freq = c.freq ∧ c'.rate = c.rate) ∧
      (∃ e, exec (.bgcalStep l false) s = .next (s.on e) ∧ (e.lane l).bgDiscards = (s.dev.lane l).bgDiscards + 1 ∧
        ((e.lane l).bgStopped = true ↔ 8 ≤ (s.dev.lane l).bgDiscards + 1))) ∧
    (∀ p, (s.dev.lane l).tdd = true ∨ (s.dev.lane l).active = none ∨ (s.dev.calDrift l).natAbs ≤ 128 → exec (.bgcalFddWindow l p) s = .next s) ∧
    (∀ p, (s.dev.lane l).tdd = false → (s.dev.lane l).active ≠ none → (s.dev.laneState l = 4 ∨ s.dev.laneState l = 5 ∨ s.dev.laneState l = 6) →
      128 < (s.dev.calDrift l).natAbs → s.dev.getB pBgcalFddWindow l = true → (s.dev.lane l).bgStopped = false →
      (∀ t, (s.dev.lane l).bgWindow = some t → secU 10 ≤ s.dev.since t) → (s.dev.convoy l).ramp = none → s.dev.get pIsoState l ≠ 4 →
      ∃ e, exec (.bgcalFddWindow l p) s = .next (s.on e) ∧ (e.lane l).bgWindow = some s.dev.time ∧
        e.getN pBgcalWindows l = inc32 (s.dev.getN pBgcalWindows l)) ∧
    (let lost := (∃ t, (s.dev.lane l).fbQuiet = some t ∧ msU 10 ≤ s.dev.since t) ∧ s.dev.openOut l ≠ none ∧ s.dev.get pTxpowerMode l = 0 ∧
       (s.dev.lane l).pins.paEn = true
     (¬lost → exec (.feedbackLost l) s = .next s) ∧
     (lost → ∃ e, exec (.feedbackLost l) s = .next (s.on e) ∧ e.get pTxpowerMode l = 1 ∧ (e.lane l).backoff = 192)) ∧
    (∃ e, exec .paCompUpdate s = .next (s.on e) ∧ SamePar [pRxEntry, pTxEntry, pDigitalGain, pLogLost] s.dev e ∧
      (∀ t, l ∈ s.dev.laneIds → (s.dev.lane l).table = some t → (e.lane l).comp = t.tx.map (s.dev.compOf l t)))

/-! ### 09 The courier radio -/

/-- COURIER_PROFILE_SET is STATE while a send is open, BAD_ARG for outputs that do not ascend, else ACCEPTED with 300 ms;
its end puts the profile in force, discards what waits and completes. COURIER_SEND without profile, key or destination
is STATE; a packet to the unit itself, or a broadcast that asks for an ACK, BAD_ARG; else the packet waits for its
slot's airtime and the command is ACCEPTED with 10,000 ms, a WAKE with its train's bound. It completes when its packet
is done with or its bound has passed. COURIER_STATE_SET takes effect at once and is answered from the journal. (09
Courier: R300, R302, R303, R304, R306, R311, R313, R314, Table CU-10, 04 Command model: R145, R147.) -/
def Obligations.CourierCommands : Prop :=
  ∀ (s : State) (r : Request),
    (Takes cmdCourierProfileSet s r →
      let sending := ∃ l ∈ s.dev.host.longs, l.opcode = 0x0502
      (sending → exec (.courierProfileSet r) s = .next (s.on (s.dev.respond r 0x0501 (fail .state)))) ∧
      (¬sending → powerTableOrdered r.blk = false → exec (.courierProfileSet r) s = .next (s.on (s.dev.respond r 0x0501 (fail .badArg)))) ∧
      (¬sending → powerTableOrdered r.blk = true → s.dev.nvmBar = none → exec (.courierProfileSet r) s = .next (s.on (s.dev.accept r 0x0501 300)))) ∧
    (∀ slot ref failed l, slot < 8 → s.dev.longIs slot ref 0x0501 = some l → ∃ e, exec (.courierProfileSetComplete slot ref failed) s = .next (s.on e) ∧
      e.getN pCourierProfile = fld l.body 0 1 ∧ e.getN pCourierRate = fld l.body 1 1 ∧ e.getN pCourierNetId = fld l.body 2 2 ∧
      e.getN pCourierSniffInterval = fld l.body 4 4 ∧ e.cour.table = l.blk ∧ e.cour.queue = [] ∧
      e.getN pCourierState = s.dev.getN pCourierReturnState ∧
      Ended l (okBody (slice l.body 0 1 ++ e8 (e.cour.cal.filter (fun x => x.isSome)).length ++ zs 2 ++ e32 (durOf (s.dev.since l.since)))) e) ∧
    (Takes cmdCourierSend s r →
      let wake := rq r 1 1 = 2
      let dest := rq r 0 1
      let ack := rq r 2 1 = 1
      let n := rq r 3 1
      let ready := s.dev.get pCourierProfile ≠ 0 ∧ s.dev.courierKey ≠ none ∧ (dest = 255 ∨ s.dev.inChain dest = true)
      let bad := dest = s.dev.getN pUnitNumber ∨ (ack ∧ dest = 255)
      let base : Packet := { slot := r.slot, ref := r.ref, dest := dest % 8, broadcast := decide (dest = 255), ackReq := decide ack }
      let queued := fun (p : Packet) => ({ s.dev with cour := { s.dev.cour with queue := s.dev.cour.queue ++ [p] } } : Dev)
      (¬ready → exec (.courierSend r) s = .next (s.on (s.dev.respond r 0x0502 (fail .state)))) ∧
      (ready → bad → exec (.courierSend r) s = .next (s.on (s.dev.respond r 0x0502 (fail .badArg)))) ∧
      (ready → ¬bad → wake → exec (.courierSend r) s = .next (s.on
        ((queued { base with kind := 2 }).accept r
          0x0502 ((3 * s.dev.getN pCourierSniffInterval + 200999) / 1000)))) ∧
      (ready → ¬bad → ¬wake → (s.dev.eu = true → s.dev.euRoom r.slot (2 + n) = true) → exec (.courierSend r) s = .next (s.on
        (((queued { base with device := false, granted := false, payload := e8 r.slot ++ e8 n ++ slice r.body 4 n }).request .courier r.slot r.ref (s.dev.airtimeUs 0 (2 + n))).accept r
          0x0502 10000))) ∧
      (ready → ¬bad → ¬wake → s.dev.eu = true → s.dev.euRoom r.slot (2 + n) = false → ∃ e, exec (.courierSend r) s = .next (s.on e) ∧
        e.host.outbox = s.dev.host.outbox ++ [answer r 0x0502 (fail .wouldExceed)] ∧ e.cour.queue = s.dev.cour.queue)) ∧
    (∀ slot ref l p, s.dev.longIs slot ref 0x0502 = some l → p.slot = slot → p.ref = ref → p.device = false →
      (s.dev.cour.ended = [p] → p.kind = 0 → ∃ e, exec (.courierSendComplete slot ref) s = .next (s.on e) ∧ e.cour.ended = [] ∧ Ended l (okBody p.completion) e) ∧
      (s.dev.cour.ended = [] → s.dev.cour.queue = [p] → msU l.bound ≤ s.dev.since l.since → ∃ e, exec (.courierSendComplete slot ref) s = .next (s.on e) ∧
        e.cour.queue = [] ∧ Ended l (okBody p.completion) e) ∧
      (s.dev.cour.ended = [] → s.dev.since l.since < msU l.bound → exec (.courierSendComplete slot ref) s = .next s)) ∧
    (Takes cmdCourierStateSet s r →
      (rq r 0 1 ≠ 0 → s.dev.get pCourierProfile = 0 → exec (.courierStateSet r) s = .next (s.on (s.dev.respond r 0x0503 (fail .state)))) ∧
      ((rq r 0 1 = 0 ∨ s.dev.get pCourierProfile ≠ 0) → s.dev.nvmBar = none → ∃ e, exec (.courierStateSet r) s = .next (s.on e) ∧
        e.getN pCourierReturnState = rq r 1 1 ∧ ((s.dev.cour.air = none ∨ rq r 0 1 = 0) → e.getN pCourierState = rq r 0 1 ∧ e.cour.air = none) ∧
        SamePar [pCourierReturnState, pCourierState] s.dev e ∧
        (e.nvm.queue.getLast?).map (fun q => q.act) = some (.respond r.slot r.ref r.tagged 0x0503 (okBody (e8 (rq r 0 1) ++ e8 (rq r 1 1)))))) ∧
    (Takes cmdCourierStatsGet s r →
      let x := nth s.dev.cour.stats (if rq r 0 1 = 0 then 8 else r.slot)
      exec (.courierStatsGet r) s = .next (s.on (s.dev.respond r 0x0504 (okBody (e32 x.tx ++ e32 x.rx ++ e32 x.retries ++ e32 x.crcFail ++ e32 x.tagFail ++
        e32 x.deferrals ++ e32 x.lostToCal)))))

/-- At a hop slot the first granted packet that fits goes on air below -85 dBm with the next counter, and is put off above
it. At its end a packet that asks for an ACK waits for it; without one in time it is sent again up to COURIER_RETRIES,
a step higher. A reception counts, by its CRC, tag and source. The head queues its BEACON; a sniffed WAKE wakes WATCH;
a failed wake returns there after 10 s. A channel drifted by 10 °C is calibrated again; a silent peer is reported; a
lost path sends STATUS or CLOCK. (09 Courier: R293, R295, R296, R297, R298, R302, R303, R308, R312, 13 Caravan link:
R436, 06 Power states: R194.) -/
def Obligations.CourierRadioActs : Prop :=
  ∀ s : State,
    (∀ rssi, s.dev.pwr.courierUp = false ∨ s.dev.get pCourierProfile = 0 → exec (.hopSlotStart rssi) s = .next s) ∧
    (∀ rssi p step, s.dev.pwr.courierUp = true → s.dev.courierSends = true → s.dev.courierFree = true → s.dev.eu = false → s.dev.link.breakDue = none →
      s.dev.cour.queue = [p] → p.device = false → p.kind = 0 → p.granted = true → p.notBefore ≤ s.dev.time →
      let c := s.dev.hopChannel s.dev.hopSlot
      nth s.dev.cour.cal c ≠ none → s.dev.fitsSlot p c 660 = true →
      s.dev.stepFor c (if p.broadcast then s.dev.getN pCourierStartStep else s.dev.getN pCourierStep p.dest) = some step →
      (rssi ≤ -5440 → ∃ e q, exec (.hopSlotStart rssi) s = .next (s.on e) ∧ e.cour.air = some q ∧ e.cour.queue = [] ∧ e.getN pCourierState = 3 ∧
        q.channel = c ∧ q.step = step ∧ q.tries = p.tries + 1 ∧ q.counter = (s.dev.cour.counter + 1) % 4294967296 ∧ e.cour.counter = q.counter ∧
        q.payload = p.payload ∧ e.pins.crPaEn = s.dev.extPa step) ∧
      (-5440 < rssi → ∃ e t, exec (.hopSlotStart rssi) s = .next (s.on e) ∧ e.cour.air = none ∧ e.cour.queue = [{ p with notBefore := t }] ∧
        s.dev.time ≤ t ∧ t ≤ s.dev.time + msU 28)) ∧
    (∀ rssi, exec (.courierDeferExpiry rssi) s = .next (if s.dev.cour.queue.any (fun p => p.notBefore ≠ 0 && p.notBefore ≤ s.dev.time)
      then s.on (s.dev.startNext rssi) else s)) ∧
    (s.dev.cour.air = none → exec .courierPacketEnd s = .next s) ∧
    (∀ p, s.dev.cour.air = some p → p.kind = 0 → 8 < s.dev.cour.stats.length → p.slot < 8 → ∃ e, exec .courierPacketEnd s = .next (s.on e) ∧ e.cour.air = none ∧
      (nth e.cour.stats 8).tx = min 4294967295 ((nth s.dev.cour.stats 8).tx + 1) ∧
      (p.ackReq = true → e.cour.waiting = some { p with used := p.used + p.airUs, notBefore := s.dev.time + usU (700 + s.dev.airtimeUs p.channel 0) } ∧
        e.getN pCourierState = 2)) ∧
    (s.dev.cour.waiting = none → exec .courierAckTimeout s = .next s) ∧
    (∀ p, s.dev.cour.waiting = some p → s.dev.time < p.notBefore → exec .courierAckTimeout s = .next s) ∧
    (∀ p, s.dev.cour.waiting = some p → p.notBefore ≤ s.dev.time → p.dest < 8 → ∃ e, exec .courierAckTimeout s = .next (s.on e) ∧ e.cour.waiting = none ∧
      (p.tries ≤ s.dev.getN pCourierRetries → e.cour.queue.length = s.dev.cour.queue.length + 1 ∧
        e.getN pCourierStep p.dest = min 15 (s.dev.getN pCourierStep p.dest + 1)) ∧
      (s.dev.getN pCourierRetries < p.tries → p.device = false → s.dev.longIs p.slot p.ref 0x0502 ≠ none → e.cour.ended = s.dev.cour.ended ++ [p])) ∧
    (∀ air rssi ant sync,
      (s.dev.pwr.state ≠ .active ∨ s.dev.pwr.courierUp = false ∨ s.dev.get pCourierState ≠ 2 → exec (.courierPacketReceive air rssi ant sync) s = .next s) ∧
      (s.dev.pwr.state = .active → s.dev.pwr.courierUp = true → s.dev.get pCourierState = 2 → 8 < s.dev.cour.stats.length →
        let b := whiten air
        let src := fld b 2 1 % 8
        (s.dev.packetCheck b = 1 → ∃ e, exec (.courierPacketReceive air rssi ant sync) s = .next (s.on e) ∧
          (nth e.cour.stats 8).crcFail = inc32 (nth s.dev.cour.stats 8).crcFail) ∧
        (s.dev.packetCheck b = 2 ∨ s.dev.packetCheck b = 3 → ∃ e, exec (.courierPacketReceive air rssi ant sync) s = .next (s.on e) ∧
          e.cour = s.dev.cour) ∧
        (s.dev.packetCheck b = 0 → fld b 1 1 = 0 → bit (fld b 3 1) 0 = false → src < s.dev.cour.highest.length → ∃ e,
          exec (.courierPacketReceive air rssi ant sync) s = .next (s.on e) ∧ (nth e.cour.stats 8).rx = inc32 (nth s.dev.cour.stats 8).rx ∧
          nth e.cour.highest src = some (fld b 6 4) ∧ e.get pCourierRssi src = rssi))) ∧
    (let go := s.dev.get pChainRole = 1 ∧ (∃ p ∈ s.dev.portIds, s.dev.portUp p = true) ∧ (∀ p ∈ s.dev.cour.queue, ¬(p.device = true ∧ p.kind = 3))
     (¬go → exec .beaconSend s = .next s) ∧
     (go → s.dev.courierKey ≠ none → s.dev.get pCourierProfile ≠ 0 → s.dev.get pCourierState ≠ 0 → s.dev.pwr.courierUp = true → exec .beaconSend s =
       .next (s.on { s.dev with cour := { s.dev.cour with queue := s.dev.cour.queue ++ [{ kind := 3, broadcast := true, payload := zs 8 }] } }))) ∧
    (exec (.sniffCycle none) s = .next s) ∧
    (∀ air rssi, (s.dev.sniffs = false ∨ s.dev.wakeNames (whiten air) = false → exec (.sniffCycle (some (air, rssi))) s = .next s) ∧
      (s.dev.sniffs = true → s.dev.wakeNames (whiten air) = true → s.dev.pwr.state = .watch → exec (.sniffCycle (some (air, rssi))) s = .next (s.on
        (({ s.dev with cour := { s.dev.cour with wake := some (whiten air, rssi) } } : Dev).wake 3)))) ∧
    (s.dev.cour.rewatch = none → exec .courierWakeRewatch s = .next s) ∧
    (∀ t, s.dev.cour.rewatch = some t →
      let gone : Dev := { s.dev with cour := { s.dev.cour with rewatch := none } }
      ((∃ x ∈ s.dev.slots, x.session.isSome = true) → exec .courierWakeRewatch s = .next (s.on gone)) ∧
      ((∀ x ∈ s.dev.slots, x.session = none) → s.dev.since t < secU 10 → exec .courierWakeRewatch s = .next s) ∧
      ((∀ x ∈ s.dev.slots, x.session = none) → secU 10 ≤ s.dev.since t → s.dev.pwr.state = .active → exec .courierWakeRewatch s = .next (s.on
        (gone.startOrderly 0 3 none)))) ∧
    (∀ ok lost c, (s.dev.get pCourierState = 1 ∨ s.dev.get pCourierState = 2) → s.dev.pwr.courierUp = true → s.dev.courierFree = true →
      s.dev.cour.queue = [] → toUs (s.dev.since s.dev.cour.hopAt) ≤ 49450 → s.dev.calDue = some c → c < s.dev.cour.cal.length →
      ∃ e, exec (.courierCalStep ok lost) s = .next (s.on e) ∧ nth e.cour.cal c = (if ok then some s.dev.courierTemp else none) ∧
        (8 < s.dev.cour.stats.length → (nth e.cour.stats 8).lostToCal =
          (if lost then inc32 (nth s.dev.cour.stats 8).lostToCal else (nth s.dev.cour.stats 8).lostToCal))) ∧
    (∀ ok lost, s.dev.calDue = none → exec (.courierCalStep ok lost) s = .next s) ∧
    (∀ u, u < 8 → (s.dev.linkGone u = none → exec (.courierPeerSilent u) s = .next s) ∧
      (∀ t, s.dev.linkGone u = some t → (nth s.dev.cour.peers u).silentAt = none →
        (s.dev.since (max t (nth s.dev.cour.peers u).heard) < secU 5 → exec (.courierPeerSilent u) s = .next s) ∧
        (secU 5 ≤ s.dev.since (max t (nth s.dev.cour.peers u).heard) → exec (.courierPeerSilent u) s = .next (s.on
          ((s.dev.updPeer u (fun p => { p with silentAt := some s.dev.time })).raiseDev 0x0581
            (e8 u ++ zs 3 ++ e32 (min 4294967295 (toMs (s.dev.since (nth s.dev.cour.peers u).heard))))))))) ∧
    (s.dev.isFollower = true → exec .fallbackStatusTimer s = .next (s.on (if s.dev.link.pathLost then s.dev.queueFallback 9 s.dev.statusBody else s.dev))) ∧
    (s.dev.isFollower = false → exec .fallbackStatusTimer s = .next (s.on
      (if (List.range 8).any (fun u => (s.dev.linkGone u).isSome) then s.dev.queueFallback 1 s.dev.clockBody else s.dev))) ∧
    (∀ failed, s.dev.pwr.state = .active → s.dev.pwr.courierUp = false →
      (s.dev.get pCourierProfile = 0 → exec (.courierEnable failed) s = .next (s.on
        (({ s.dev with pwr := { s.dev.pwr with courierUp := true } } : Dev).subsys 4 true))) ∧
      (s.dev.get pCourierProfile ≠ 0 → ∃ e, exec (.courierEnable failed) s = .next (s.on e) ∧ e.pwr.courierUp = true ∧
        e.getN pCourierState = s.dev.getN pCourierReturnState ∧ (∀ u, u < 8 → e.get pCourierStep u = s.dev.get pCourierStartStep)))

/-! ### 10 The filter chains; 11 The convoys -/

/-- CHAIN_CONFIG of a lane at rest takes preset, shift and window at once (a window that runs ends INVALID_GAP; preset
CUSTOM takes the FIR that waits) and is STATE of a lane in use. FIR_LOAD puts its coefficients in the shadow bank;
THRESH_SET sets a threshold anew; CHAIN_STATUS_GET and DELAY_GET report, the first clearing saturation where asked. A
window's end stores its sum and judges it; a threshold crosses over; a clipping stage counts, saturating; a stuck
input counts and marks its chain, a transition clears the mark. (10 Filter chains: R320, R326, R327, R328, R330, R331,
R336, R337, R338, R339, R341, R342.) -/
def Obligations.ChainCommandsAndWindows : Prop :=
  ∀ (s : State) (r : Request),
    let c := rq r 0 1
    (Takes cmdChainConfig s r → c < 8 → c < s.dev.chains.length →
      let p := rq r 4 1
      let busy := s.dev.laneBridges c = true ∨ (s.dev.lane c).survey ≠ none ∨ s.dev.laneState c = 7
      let loaded := p = 5 → (s.dev.chain c).fir ≠ none ∨ (s.dev.chain c).shadow ≠ none
      (¬loaded → exec (.chainConfig r) s = .next (s.on (s.dev.respond r 0x0601 (fail .badArg)))) ∧
      (loaded → busy → exec (.chainConfig r) s = .next (s.on (s.dev.respond r 0x0601 (fail .state)))) ∧
      (loaded → ¬busy → ∃ e, exec (.chainConfig r) s = .next (s.on e) ∧ e.getN pChainPreset c = p ∧ e.getN pChainPreset (8 + c) = rq r 5 1 ∧
        e.getN pAvgShift c = rq r 10 1 ∧ e.getN pAvgWindow c = rq r 12 4 ∧
        (receives (s.dev.laneState c) = true → e.get pAvgStatus c = 3 ∧ e.get pAvgPower c = -32768) ∧
        (p = 5 → (e.chain c).shadow = none ∧ (e.chain c).fir = (s.dev.chain c).shadow.orElse (fun _ => (s.dev.chain c).fir)) ∧
        e.host.outbox = s.dev.host.outbox ++ [answer r 0x0601 (okBody (e8 c ++ e8 p ++ zs 2 ++ e32 (xPeriod (s.dev.getN pLaneRate c)) ++
          e32 (e.laneX c) ++ e32 (e.laneX c + e.laneT c)))])) ∧
    (Takes cmdFirLoad s r →
      let n := rq r 2 2
      let h := (List.range n).map (firCoef r.blk)
      let given := rq r 4 4
      let f : Fir := { taps := n, delay := if h = h.reverse then (n - 1) * 128 else given, decim := rq r 8 1, coefs := h }
      let body := e8 c ++ eb (decide (h = h.reverse)) ++ e16 n ++ e32 f.delay ++ s32 (h.foldl (· + ·) 0)
      (r.blk.length ≠ 3 * n → exec (.firLoad r) s = .next (s.on (s.dev.respond r 0x0602 (fail .badLen)))) ∧
      (r.blk.length = 3 * n → ¬(h = h.reverse ↔ given = 0) → exec (.firLoad r) s = .next (s.on (s.dev.respond r 0x0602 (fail .badArg)))) ∧
      (r.blk.length = 3 * n → (h = h.reverse ↔ given = 0) → c < 8 → s.dev.laneBridges c = true →
        exec (.firLoad r) s = .next (s.on (s.dev.respond r 0x0602 (fail .state)))) ∧
      (r.blk.length = 3 * n → (h = h.reverse ↔ given = 0) → c < 8 → s.dev.laneBridges c = false → exec (.firLoad r) s = .next (s.on
        ((s.dev.updChain c (fun x => { x with shadow := some f })).respond r 0x0602 (okBody body)))) ∧
      (r.blk.length = 3 * n → (h = h.reverse ↔ given = 0) → 8 ≤ c → exec (.firLoad r) s = .next (s.on
        (({ s.dev with scBanks := upd s.dev.scBanks r.slot (fun _ => some f) } : Dev).respond r 0x0602 (okBody body))))) ∧
    (Takes cmdThreshSet s r → c < s.dev.chains.length →
      let k := rq r 1 1
      let q := rq r 2 1
      let kind := chainKind c = 0 ∨ chainKind c = 2 ∨ chainKind c = 6
      let fits := q = 0 ∨ (if c < 8 then q ≤ 2 else q = 3)
      (¬kind → exec (.threshSet r) s = .next (s.on (s.dev.respond r 0x0603 (failAt .badArg 0)))) ∧
      (kind → ¬fits → exec (.threshSet r) s = .next (s.on (s.dev.respond r 0x0603 (fail .badArg)))) ∧
      (kind → fits → k < (s.dev.chain c).thr.length → ∃ e, exec (.threshSet r) s = .next (s.on e) ∧
        nth (e.chain c).thr k = { qty := q, flags := rq r 3 1, level := rqS r 4 2, hyst := rq r 6 2, dwell := rq r 8 4 } ∧
        SamePar [pThreshState] s.dev e ∧ e.host.outbox = s.dev.host.outbox ++ [answer r 0x0603 (okBody (e8 c ++ e8 k ++ e8 0 ++ zs 1))])) ∧
    (Takes cmdChainStatusGet s r →
      let x := s.dev.chain c
      let d := if bit (rq r 1 1) 0 then (s.dev.updChain c (fun x => { x with sat := List.replicate 6 0 })).set pSatFlags c 0 else s.dev
      exec (.chainStatusGet r) s = .next (s.on (d.respond r 0x0604 (okBody (e8 c ++ e8 (s.dev.getN pChainPreset c) ++ e8 (s.dev.getN pAvgStatus c) ++
        e8 (s.dev.getN pThreshState c) ++ e8 (s.dev.getN pSatFlags c) ++ zs 1 ++ s16 (if c < 8 then s.dev.get pAvgPower c else -32768) ++ s64 x.sum ++
        e32 x.valid ++ e64 x.endTs ++ (x.sat.map e16).flatten))))) ∧
    (Takes cmdDelayGet s r →
      let rate := if rq r 2 1 = 255 then s.dev.getN pLaneRate c else rq r 2 1
      let x := xDelay rate (if rq r 1 1 = 255 then s.dev.firDelay c else presetDelay (rq r 1 1))
      let t := tDelay rate (presetDelay (if rq r 1 1 = 255 then s.dev.getN pChainPreset (8 + c) else rq r 1 1))
      exec (.delayGet r) s = .next (s.on (s.dev.respond r 0x0605 (okBody (e32 x ++ e32 t ++ e32 (x + t) ++ e32 (ticksNs (x + t)) ++ e32 (xPeriod rate)))))) ∧
    (∀ c m, let running := (c < 8 ∧ lacksChain s.dev c = false) ∨ c = 24
      (¬running → exec (.avgWindowEnd c m) s = .next s) ∧
      (running → c < s.dev.chains.length →
        let n := if s.dev.get pAvgWindow c = 0 then 4294967296 else s.dev.getN pAvgWindow c
        let st := if 18446744073709551616 ≤ m.sum then 4 else if m.valid * 2 < n then 2 else if m.clipped then 1 else 0
        ∃ e, exec (.avgWindowEnd c m) s = .next (s.on e) ∧ e.getN pAvgStatus c = st ∧ (e.chain c).sum = (min 18446744073709551615 m.sum : Nat) ∧
          (e.chain c).valid = m.valid ∧ (e.chain c).endTs = s.dev.ts - s.dev.chainDelay c ∧ (2 ≤ st → e.get pAvgPower c = -32768) ∧
          (st < 2 → m.valid ≠ 0 → e.get pAvgPower c = clampI (-32767) 32767 (Config.dB64 m.sum (m.valid * 2 ^ (22 + s.dev.getN pAvgShift c)))) ∧
          e.getN pGuardOvfCount c = (if st = 4 then inc32 (s.dev.getN pGuardOvfCount c) else s.dev.getN pGuardOvfCount c))) ∧
    (∀ c k v, let t := nth (s.dev.chain c).thr k
      let crosses := isChain c = true ∧ k < 4 ∧ lacksChain s.dev c = false ∧ t.wants v = true ∧ (t.qty = 2 → t.dwell ≤ t.count)
      (¬crosses → exec (.thresholdCrossed c k v) s = .next s) ∧
      (crosses → c < s.dev.chains.length → k < (s.dev.chain c).thr.length → ∃ e, exec (.thresholdCrossed c k v) s = .next (s.on e) ∧
        nth (e.chain c).thr k = { t with fired := !t.fired, count := 0 })) ∧
    (∀ c stage clips, isChain c = true → lacksChain s.dev c = false → stage < chainStages c → 0 < clips → c < s.dev.chains.length →
      stage < (s.dev.chain c).sat.length → ∃ e, exec (.chainSaturated c stage clips) s = .next (s.on e) ∧
        nth (e.chain c).sat stage = min 65535 (nth (s.dev.chain c).sat stage + clips) ∧
        (bit (s.dev.getN pSatFlags c) stage = true → e.colo = s.dev.colo ∧ e.par = s.dev.par) ∧
        (bit (s.dev.getN pSatFlags c) stage = false → e.getN pSatFlags c = s.dev.getN pSatFlags c + 2 ^ stage)) ∧
    (∀ c level, isChain c = true → lacksChain s.dev c = false → (chainKind c = 2 ∨ chainKind c = 6) →
      ((s.dev.chain c).stuck = true → exec (.chainInputStuck c level) s = .next s) ∧
      ((s.dev.chain c).stuck = false → exec (.chainInputStuck c level) s = .next (s.on
        (((s.dev.bump pInputStuckCount c).updChain c (fun x => { x with stuck := true })).chainEvent c 0x0683
          (e8 c ++ e8 level ++ zs 2 ++ e64 (s.dev.ts - 6291456))))) ∧
      ((s.dev.chain c).stuck = true → exec (.chainInputResume c) s = .next (s.on (s.dev.updChain c (fun x => { x with stuck := false })))) ∧
      ((s.dev.chain c).stuck = false → exec (.chainInputResume c) s = .next s))

/-- Opening a drover that is not open leaves it OPEN with its output unset, and MUTEs the convoy for D3 and D4; closing an
open one starts it at the present output, or at the next release's while the convoy is MUTE; of a barred drover, of
one already open (to open) or not open (to close) the answer is STATE. Coefficients need the drover OPEN: of a closed
one the answer is OPEN_REQUIRED. SUPERVISOR_SET takes its limit at once, answered from the journal. The two reports
answer with their layouts and change nothing. (11 Convoys: R356, R361, R362, R363, R364, R365, R366, R367, R368, Table
CV-3, Table CV-8.) -/
def Obligations.ConvoyCommands : Prop :=
  ∀ (s : State) (r : Request),
    let c := rq r 0 1
    let k := rq r 1 1
    let answered := fun (e : Dev) (op : Nat) (out : Int) =>
      e.host.outbox = s.dev.host.outbox ++ [answer r op (okBody (e8 c ++ e8 k ++ e8 (e.droverState c k) ++ eb (decide (c < 8) && e.laneMuted c) ++ s16 out))]
    (Takes cmdDroverOpen s r →
      (usesSlot c k = false → exec (.droverOpen r) s = .next (s.on (s.dev.respond r 0x0701 (fail .badArg)))) ∧
      (usesSlot c k = true → droverBarred s.dev c k = true ∨ s.dev.droverState c k = 2 →
        exec (.droverOpen r) s = .next (s.on (s.dev.respond r 0x0701 (fail .state)))) ∧
      (usesSlot c k = true → droverBarred s.dev c k = false → s.dev.droverState c k ≠ 2 → c < s.dev.convoys.length → k < (s.dev.convoy c).dr.length →
        ∃ e, exec (.droverOpen r) s = .next (s.on e) ∧ e.droverState c k = 2 ∧ (e.drover c k).u = none ∧
          e.get pDroverOutput (droverIx c k) = -32768 ∧ ((k = 3 ∨ k = 4) → c < 8 → e.laneMuted c = true) ∧ answered e 0x0701 (-32768))) ∧
    (Takes cmdDroverClose s r →
      (usesSlot c k = false → exec (.droverClose r) s = .next (s.on (s.dev.respond r 0x0702 (fail .badArg)))) ∧
      (usesSlot c k = true → droverBarred s.dev c k = true ∨ s.dev.droverState c k ≠ 2 →
        exec (.droverClose r) s = .next (s.on (s.dev.respond r 0x0702 (fail .state)))) ∧
      (usesSlot c k = true → droverBarred s.dev c k = false → s.dev.droverState c k = 2 → c < s.dev.convoys.length → k < (s.dev.convoy c).dr.length →
        let g := if c < 8 ∧ s.dev.laneMuted c = true then s.dev.gStart c else s.dev.get pConvoyOutput c
        ∃ e, exec (.droverClose r) s = .next (s.on e) ∧ e.droverState c k = 1 ∧ (e.drover c k).u = some (toQ c g) ∧
          e.get pDroverOutput (droverIx c k) = g ∧ answered e 0x0702 g)) ∧
    (Takes cmdDroverCoefSet s r →
      (droverBarred s.dev c k = true ∨ s.dev.droverState c k = 0 → exec (.droverCoefSet r) s = .next (s.on (s.dev.respond r 0x0703 (fail .state)))) ∧
      (droverBarred s.dev c k = false → s.dev.droverState c k = 1 → exec (.droverCoefSet r) s = .next (s.on (s.dev.respond r 0x0703 (fail .openRequired)))) ∧
      (droverBarred s.dev c k = false → s.dev.droverState c k ≠ 0 → s.dev.droverState c k ≠ 1 → (k ≠ 7 → c ≠ 9 → 0 ≤ rqS r 4 4 ∧ 0 ≤ rqS r 8 4 ∧ 0 ≤ rqS r 12 4) →
        (k = 5 → -640 ≤ rqS r 28 2 ∧ rqS r 28 2 ≤ 2400) → (k = 7 → s.dev.sourceOk c (rq r 30 1) = true) → exec (.droverCoefSet r) s = .next (s.on
        ((s.dev.updDrover c k (fun x => { x with
          kp := rqS r 4 4, ki := rqS r 8 4, kd := rqS r 12 4, tf := rqS r 16 4, kt := rqS r 20 4, rate := rq r 24 2, onMeasure := decide (rq r 2 1 = 1),
          setpoint := rqS r 28 2, srcChain := rq r 30 1, srcQty := rq r 31 1, srcThr := rq r 32 1 })).respond r 0x0703
          (okBody (e8 c ++ e8 k ++ zs 2 ++ e32 (s.dev.stepTime c k * 1000000 / 62914560))))))) ∧
    (Takes cmdSupervisorSet s r → s.dev.nvmBar = none → (if k = 255 then c < 8 else usesSlot c k = true) → exec (.supervisorSet r) s = .next (s.on
      ((if k = 255 then s.dev.setNv pStarveLimit c (rq r 4 4 : Nat) else s.dev.setNv pSupervisorLimit (droverIx c k) (rq r 4 4 : Nat)).holdBack r 0x0705
        (okBody r.body)))) ∧
    (Takes cmdConvoyStatusGet s r →
      let x := s.dev.convoy c
      let opt := fun (o : Option Int) => s16 (if c < 8 then o.getD (-32768) else -32768)
      exec (.convoyStatusGet r) s = .next (s.on (s.dev.respond r 0x0704 (okBody (e8 c ++ e8 (s.dev.getN pConvoyWinner c) ++
        e8 (flags [x.ramp.isSome && decide (c < 8), x.ladder.isSome, x.backoffEnd.isSome, decide (c < 8) && decide (s.dev.get pIsoState c = 4)]) ++
        e8 (flags ((List.range 8).map (fun k => decide (s.dev.droverState c k = 2)))) ++ s16 (s.dev.get pConvoyOutput c) ++ opt (x.ramp.map (fromQ c)) ++
        opt x.ladder ++ zs 2 ++ ((List.range 8).map (fun k => s16 (s.dev.get pDroverOutput (droverIx c k)))).flatten ++ e16 (s.dev.muteSources c) ++
        e8 (flags ((List.range 8).map (fun k => (nth x.dr k).satSince.isSome))) ++ zs 1 ++ e32 (min 4294967295 (toMs (s.dev.since x.winnerAt)))))))) ∧
    (Takes cmdIsolationGet s r →
      let i := (s.dev.convoy c).iso
      let eff := if i.running then s.dev.iEff c else s.dev.get pIsoIEff c
      let g := s.dev.get pConvoyOutput c
      exec (.isolationGet r) s = .next (s.on (s.dev.respond r 0x0706 (okBody (e8 c ++ e8 (s.dev.getN pIsoState c) ++ s16 (s.dev.get pIsoEstimate c) ++
        s16 eff ++ s16 (s.dev.get pIsoMargin c) ++ e32 (s.dev.getN pIsoLoopDelay c) ++
        e32 (match i.windowEnd with
          | some t => min 4294967295 (toMs (s.dev.since t))
          | none => 4294967295) ++
        e64 (match i.windowEnd with
          | some t => s.dev.ts - s.dev.since t
          | none => 0) ++
        s16 i.refPower ++ s16 (if g = -32768 then -32768 else clampI (-32767) 32767 (g - eff)))))))

/-- A sample of a convoy the part lacks does nothing. While a mute source holds, a lane convoy is MUTE after its sample.
With none, it is not, its output does not pass HOST_CEILING, and it does not pass the output of any closed loop drover
that stands in the rule (D6 not while its target is unconstrained). (11 Convoys: R343, R345, R346, R347, R350, Table
CV-1.) -/
def Obligations.ControlSampleTakesTheLowest : Prop :=
  ∀ (s : State) (c : Nat) (m : Readings),
    (10 ≤ c ∨ lacksLane s.dev c = true → exec (.controlSample c m) s = .next s) ∧
    (c < 10 → lacksLane s.dev c = false → c < s.dev.convoys.length → ∃ e, exec (.controlSample c m) s = .next (s.on e) ∧
      let d := s.dev.takeReadings c m
      (c < 8 → d.muteSources c ≠ 0 → e.laneMuted c = true ∧ (s.dev.laneMuted c = false → e.get pConvoyOutput c = -32768)) ∧
      (d.muteSources c = 0 → (c < 8 → e.laneMuted c = false) ∧ e.get pConvoyOutput c ≤ s.dev.get pHostCeiling c ∧
        (∀ k, 2 ≤ k → k ≤ 7 → s.dev.droverState c k = 1 → ¬(k = 6 ∧ s.dev.get pEnergyTarget c = 4294967295) → (e.drover c k).u ≠ none →
          e.get pConvoyOutput c ≤ e.get pDroverOutput (droverIx c k))))

/-- A and P_lim of a lane that does not transmit read 0 and unset, of one that does its part of the tenant's limit and the
lowest of its caps. A REMOTE value of 50 ms mutes a follower's lane; a limited, saturated or starved convoy is
reported once it has lasted. A window without a valid reference holds the estimate; a valid one puts it in force. A
detected oscillation mutes the path, climbs a rung and starts the back-off; its expiry ends it; 300 s without one
retire the ladder. (11 Convoys: R346, R352, R356, R357, R358, R359, R360, R361, Table CV-4, 14 Bridging: Table BP-4.) -/
def Obligations.ConvoyEventsAct : Prop :=
  ∀ s : State,
    (∃ e, exec .compositePowerUpdate s = .next (s.on e) ∧ SamePar [pCompositeAlloc, pPowerLimit] s.dev e ∧ { e with par := s.dev.par } = s.dev ∧
      (∀ l ∈ s.dev.laneIds,
        (s.dev.transmitsNow l = false → e.get pCompositeAlloc l = 0 ∧ e.get pPowerLimit l = -32768) ∧
        (s.dev.transmitsNow l = true →
          let k := s.dev.owner l
          let n := (s.dev.laneIds.filter (fun x => s.dev.owner x = k && s.dev.transmitsNow x)).length
          let part := s.dev.getN pCompositeTxLimit * s.dev.getN pShare (8 * k)
          let caps := min (s.dev.pMaxLast l) (Config.dB64 part (1000 * n))
          e.getN pCompositeAlloc l = part / 1000 / n ∧
          e.get pPowerLimit l = (if s.dev.get pEirpLimit l = -32768 then caps else min (s.dev.get pEirpLimit l) caps) -
            (if s.dev.get pTxpowerMode l = 1 then (s.dev.lane l).backoff else 0)))) ∧
    (∀ c, s.dev.isFollower = false ∨ (s.dev.convoy c).aged = true ∨ (s.dev.convoy c).remote = none ∨ s.dev.since (s.dev.convoy c).remoteAt < msU 50 →
      exec (.remoteAged c) s = .next s) ∧
    (∀ c, s.dev.isFollower = true → c < 8 → c < s.dev.convoys.length → (s.dev.convoy c).aged = false → (s.dev.convoy c).remote ≠ none →
      msU 50 ≤ s.dev.since (s.dev.convoy c).remoteAt → s.dev.laneBand c = none → ∃ e, exec (.remoteAged c) s = .next (s.on e) ∧
        (e.convoy c).aged = true ∧ e.laneMuted c = true) ∧
    (∀ c t, c < 8 → (s.dev.convoy c).limitedSince = some t → (s.dev.convoy c).limitedAt = none →
      (s.dev.since t < msU 100 → exec (.convoyLimited c) s = .next s) ∧
      (msU 100 ≤ s.dev.since t → exec (.convoyLimited c) s = .next (s.on ((s.dev.updConvoy c (fun x => { x with limitedAt := some s.dev.time })).raiseLane c 0x0784
        (e8 c ++ e8 (s.dev.getN pConvoyWinner c) ++ s16 (s.dev.get pConvoyOutput c) ++ s16 (s.dev.get pHostCeiling c)))))) ∧
    (∀ c k t, let lim := s.dev.getN pSupervisorLimit (droverIx c k)
      c < 10 → 2 ≤ k → k ≤ 7 → (s.dev.drover c k).satSince = some t →
      (lim = 0 ∨ (s.dev.drover c k).satReported = true ∨ s.dev.since t ≤ msU lim → exec (.droverSaturated c k) s = .next s) ∧
      (lim ≠ 0 → (s.dev.drover c k).satReported = false → msU lim < s.dev.since t → exec (.droverSaturated c k) s = .next (s.on
        ((s.dev.updDrover c k (fun r => { r with satReported := true })).convoyEvent c 0x0782
          (e8 c ++ e8 k ++ eb (s.dev.drover c k).satHigh ++ zs 1 ++ e32 (min 4294967295 (toMs (s.dev.since t)))))))) ∧
    (∀ c t, let lim := s.dev.getN pStarveLimit c
      let x := s.dev.convoy c
      c < 8 → x.starveSince = some t →
      (lim = 0 ∨ x.starveReported = true ∨ s.dev.since t ≤ msU lim → exec (.convoyStarved c) s = .next s) ∧
      (x.muted = true → s.dev.laneStarted c = true → lim ≠ 0 → x.starveReported = false → msU lim < s.dev.since t → exec (.convoyStarved c) s = .next (s.on
        ((s.dev.updConvoy c (fun x => { x with starveReported := true })).raiseLane c 0x0783
          (e8 c ++ zs 1 ++ e16 (s.dev.muteSources c) ++ e32 (min 4294967295 (toMs (s.dev.since t)))))))) ∧
    (∀ l pct ref est delay, let i := (s.dev.convoy l).iso
      (i.running = false → exec (.isolationWindow l pct ref est delay) s = .next s) ∧
      (i.running = true → i.fresh = true → l < 8 → l < s.dev.convoys.length →
        (pct < 50 ∨ ref < -3840 → i.heldSince = none → s.dev.get pIsoState l ≠ 4 → ∃ e, exec (.isolationWindow l pct ref est delay) s = .next (s.on e) ∧
          e.get pIsoState l = 3 ∧ (e.convoy l).iso.heldSince = some s.dev.time) ∧
        (∀ v, 50 ≤ pct → -3840 ≤ ref → est = some v → ∃ e, exec (.isolationWindow l pct ref est delay) s = .next (s.on e) ∧ e.get pIsoState l = 1 ∧
          e.get pIsoEstimate l = v ∧ e.getN pIsoLoopDelay l = min 64000 delay ∧ (e.convoy l).iso.last = some v))) ∧
    (∀ l crit, (s.dev.convoy l).iso.running = false ∨ s.dev.laneMuted l = true → exec (.oscillationDetected l crit) s = .next s) ∧
    (∀ l crit, l < 8 → l < s.dev.convoys.length → (s.dev.convoy l).iso.running = true → s.dev.laneMuted l = false → s.dev.laneBand l = none →
      let n := s.dev.getN pOscRung l + 1
      let ladder := s.dev.get pConvoyOutput l - 384 * (n : Int)
      let spent := ladder < -640 ∨ 15 < n
      ∃ e, exec (.oscillationDetected l crit) s = .next (s.on e) ∧ e.laneMuted l = true ∧ e.getN pOscRung l = min 15 n ∧
        e.getN pOscCount l = inc32 (s.dev.getN pOscCount l) ∧ (e.convoy l).ladder = some ladder ∧ (spent → (e.convoy l).exhausted = true) ∧
        (e.convoy l).backoffEnd = (if spent then none else some (s.dev.time + secU (min (2 ^ n) 64)))) ∧
    (∀ l t, (s.dev.convoy l).backoffEnd = some t →
      (s.dev.time < t → exec (.oscBackoffExpiry l) s = .next s) ∧
      (t ≤ s.dev.time →
        let d := s.dev.updConvoy l (fun x => { x with backoffEnd := none })
        exec (.oscBackoffExpiry l) s = .next (s.on (match s.dev.laneBand l with
          | some b => d.clearLanes b 1 [l]
          | none => d)))) ∧
    (∀ l t, l < 8 → (s.dev.convoy l).oscAt = some t →
      (s.dev.since t < secU 300 → exec (.oscLadderReset l) s = .next s) ∧
      (secU 300 ≤ s.dev.since t → exec (.oscLadderReset l) s = .next (s.on (((s.dev.updConvoy l (fun x => { x with oscAt := none, ladder := none })).set
        pOscRung l 0).raiseLane l 0x0786 (e8 l ++ e8 (s.dev.getN pOscRung l))))))

/-! ### 12 The reference clock -/

/-- REF_CONFIG, CLOCK_BW_SET and WALLTIME_SET are answered from the journal and act at once; a bandwidth above the
reference's highest, or an acquisition code below the tracking code, is BAD_ARG; wall time is STATE while GNSS or LINK
drives it and WOULD_EXCEED past the forward limit without force. STEER_SET is STATE at a follower; SOFTWARE drops the
selected and the forced reference and drives the word to the value. REF_FORCE needs a QUALIFIED reference, LINK only
at a follower. REF_STATUS_GET reports and changes nothing. (12 Reference clock: R379, R380, R382, R393, R399, R400,
R401, Table RC-1, Table RC-6, Table RC-7, 04 Command model: R145.) -/
def Obligations.ClockCommands : Prop :=
  ∀ (s : State) (r : Request),
    let k := rq r 0 1
    let stored := fun (e : Dev) (op : Nat) (b : List Byte) => (e.nvm.queue.getLast?).map (fun q => q.act) = some (.respond r.slot r.ref r.tagged op (okBody b))
    (Takes cmdRefConfig s r → s.dev.nvmBar = none → (k = 2 → rq r 8 1 < 8 → s.dev.owner (rq r 8 1) = 0) →
      ∃ e, exec (.refConfig r) s = .next (s.on e) ∧ e.getN pRefEnable k = rq r 1 1 ∧ e.getN pRefPriority k = rq r 2 1 ∧ e.getN pRefQualTime k = rq r 4 4 ∧
        (k ≠ 1 → e.getN pRefQl k = rq r 3 1) ∧ (k = 3 → e.getN pExtMode = rq r 8 1) ∧
        (k = 2 → e.getN pCellSource = rq r 8 1 ∧ e.getN pCellFreq = rq r 12 8) ∧
        SamePar [pRefEnable, pRefPriority, pRefQualTime, pRefQl, pExtMode, pCellSource, pCellFreq] s.dev e ∧
        stored e 0x0801 (e8 k ++ e8 (s.dev.ref k).state.code ++ zs 2)) ∧
    (Takes cmdRefStatusGet s r →
      let x := s.dev.ref k
      exec (.refStatusGet r) s = .next (s.on (s.dev.respond r 0x0802 (okBody (e8 k ++ e8 x.state.code ++ e8 (s.dev.refLevel k) ++
        e8 (flags [decide (s.dev.clk.selected = some k), decide (s.dev.clk.forced = some k), !qlEligible (s.dev.refLevel k), decide (k = 3) && s.dev.extPps]) ++
        s32 (if x.state = .absent then 0 else x.offset) ++ s32 (if k = 2 then 0 else clampI (-2147483648) 2147483647 x.phase) ++
        e32 (s.dev.refRemaining k) ++ e32 x.failCount ++ e8 x.lastCause ++ zs 3 ++ e64 x.lastFail))))) ∧
    (Takes cmdClockBwSet s r →
      let tr := rq r 1 1
      let ac := rq r 2 1
      (s.dev.refTopCode k < ac ∨ ac < tr → exec (.clockBwSet r) s = .next (s.on (s.dev.respond r 0x0803 (fail .badArg)))) ∧
      (ac ≤ s.dev.refTopCode k → tr ≤ ac → s.dev.nvmBar = none → exec (.clockBwSet r) s = .next (s.on
        ((if k = 3 ∧ s.dev.extPps = true then ({ s.dev with clk := { s.dev.clk with ppsCodes := (tr, ac) } } : Dev)
          else { s.dev with clk := { s.dev.clk with codes := upd s.dev.clk.codes k (fun _ => (tr, ac)) } }).holdBack r 0x0803 (okBody r.body))))) ∧
    (Takes cmdSteerSet s r →
      (s.dev.isFollower = true → exec (.steerSet r) s = .next (s.on (s.dev.respond r 0x0804 (fail .state)))) ∧
      (s.dev.isFollower = false → k = 1 → ∃ e, exec (.steerSet r) s = .next (s.on e) ∧ e.get pSteerMode = 1 ∧ e.clk.target = rqS r 4 4 ∧ e.clk.selected = none ∧
        e.clk.forced = none ∧ e.clk.state = (if s.dev.clk.state = .lost then .lost else .freeRun) ∧
        e.host.outbox = s.dev.host.outbox ++ [answer r 0x0804 (okBody (e8 1 ++ zs 3 ++ s32 (rqS r 4 4)))]) ∧
      (s.dev.isFollower = false → k = 0 →
        let target := if s.dev.get pSteerMode = 1 then s.dev.freeWord else s.dev.clk.target
        exec (.steerSet r) s = .next (s.on (({ s.dev.set pSteerMode 0 0 with clk := { s.dev.clk with target := target } } : Dev).respond r 0x0804
          (okBody (e8 0 ++ zs 3 ++ s32 target)))))) ∧
    (Takes cmdWalltimeSet s r →
      let w := rq r 0 4
      let driven := s.dev.get pWallSource = 1 ∨ s.dev.get pWallSource = 2
      let past := s.dev.highWater + s.dev.getN pWallFwdLimit < w ∧ rq r 4 1 = 0
      (driven → exec (.walltimeSet r) s = .next (s.on (s.dev.respond r 0x0805 (fail .state)))) ∧
      (¬driven → past → exec (.walltimeSet r) s = .next (s.on (s.dev.respond r 0x0805 (fail .wouldExceed)))) ∧
      (¬driven → ¬past → s.dev.nvmBar = none → ∃ e, exec (.walltimeSet r) s = .next (s.on e) ∧ e.get pWallSource = 3 ∧ e.clk.wallSet = true ∧
        e.clk.anchorWall = w ∧ e.clk.anchorTkc = (if rq r 8 8 = 0 then s.dev.tkc else rq r 8 8) ∧ e.clk.unc = 1000 ∧ SamePar (pWallSource :: lossIds) s.dev e)) ∧
    (Takes cmdRefForce s r →
      (k = 1 → s.dev.isFollower = false → exec (.refForce r) s = .next (s.on (s.dev.respond r 0x0806 (fail .badArg)))) ∧
      (k < 4 → (k = 1 → s.dev.isFollower = true) → (s.dev.ref k).state ≠ .qualified → exec (.refForce r) s = .next (s.on (s.dev.respond r 0x0806 (fail .state)))) ∧
      ((k = 1 → s.dev.isFollower = true) → (k < 4 → (s.dev.ref k).state = .qualified) → exec (.refForce r) s = .next (s.on
        (({ s.dev with clk := { s.dev.clk with forced := if k = 255 then none else some k } } : Dev).respond r 0x0806
          (okBody (e8 (s.dev.clk.selected.getD 255) ++ e8 k))))))

/-- Before READY a selection step only ramps the word; later a free unit with one qualified reference of an eligible level
selects it, counts the switch and acquires. A reference fails after HOLD_OFF, qualifies after its time (through
WAIT_TO_RESTORE once it has failed), and leaves FAILED after the window. Ten time constants in the window declare
LOCKED, 1 s beyond four windows loses it; holdover ends in FREE_RUN; LOST drops the reference and holds CLK_REF_OUT
low, and ends after 100 ms. Edges and sentences are taken; the tables are saved. Trigger 8 of the bands follows the
clock. (12 Reference clock: R371, R375, R376, R377, R378, R379, R381, R383, R384, R385, R388, R395.) -/
def Obligations.ClockFollowsReferences : Prop :=
  ∀ s : State,
    let c := s.dev.clk
    (∀ delta, s.dev.pwr.phase ≠ .ready → exec (.selectionStep delta) s = .next (s.on s.dev.rampWord.clockTrigger)) ∧
    (∀ delta, s.dev.pwr.phase = .ready → (∀ i, i < 4 → s.dev.refEnabled i = false ∧ (s.dev.ref i).state = .disabled) → c.selected = none →
      c.forced = none → exec (.selectionStep delta) s = .next (s.on ((s.dev.set pSubsysUp 0 (s.dev.getN pSubsysUp ||| 64 : Nat)).rampWord.clockTrigger))) ∧
    (∀ delta i, i < 4 → s.dev.pwr.phase = .ready → (∀ j, j < 4 → j ≠ i → s.dev.refEnabled j = false ∧ (s.dev.ref j).state = .disabled) →
      s.dev.refEnabled i = true → (s.dev.ref i).state = .qualified → s.dev.refSignal i = true → s.dev.refOffsetOk i = true →
      qlEligible (s.dev.refLevel i) = true → c.selected = none → c.forced = none → c.state = .freeRun → s.dev.get pSteerMode = 0 → s.dev.bandIds = [] →
      ∃ e, exec (.selectionStep delta) s = .next (s.on e) ∧ e.clk.selected = some i ∧ e.clk.state = .acquiring ∧ e.get pSelectedRef = i ∧
        e.getN pSwitchCount = inc32 (s.dev.getN pSwitchCount)) ∧
    (∀ i, c.selected = some i →
      ((s.dev.ref i).state ≠ .holdOff ∨ s.dev.since (s.dev.ref i).since < usU (s.dev.getN pHoldOff) → exec .holdOffExpiry s = .next s) ∧
      ((s.dev.ref i).state = .holdOff → usU (s.dev.getN pHoldOff) ≤ s.dev.since (s.dev.ref i).since → i < c.refs.length →
        ∃ e, exec .holdOffExpiry s = .next (s.on e) ∧ (e.ref i).state = .failed ∧ (e.ref i).failCount = inc32 (s.dev.ref i).failCount)) ∧
    (c.selected = none → exec .holdOffExpiry s = .next s) ∧
    (∀ i, let good := s.dev.refSignal i = true ∧ s.dev.refOffsetOk i = true ∧ qlEligible (s.dev.refLevel i) = true
      (s.dev.pwr.phase ≠ .ready ∨ ¬good → exec (.refQualified i) s = .next s) ∧
      (s.dev.pwr.phase = .ready → good → i < c.refs.length → (s.dev.ref i).state = .qualifying →
        usU (s.dev.getN pRefQualTime i) ≤ s.dev.since (s.dev.ref i).since → ∃ e, exec (.refQualified i) s = .next (s.on e) ∧
          (e.ref i).state = (if (s.dev.ref i).failedEver then .waitToRestore else .qualified) ∧ (e.ref i).since = s.dev.time) ∧
      (s.dev.pwr.phase = .ready → good → i < c.refs.length → (s.dev.ref i).state = .waitToRestore →
        secU (s.dev.getN pWaitToRestore) ≤ s.dev.since (s.dev.ref i).since → ∃ e, exec (.refQualified i) s = .next (s.on e) ∧ (e.ref i).state = .qualified)) ∧
    (∀ i, let due := (s.dev.ref i).state = .failed ∧ secU (s.dev.getN pHoldoverWindow) ≤ s.dev.since (s.dev.ref i).failedAt
      (¬due → exec (.failedWindowExpiry i) s = .next s) ∧
      (due → exec (.failedWindowExpiry i) s = .next (s.on (s.dev.updRef i (fun r => { r with state := .absent, since := s.dev.time }))))) ∧
    (∀ i t, c.state = .acquiring → c.selected = some i → c.inWindow = some t → (s.dev.ref i).state = .qualified →
      max (usU (tenTauUs (s.dev.refCodes i).2)) (msU 100) ≤ s.dev.since t → exec .lockDeclared s = .next (s.on
        ((({ s.dev with clk := { c with target := c.word, outWindow := none } } : Dev).setClock .locked 0).clockTrigger))) ∧
    (c.state ≠ .acquiring → exec .lockDeclared s = .next (s.on s.dev.clockTrigger)) ∧
    (∀ t, c.state = .locked → c.outWindow = some t → secU 1 ≤ s.dev.since t → exec .lockLost s = .next (s.on
      ((({ s.dev with clk := { c with inWindow := none, outWindow := none } } : Dev).setClock .acquiring 6).clockTrigger))) ∧
    (c.state = .holdover → secU (s.dev.getN pHoldoverWindow) ≤ s.dev.since c.failTime → s.dev.bandIds = [] → ∃ e, exec .holdoverExpired s = .next (s.on e) ∧
      e.clk.state = .freeRun ∧ e.clk.selected = none ∧ e.get pClockState = 0) ∧
    (exec .freeRunUpdate s = .next (s.on (if c.state = .freeRun ∧ s.dev.get pSteerMode = 0 then { s.dev with clk := { c with target := s.dev.freeWord } } else s.dev))) ∧
    (∀ i t, c.state = .locked → c.selected = some i → c.lockedSince = some t → qlRank (s.dev.refLevel i) ≤ 2 → secU 60 ≤ s.dev.since t →
      secU 60 ≤ s.dev.since c.lastLearn → xoBin s.dev.xoTemp < c.xo.length → ∃ e, exec .xoTableLearn s = .next (s.on e) ∧ e.clk.lastLearn = s.dev.time ∧
        nth e.clk.xo (xoBin s.dev.xoTemp) = some (xoValue c.xo s.dev.xoTemp + (c.word - s.dev.factory.steer - xoValue c.xo s.dev.xoTemp) / 16)) ∧
    (∃ e, exec .xoTableJournal s = .next (s.on e) ∧ e.clk = { c with xoSaved := c.xo } ∧
      (e.nvm.queue.getLast?).map (fun x => (x.typ, x.pages, x.hostWrite)) = some (0x0801, 2, false)) ∧
    (∀ cause, s.dev.bandIds = [] → c.state ≠ .lost → ∃ e, exec (.clockLost cause) s = .next (s.on e) ∧ e.clk.state = .lost ∧ e.clk.selected = none ∧
      e.clk.target = c.word ∧ e.get pOutputQl = 15 ∧ e.pins.clkRefOut = false ∧ e.host.devIrq = s.dev.host.devIrq ||| 2) ∧
    (s.dev.bandIds = [] → c.state ≠ .lost → exec .lostExit s = .next s) ∧
    (s.dev.bandIds = [] → c.state = .lost →
      (c.lostClear = none → exec .lostExit s = .next (s.on { s.dev with clk := { c with lostClear := some s.dev.time } })) ∧
      (∀ t, c.lostClear = some t → msU 100 ≤ s.dev.since t → ∃ e, exec .lostExit s = .next (s.on e) ∧ e.clk.state = .freeRun ∧
        e.pins.clkRefOut = s.dev.getB pClkRefOutEn)) ∧
    (∀ offset phase, c.selected ≠ some 0 → c.waiting = none → exec (.gnssPpsEdge offset phase) s = .next (s.on
      ((s.dev.updRef 0 (fun r => { r with lastEdge := some s.dev.time, offset := offset, phase := phase, signal := true })).updClk
        (fun k => { k with labelled := false })))) ∧
    (∀ label s60 size, s.dev.pwr.phase = .ready → exec (.nmeaSentence label s60 true size) s = .next (s.on
      { s.dev with clk := { c with lastSentence := some s.dev.time, statusV := true } })) ∧
    (∀ label s60 v size, s.dev.pwr.phase ≠ .ready → s.dev.host.readable = true → s.dev.pwr.gnssBytes + size ≤ 4096 → ∃ e,
      exec (.nmeaSentence label s60 v size) s = .next (s.on e) ∧ e.pwr.gnssBuffer = s.dev.pwr.gnssBuffer ++ [(label, s60, v)] ∧
        e.pwr.gnssBytes = s.dev.pwr.gnssBytes + size ∧ e.getN pGnssEarlyOverflow = min 4294967295 (s.dev.getN pGnssEarlyOverflow)) ∧
    (∃ e, exec .wallHighWaterSave s = .next (s.on e) ∧ e.ao.wallHw = s.dev.highWater ∧ s.dev.highWater ≤ e.getN pWallHighWater ∧
      (e.nvm.queue.getLast?).map (fun x => (x.typ, x.pages, x.hostWrite)) = some (0x081B, 1, false)) ∧
    (∀ pps offset phase, exec (.extRefUpdate pps false offset phase) s = .next (s.on (s.dev.updRef 3 (fun r => { r with pps := pps, signal := false })))) ∧
    (∀ pps offset phase, c.selected ≠ some 3 → exec (.extRefUpdate pps true offset phase) s = .next (s.on
      (s.dev.updRef 3 (fun r => { r with pps := pps, lastEdge := some s.dev.time, offset := offset, phase := phase, signal := true }))))

/-! ### 13 The Caravan link -/

/-- LINK_CONFIG is BAD_ARG for FEC at 10G and STATE on a port in use, else in force and answered from the journal.
CHAIN_JOIN as head makes the unit head of a new chain and completes at once; as follower it sends JOIN_REQ.
CHAIN_LEAVE gives membership up and completes. The head takes a new member whose proof holds and refuses another; the
joiner judges the answer; 2 s without one end the join; a leaving member is released. A medium test runs on a free
port, ends after its time and keeps its result. LINK_STATUS_GET and LINK_TEST_RESULT report. (13 Caravan link: R405,
R406, R417, R418, R419, R420, R428, R429, R432, R433, Table CL-8, Table CL-9.) -/
def Obligations.LinkCommandsAndMembership : Prop :=
  (∀ (s : State) (r : Request),
    let p := rq r 0 1
    (Takes cmdLinkConfig s r →
      (rq r 2 1 = 1 → rq r 1 1 = 1 → exec (.linkConfig r) s = .next (s.on (s.dev.respond r 0x0901 (fail .badArg)))) ∧
      (¬(rq r 2 1 = 1 ∧ rq r 1 1 = 1) → s.dev.portBridging p = true → exec (.linkConfig r) s = .next (s.on (s.dev.respond r 0x0901 (fail .state)))) ∧
      (¬(rq r 2 1 = 1 ∧ rq r 1 1 = 1) → s.dev.portBridging p = false → s.dev.nvmBar = none → (s.dev.port p).accepted = false →
        ∃ e, exec (.linkConfig r) s = .next (s.on e) ∧ e.getN pLinkRateCfg p = rq r 1 1 ∧ e.getN pLinkFec p = rq r 2 1 ∧ e.get pFibreAsymmetry p = rqS r 4 4 ∧
          e.getN pFibrePsPerM p = rq r 8 2 ∧ SamePar [pLinkRateCfg, pLinkFec, pFibreAsymmetry, pFibrePsPerM] s.dev e ∧
          (e.nvm.queue.getLast?).map (fun q => q.act) = some (.respond r.slot r.ref r.tagged 0x0901
            (okBody (e8 p ++ e8 (s.dev.getN pPortState p) ++ e8 (s.dev.getN pLinkRate p) ++ zs 1))))) ∧
    (Takes cmdLinkStatusGet s r →
      let x := s.dev.port p
      let diag := x.accepted && bit (fld x.ident 92 1) 6
      let live := fun k => if diag then e16 ((Config.analogue s.dev.free k).natAbs % 65536) else e16 0
      let rtt := s.dev.getN pHopRtt p
      exec (.linkStatusGet r) s = .next (s.on (({ s.dev with free := if diag then s.dev.free + 1 else s.dev.free } : Dev).respond r 0x0902
        (okBody (e8 p ++ e8 (s.dev.getN pPortState p) ++ e8 (s.dev.getN pLinkRate p) ++ e8 (flags [s.dev.fecOn p, x.module, x.los, diag, x.joined]) ++
          e8 (if x.joined then x.peer.getD 255 else 255) ++ zs 3 ++ e32 rtt ++ e32 (s.dev.getN pHopDelayDown p) ++ e32 (s.dev.getN pHopDelayUp p) ++
          e32 (s.dev.getN pBalesMissed p) ++ live 0 ++ live 1 ++ live 2 ++ live 3 ++ live 4 ++ zs 2 ++
          e32 (if rtt = 4294967295 then 4294967295 else s.dev.mediumLength p (s.dev.getN pHopDelayDown p + s.dev.getN pHopDelayUp p))))))) ∧
    (Takes cmdChainJoin s r →
      (s.dev.link.joining.isSome = true → exec (.chainJoin r) s = .next (s.on (s.dev.respond r 0x0903 (fail .state)))) ∧
      (s.dev.link.joining = none → p = 1 → s.dev.get pChainRole ≠ 0 → exec (.chainJoin r) s = .next (s.on (s.dev.respond r 0x0903 (fail .state)))) ∧
      (s.dev.link.joining = none → p = 1 → s.dev.get pChainRole = 0 → s.dev.get pTopology = 0 → s.dev.get pUnitNumber = 0 → s.dev.get pUnitCount = 1 →
        s.dev.nvmBar = none → s.dev.longOf r.slot r.ref = none → r.slot < 8 →
        let id := max 1 (leNat (s.dev.draw 4).1)
        ∃ e, exec (.chainJoin r) s = .next (s.on e) ∧ e.get pChainRole = 1 ∧ e.getN pChainId = id ∧ e.get pChainMembers = 1 ∧ e.link.secret = some r.blk ∧
          e.link.format = s.dev.getN pIqFormat ∧ e.host.longs = s.dev.host.longs ∧
          (e.host.outbox.drop s.dev.host.outbox.length).map (fun o => (o.kind, o.reply)) =
            [(.response, accepted 2500), (.completion, okBody (e8 0 ++ e8 1 ++ e8 1 ++ e8 (s.dev.getN pIqFormat) ++ e32 id))]) ∧
      (s.dev.link.joining = none → p = 2 → (s.dev.get pChainRole = 1 ∨ (s.dev.isFollower = true ∧ (s.dev.port 0).joined = true) ∨ s.dev.portUp 0 = false) →
        exec (.chainJoin r) s = .next (s.on (s.dev.respond r 0x0903 (fail .state)))) ∧
      (s.dev.link.joining = none → p = 2 → s.dev.get pChainRole ≠ 1 → (s.dev.isFollower = true → (s.dev.port 0).joined = false) → s.dev.portUp 0 = true →
        s.dev.nvmBar = none → exec (.chainJoin r) s = .next (s.on
          ((s.dev.sendJoin (some (r.slot, r.ref)) r.blk (if s.dev.isFollower then s.dev.getN pUnitNumber else 255)).accept r 0x0903 2500)))) ∧
    (Takes cmdChainLeave s r →
      let stays := s.dev.get pChainRole = 0 ∨ s.dev.anyBridging = true ∨ s.dev.belowJoined = true
      (stays → exec (.chainLeave r) s = .next (s.on (s.dev.respond r 0x0904 (fail .state)))) ∧
      (¬stays → s.dev.nvmBar = none → s.dev.longOf r.slot r.ref = none → r.slot < 8 → ∃ e, exec (.chainLeave r) s = .next (s.on e) ∧ e.get pChainRole = 0 ∧
        e.get pChainId = 0 ∧ e.get pChainMembers = 0 ∧ e.get pUnitNumber = 0 ∧ e.get pUnitCount = 1 ∧ e.link.secret = none ∧ e.clk.aligned = false ∧
        (e.host.outbox.drop s.dev.host.outbox.length).map (fun o => (o.kind, o.reply)) =
          [(.response, accepted 100), (.completion, okBody (e8 (s.dev.getN pUnitNumber)))])) ∧
    (Takes cmdLinkTestStart s r →
      let ms := rq r 4 4
      let barred := s.dev.portBridging p = true ∨ s.dev.portUp p = false ∨ (s.dev.port p).test.isSome = true
      (barred → exec (.linkTestStart r) s = .next (s.on (s.dev.respond r 0x0905 (fail .state)))) ∧
      (∀ rep, ¬barred → s.dev.startJob r.slot (rq r 2 2) (s.dev.linkTestJob r.body) = .error rep → rep.blk = [] → rep.status ≠ .ok → rep.status ≠ .accepted →
        exec (.linkTestStart r) s = .next (s.on (s.dev.respond r 0x0905 rep))) ∧
      (∀ j d1, ¬barred → s.dev.startJob r.slot (rq r 2 2) (s.dev.linkTestJob r.body) = .ok (j, d1) → r.slot < 8 → p < s.dev.link.ports.length →
        ∃ e, exec (.linkTestStart r) s = .next (s.on e) ∧ e.host.outbox = s.dev.host.outbox ++ [answer r 0x0905 (accepted (ms + 500))] ∧
          (e.port p).test = some { slot := r.slot, ref := r.ref, job := j, mode := rq r 1 1, duration := ms, since := s.dev.time, running := decide (rq r 1 1 = 1) } ∧
          (rq r 1 1 = 1 → e.get pPortState p = 4))) ∧
    (Takes cmdLinkTestResult s r → exec (.linkTestResult r) s = .next (s.on (s.dev.respond r 0x0906 (match (s.dev.port p).result with
      | some b => okBody b
      | none => fail .state))))) ∧
  (∀ (s : State) (port : Nat) (body : List Byte),
    (s.dev.isFollower = true → exec (.joinReq port body) s = .next (s.on (if (s.dev.port 0).joined then s.dev.sendUp 11 body else s.dev))) ∧
    (∀ secret, s.dev.get pChainRole = 1 → s.dev.link.secret = some secret → body.length = 36 →
      let serial := slice body 0 16
      let nonce := slice body 20 8
      let ackBody := fun (e : Dev) (result number : Nat) => serial ++ e8 result ++ e8 number ++ e8 e.memberCount ++ e8 e.link.format ++
        e32 (e.getN pChainId) ++ joinAckProof secret serial nonce result number (e.getN pChainId)
      let answered := fun (e : Dev) (result number : Nat) => e.send { port := port, typ := 12, body := ackBody e result number }
      (joinReqProof secret serial nonce (fld body 18 1) ≠ slice body 28 8 → exec (.joinReq port body) s = .next (s.on
        (answered (s.dev.raiseDev 0x0984 (e8 1 ++ e8 port ++ zs 2 ++ serial.take 8)) 1 0))) ∧
      (∀ u, joinReqProof secret serial nonce 255 = slice body 28 8 → fld body 18 1 = 255 → s.dev.bandIds = [] → 1 ≤ u → u ≤ 7 →
        u < s.dev.link.members.length → s.dev.member u = none → (∀ k, 1 ≤ k → k < u → s.dev.member k ≠ none) →
        (∀ k m, 1 ≤ k → k ≤ 7 → s.dev.member k = some m → m.serial ≠ serial) →
        ∃ e, exec (.joinReq port body) s = .next (s.on e) ∧ e.member u = some { serial := serial, port := port, heard := s.dev.time } ∧
          e.getN pChainMembers = s.dev.getN pChainMembers ||| 2 ^ u ∧ (port < s.dev.link.ports.length → (e.port port).joined = true))) ∧
    (body.length ≠ 32 ∨ (slice body 0 16 = s.dev.factory.serial ∧ s.dev.link.joining = none) → exec (.joinAck body) s = .next s) ∧
    (∀ j, body.length = 32 → slice body 0 16 = s.dev.factory.serial → s.dev.link.joining = some j →
      let result := fld body 16 1
      let number := fld body 17 1
      let proven := joinAckProof j.secret s.dev.factory.serial j.nonce result number (fld body 20 4) = slice body 24 8
      (¬proven → exec (.joinAck body) s = .next (s.on (s.dev.endJoining .denied))) ∧
      (proven → result = 2 → exec (.joinAck body) s = .next (s.on (s.dev.endJoining .wouldExceed))) ∧
      (proven → result ≠ 0 → result ≠ 2 → exec (.joinAck body) s = .next (s.on (s.dev.endJoining .denied))) ∧
      (proven → result = 0 → 1 ≤ number → number ≤ 7 → (s.dev.port 0).hopAt = none → exec (.joinAck body) s = .next (s.on { s.dev with
        link := { s.dev.link with joining := some { j with ack := some body } } })) ∧
      (proven → result = 0 → 1 ≤ number → number ≤ 7 → (s.dev.port 0).hopAt ≠ none → s.dev.bandIds = [] → j.host = none → 0 < s.dev.link.ports.length →
        ∃ e, exec (.joinAck body) s = .next (s.on e) ∧ e.get pChainRole = 2 ∧ e.getN pChainId = fld body 20 4 ∧ e.getN pUnitNumber = number ∧
          e.link.secret = some j.secret ∧ e.link.format = fld body 19 1 ∧ e.link.joining = none ∧ e.clk.aligned = true ∧ (e.port 0).joined = true)) ∧
    (s.dev.link.joining = none → exec .joinAckTimeout s = .next s) ∧
    (∀ j, s.dev.link.joining = some j → exec .joinAckTimeout s = .next (s.on (if s.dev.since j.since < msU 2000 then s.dev else s.dev.endJoining .state))) ∧
    (s.dev.get pChainRole = 0 ∨ fld body 4 4 ≠ s.dev.getN pChainId → exec (.leaveMessage body) s = .next s) ∧
    (let u := fld body 0 1
     s.dev.get pChainRole = 1 → 1 ≤ u → u ≤ 7 → fld body 4 4 = s.dev.getN pChainId → bit (s.dev.getN pChainMembers) u = true → s.dev.bandIds = [] →
     ∃ e, exec (.leaveMessage body) s = .next (s.on e) ∧ e.member u = none ∧ e.getN pChainMembers = s.dev.getN pChainMembers - 2 ^ u) ∧
    (s.dev.portUp port = false → exec (.testMessage port body) s = .next s) ∧
    (s.dev.portUp port = true → fld body 0 1 = 0 → s.dev.portBridging port = false → (s.dev.port port).test = none → port < s.dev.link.ports.length →
      ∃ e, exec (.testMessage port body) s = .next (s.on e) ∧ e.get pPortState port = 4 ∧
        (e.port port).test = some { duration := fld body 4 4, since := s.dev.time, running := true })) ∧
  (∀ (s : State) (p bits errors rtt : Nat) (locked : Bool) (t : LinkTest), (s.dev.port p).test = some t → p < 2 → p < s.dev.link.ports.length →
    (t.running = false ∨ s.dev.since t.since < msU t.duration → exec (.linkTestEnd p bits errors rtt locked) s = .next s) ∧
    (t.running = true → msU t.duration ≤ s.dev.since t.since → t.job = 65535 → ∃ e, exec (.linkTestEnd p bits errors rtt locked) s = .next (s.on e) ∧
      e.get pPortState p = 3 ∧ (e.port p).test = none ∧ (e.port p).result.isSome = true))

/-- A module is identified, accepted or refused, with TX_DISABLE; a training port comes UP with its first valid bale, and
a loss takes it down, counted. A good bale clears the run of missed ones, a bad one counts. PROBE, its reply and DELAY
carry the hop's figures, and 50 ms without one void them; a deferred step waits for the burst's end. CLOCK, STATUS and
DELAY_FIG go up and down and are kept. A silent member is reported, a saturated sum backs off by 3 dB and recovers by
1 dB a second. (13 Caravan link: R405, R407, R410, R414, R415, R421, R422, R423, R427, R435, R436, R437.) -/
def Obligations.LinkTrainsMeasuresAndReports : Prop :=
  ∀ (s : State) (p : Nat), p < 2 → p < s.dev.link.ports.length →
    let x := s.dev.port p
    (∀ a, s.dev.hasPort p = false → exec (.sfpModuleIdentify p a) s = .next s) ∧
    (s.dev.hasPort p = true → x.module = false → exec (.sfpModuleIdentify p none) s = .next s) ∧
    (∀ a, s.dev.hasPort p = true → s.dev.get pPortState p ≠ 3 → s.dev.get pPortState p ≠ 4 → s.dev.pwr.phase ≠ .ready →
      ∃ e, exec (.sfpModuleIdentify p (some a)) s = .next (s.on e) ∧ (e.port p).module = true ∧ (e.port p).accepted = s.dev.moduleOk p a ∧
        (e.port p).refused = !s.dev.moduleOk p a ∧ (e.port p).ident = a ∧ (p < s.dev.pins.txDisable.length → nth e.pins.txDisable p = true) ∧
        e.getN pLinkRate p = (if s.dev.moduleOk p a then s.dev.rateFor p a else 0) ∧ e.get pPortState p = (if s.dev.moduleOk p a then 1 else 5)) ∧
    (∀ n u tag, s.dev.hasPort p = false ∨ s.dev.get pPortState p ≠ 2 → exec (.portUp p n u tag) s = .next s) ∧
    (∀ n u tag, s.dev.hasPort p = true → s.dev.get pPortState p = 2 → s.dev.bandIds = [] → s.dev.link.secret = none →
      ∃ e, exec (.portUp p n u tag) s = .next (s.on e) ∧ e.get pPortState p = 3 ∧ (e.port p).baleCount = some (n % 4096) ∧ (e.port p).missRun = 0 ∧
        (e.port p).joined = false ∧ (e.port p).waybillAt = s.dev.time ∧ e.getN pLinkBudget p = s.dev.iqBudget p) ∧
    (∀ cause, s.dev.hasPort p = true → cause ≤ 5 → cause ≠ 2 → s.dev.get pPortState p ≠ 3 → s.dev.get pPortState p ≠ 4 → exec (.linkLoss p cause) s = .next s) ∧
    (∀ cause, s.dev.hasPort p = true → cause ≤ 5 → s.dev.get pPortState p = 3 → x.test = none → s.dev.get pChainRole = 0 → s.dev.link.joining = none →
      ∃ e, exec (.linkLoss p cause) s = .next (s.on e) ∧ e.get pPortState p ≠ 3 ∧ e.get pLinkBudget p = 0 ∧ (e.port p).joined = false ∧
        (e.port p).downSince = some s.dev.time ∧ e.getN pLinkDownCount p = inc32 (s.dev.getN pLinkDownCount p) ∧ (∀ m ∈ e.link.out, m.port ≠ p)) ∧
    (∀ hb h w segs, s.dev.get pPortState p ≠ 3 → exec (.baleReceive p hb h w segs) s = .next s) ∧
    (∀ hb h w segs, s.dev.hasPort p = true → s.dev.get pPortState p = 3 → x.missRun < 7 → hb = false ∨ headerOk h = false →
      ∃ e, exec (.baleReceive p hb h w segs) s = .next (s.on e) ∧ e.getN pBalesMissed p = inc32 (s.dev.getN pBalesMissed p) ∧ (e.port p).missRun = x.missRun + 1) ∧
    (∀ h w segs, s.dev.hasPort p = true → s.dev.get pPortState p = 3 → headerOk h = true → bit (fld h 2 1) 4 = false → x.badWaybills < 8 → x.joined = false →
      let count := fld h 1 1 + 256 * (fld h 2 1 % 16)
      (∀ c, x.baleCount = some c → count = (c + 1) % 4096) → exec (.baleReceive p true h w segs) s = .next (s.on
        (s.dev.updPort p (fun y => { y with baleCount := some count, missRun := 0 })))) ∧
    (∀ body, s.dev.get pChainRole = 1 → exec (.clockMessage body) s = .next s) ∧
    (∀ body, s.dev.get pChainRole = 0 → exec (.clockMessage body) s = .next (s.on
      (s.dev.updRef 1 (fun r => { r with level := fld body 0 1, levelAt := some s.dev.time })))) ∧
    (exec .clockMessageSend s = .next (s.on (s.dev.sendDown 1 (e8 s.dev.outputQl ++ e8 s.dev.clk.state.code ++ eb s.dev.wallValid ++
      s8 (s.dev.get pLeapPending) ++ e32 s.dev.clk.anchorWall ++ e64 s.dev.clk.anchorTkc)))) ∧
    (∀ t1, s.dev.downPorts.contains p = false → exec (.probeSend p t1) s = .next s) ∧
    (∀ t1, let n := (x.probeSeq + 1) % 65536
      s.dev.downPorts.contains p = true → exec (.probeSend p t1) s = .next (s.on
        ((s.dev.updPort p (fun y => { y with probeSeq := n, probeT1 := some (n, t1) })).send { port := p, typ := 2, body := e16 n }))) ∧
    (∀ body t2 t3, s.dev.get pChainRole ≠ 1 → exec (.probeMessage body t2 t3) s = .next (s.on
      ((s.dev.updPort 0 (fun y => { y with t2 := some (fld body 0 2, t2) })).send { port := 0, typ := 3, body := e16 (fld body 0 2) ++ e64 t2 ++ e64 t3 }))) ∧
    (∀ (body : List Byte) (t4 n t1 : Nat), x.probeT1 = some (n, t1) → n = fld body 0 2 → s.dev.downPorts.contains p = true → s.dev.bandIds = [] →
      let held : Int := (fld body 10 8 : Int) - fld body 2 8
      let rtt := max 0 (unitsPs (((t4 : Int) - t1) - held))
      let a := s.dev.get pFibreAsymmetry p
      ∃ e, exec (.probeReplyMessage p body t4) s = .next (s.on e) ∧ e.get pHopRtt p = clampI 0 4294967294 rtt ∧
        e.get pHopDelayDown p = clampI 0 4294967294 (roundDiv (rtt + a) 2) ∧ e.get pHopDelayUp p = clampI 0 4294967294 (roundDiv (rtt - a) 2) ∧
        (e.port p).hopAt = some s.dev.time) ∧
    (∀ (body : List Byte) (n t2 : Nat), s.dev.get pChainRole = 0 → (s.dev.port 0).t2 = some (n, t2) → n = fld body 0 2 → s.dev.link.joining = none → s.dev.bandIds = [] →
      ∃ e, exec (.delayMessage body) s = .next (s.on e) ∧ e.getN pHopRtt 0 = fld body 10 4 ∧ e.getN pHopDelayDown 0 = fld body 14 4 ∧
        e.getN pHopDelayUp 0 = fld body 18 4 ∧ (e.port 0).hopAt = some s.dev.time ∧
        e.get pTkcOffset = clampI (-2147483648) 2147483647 (unitsPs ((t2 : Int) - fld body 2 8) - fld body 14 4)) ∧
    (s.dev.link.stepDue = none ∨ s.dev.inBurst = true → exec .tkcStepDeferred s = .next s) ∧
    (∀ off, s.dev.link.stepDue = some off → s.dev.inBurst = false → ∃ e, exec .tkcStepDeferred s = .next (s.on e) ∧ e.link.stepDue = none ∧ e.time = s.dev.time ∧
      (e.tkc : Int) = max 0 ((s.dev.tkc : Int) + roundDiv (-off * 6291456) 100000000)) ∧
    (x.hopAt = none → exec (.pathDelayTimeout p) s = .next s) ∧
    (∀ t, x.hopAt = some t → (s.dev.since t ≤ msU 50 → exec (.pathDelayTimeout p) s = .next s) ∧
      (msU 50 < s.dev.since t → s.dev.isFollower = false → ∃ e, exec (.pathDelayTimeout p) s = .next (s.on e) ∧ e.get pHopRtt p = 4294967295 ∧
        e.get pHopDelayDown p = 4294967295 ∧ e.get pHopDelayUp p = 4294967295 ∧ (e.port p).hopAt = none)) ∧
    (∀ body, exec (.breakMessage body) s = .next (s.on (if s.dev.isFollower
      then ((s.dev.pathGone body).relayDown 8 body).muteDownlink (fld body 0 1) else s.dev))) ∧
    (∀ body, s.dev.isFollower = true → exec (.statusMessage body) s = .next (s.on (s.dev.sendUp 9 body))) ∧
    (∀ body m, s.dev.get pChainRole = 1 → 1 ≤ fld body 0 1 → fld body 0 1 ≤ 7 → s.dev.member (fld body 0 1) = some m → s.dev.bandIds = [] →
      exec (.statusMessage body) s = .next (s.on (s.dev.updMember (fld body 0 1) (fun m => { m with status := body, heard := s.dev.time, silentAt := none })))) ∧
    (exec .statusMessageSend s = .next (s.on (s.dev.sendUp 9 s.dev.statusBody))) ∧
    (∀ body, s.dev.isFollower = true → exec (.delayFigMessage body) s = .next (s.on (s.dev.sendUp 10 body))) ∧
    (∀ body, s.dev.get pChainRole = 1 → 1 ≤ fld body 0 1 → fld body 0 1 ≤ 7 → fld body 1 1 ≤ 7 → exec (.delayFigMessage body) s = .next (s.on
      (s.dev.updMember (fld body 0 1) (fun m => { m with figs := upd m.figs (fld body 1 1) (fun _ => some
        { x := fld body 2 4, t := fld body 6 4, rx := fld body 10 2, tx := fld body 12 2 }) })))) ∧
    (∃ e, exec .delayFigSend s = .next (s.on e) ∧ { e with link := s.dev.link } = s.dev ∧ (s.dev.isFollower = false → e = s.dev) ∧
      ((∀ l ∈ s.dev.laneIds, s.dev.laneBand l = none) → e = s.dev)) ∧
    (∀ u m, s.dev.member u = some m → m.silentAt = none → s.dev.get pChainRole = 1 →
      (s.dev.since m.heard < secU 5 → exec (.unitUnreachable u) s = .next s) ∧
      (secU 5 ≤ s.dev.since m.heard → exec (.unitUnreachable u) s = .next (s.on ((s.dev.updMember u (fun m => { m with silentAt := some s.dev.time })).raiseDev 0x0988
        (e8 u ++ zs 3 ++ e32 (min 4294967295 (toMs (s.dev.since m.heard)))))))) ∧
    (∀ l n k, s.dev.get pChainRole = 1 → s.dev.hasLane l = true → 0 < k → ∃ e, exec (.sumSatWindow l n k) s = .next (s.on e) ∧
      e.getN pSumSatCount l = min 4294967295 (s.dev.getN pSumSatCount l + k) ∧
      e.get pSumBackoff l = (if k * 100 ≤ n then s.dev.get pSumBackoff l else min 1152 (s.dev.get pSumBackoff l + 192))) ∧
    (∀ l, s.dev.get pSumBackoff l = 0 → exec (.sumBackoffDecay l) s = .next s) ∧
    (∀ l t, s.dev.get pSumBackoff l ≠ 0 → (nth s.dev.link.sums l).satAt = some t → (nth s.dev.link.sums l).decayAt = none → secU 1 ≤ s.dev.since t →
      ∃ e, exec (.sumBackoffDecay l) s = .next (s.on e) ∧ e.get pSumBackoff l = max 0 (s.dev.get pSumBackoff l - 64) ∧ SamePar [pSumBackoff] s.dev e) ∧
    (∀ b, s.dev.isFollower = false ∨ (s.dev.port 0).joined = false ∨ s.dev.clk.state ≠ .locked → exec (.bandResumeAfterRejoin b) s = .next s) ∧
    (∀ b v, let y := s.dev.band b
      s.dev.isFollower = true → (s.dev.port 0).joined = true → (∃ t ∈ y.trig, t.1 = 7) → y.resume = 0 → s.dev.clk.state = .locked → s.dev.clk.selected = some 1 →
      s.dev.bandDelay y.cfg [] = some v → b < s.dev.bands.length →
      (y.delay < delayNs v → exec (.bandResumeAfterRejoin b) s = .next (s.on (s.dev.updBand b (fun z => { z with resume := 1 })))) ∧
      (delayNs v ≤ y.delay → ∃ e, exec (.bandResumeAfterRejoin b) s = .next (s.on e) ∧ (∀ t ∈ (e.band b).trig, t.1 = 7 → 8 ≤ t.2)))

/-! ### 14 Bridging and protection -/

/-- BAND_CONFIG runs the steps of Table BP-1 in their order; SET leaves an IDLE band with its lanes tuned and in LISTEN,
CLEAR takes an IDLE band away. BRIDGE_START answers the first failing step of Table BP-2, or ACCEPTED with the band
STARTING, bound to its permit and its job. The start completes BRIDGING once its set is fixed and its cell and pattern
are there, and ends IDLE with a reason at 500 ms without a follower or at 2,000 ms without a cell. BRIDGE_STOP leaves
the band IDLE. The two reports read what the band holds. (14 Bridging: R439, R440, R441, R442, R443, R444, R445, R446,
R463, Table BP-1, Table BP-2, Table BP-8.) -/
def Obligations.BridgeCommands : Prop :=
  ∀ (s : State) (r : Request) (b : Nat), r.slot < 8 →
    let id := rq r 0 1
    let x := s.dev.band b
    (Takes cmdBandConfig s r → b = bandIx r.slot id →
      let c := bandCfgOf r
      let say := fun (st : Status) => exec (.bandConfig r) s = .next (s.on (s.dev.respond r 0x0A01 (fail st)))
      let held := s.dev.bandBusy b = true ∨ (∃ l ∈ c.lanes, (s.dev.laneState l ≠ 2 ∧ s.dev.laneState l ≠ 4) ∨ (s.dev.lane l).survey.isSome = true ∨
        ∃ o, s.dev.laneBand l = some o ∧ o ≠ b)
      (rq r 1 1 = 1 → s.dev.bandState b ≠ 1 → say .state) ∧
      (rq r 1 1 = 1 → s.dev.bandState b = 1 → ∃ e, exec (.bandConfig r) s = .next (s.on e) ∧ e.bandState b = 0 ∧
        e.host.outbox = s.dev.host.outbox ++ [answer r 0x0A01 (okBody (e8 (b % 8) ++ e8 0 ++ zs 2 ++ e32 0 ++ e32 0))]) ∧
      (rq r 1 1 = 0 → s.dev.bandCfgOk r.slot c = false → say .badArg) ∧
      (rq r 1 1 = 0 → s.dev.bandCfgOk r.slot c = true → held → say .state) ∧
      (∀ st, rq r 1 1 = 0 → s.dev.bandCfgOk r.slot c = true → ¬held → s.dev.permitStatus r.slot c.channels = some st → say st) ∧
      (rq r 1 1 = 0 → s.dev.bandCfgOk r.slot c = true → ¬held → s.dev.permitStatus r.slot c.channels = none →
        (s.dev.overShare r.slot c b).isSome = true → say .wouldExceed) ∧
      (rq r 1 1 = 0 → s.dev.bandCfgOk r.slot c = true → ¬held → s.dev.permitStatus r.slot c.channels = none → s.dev.overShare r.slot c b = none →
        ∃ e, exec (.bandConfig r) s = .next (s.on e) ∧ e.bandState b = 1 ∧ (b < s.dev.bands.length → (e.band b).cfg = c) ∧
          (∀ k ∈ c.channels, e.getN pLaneFreq k.lane = k.fc ∧ e.getN pLaneRate k.lane = k.rate ∧ e.laneState k.lane = 4) ∧
          e.host.outbox = s.dev.host.outbox ++ [answer r 0x0A01 (e.bandReply b)])) ∧
    (Takes cmdBridgeStart s r → b = bandIx r.slot id →
      let say := fun (rep : Reply) => exec (.bridgeStart r) s = .next (s.on (s.dev.respond r 0x0A02 rep))
      (s.dev.isFollower = true → say (fail .state)) ∧
      (∀ k, s.dev.isFollower = false → s.dev.startChecks b none = .error (k, .notYet) → say (notYet 10)) ∧
      (∀ st, s.dev.isFollower = false → s.dev.startChecks b none = .error (10, st) → st ≠ .notYet → st ≠ .accepted → say (failWhy st 0xFFFF 2)) ∧
      (∀ k st, s.dev.isFollower = false → s.dev.startChecks b none = .error (k, st) → k ≠ 10 → st ≠ .notYet → st ≠ .accepted → say (fail st)) ∧
      (∀ h p y, s.dev.isFollower = false → s.dev.startChecks b none = .ok (h, p, y) →
        let job : Job := { opcode := 0x0A02, standing := true, rate := s.dev.standingRate b p, lanes := x.cfg.lanes }
        (∀ rep, s.dev.startJob r.slot (rq r 2 2) job = .error rep → rep.blk = [] → rep.status ≠ .accepted → say rep) ∧
        (∀ j d1, s.dev.startJob r.slot (rq r 2 2) job = .ok (j, d1) → b < s.dev.bands.length → (∀ l ∈ x.cfg.lanes, l < 8) →
          ∃ e, exec (.bridgeStart r) s = .next (s.on e) ∧ e.bandState b = 2 ∧ e.getN pBandPermit b = h ∧ e.getN pBandRung b = 0 ∧ e.getN pBandTriggers b = 0 ∧
            (e.band b).job = j ∧ (e.band b).delay = min 4294967295 (delayNs y) ∧ (e.band b).start = some (r.slot, r.ref) ∧
            (e.band b).startAt = s.dev.time ∧ ((e.band b).setFixed = true ↔ s.dev.position = 0) ∧
            e.host.outbox = s.dev.host.outbox ++ [answer r 0x0A02 (accepted 2200)]))) ∧
    (b < 64 → b < s.dev.bands.length → (∀ l ∈ x.cfg.lanes, l < 8) → (∀ slot ref, x.start = some (slot, ref) → slot < 8) →
      let ready := s.dev.starting b = true ∧ x.setFixed = true ∧ x.detectedAt.isSome = true ∧ (x.cfg.tdd = true → x.verdict = 2)
      let text := fun (state units why job permit : Nat) => e8 (b % 8) ++ e8 state ++ e8 units ++ e8 why ++ e32 x.delay ++ e16 job ++ e8 permit ++ zs 1 ++
        e32 (durOf (s.dev.since x.startAt))
      let ended := fun (e : Dev) (why : Nat) => e.bandState b = 1 ∧ e.getN pBandPermit b = 255 ∧ (e.band b).start = none ∧ ∀ slot ref c,
        x.start = some (slot, ref) → s.dev.longOf slot ref = some c → Ended c { status := .state, body := text 1 0 why 65535 255 } e
      let late := s.dev.starting b = true ∧ x.setFixed = false ∧ msU 500 ≤ s.dev.since x.startAt
      let came := (maskUnits x.cfg.unitMask).filter (fun u => x.answers.contains (u, 0))
      let blind := s.dev.starting b = true ∧ x.detectedAt = none ∧ msU 2000 ≤ s.dev.since x.startAt
      (¬ready → exec (.bridgeStartComplete b) s = .next s) ∧
      (ready → ∃ e, exec (.bridgeStartComplete b) s = .next (s.on e) ∧ e.bandState b = 3 ∧ e.getN pBandUnits b = x.setUnits ∧ (e.band b).start = none ∧
        (∀ slot ref c, x.start = some (slot, ref) → s.dev.longOf slot ref = some c →
          Ended c (okBody (text 3 x.setUnits 0 x.job (s.dev.getN pBandPermit b))) e)) ∧
      (¬late → exec (.followerAnswerTimeout b) s = .next s) ∧
      (late → came = [] → ∃ e, exec (.followerAnswerTimeout b) s = .next (s.on e) ∧ ended e 3) ∧
      (late → came ≠ [] → ∃ e, exec (.followerAnswerTimeout b) s = .next (s.on e) ∧ { e with bands := s.dev.bands } = s.dev ∧ (e.band b).setFixed = true ∧
        (e.band b).setUnits = came.foldl (fun a u => a + 2 ^ u) 1 ∧
        ∀ v, s.dev.bandDelay x.cfg came = some v → (e.band b).delay = min 4294967295 (delayNs v)) ∧
      (¬blind → exec (.startNoCellTimeout b) s = .next s) ∧
      (blind → ∃ e, exec (.startNoCellTimeout b) s = .next (s.on e) ∧ ended e 1)) ∧
    (Takes cmdBridgeStop s r → b = bandIx r.slot id →
      (s.dev.bandBusy b = false → exec (.bridgeStop r) s = .next (s.on (s.dev.respond r 0x0A03 (fail .state)))) ∧
      (s.dev.bandBusy b = true → b < s.dev.bands.length → (∀ l ∈ x.cfg.lanes, l < 8) → (∀ slot ref, x.start = some (slot, ref) → slot < 8) →
        ∃ e, exec (.bridgeStop r) s = .next (s.on e) ∧ e.bandState b = 1 ∧ e.getN pBandPermit b = 255 ∧ e.getN pBandUnits b = 0 ∧ (e.band b).trig = [] ∧
          (∀ l ∈ x.cfg.lanes, l < s.dev.convoys.length → e.laneMuted l = true) ∧
          e.host.outbox.getLast? = some (answer r 0x0A03 (okBody (e8 (b % 8) ++ e8 1))))) ∧
    (Takes cmdTddPatternGet s r → b = bandIx r.slot id →
      let none' := s.dev.bandState b = 0 ∨ x.cfg.tdd = false
      let p := (s.dev.bindable r.slot x.cfg.channels).bind (fun q => x.cfg.entry q.2 x.cfg.dlLane)
      let period := if x.slots ≠ 0 then x.period else (p.map (·.period)).getD 0
      (none' → exec (.tddPatternGet r) s = .next (s.on (s.dev.respond r 0x0A04 (fail .state)))) ∧
      (¬none' → exec (.tddPatternGet r) s = .next (s.on (({ s.dev with free := s.dev.free + 1 } : Dev).respond r 0x0A04 (okBody (e8 (b % 8) ++
        e8 (if x.learning.isSome then 1 else x.verdict) ++ e8 (if x.slots ≠ 0 then x.slots else (p.map (·.slots)).getD 0) ++ e8 (learnPeriods period) ++
        e32 period ++ e64 (if x.slots ≠ 0 then x.pattern else (p.map (·.pattern)).getD 0) ++ e32 x.misSlots ++ e64 (x.anchor.getD 0) ++ s16 x.pDl ++
        s16 x.worstUl ++ e32 (match x.windowEnd with
          | some t => min 4294967295 (toMs (s.dev.since t))
          | none => (Config.analogue s.dev.free 0).natAbs % 4294967296))))))) ∧
    (Takes cmdProtectionStatusGet s r →
      let y := s.dev.convoy id
      let left := fun (o : Option Nat) => match o with
        | some t => toMsUp (t - s.dev.time)
        | none => 0
      let tail := s16 (s.dev.get pUlNoiseEst id) ++ s16 ((s.dev.lane id).pIn.getD (-32768)) ++ s16 (s.dev.get pEirpLimit id) ++
        s16 (if s.dev.isFollower then y.remote.getD (-32768) else -32768)
      (s.dev.laneBand id = none → exec (.protectionStatusGet r) s = .next (s.on (s.dev.respond r 0x0A05
        (okBody (e8 id ++ e8 255 ++ zs 22 ++ tail ++ e32 (left y.backoffEnd)))))) ∧
      (∀ o, s.dev.laneBand id = some o → let z := s.dev.band o
        exec (.protectionStatusGet r) s = .next (s.on (s.dev.respond r 0x0A05 (okBody (e8 id ++ e8 (o % 8) ++ e8 (s.dev.bandState o) ++
          e8 (s.dev.getN pBandRung o) ++ e32 (s.dev.getN pBandTriggers o) ++ e32 z.trips ++ e64 z.lastTrip ++ e8 z.lastTrigger ++ zs 3 ++ tail ++
          e32 (max (left z.backoffEnd) (left y.backoffEnd))))))))

/-- A detection gives a started band its cell and a TDD band its anchor; 2 s without one, or 50 ms without a schedule at a
follower, trip NO_CELL and TDD_TIMING: the lanes mute and the band is HELD. A learning window ends a start, holds a
band that mismatches, IDLE at the fifth episode, and clears after two matches. The last trigger cleared and the
back-off run, the band repeats again. A follower checks and answers ANNOUNCE and START, stops on STOP, and takes
REMOTE and TDD; the head gathers answers and sends ceilings, schedules and announcements. (14 Bridging: R441, R443,
R446, R448, R451, R452, R454, R455, R456, R458, R460, Table BP-4.) -/
def Obligations.BandsFollowCellsTriggersAndMessages : Prop :=
  ∀ (s : State) (b : Nat), b < 64 → b < s.dev.bands.length → (∀ k, ∀ l ∈ (s.dev.band k).cfg.lanes, l < 8) →
  (∀ k slot ref, (s.dev.band k).start = some (slot, ref) → slot < 8) →
    let x := s.dev.band b
    let st := s.dev.bandState b
    let held := fun (e : Dev) (code : Nat) => e.bandState b = 4 ∧ (e.band b).lastTrigger = code ∧
      ∀ l ∈ x.cfg.lanes, (code, l) ∈ (e.band b).trig ∧ (l < s.dev.convoys.length → e.laneMuted l = true)
    let fresh := fun (code : Nat) => ∀ t ∈ x.trig, t.1 ≠ code
    (∀ f, s.dev.bandBusy b = false ∨ s.dev.isFollower = true → exec (.cellDetectorRun b f) s = .next s) ∧
    (exec (.cellDetectorRun b none) s = .next s) ∧
    (∀ f, s.dev.bandBusy b = true → s.dev.isFollower = false → (x.cfg.tdd = true → x.anchor = none) →
      let a : Int := (f.sync : Int) - nsU x.cfg.syncOffset - nsU (s.dev.getN pFeRxDelay x.cfg.dlLane)
      ∃ e, exec (.cellDetectorRun b (some f)) s = .next (s.on e) ∧ (e.band b).cellUp = true ∧ (e.band b).detectedAt = some s.dev.time ∧
        (e.band b).cellPci = f.pci ∧ (e.band b).cellNr = f.nr ∧ (∀ t ∈ (e.band b).trig, t.2 < 8 → t.1 ≠ 4) ∧
        (x.cfg.tdd = true → (e.band b).anchor = some (a % 18446744073709551616).toNat) ∧
        (x.cfg.tdd = true → st = 2 → x.learning = none → x.verdict ≠ 2 → (e.band b).learning = some s.dev.time)) ∧
    (∀ f old, s.dev.bandBusy b = true → s.dev.isFollower = false → x.cfg.tdd = true → x.anchor = some old →
      let a : Int := (f.sync : Int) - nsU x.cfg.syncOffset - nsU (s.dev.getN pFeRxDelay x.cfg.dlLane)
      let err := anchorError old (a % 18446744073709551616).toNat x.period
      ∃ e, exec (.cellDetectorRun b (some f)) s = .next (s.on e) ∧
        (err.natAbs * 100 ≤ 6291456 → (e.band b).anchor = some (((old : Int) + roundDiv err 8) % 18446744073709551616).toNat ∧ (e.band b).badDetections = 0) ∧
        (6291456 < err.natAbs * 100 → x.badDetections + 1 < 3 → (e.band b).anchor = some old ∧ (e.band b).badDetections = x.badDetections + 1)) ∧
    (x.detectedAt = none → exec (.noCell b) s = .next s) ∧
    (∀ t, x.detectedAt = some t → let still := st < 3 ∨ s.dev.isFollower = true ∨ x.cellUp = false ∨ s.dev.since t < secU 2
      (still → exec (.noCell b) s = .next s) ∧
      (¬still → fresh 4 → ∃ e, exec (.noCell b) s = .next (s.on e) ∧ (e.band b).cellUp = false ∧ held e 4 ∧
        e.getN pBandRung b = min 7 (s.dev.getN pBandRung b + 1) ∧ (x.learning.isSome = true → (e.band b).learning = none))) ∧
    (x.tddValidAt = none → exec (.tddMessageTimeout b) s = .next s) ∧
    (∀ t, x.tddValidAt = some t → let still := s.dev.isFollower = false ∨ st < 3 ∨ s.dev.since t < msU 50
      (still → exec (.tddMessageTimeout b) s = .next s) ∧
      (¬still → fresh 5 → ∃ e, exec (.tddMessageTimeout b) s = .next (s.on e) ∧ held e 5)) ∧
    (x.cfg.tdd = false ∨ s.dev.isFollower = true ∨ x.learning.isSome = true → exec (.tddVerifyStart b) s = .next s) ∧
    (x.cfg.tdd = true → s.dev.isFollower = false → x.learning = none → x.learnAgainAt = none →
      (st = 3 → s.dev.since x.verifyAt < secU (s.dev.getN pTddVerifyInterval) → exec (.tddVerifyStart b) s = .next s) ∧
      (st = 3 → secU (s.dev.getN pTddVerifyInterval) ≤ s.dev.since x.verifyAt → ∃ e, exec (.tddVerifyStart b) s = .next (s.on e) ∧
        (e.band b).learning = some s.dev.time ∧ (e.band b).ulSuspended = true ∧ (x.cfg.dlLane < s.dev.lanes.length → (e.lane x.cfg.dlLane).burst = false)) ∧
      (∀ t, st = 4 → ¬fresh 6 → x.windowEnd = some t → secU 10 ≤ s.dev.since t → exec (.tddVerifyStart b) s = .next (s.on
        (s.dev.updBand b (fun y => { y with learning := some s.dev.time, learnAgainAt := none })))) ∧
      (st = 4 → fresh 6 → exec (.tddVerifyStart b) s = .next s)) ∧
    (∀ w, x.learning = none → exec (.learningWindowEnd b w) s = .next s) ∧
    (∀ w t, x.learning = some t →
      let short := s.dev.isFollower = true ∨ w.length ≠ learnPeriods x.period ∨ s.dev.since t < usU (learnPeriods x.period * x.period)
      let pdl := windowPdl x.pattern w
      let bad := windowMisses x.pattern x.slots w pdl
      let judged := fun (e : Dev) (v : Nat) => (e.band b).learning = none ∧ (e.band b).verdict = v ∧ (e.band b).pDl = pdl ∧
        (e.band b).worstUl = (windowWorst x.pattern x.slots w).2 ∧ (e.band b).misSlots = bad.foldl (fun a k => a + 2 ^ k) 0 ∧ (e.band b).windowEnd = some s.dev.time
      (short → exec (.learningWindowEnd b w) s = .next s) ∧
      (¬short → ∃ e, exec (.learningWindowEnd b w) s = .next (s.on e) ∧
        (st = 2 → bad = [] → e.bandState b = 2 ∧ judged e 2) ∧
        (st = 2 → bad ≠ [] → e.bandState b = 1) ∧
        (st = 3 → bad = [] → e.bandState b = 3 ∧ judged e 2 ∧ (e.band b).verifyAt = s.dev.time) ∧
        (st = 3 → bad ≠ [] → fresh 6 → x.episodes < 4 → held e 6 ∧ judged e 3 ∧ (e.band b).episodes = x.episodes + 1) ∧
        (st = 3 → bad ≠ [] → 4 ≤ x.episodes → e.bandState b = 1) ∧
        (st = 4 → ¬fresh 6 → bad ≠ [] → e.bandState b = 4 ∧ judged e 3 ∧ (e.band b).matched = 0) ∧
        (st = 4 → ¬fresh 6 → bad = [] → x.matched = 0 → e.bandState b = 4 ∧ judged e 2 ∧ (e.band b).matched = 1) ∧
        (st = 4 → ¬fresh 6 → bad = [] → 1 ≤ x.matched → judged e 2 ∧ (e.band b).matched = 0 ∧ (∀ t ∈ (e.band b).trig, t.2 < 8 → t.1 ≠ 6)) ∧
        (st = 4 → fresh 6 → bad = [] → s.dev.blocked b = true → e.bandState b = 4 ∧ judged e 2) ∧
        (st = 4 → fresh 6 → bad = [] → s.dev.blocked b = false → e.bandState b = 3 ∧ (e.band b).verdict = 2))) ∧
    ((∀ l ∈ s.dev.laneIds, s.dev.d4Band l true = none) → exec .ulNoiseUpdate s = .next s) ∧
    (∀ l o p, l ∈ s.dev.laneIds → (∀ k ∈ s.dev.laneIds, k ≠ l → s.dev.d4Band k true = none) → s.dev.d4Band l true = some o → s.dev.outPower l = some p →
      s.dev.laneMuted l = false → (s.dev.band o).ulSuspended = false → o < s.dev.bands.length →
      let vs := ((s.dev.band o).ulPowers ++ [p]).drop ((s.dev.band o).ulPowers.length + 1 - 100)
      ∃ e, exec .ulNoiseUpdate s = .next (s.on e) ∧ (e.band o).ulPowers = vs ∧ SamePar [pUlNoiseEst] s.dev e ∧
        (∀ v q n, (vs.foldl (fun a v => insertUp v a) [])[9]? = some v → s.dev.boundPermit o = some q → (s.dev.band o).cfg.entry q l = some n →
          e.get pUlNoiseEst l = v - Config.dB64 (2 * halfBand (s.dev.getN pLaneRate l)) 1000000 + ((s.dev.lane l).table.map (·.antDonor)).getD 0)) ∧
    ((∀ l ∈ s.dev.laneIds, s.dev.d4Band l false = none) → exec .dlOverloadUpdate s = .next s) ∧
    (∀ l o p, l ∈ s.dev.laneIds → (∀ k ∈ s.dev.laneIds, k ≠ l → s.dev.d4Band k false = none) → s.dev.d4Band l false = some o → (s.dev.lane l).pIn = some p →
      s.dev.laneMuted l = false →
      let g := s.dev.get pConvoyOutput l
      let ref := if p ≤ s.dev.get pDlInputLimit l then g else ((s.dev.convoy l).gRef).getD g
      exec .dlOverloadUpdate s = .next (s.on (s.dev.updConvoy l (fun y => { y with gRef := some ref, d4d := some (s.dev.get pDlInputLimit l + ref, p + g) })))) ∧
    (x.backoffEnd = none → exec (.restartBackoffExpiry b) s = .next s) ∧
    (∀ t, x.backoffEnd = some t → let wait := st ≠ 4 ∨ s.dev.blocked b = true ∨ s.dev.time < t
      let learns := x.cfg.tdd = true ∧ x.mustLearn = true ∧ s.dev.isFollower = false
      (wait → exec (.restartBackoffExpiry b) s = .next s) ∧
      (¬wait → x.learnAgainAt = none → learns → x.learning = none → exec (.restartBackoffExpiry b) s = .next (s.on
        (s.dev.updBand b (fun y => { y with learning := some s.dev.time, learnAgainAt := none })))) ∧
      (¬wait → x.learnAgainAt = none → ¬learns → ∃ e, exec (.restartBackoffExpiry b) s = .next (s.on e) ∧ e.bandState b = 3 ∧ (e.band b).backoffEnd = none ∧
        e.getN pBandUnits b = s.dev.getN pBandUnits b ||| 2 ^ s.dev.getN pUnitNumber ∧
        (∀ l ∈ x.cfg.lanes, bit (e.convoy l).hold 1 = false))) ∧
    (exec (.bandRungReset b) s = .next (s.on (if st = 3 ∧ secU 300 ≤ s.dev.since (max x.restored (x.tripAt.getD 0)) then s.dev.set pBandRung b 0 else s.dev))) ∧
    (∀ body, s.dev.isFollower = false → exec (.bandAnnounce body) s = .next s ∧ exec (.bandStartMessage body) s = .next s ∧ exec (.bandStopMessage body) s = .next s ∧
      exec (.remoteMessage body) s = .next s ∧ exec (.tddMessage body) s = .next s) ∧
    (∀ body, s.dev.isFollower = true →
      let d1 := s.dev.pathBack.relayDown 7 body
      let mine := bit (fld body 7 1) (s.dev.getN pUnitNumber)
      let why := s.dev.configReason body
      (exec (.bandAnnounce body) s = .next (s.on (if mine then d1.answerBand body why else d1))) ∧
      (mine = false → exec (.bandStartMessage body) s = .next (s.on d1) ∧ exec (.bandStopMessage body) s = .next (s.on d1)) ∧
      (mine = true → why ≠ 0 → exec (.bandStartMessage body) s = .next (s.on (d1.answerBand body why))) ∧
      (mine = true → bandOfBody 1 body = b → why = 0 →
        (∀ k e, s.dev.startChecks b (some (fld body 28 4)) = .error (k, e) → exec (.bandStartMessage body) s = .next (s.on (d1.answerBand body (stepReason k)))) ∧
        (∀ h p y, s.dev.startChecks b (some (fld body 28 4)) = .ok (h, p, y) →
          let job : Job := { opcode := 0x0A02, standing := true, rate := s.dev.standingRate b p, lanes := x.cfg.lanes }
          (∀ rep, s.dev.startJob (b / 8) 65535 job = .error rep → exec (.bandStartMessage body) s = .next (s.on (d1.answerBand body 7))) ∧
          (∀ j d2, s.dev.startJob (b / 8) 65535 job = .ok (j, d2) → ∃ e, exec (.bandStartMessage body) s = .next (s.on e) ∧ e.bandState b = 3 ∧
            e.getN pBandPermit b = h ∧ (e.band b).job = j ∧ (e.band b).delay = fld body 28 4 ∧ (e.band b).start = none))) ∧
      (mine = true → bandOfBody 1 body = b → s.dev.bandBusy b = false → exec (.bandStopMessage body) s = .next (s.on d1)) ∧
      (mine = true → bandOfBody 1 body = b → s.dev.bandBusy b = true →
        ∃ e, exec (.bandStopMessage body) s = .next (s.on e) ∧ e.bandState b = 1 ∧ e.getN pBandPermit b = 255 ∧
          (∀ l ∈ x.cfg.lanes, l < s.dev.convoys.length → e.laneMuted l = true)) ∧
      (let l := fld body 1 1
       fld body 0 1 = s.dev.getN pUnitNumber → s.dev.hasLane l = true → s.dev.laneBand l = none → l < s.dev.convoys.length →
       ∃ e, exec (.remoteMessage body) s = .next (s.on e) ∧ (e.convoy l).remote = some (fldS body 2 2) ∧ (e.convoy l).remoteAt = s.dev.time ∧
         (e.convoy l).aged = false ∧ (e.convoy l).ref = fldS body 4 2 ∧ (fldS body 2 2 = -32768 → e.laneMuted l = true)) ∧
      (bandOfBody 0 body = b → s.dev.bandBusy b = true → x.cfg.tdd = true → bit (fld body 30 1) 0 = true →
        ∃ e, exec (.tddMessage body) s = .next (s.on e) ∧ (e.band b).sched = true ∧ (e.band b).anchor = some (fld body 16 8) ∧ (e.band b).delay = fld body 24 4 ∧
          (e.band b).pattern = fld body 8 8 ∧ (e.band b).slots = fld body 3 1 ∧ (e.band b).period = fld body 4 4 ∧
          (e.band b).ulSuspended = bit (fld body 30 1) 1 ∧ (e.band b).tddValidAt = some s.dev.time)) ∧
    (∀ body, s.dev.isFollower = true → exec (.bandStateMessage body) s = .next (s.on (s.dev.relayUp 7 body))) ∧
    (∀ body, s.dev.get pChainRole = 0 → exec (.bandStateMessage body) s = .next s) ∧
    (∀ body, let u := fld body 3 1 % 8
      s.dev.get pChainRole = 1 → bandOfBody 1 body = b →
      (s.dev.starting b = true → x.setFixed = false → exec (.bandStateMessage body) s = .next (s.on
        (s.dev.updBand b (fun y => { y with answers := y.answers.filter (fun a => a.1 ≠ u) ++ [(u, fld body 26 1)] })))) ∧
      (s.dev.starting b = false ∨ x.setFixed = true → s.dev.bandBusy b = true → fld body 27 1 = 1 → bit x.setUnits u = true → u ≠ 0 →
        ∃ e, exec (.bandStateMessage body) s = .next (s.on e) ∧ (e.band b).setUnits = x.setUnits - 2 ^ u ∧
          e.getN pBandUnits b = s.dev.getN pBandUnits b &&& (255 - 2 ^ u))) ∧
    (s.dev.position ≠ 1 → exec .remoteMessageSend s = .next s ∧ exec .bandAnnounceSend s = .next s) ∧
    (∃ p n, exec .remoteMessageSend s = .next (s.on { s.dev with par := p, link := n }) ∧ SamePar [pActiveFollowers] s.dev { s.dev with par := p, link := n } ∧
      (∀ m ∈ n.out, m ∈ s.dev.link.out ∨ m.typ = 5) ∧
      (s.dev.position = 1 → b ∈ s.dev.bandIds → s.dev.bandBusy b = true → x.cfg.tdd = false → ∀ port ∈ s.dev.downPorts, ∃ m ∈ n.out, m.port = port ∧ m.typ = 5 ∧
        m.body = s.dev.remoteBody 255 x.cfg.dlLane (s.dev.get pConvoyOutput x.cfg.dlLane) 0)) ∧
    (∃ bs n, exec .tddMessageSend s = .next (s.on { s.dev with bands := bs, link := n }) ∧ (∀ m ∈ n.out, m ∈ s.dev.link.out ∨ m.typ = 6) ∧
      ((∀ k ∈ s.dev.bandIds, (s.dev.band k).sched = false) → bs = s.dev.bands ∧ n = s.dev.link)) ∧
    (∃ n, exec .bandAnnounceSend s = .next (s.on { s.dev with link := n }) ∧ (∀ m ∈ n.out, m ∈ s.dev.link.out ∨ m.typ = 7) ∧
      (s.dev.position = 1 → b ∈ s.dev.bandIds → ∀ port ∈ s.dev.downPorts, ∃ m ∈ n.out, m.port = port ∧ m.typ = 7 ∧ m.body = s.dev.bandBody b 0 0))

/-! ### 15 Survey -/

/-- A survey command answers, in this order, BUSY at four open, STATE for a lane that cannot serve, THERMAL, BAD_ARG, and
its own reasons; else it is ACCEPTED with its bound, open under the slot's next survey_id, with its lane in place or
its request for SCAN or probe time made. A segment adds its points; a probe ends with its figures; a finished job, or
one at its bound, aborted or withdrawn, completes with OK, BUSY or DENIED and keeps its result. RESULT_FETCH reads a
kept result. Every 100 ms the CELL capture is taken or counted missed. (15 Survey: R470, R471, R472, R473, R474, R475,
R477, R481, R482, R483, R485, Table SV-5.) -/
def Obligations.SurveysRunReportAndEnd : Prop :=
  (∀ (s : State) (r : Request), r.slot < 8 →
    let d := s.dev
    let rx := rq r 0 1
    let res := shareUnits .scan (d.share r.slot 1)
    let serve := rx = 255 || d.laneServes rx
    let probes := d.laneServes rx && d.laneServes (rq r 1 1) && (d.lane rx).table.isSome && (d.lane (rq r 1 1)).table.isSome &&
      d.pwr.modeSet.isNone && d.pwr.sequence.isNone
    let rows : List (CmdSpec × Instr × Bool × Bool) := [(cmdScanStart, .scanStart r, serve, d.scanArgs r.body),
      (cmdCellSearch, .cellSearch r, serve, d.cellArgs r.body), (cmdIsolationProbe, .isolationProbe r, probes, inTuningRange (rq r 4 8) (rq r 12 1))]
    let clear := d.surveyCount r.slot < 4 ∧ d.get pThermalState ≠ 2
    let opened := fun (e : Dev) (op kind job bound : Nat) =>
      e.host.outbox = d.host.outbox ++ [answer r op (accepted bound)] ∧ ∃ x, e.survey r.slot r.ref = some x ∧ x.id = nth d.sv.next r.slot ∧ x.kind = kind ∧
        x.job = job ∧ x.bound = bound ∧ x.since = d.time ∧ x.body = r.body ∧ (x.kind ≠ 3 → x.rx ≠ 255 → x.start = some d.time)
    let asks := fun (e : Dev) (res : Resource) (need : Nat) => ∃ q ∈ e.sched.fresh, q.res = res ∧ q.slot = r.slot ∧ q.ref = r.ref ∧ q.need = need
    (∀ q ∈ rows, Takes q.1 s r →
      let say := fun (st : Status) => exec q.2.1 s = .next (s.on (d.respond r q.1.opcode (fail st)))
      (4 ≤ d.surveyCount r.slot → say .busy) ∧
      (d.surveyCount r.slot < 4 → q.2.2.1 = false → say .state) ∧
      (d.surveyCount r.slot < 4 → q.2.2.1 = true → d.get pThermalState = 2 → say .thermal) ∧
      (clear → q.2.2.1 = true → q.2.2.2 = false → say .badArg)) ∧
    (∀ q ∈ [(cmdScanStart, Instr.scanStart r, d.scanArgs r.body, (1 : Nat), d.scanJob r.body),
        (cmdCellSearch, Instr.cellSearch r, d.cellArgs r.body, 2, (cellJob r.body, 0, 4 * rq r 12 4, if rx = 255 then 4 * rq r 12 4 else 0))],
      Takes q.1 s r → clear → serve = true → q.2.2.1 = true →
      let job := q.2.2.2.2.1
      let need := q.2.2.2.2.2.2.1
      let bound := if rx = 255 then scanBound q.2.2.2.2.2.2.2 res else 1050
      let beyond := rx = 255 ∧ d.get pMode = 0 ∧ res < need
      (beyond → exec q.2.1 s = .next (s.on (d.respond r q.1.opcode (fail .wouldExceed)))) ∧
      (∀ rep, ¬beyond → d.startJob r.slot (rq r 2 2) job = .error rep → rep.blk = [] → rep.status ≠ .accepted →
        exec q.2.1 s = .next (s.on (d.respond r q.1.opcode rep))) ∧
      (∀ h d1, ¬beyond → d.startJob r.slot (rq r 2 2) job = .ok (h, d1) → d.survey r.slot r.ref = none →
        ∃ e, exec q.2.1 s = .next (s.on e) ∧ opened e q.1.opcode q.2.2.2.1 h bound ∧ (rx = 255 → asks e .scan need) ∧ (rx ≠ 255 → e.laneState rx = 4))) ∧
    (Takes cmdIsolationProbe s r → clear → probes = true → inTuningRange (rq r 4 8) (rq r 12 1) = true →
      let tx := rq r 0 1
      let fc := rq r 4 8
      let rate := rq r 12 1
      let say := fun (rep : Reply) => exec (.isolationProbe r) s = .next (s.on (d.respond r 0x0B03 rep))
      let owned := (nth d.ranges tx).any (fun o => match o with
        | some (a, b) => decide (a + halfBand rate ≤ fc ∧ fc + halfBand rate ≤ b)
        | none => false) = true
      let lapsed := (d.probeEntry r.slot fc rate .expired).isSome = true ∨ (d.probeEntry r.slot fc rate .revoked).isSome = true
      (¬owned → say (fail .noPermit)) ∧
      (owned → d.probeEntry r.slot fc rate .active = none → (lapsed → say (fail .permitExpired)) ∧ (¬lapsed → say (fail .noPermit))) ∧
      (∀ h k band t, owned → d.probeEntry r.slot fc rate .active = some (h, k, band) → (d.lane tx).table = some t →
        let top := min (d.get pProbeMaxLevel) (band.maxEirp - (if rq r 13 1 = 1 then t.antService else t.antDonor))
        (top < rqS r 16 2 → say (fail .badArg)) ∧
        (∀ rep, rqS r 16 2 ≤ top → d.startJob r.slot (rq r 2 2) (d.probeJob r.body) = .error rep → rep.blk = [] → rep.status ≠ .accepted → say rep) ∧
        (∀ j d1, rqS r 16 2 ≤ top → d.startJob r.slot (rq r 2 2) (d.probeJob r.body) = .ok (j, d1) → d.survey r.slot r.ref = none →
          ∃ e, exec (.isolationProbe r) s = .next (s.on e) ∧ opened e 0x0B03 3 j (if 400 ≤ d.sched.left .probe r.slot then 1050 else 600000) ∧
            asks e .probe 400 ∧ e.laneState tx = (if tx = rq r 1 1 then 6 else 5) ∧ (tx ≠ rq r 1 1 → e.laneState (rq r 1 1) = 4)))) ∧
    (Takes cmdSurveyAbort s r →
      (d.survey r.slot (rq r 0 2) = none → exec (.surveyAbort r) s = .next (s.on (d.respond r 0x0B04 (fail .badArg)))) ∧
      (∀ x, d.survey r.slot (rq r 0 2) = some x → ∃ e, exec (.surveyAbort r) s = .next (s.on e) ∧ e.survey r.slot (rq r 0 2) = none ∧
        e.host.outbox.getLast? = some (answer r 0x0B04 (okBody (e16 x.ref ++ eb (x.start.isSome || x.done ≠ 0)))))) ∧
    (Takes cmdResultFetch s r →
      let id := rq r 0 4
      let o := rq r 4 4
      let say := fun (rep : Reply) => exec (.resultFetch r) s = .next (s.on (d.respond r 0x0B05 rep))
      let found := (nth d.sv.results r.slot).find? (fun x => x.id = id)
      ((∃ x ∈ d.sv.jobs, x.slot = r.slot ∧ x.id = id) → say (fail .state)) ∧
      ((∀ x ∈ d.sv.jobs, ¬(x.slot = r.slot ∧ x.id = id)) → found = none → say (fail .badArg)) ∧
      (∀ x, (∀ y ∈ d.sv.jobs, ¬(y.slot = r.slot ∧ y.id = id)) → found = some x →
        (x.data.length ≤ o ∨ 40 * d.halfDepth r.slot < rq r 8 2 → say (fail .badArg)) ∧
        (let part := slice x.data o (rq r 8 2)
         let text := e32 id ++ e8 x.kind ++ zs 3 ++ e32 x.data.length ++ e32 o ++ e16 part.length
         o < x.data.length → rq r 8 2 ≤ 40 * d.halfDepth r.slot → say { status := .ok, blk := part, body := text })))) ∧
  (∀ (s : State) (slot ref : Nat), slot < 8 →
    let gone := fun (e : Dev) (st : Status) => e.survey slot ref = none ∧ ∀ c, s.dev.longOf slot ref = some c → Ended c (fail st) e
    (s.dev.survey slot ref = none → exec (.surveyBoundExpiry slot ref) s = .next s ∧ ∀ m n k, exec (.scanSegmentDone slot ref m) s = .next s ∧
      exec (.probeEnd slot ref n) s = .next s ∧ exec (.surveyJobComplete slot ref k) s = .next s) ∧
    (∀ x, s.dev.survey slot ref = some x →
      let busy := x.kind = 1 ∧ x.start.isSome = true
      let onAir := x.kind = 3 ∧ x.start.isSome = true ∧ x.ended = false
      let done := (x.kind = 1 ∧ x.segments ≤ x.done) ∨ (x.kind = 2 ∧ x.start.isSome = true) ∨ (x.kind ≠ 1 ∧ x.kind ≠ 2 ∧ x.ended = true)
      let squeezed := x.done + 1 < x.segments ∧ s.dev.get pMode = 0 ∧ shareUnits .scan (s.dev.share slot 1) < x.need
      (∀ m, ¬busy → exec (.scanSegmentDone slot ref m) s = .next s) ∧
      (∀ m, busy → x.withdrawn = false → ¬squeezed → ∃ e y n, exec (.scanSegmentDone slot ref m) s = .next (s.on e) ∧ e.survey slot ref = some y ∧
        y.done = x.done + 1 ∧ y.points = x.points + n ∧ y.start = none ∧ y.data.length = x.data.length + 2 * n ∧
        y.used = x.used + (if x.rx = 255 then x.need else 0) ∧ (m.invalid.isSome = true → y.data = x.data ++ (List.replicate n (s16 (-32768))).flatten) ∧
        (x.rx = 255 → e.sc.job = none) ∧
        (x.done + 1 < x.segments → ∃ q ∈ e.sched.fresh, q.res = .scan ∧ q.slot = slot ∧ q.ref = ref ∧ q.need = x.need)) ∧
      (∀ m, busy → x.withdrawn = true → ∃ e, exec (.scanSegmentDone slot ref m) s = .next (s.on e) ∧ gone e .denied) ∧
      (∀ m, busy → x.withdrawn = false → squeezed → ∃ e, exec (.scanSegmentDone slot ref m) s = .next (s.on e) ∧ gone e .wouldExceed) ∧
      (∀ m, ¬onAir → exec (.probeEnd slot ref m) s = .next s) ∧
      (∀ m, onAir → ∃ e y, exec (.probeEnd slot ref m) s = .next (s.on e) ∧ e.survey slot ref = some y ∧ y.ended = true ∧ y.start = none ∧
        y.result = (s.dev.probeFigures x m).1 ∧ y.data = (s.dev.probeFigures x m).2 ∧ (x.tx < s.dev.lanes.length → (e.lane x.tx).probing = false)) ∧
      (∀ m, ¬done → exec (.surveyJobComplete slot ref m) s = .next s) ∧
      (∀ m, done → ∃ e, exec (.surveyJobComplete slot ref m) s = .next (s.on e) ∧ e.survey slot ref = none ∧
        (x.withdrawn = true → gone e .denied) ∧
        (x.withdrawn = false → ∀ c, s.dev.longOf slot ref = some c → ∃ body, Ended c (okBody body) e ∧ body.take 4 = e32 x.id) ∧
        (slot < s.dev.sv.results.length → (nth e.sv.results slot).getLast?.map (fun y => (y.id, y.kind)) = some (x.id, x.kind))) ∧
      (s.dev.since x.since < msU x.bound → exec (.surveyBoundExpiry slot ref) s = .next s) ∧
      (msU x.bound ≤ s.dev.since x.since → ∃ e, exec (.surveyBoundExpiry slot ref) s = .next (s.on e) ∧ gone e .busy))) ∧
  (∀ (s : State) (offset : Option Int) (phase : Int),
    let d := s.dev
    let taken := fun (e : Dev) => match offset with
      | some o => e.refUpdate 2 o phase
      | none => e
    let l := d.getN pCellSource
    let hears := d.owner l = 0 ∧ d.laneState l = 4 ∧ d.get pLaneFreq l = d.get pCellFreq
    let asked := ∃ q ∈ d.sched.fresh ++ d.sched.queue, q.res = .scan ∧ q.slot = 0 ∧ q.ref = cellRef
    (d.get pCellFreq = 0 → exec (.cellRefCapture offset phase) s = .next (s.on (d.withdrawRequest .scan 0 cellRef))) ∧
    (d.get pCellFreq ≠ 0 → d.get pCellSource ≠ 255 → (hears → exec (.cellRefCapture offset phase) s = .next (s.on (taken d))) ∧
      (¬hears → exec (.cellRefCapture offset phase) s = .next s)) ∧
    (d.get pCellFreq ≠ 0 → d.get pCellSource = 255 →
      (¬asked → exec (.cellRefCapture offset phase) s = .next (s.on (d.request .scan 0 cellRef 20))) ∧
      (∀ q, d.grantOf .scan 0 cellRef = some q → exec (.cellRefCapture offset phase) s = .next (s.on
        ((taken (d.withdrawRequest .scan 0 cellRef)).request .scan 0 cellRef 20))) ∧
      (asked → d.grantOf .scan 0 cellRef = none → ∃ e, exec (.cellRefCapture offset phase) s = .next (s.on e) ∧
        e.getN pCellRefMisses = inc32 (d.getN pCellRefMisses) ∧ e.sv.misses = d.sv.misses.filter (fun t => d.since t < secU 10) ++ [d.time] ∧
        SamePar (pCellRefMisses :: lossIds) d e ∧ ∃ q ∈ e.sched.fresh, q.res = .scan ∧ q.slot = 0 ∧ q.ref = cellRef ∧ q.need = 20)))

/-! ### 16 The Tollbook -/

/-- An interval adds its energy at the tariff in force and starts the next at metrology time; an accepted cycle publishes
its rms values and frequency; a pulse is 30 ms high and 60 ms apart; an episode starts after its time, counts, and
ends with its seconds; a seal that differs stops metering; every 1 s the registers are saved, and a start takes them
up. A tariff table is checked, and active or pending; registers, snapshots, seal and tamper read as held; a period
closes by command after 60 s; attribution and a signed calibration take effect with the journal. (16 Tollbook: R497,
R498, R501, R503, R506, R507, R508, R515, R517, R522, Table TB-3, Table TB-11.) -/
def Obligations.TollbookMeasuresAndAnswers : Prop :=
  (∀ (s : State) (r : Request),
    let d := s.dev
    let t := d.toll
    let mt := d.metroTime
    let stored := fun (e : Dev) (op : Nat) (b : List Byte) => (e.nvm.queue.getLast?).map (fun q => q.act) = some (.respond r.slot r.ref r.tagged op (okBody b))
    (Takes cmdTariffLoad s r →
      let say := fun (rep : Reply) => exec (.tariffLoad r) s = .next (s.on (d.respond r 0x0C01 rep))
      let bad := firstBad r.blk (tariffChecks (d.getN pTariffTableId) r.blk)
      let id := fld r.blk 4 4
      (r.blk.length ≠ 552 → say (fail .badLen)) ∧
      (∀ o, r.blk.length = 552 → bad = some o → say (failBlk .badArg o)) ∧
      (r.blk.length = 552 → bad = none → d.metroShort = true → say (fail .state)) ∧
      (r.blk.length = 552 → bad = none → d.metroShort = false → d.nvmBar = none → fld r.blk 8 4 = 0 → ∃ e, exec (.tariffLoad r) s = .next (s.on e) ∧
        e.toll.table = some r.blk ∧ e.toll.pendingTable = none ∧ e.getN pTariffTableId = id ∧ e.get pTariffPendingId = 0 ∧
        e.getN pMetroEventCount = inc32 (d.getN pMetroEventCount) ∧ e.toll.regs = t.regs ∧ stored e 0x0C01 (e32 id ++ e8 1)) ∧
      (r.blk.length = 552 → bad = none → d.metroShort = false → d.nvmBar = none → fld r.blk 8 4 ≠ 0 → ∃ e, exec (.tariffLoad r) s = .next (s.on e) ∧
        e.toll = { t with pendingTable := some r.blk } ∧ e.getN pTariffPendingId = id ∧ SamePar [pTariffPendingId] d e ∧ stored e 0x0C01 (e32 id ++ e8 0))) ∧
    (Takes cmdRegistersGet s r →
      let age := rq r 1 1
      let give := fun (b : List Byte) => exec (.registersGet r) s = .next (s.on (d.respond r 0x0C02
        (if 40 * d.halfDepth r.slot < b.length then fail .badLen else { status := .ok, body := e16 b.length, blk := b })))
      let none' := exec (.registersGet r) s = .next (s.on (d.respond r 0x0C02 (fail .badArg)))
      (rq r 0 1 = 0 → give (d.devBlock 0 0).bytes) ∧
      (rq r 0 1 = 2 → give (slotBlock t.regs.period r.slot (nth t.regs.slots r.slot))) ∧
      (∀ x, rq r 0 1 = 1 → t.devSnaps[age]? = some x → give x.bytes) ∧ (rq r 0 1 = 1 → t.devSnaps[age]? = none → none') ∧
      (∀ x, rq r 0 1 = 3 → (nth t.slotSnaps r.slot)[age]? = some x → give (slotBlock x.period r.slot x.regs)) ∧
      (rq r 0 1 = 3 → (nth t.slotSnaps r.slot)[age]? = none → none')) ∧
    (Takes cmdPeriodClose s r →
      let early := d.metroShort = true ∨ mt < t.regs.opened + 60
      (early → exec (.periodClose r) s = .next (s.on (d.respond r 0x0C03 (fail .state)))) ∧
      (¬early → d.nvmBar = none → ∃ e, exec (.periodClose r) s = .next (s.on e) ∧ e.toll.regs.period = inc32 t.regs.period ∧ e.toll.regs.opened = mt ∧
        e.toll.regs.gap = 0 ∧ e.toll.regs.imports = t.regs.imports ∧ e.toll.devSnaps = (d.devBlock mt 3 :: t.devSnaps).take 24 ∧
        e.getN pPeriodNumber = inc32 t.regs.period ∧ stored e 0x0C03 (e32 t.regs.period ++ e32 (inc32 t.regs.period)))) ∧
    (Takes cmdSealValueGet s r → exec (.sealValueGet r) s = .next (s.on (d.respond r 0x0C04 (okBody (padTo 4 t.sealId ++ e32 d.factory.versionM ++
      e32 (d.getN pMetroEventCount) ++ e32 (d.getN pCalId) ++ e32 (d.getN pTariffTableId) ++ e32 (d.since t.sealChecked / secU 1) ++ e8 (d.getN pMeterState) ++ zs 3))))) ∧
    (Takes cmdTamperStatusGet s r →
      let one := fun (k : Nat) => eb (nth t.watch k).start.isSome ++ e8 (if k = 2 ∧ (nth t.watch k).start.isSome = true then (nth t.watch k).sub else 0) ++ zs 2 ++
        e32 (nth t.regs.tamper k).episodes ++ e32 (match (nth t.watch k).start with
          | some t0 => min 4294967295 ((nth t.regs.tamper k).seconds + d.since t0 / secU 1)
          | none => (nth t.regs.tamper k).seconds)
      exec (.tamperStatusGet r) s = .next (s.on (d.respond r 0x0C05 (okBody (one 0 ++ one 1 ++ one 2 ++ e32 (min 4294967295 (t.regs.evidence / 3600000000))))))) ∧
    (Takes cmdAttributionSet s r →
      let slot := rq r 0 1
      (d.get pSlotState slot ≠ 2 → exec (.attributionSet r) s = .next (s.on (d.respond r 0x0C06 (fail .state)))) ∧
      (d.get pSlotState slot = 2 → d.nvmBar = none → ∃ e, exec (.attributionSet r) s = .next (s.on e) ∧
        e.toll = { t with regs := { t.regs with slots := upd t.regs.slots slot (fun y => { y with enabled := rq r 1 1 = 1, contract := rq r 4 4 }) } } ∧
        stored e 0x0C06 r.body)) ∧
    (Takes cmdMeterCalLoad s r →
      let b := r.blk
      let id := fld b 20 4
      let say := fun (st : Status) => exec (.meterCalLoad r) s = .next (s.on (d.respond r 0x0C07 (fail st)))
      let genuine := ecdsaCheck d.factory.metrologyKey (b.take 96) (b.drop 96) = true ∧ slice b 4 16 = d.factory.serial ∧ d.getN pCalId < id
      (b.length ≠ 160 → say .badLen) ∧ (b.length = 160 → ¬genuine → say .denied) ∧
      (b.length = 160 → genuine → firstBad b (calChecks b) ≠ none → say .badArg) ∧
      (b.length = 160 → genuine → firstBad b (calChecks b) = none → d.metroShort = true → say .state) ∧
      (b.length = 160 → genuine → firstBad b (calChecks b) = none → d.metroShort = false → d.nvmBar = none → ∃ e, exec (.meterCalLoad r) s = .next (s.on e) ∧
        e.toll.calRecord = some b ∧ e.getN pCalId = id ∧ e.toll.regs.period = inc32 t.regs.period ∧ e.toll.devSnaps = (d.devBlock mt 5 :: t.devSnaps).take 24 ∧
        e.getN pMetroEventCount = inc32 (d.getN pMetroEventCount) ∧ stored e 0x0C07 (e32 id ++ e32 (inc32 (d.getN pMetroEventCount)))))) ∧
  (∀ s : State,
    let d := s.dev
    let t := d.toll
    let stopped := d.get pMeterState = 0 ∨ d.get pMeterState = 3
    (stopped → (∀ m, exec (.integrationIntervalEnd m) s = .next s) ∧ (∀ f m, exec (.mainsCycleEnd f m) s = .next s) ∧ exec .quireMSave s = .next s) ∧
    (∀ m, ¬stopped →
      let uj := if nth t.stuck 0 = true ∨ nth t.stuck 1 = true ∨ d.meterRms m 1 < 4 then 0 else energyUj (d.calProduct m 0 1 m.vi)
      ∃ e, exec (.integrationIntervalEnd m) s = .next (s.on e) ∧ e.toll.regs.imports = upd t.regs.imports (d.getN pTariffActive - 1) (fun x => x + uj.toNat) ∧
        e.toll.regs.exported = t.regs.exported + (-uj).toNat ∧ e.toll.regs.power = Int.tdiv uj 250 ∧ e.get pMainsPActive = Int.tdiv uj 250 ∧
        e.toll.regs.backlog = t.regs.backlog + (t.regs.pulseCarry + uj.toNat) / 360000000 ∧ e.toll.regs.mtMark = d.metroTime ∧
        e.getN pMeterTime = d.metroTime ∧ e.getN pTariffActive = e.tariffAt d.metroTime) ∧
    (∀ f m, ¬stopped → f < 45000 ∨ 66000 < f → exec (.mainsCycleEnd f m) s = .next (s.on (d.set pMainsFreq 0 0))) ∧
    (∀ f m, ¬stopped → 45000 ≤ f → f ≤ 66000 → ∃ e, exec (.mainsCycleEnd f m) s = .next (s.on e) ∧ e.getN pMainsFreq = f ∧ e.getN pMainsVRms = d.meterRms m 0 ∧
      e.getN pMainsIlRms = d.meterRms m 1 ∧ e.getN pMainsInRms = d.meterRms m 2 ∧ e.getN pMainsVnpeRms = d.meterRms m 3 ∧ e.toll.cycles = true ∧
      e.toll.regs = t.regs) ∧
    (¬stopped → exec .quireMSave s = .next (s.on (d.saveToll.journal 0x0C00 0 4 none .none))) ∧
    (∀ t0, t.pulseHigh = some t0 → (d.since t0 < msU 30 → exec .meterPulse s = .next s) ∧
      (msU 30 ≤ d.since t0 → ∃ e, exec .meterPulse s = .next (s.on e) ∧ e.pins.meterPulse = false ∧ e.toll = { t with pulseHigh := none })) ∧
    (t.pulseHigh = none →
      let due := t.running = true ∧ d.get pMeterState ≠ 3 ∧ t.regs.backlog ≠ 0 ∧ ∀ t0, t.pulseAt = some t0 → msU 60 ≤ d.since t0
      (¬due → exec .meterPulse s = .next s) ∧
      (due → ∃ e, exec .meterPulse s = .next (s.on e) ∧ e.pins.meterPulse = true ∧ e.toll.pulseHigh = some d.time ∧ e.toll.pulseAt = some d.time ∧
        e.toll.regs = { t.regs with backlog := t.regs.backlog - 1 } ∧ e.getN pPulseBacklog = t.regs.backlog - 1)) ∧
    (∀ code, let k := code - 1
      let w := nth t.watch k
      let late := ∃ t0, w.held = some t0 ∧ code ≠ 0 ∧ code ≤ 3 ∧ w.start = none ∧ secU (tamperTimes k).1 < d.since t0
      let beyond := ∃ t0, w.absent = some t0 ∧ code ≠ 0 ∧ secU (tamperTimes k).2 ≤ d.since t0
      (¬late → exec (.tamperStart code) s = .next s) ∧
      (late → k < t.watch.length → k < t.regs.tamper.length → ∃ e, exec (.tamperStart code) s = .next (s.on e) ∧ (nth e.toll.watch k).start = some d.time ∧
        (nth e.toll.regs.tamper k).episodes = inc32 (nth t.regs.tamper k).episodes ∧ bit e.toll.regs.flags 2 = true ∧
        SamePar (pTamperFlags :: lossIds) d e) ∧
      (¬beyond ∨ w.start = none → exec (.tamperEnd code) s = .next s) ∧
      (∀ t0, beyond → w.start = some t0 → k < t.watch.length → k < t.regs.tamper.length → ∃ e, exec (.tamperEnd code) s = .next (s.on e) ∧
        (nth e.toll.watch k).start = none ∧
        (nth e.toll.regs.tamper k).seconds = min 4294967295 ((nth t.regs.tamper k).seconds + d.since t0 / secU 1) ∧ SamePar (pTamperFlags :: lossIds) d e)) ∧
    (∀ v, d.get pMeterState = 0 → exec (.sealRecompute v) s = .next s) ∧
    (∀ v, d.get pMeterState ≠ 0 → padTo 4 v = padTo 4 t.sealId → exec (.sealRecompute v) s = .next (s.on (d.updToll (fun t => { t with sealChecked := d.time })))) ∧
    (∀ v, d.get pMeterState ≠ 0 → padTo 4 v ≠ padTo 4 t.sealId → ∃ e, exec (.sealRecompute v) s = .next (s.on e) ∧ e.get pMeterState = 3 ∧
      e.toll = { t with saved := some t.regs, running := false, pulseHigh := none } ∧ e.pins.meterPulse = false) ∧
    (∀ valid, let go := d.pins.meterMclk = true ∧ d.pwr.phase ≠ .boot ∧ t.running = false ∧ d.get pMeterState ≠ 3
      (¬go → exec (.meteringStart valid) s = .next s) ∧
      (go → ∃ e, exec (.meteringStart valid) s = .next (s.on e) ∧ e.toll.running = true ∧ e.pins.meterPulse = false ∧ bit (e.getN pSubsysUp) 0 = true ∧
        e.get pMeterState = (if nth t.stuck 0 = true ∨ nth t.stuck 1 = true then 2 else 1) ∧
        (∀ g, valid = true → t.saved = some g → e.toll.regs.imports = g.imports ∧ e.toll.regs.exported = g.exported ∧ g.mtMark ≤ e.toll.regs.mtMark))))

/-! ### 17 The Colophon; 18 Storage, firmware and shock -/

/-- A partition is frozen for the time asked unless it is frozen or thawed within 10 s, thawed by command, with a release
of metrology records, or at its end; LOG_READ gives whole records and LOG_INFO the partition. A flush stores staged
records within the allotment. A page program moves the first entry that may go, and its last page commits it; an erase
frees what it erased. FW_STAGE opens, takes data in order, verifies and discards; FW_COMMIT names the image of the
next reset. A self-test reports. A shock starts or extends an episode, which ends 50 ms after the last detection. (17
Colophon: R537, R543, R544, R545, R546, 18 Storage and faults: R555, R559, R560, R571, R573, R575, R578.) -/
def Obligations.RecordsStorageFirmwareAndShock : Prop :=
  (∀ (s : State) (r : Request),
    let d := s.dev
    let k := rq r 0 1
    let p := d.part k
    let sess := (d.slot r.slot).session
    let stage := d.stage (rq r 1 1 - 1)
    (Takes cmdLogFreeze s r →
      let recent := ∃ t, p.thawedAt = some t ∧ d.since t < secU 10
      (p.freeze.isSome = true → exec (.logFreeze r) s = .next (s.on (d.respond r 0x0D01 (fail .frozen)))) ∧
      (p.freeze = none → recent → exec (.logFreeze r) s = .next (s.on (d.respond r 0x0D01 (fail .state)))) ∧
      (p.freeze = none → ¬recent → k < d.colo.length → ∃ e, exec (.logFreeze r) s = .next (s.on e) ∧
        (e.part k).freeze = some { ends := d.time + msU (rq r 4 4) } ∧ e.get pLogFrozen k = 1 ∧ (e.part k).next = p.next ∧
        e.host.outbox = d.host.outbox ++ [answer r 0x0D01 (okBody (e8 k ++ zs 1 ++ e48 (e.part k).oldest ++ e48 (e.part k).newest ++ zs 2 ++ e32 (rq r 4 4)))])) ∧
    (Takes cmdLogThaw s r →
      let dest := rq r 2 6
      let read := match sess with
        | some x => x.readMax
        | none => 0
      (p.freeze = none → exec (.logThaw r) s = .next (s.on (d.respond r 0x0D02 (fail .state)))) ∧
      (p.freeze.isSome = true → read < dest → exec (.logThaw r) s = .next (s.on (d.respond r 0x0D02 (fail .badArg)))) ∧
      (∀ f, p.freeze = some f → dest ≤ read → k < d.colo.length → ∃ e, exec (.logThaw r) s = .next (s.on e) ∧ (e.part k).freeze = none ∧ e.get pLogFrozen k = 0 ∧
        (e.part k).thawedAt = some d.time ∧ (dest ≠ 0 → (e.part 8).stored = (d.part 8).stored.filter (fun x => !decide (x.seq ≤ dest))) ∧
        e.host.outbox = d.host.outbox ++ [answer r 0x0D02 (okBody (e8 k ++ zs 3 ++ e32 f.lost ++ e48 dest ++ zs 2))])) ∧
    (Takes cmdLogRead s r →
      let start := rq r 2 6
      let run := readRun (min (rq r 1 1) (40 * d.halfDepth r.slot / 32)) (p.readable.filter (fun x => start ≤ x.seq))
      let top := (run.1.getLast?.map (fun x => x.seq)).getD 0
      let fl := flags [p.freeze.isSome, decide (start < p.oldest), decide (run.2.1 ≠ 0), decide (run.1 ≠ [] ∧ top = p.newest)]
      let text := e8 k ++ e8 run.1.length ++ e8 fl ++ e8 run.2.1 ++ e48 ((run.1.head?.map (fun x => x.seq)).getD 0) ++ zs 2 ++
        e48 ((run.2.2.map (fun q => q + 1)).getD start) ++ zs 2
      ∃ e, exec (.logRead r) s = .next (s.on e) ∧ e.colo = d.colo ∧ e.getN pLogCorrupt k = min 4294967295 (d.getN pLogCorrupt k + run.2.1) ∧
        (∀ x, k = 8 → p.freeze.isSome = true → sess = some x → (e.slot r.slot).session = some { x with readMax := max x.readMax top }) ∧
        e.host.outbox = d.host.outbox ++ [answer r 0x0D03 { status := .ok, blk := (run.1.map Record.bytes).flatten, body := text }]) ∧
    (Takes cmdLogInfo s r → exec (.logInfo r) s = .next (s.on (d.respond r 0x0D04 (okBody (e8 k ++
      e8 (flags [p.freeze.isSome, decide (k ≠ 8), decide (k = 8) && p.readout, !d.erasePermitted]) ++ e16 (partCapacity k) ++ e32 p.readable.length ++
      e48 p.oldest ++ zs 2 ++ e48 p.next ++ zs 2 ++ e32 (d.getN pLogLost k) ++ e32 (d.freezeLeft k)))))) ∧
    (Takes cmdFwStage s r →
      let q := rq r 1 1 - 1
      let n := stage.data.length
      let data := stage.data ++ r.blk
      let say := fun (rep : Reply) => exec (.fwStage r) s = .next (s.on (d.respond r 0x0E01 rep))
      let busy := ((k = 0 ∨ k = 2) ∧ 8 ≤ d.longCount r.slot) ∨ stage.busy.isSome = true
      let wrong := n < 64 ∧ 64 ≤ data.length ∧ (fld data 1 1 ≠ q + 1 ∨ fld data 4 4 ≤ d.activeVersion q)
      (busy → say (fail .busy)) ∧
      (k = 0 → ¬busy → d.anyBridging = true → say (fail .state)) ∧
      (k = 0 → ¬busy → d.anyBridging = false → quireSlot q < rq r 4 4 → say (fail .badArg)) ∧
      (k = 0 → ¬busy → d.anyBridging = false → rq r 4 4 ≤ quireSlot q → d.nvmBar = none → q < d.sto.stages.length →
        let sectors := (rq r 4 4 + 4095) / 4096
        ∃ e, exec (.fwStage r) s = .next (s.on e) ∧ e.stage q = { state := 1, total := rq r 4 4, eraseLeft := sectors, busy := some (r.slot, r.ref) } ∧
          e.host.outbox = d.host.outbox ++ [answer r 0x0E01 (accepted (1000 + 300 * sectors))]) ∧
      (k = 3 → ¬busy → exec (.fwStage r) s = .next (s.on ((d.updStage q (fun _ => {})).respond r 0x0E01 (okBody (Stage.body {}))))) ∧
      (k = 1 ∨ k = 2 → ¬busy → stage.state ≠ 1 → say (fail .state)) ∧
      (k = 2 → ¬busy → stage.state = 1 → exec (.fwStage r) s = .next (s.on
        ((d.updStage q (fun y => { y with busy := some (r.slot, r.ref) })).accept r 0x0E01 5000))) ∧
      (k = 1 → ¬busy → stage.state = 1 → rq r 4 4 ≠ n → say (fail .badArg)) ∧
      (k = 1 → ¬busy → stage.state = 1 → rq r 4 4 = n → stage.total < data.length → say (fail .state)) ∧
      (k = 1 → ¬busy → stage.state = 1 → rq r 4 4 = n → data.length ≤ stage.total → wrong → say (fail .badArg)) ∧
      (k = 1 → ¬busy → stage.state = 1 → rq r 4 4 = n → data.length ≤ stage.total → ¬wrong → d.nvmBar = none → q < d.sto.stages.length →
        ∃ e, exec (.fwStage r) s = .next (s.on e) ∧ e.stage q = { stage with data := data } ∧ e.host.outbox = d.host.outbox ∧
          (e.nvm.queue.getLast?).map (fun x => (x.pages, x.act)) = some ((r.blk.length + 255) / 256,
            .respond r.slot r.ref r.tagged 0x0E01 (okBody (Stage.body { stage with data := data }))))) ∧
    (Takes cmdFwCommit s r →
      let q := rq r 0 1 - 1
      let bars := (d.stage q).state ≠ 2 ∨ d.anyBridging = true ∨ (q = 1 ∧ d.metroShort = true)
      (bars → exec (.fwCommit r) s = .next (s.on (d.respond r 0x0E02 (fail .state)))) ∧
      (¬bars → d.nvmBar = none → q < d.sto.images.length → ∃ e, exec (.fwCommit r) s = .next (s.on e) ∧ e.host.outbox = d.host.outbox ∧
        (nth e.sto.images q).commit = some (fld (d.stage q).data 4 4, (sha256 (d.stage q).data).take 4) ∧
        (q = 1 → e.toll.updated = some d.toll.sealId ∧ e.toll.regs.period = inc32 d.toll.regs.period) ∧
        (e.nvm.queue.getLast?).map (fun x => x.act) = some (.respond r.slot r.ref r.tagged 0x0E02 (okBody (e8 (q + 1) ++ zs 3))))) ∧
    (Takes cmdSelftestRun s r →
      let used := d.anyBridging = true ∨ d.sv.jobs ≠ []
      (d.sto.selftest.isSome = true → exec (.selftestRun r) s = .next (s.on (d.respond r 0x0F02 (fail .busy)))) ∧
      (d.sto.selftest = none → used → exec (.selftestRun r) s = .next (s.on (d.respond r 0x0F02 (fail .state)))) ∧
      (d.sto.selftest = none → ¬used → exec (.selftestRun r) s = .next (s.on
        (({ d with sto := { d.sto with selftest := some (r.slot, r.ref, k) } } : Dev).accept r 0x0F02 30000))))) ∧
  (∀ (s : State) (slot ref : Nat),
    let d := s.dev
    (d.longIs slot ref 0x0E01 = none → exec (.fwStageComplete slot ref) s = .next s) ∧
    (∀ l, d.longIs slot ref 0x0E01 = some l →
      let q := fld l.body 1 1 - 1
      let x := d.stage q
      (x.busy ≠ some (slot, ref) → exec (.fwStageComplete slot ref) s = .next s) ∧
      (x.busy = some (slot, ref) → fld l.body 0 1 = 2 → q < d.sto.stages.length →
        let y : Stage := { x with busy := none, state := if d.imageGood q then 2 else 3 }
        ∃ e, exec (.fwStageComplete slot ref) s = .next (s.on e) ∧ e.stage q = y ∧ Ended l (okBody y.body) e) ∧
      (x.busy = some (slot, ref) → fld l.body 0 1 ≠ 2 → x.eraseLeft = 0 → q < d.sto.stages.length →
        let y : Stage := { x with busy := none }
        ∃ e, exec (.fwStageComplete slot ref) s = .next (s.on e) ∧ e.stage q = y ∧ Ended l (okBody y.body) e) ∧
      (x.busy = some (slot, ref) → fld l.body 0 1 ≠ 2 → x.eraseLeft ≠ 0 → d.since l.since < msU l.bound → exec (.fwStageComplete slot ref) s = .next s) ∧
      (x.busy = some (slot, ref) → fld l.body 0 1 ≠ 2 → x.eraseLeft ≠ 0 → msU l.bound ≤ d.since l.since → q < d.sto.stages.length →
        ∃ e, exec (.fwStageComplete slot ref) s = .next (s.on e) ∧ e.stage q = {} ∧ Ended l (fail .state) e)) ∧
    (∀ failed arb sram scrubbed fixed,
      let run := exec (.selftestComplete slot ref failed arb sram scrubbed fixed) s
      (d.sto.selftest = none ∨ d.longIs slot ref 0x0F02 = none → run = .next s) ∧
      (∀ tests l, d.sto.selftest = some (slot, ref, tests) → d.longIs slot ref 0x0F02 = some l →
        let on := fun (k v : Nat) => if bit tests k then v else 0
        let bad := tests &&& ((failed &&& 10) ||| flags [decide (sram ≠ 0), false, decide (arb ≠ 0)])
        ∃ e, run = .next (s.on e) ∧ e.sto = { d.sto with selftest := none } ∧
          Ended l (okBody (e8 tests ++ e8 bad ++ zs 2 ++ e32 (on 2 arb) ++ e32 (on 0 sram) ++ e32 (on 1 scrubbed) ++ e32 (on 1 fixed))) e))) ∧
  (∀ (s : State) (part : Nat), part < 9 → part < s.dev.colo.length →
    let d := s.dev
    let p := d.part part
    let n := min p.staged.length (partAllot part - p.allotUsed)
    let bars := p.freeze.isSome = true ∨ (d.pwr.phase ≠ .ready ∧ d.pwr.phase ≠ .quires)
    (p.freeze = none → exec (.freezeExpiry part) s = .next s) ∧
    (∀ f, p.freeze = some f → (d.time < f.ends → exec (.freezeExpiry part) s = .next s) ∧
      (f.ends ≤ d.time → ∃ e, exec (.freezeExpiry part) s = .next (s.on e) ∧ (e.part part).freeze = none ∧ (e.part part).thawedAt = some d.time ∧
        e.get pLogFrozen part = 0)) ∧
    (bars → exec (.colophonFlush part) s = .next s) ∧
    (¬bars → p.losses = [] → p.curFill ≤ 128 → ∃ e, exec (.colophonFlush part) s = .next (s.on e) ∧ (e.part part).staged = p.staged.drop n ∧
      (e.part part).allotUsed = p.allotUsed + n ∧ (part = 8 → (e.part part).stored = p.stored ++ p.staged.take n))) ∧
  (∀ s : State,
    let d := s.dev
    let live := d.pwr.state = .active ∨ d.pwr.state = .sleep
    let next := d.nvm.queue.find? d.mayProgram
    (∀ a, ¬live ∨ next = none → exec (.pageProgramComplete a) s = .next s) ∧
    (∀ q, live → next = some q →
      let half := if q.left0 ≠ 0 then 0 else 1
      let x : JournalEntry := if q.left0 ≠ 0 then { q with left0 := q.left0 - 1 } else { q with left1 := q.left1 - 1 }
      let free := if q.halves then upd d.nvm.freePages half (fun v => v - 1) else d.nvm.freePages
      (x.left0 ≠ 0 ∨ x.left1 ≠ 0 → exec (.pageProgramComplete none) s = .next (s.on (d.updNvm (fun m => { m with
        queue := m.queue.map (fun y => if y = q then x else y), freePages := free, pagesProgrammed := inc32 m.pagesProgrammed })))) ∧
      (x.left0 = 0 → x.left1 = 0 → ∀ slot ref tagged op rep, q.act = .respond slot ref tagged op rep → ∃ e, exec (.pageProgramComplete none) s = .next (s.on e) ∧
        e.nvm.queue = d.nvm.queue.erase q ∧ e.gen q.typ q.inst = q.gen ∧ e.host.outbox.length = d.host.outbox.length + 1 ∧
        (e.host.outbox.getLast?).map (fun o => (o.slot, o.ref, o.code, o.reply)) = some (slot, ref, op, rep))) ∧
    (∀ n a, d.nvm.erase = none → exec (.eraseComplete n a) s = .next s) ∧
    (∀ n kind, d.nvm.erase = some kind → ∃ e, exec (.eraseComplete n none) s = .next (s.on e) ∧ e.nvm.erases = inc32 d.nvm.erases ∧
      (∀ h, kind = .journal h → e.nvm.freePages = upd d.nvm.freePages h (fun v => v + 16)) ∧
      (∀ k, kind = .colophon k → k ≠ 8 → k < d.colo.length → (e.part k).erasedAhead = true) ∧
      (kind = .colophon 8 → (e.part 8).released = (d.part 8).released - 128) ∧
      (∀ q, kind = .stage q → (e.stage q).eraseLeft = (d.stage q).eraseLeft - 1)) ∧
    (∀ half n, let free := nth d.nvm.freePages half
      let bars := 1 < half ∨ 256 ≤ free ∨ EraseKind.journal half ∈ d.nvm.erase.toList ++ d.nvm.eraseWanted ∨ 16 < n ∨ free < n ∨ ¬live
      (bars → exec (.compaction half n) s = .next s) ∧
      (¬bars → ∃ e, exec (.compaction half n) s = .next (s.on e) ∧ e.nvm.freePages = upd d.nvm.freePages half (fun v => v - n) ∧
        e.nvm.pagesProgrammed = sat 4294967295 (d.nvm.pagesProgrammed + n) ∧ EraseKind.journal half ∈ e.nvm.erase.toList ++ e.nvm.eraseWanted)) ∧
    (let x := d.sto.shock
     let starts := fun (peak : Nat) (e : Dev) => e.sto.shock.start = some d.time ∧ e.sto.shock.last = d.time ∧ e.sto.shock.peak = peak ∧
       e.sto.shock.count = 1 ∧ e.sto.shock.episodes = inc32 x.episodes ∧ e.getN pShockCount = inc32 (d.getN pShockCount)
     (∀ v, d.watchesShock 2 = false → exec (.accelRead v) s = .next s) ∧
     (d.watchesShock 2 = true → ∃ e, exec (.accelRead none) s = .next (s.on e) ∧ e.sto.shock = { x with fails := min 3 (x.fails + 1) } ∧
       (x.fails ≠ 2 → e = d.updShock (fun y => { y with fails := min 3 (x.fails + 1) }))) ∧
     (∀ v, d.watchesShock 2 = true →
       let axis := fun (k : Nat) => if bit (d.getN pAccelFlags) 0 then signExt 2 (beNat (slice v (2 * k) 2)) else fldS v (2 * k) 2
       let sum := (axis 0 * axis 0 + axis 1 * axis 1 + axis 2 * axis 2).toNat * d.getN pAccelLsbUg ^ 2
       let peak := min 65534 ((isqrt sum + 50000) / 100000)
       let beyond := (d.getN pShockThreshold * 100000) ^ 2 < sum
       (¬beyond → exec (.accelRead (some v)) s = .next (s.on (d.updShock (fun y => { y with fails := 0 })))) ∧
       (beyond → x.start.isSome = true → exec (.accelRead (some v)) s = .next (s.on (d.updShock (fun y =>
         { y with fails := 0, last := d.time, peak := max x.peak peak, count := x.count + 1 })))) ∧
       (beyond → x.start = none → ∃ e, exec (.accelRead (some v)) s = .next (s.on e) ∧ starts peak e)) ∧
     (∀ ns, d.watchesShock 1 = false ∨ ns < 2000 → exec (.shockInEdge ns) s = .next s) ∧
     (∀ ns, d.watchesShock 1 = true → 2000 ≤ ns → x.start = none → ∃ e, exec (.shockInEdge ns) s = .next (s.on e) ∧ starts 65535 e) ∧
     (x.start = none → exec .shockEpisodeEnd s = .next s) ∧
     (x.start.isSome = true → d.since x.last < msU 50 → exec .shockEpisodeEnd s = .next s) ∧
     (let beyond : Shock := { x with start := none, lastPeak := x.peak, lastTs := x.startTs, recheckAt := some (d.time + msU 100) }
      x.start.isSome = true → msU 50 ≤ d.since x.last → ∃ e, exec .shockEpisodeEnd s = .next (s.on e) ∧ e.sto.shock = beyond ∧ SamePar lossIds d e) ∧
     (∀ reads, x.recheckAt = none → exec (.sfpRecheck reads) s = .next s) ∧
     (∀ reads t, x.recheckAt = some t → (d.time < t ∨ d.pwr.phase ≠ .ready → exec (.sfpRecheck reads) s = .next s) ∧
       (t ≤ d.time → d.pwr.phase = .ready → reads = [] → ∃ e, exec (.sfpRecheck reads) s = .next (s.on e) ∧
         e.sto.shock = { x with recheck := 0, recheckAt := none } ∧ e.link = d.link) ∧
       (∀ a, let name := fun (v : List Byte) => slice v 20 16 ++ slice v 68 16
         let same := name a = name (d.port 0).ident
         t ≤ d.time → d.pwr.phase = .ready → reads = [some a] → d.hasPort 0 = true → (d.port 0).module = true → d.get pPortState ≠ 3 → d.get pPortState ≠ 4 →
         0 < d.link.ports.length → ∃ e, exec (.sfpRecheck reads) s = .next (s.on e) ∧
           e.sto.shock = { x with recheck := if same then 1 else 2, recheckAt := none } ∧ (same → e.link = d.link) ∧ (¬same → (e.port 0).ident = a)))))

/-! ### 19 The test access port and the debug port -/

/-- IDCODE, BYPASS and SAMPLE select their register; an instruction that drives pins is BYPASS unless RESET_N is low or
the port is unlocked. DBG_CHALLENGE gives a fresh nonce and the serial, zeros in a lockout. DBG_UNLOCK ends the
challenge: a right token with an expiry within 86,400 s unlocks the port, any other counts, and the third in a row
locks it out for 600 s. DBG_ACCESS shifts out the result before and runs one raw operation while unlocked. Relock,
TRST_N and the expiry lock the port and mute every lane. (19 Electrical: R607, R608, R609, R610, R611, R612, R613,
R614, R615, Table EC-18, 08 Radio lanes: R272.) -/
def Obligations.TestAndDebugPortsAct : Prop :=
  ∀ s : State,
    let d := s.dev
    let g := d.dbg
    let may := d.pins.resetN = false ∨ g.unlocked = true
    let locked := fun (e : Dev) => e.dbg.unlocked = false ∧ e.dbg.ops = 0 ∧ e.dbg.raw = List.replicate 9 {} ∧
      (∀ l ∈ d.laneIds, l < d.convoys.length → e.laneMuted l = true)
    let ports := fun (e : Dev) => { e with tap := d.tap } = d
    (∃ e, exec .tapIdcode s = .next (s.on e) ∧ ports e ∧ e.tap.instr = 2 ∧ e.tap.driving = false ∧ e.tap.captured = e32 d.idcode) ∧
    (∀ code, code ∈ tapCodes → exec (.tapBypass code) s = .next s) ∧
    (∀ code, code ∉ tapCodes → ∃ e, exec (.tapBypass code) s = .next (s.on e) ∧ ports e ∧ e.tap.instr = 0x1F ∧ e.tap.driving = false ∧ e.tap.captured = e8 0) ∧
    (∀ pins cells, ∃ e, exec (.tapSamplePreload pins cells) s = .next (s.on e) ∧ ports e ∧ e.tap.instr = 1 ∧ e.tap.captured = tapBytes pins ∧
      (may → e.tap.cells = cells) ∧ (¬may → e.tap.cells = d.tap.cells)) ∧
    (∀ cells, ∃ e, exec (.tapExtest cells) s = .next (s.on e) ∧ ports e ∧
      (may → e.tap.instr = 0 ∧ e.tap.driving = true ∧ e.tap.cells = cells ∧ e.tap.captured = tapBytes d.tap.cells) ∧
      (¬may → e.tap.instr = 0x1F ∧ e.tap.driving = false ∧ e.tap.cells = d.tap.cells)) ∧
    (∀ q ∈ [(Instr.tapClamp, 3), (Instr.tapHighz, 4)], ∃ e, exec q.1 s = .next (s.on e) ∧ ports e ∧ e.tap.cells = d.tap.cells ∧
      (may → e.tap.instr = q.2 ∧ e.tap.driving = true) ∧ (¬may → e.tap.instr = 0x1F ∧ e.tap.driving = false)) ∧
    (∃ e, exec .dbgStatus s = .next (s.on e) ∧ ports e ∧ e.tap.instr = 0x10 ∧ e.tap.captured = e32 d.dbgStatus) ∧
    (0 < d.dbgLockLeft ∨ d.powered = false → ∃ e, exec .dbgChallenge s = .next (s.on e) ∧ ports e ∧ e.tap.captured = zs 32) ∧
    (d.dbgLockLeft = 0 → d.powered = true → let nonce := (List.range 16).map (Config.randomByte d.free)
      ∃ e, exec .dbgChallenge s = .next (s.on e) ∧ e.dbg = { g with nonce := some (nonce, d.time) } ∧ e.free = d.free + 1 ∧
        e.tap.captured = nonce ++ padTo 16 d.factory.serial ∧ e.ao = d.ao) ∧
    (∀ expiry token,
      let right := ∃ nonce, d.dbgPending = some nonce ∧ d.powered = true ∧ d.get pSlotState 0 = 2 ∧ d.wallValid = true ∧ d.effTime < expiry ∧
        expiry ≤ d.effTime + 86400 ∧ token = d.dbgToken nonce expiry
      let opened : Debug := { g with nonce := none, unlocked := true, expiry := expiry, ops := 0, result := 0, raw := List.replicate 9 {} }
      (right → ∃ e, exec (.dbgUnlock expiry token) s = .next (s.on e) ∧ e.dbg = opened ∧ e.ao = { d.ao with dbgFails := 0, dbgLockEnd := none } ∧ SamePar lossIds d e) ∧
      (¬right → ∃ e, exec (.dbgUnlock expiry token) s = .next (s.on e) ∧ e.dbg = { g with nonce := none } ∧
        e.ao.dbgFails = min 255 (d.ao.dbgFails + 1) ∧
        (3 ≤ d.ao.dbgFails + 1 → d.dbgLockLeft = 0 → e.ao.dbgLockEnd = some (d.time + secU 600)) ∧
        (d.ao.dbgFails + 1 < 3 ∨ 0 < d.dbgLockLeft → e.ao.dbgLockEnd = d.ao.dbgLockEnd))) ∧
    (∀ lane op arg, let l := if lane = 15 then 8 else lane
      let absent := lane ≠ 15 ∧ d.hasLane lane = false
      (g.unlocked = false → ∃ e, exec (.dbgAccess lane op arg) s = .next (s.on e) ∧ ports e ∧ e.tap.captured = zs 2 ++ e64 0 ++ zs 2) ∧
      (g.unlocked = true → ∃ e, exec (.dbgAccess lane op arg) s = .next (s.on e) ∧ e.tap.captured = zs 2 ++ e64 g.result ++ zs 2 ∧
        { e with tap := d.tap, dbg := g } = d ∧ e.dbg.ops = inc32 g.ops ∧ (absent → e.dbg.result = 0 ∧ e.dbg.raw = g.raw) ∧
        (¬absent → e.dbg.raw = upd g.raw l (fun x => x.apply op arg) ∧ e.dbg.result = d.rawResult l op arg % 18446744073709551616))) ∧
    (∃ e, exec .dbgRelock s = .next (s.on e) ∧ e.tap.instr = 0x14 ∧ (g.unlocked = true → locked e) ∧ (g.unlocked = false → ports e)) ∧
    (∃ e, exec .trstNLow s = .next (s.on e) ∧ e.tap.instr = 2 ∧ e.tap.driving = false ∧ (g.unlocked = true → locked e) ∧ (g.unlocked = false → ports e)) ∧
    (g.unlocked = false ∨ d.effTime < g.expiry → exec .dbgExpiry s = .next s) ∧
    (g.unlocked = true → g.expiry ≤ d.effTime → ∃ e, exec .dbgExpiry s = .next (s.on e) ∧ locked e) ∧
    (d.dbgPending.isSome = true → exec .dbgChallengeLapse s = .next s) ∧
    (d.dbgPending = none → exec .dbgChallengeLapse s = .next (s.on (d.updDbg (fun x => { x with nonce := none })))) ∧
    (0 < d.dbgLockLeft → exec .dbgLockoutExpiry s = .next s) ∧
    (d.dbgLockLeft = 0 → exec .dbgLockoutExpiry s = .next (s.on { d with ao := { d.ao with dbgLockEnd := none } }))
end

