-- ==== Sys2Proof/Laws/Par.lean ====
section
/-! SUPPORT. The parameter store: a parameter set reads as set, and every other one as before. -/

namespace Sys2Proof.Machine

theorem ParStore.find_erase (p : ParStore) (k j : Nat) : (p.erase k).find j = if j = k then none else p.find j := by
  induction p with
  | nil => simp [ParStore.erase, ParStore.find]
  | cons c p ih =>
    unfold ParStore.erase
    by_cases h : c.1 = k
    · simp only [h, if_true, ih, ParStore.find]
      by_cases hj : j = k
      · simp [hj]
      · simp [hj, Ne.symm hj]
    · simp only [h, if_false, ParStore.find, ih]
      by_cases hj : j = k
      · simp [hj, h]
      · simp [hj]

theorem ParStore.find_insert (p : ParStore) (k j : Nat) (v : Int) (h : p.find k = none) :
    (p.insert k v).find j = if j = k then some v else p.find j := by
  induction p with
  | nil => simp [ParStore.insert, ParStore.find, eq_comm]
  | cons c p ih =>
    have hc : c.1 ≠ k := by
      intro hc
      simp [ParStore.find, hc] at h
    have ht : ParStore.find p k = none := by simpa [ParStore.find, hc] using h
    unfold ParStore.insert
    split
    · simp only [ParStore.find]
      by_cases hj : j = k
      · simp [hj]
      · simp [hj, Ne.symm hj]
    · simp only [ParStore.find, ih ht]
      by_cases hj : j = k
      · simp [hj, hc]
      · simp [hj]

/-- A store after a set, by key. -/
theorem ParStore.get_set (p : ParStore) (id i jd j : Nat) (v : Int) :
    (p.set id i v).get jd j = if parKey jd j = parKey id i then (if v = paramDefault id i then paramDefault jd j else v)
      else p.get jd j := by
  unfold ParStore.set ParStore.get
  by_cases hv : v = paramDefault id i
  · rw [if_pos hv, ParStore.find_erase]
    by_cases hk : parKey jd j = parKey id i <;> simp [hk, hv]
  · rw [if_neg hv, ParStore.find_insert _ _ _ _ (by rw [ParStore.find_erase, if_pos rfl]), ParStore.find_erase]
    by_cases hk : parKey jd j = parKey id i <;> simp [hk, hv]

/-- Keys tell parameters and indices below 65,536 apart. -/
theorem parKey_inj {id i jd j : Nat} (hi : i < 65536) (hj : j < 65536) (h : parKey id i = parKey jd j) : id = jd ∧ i = j := by
  unfold parKey at h
  omega

/-- A parameter set reads as set. -/
@[simp] theorem Dev.get_set_same (d : Dev) (id i : Nat) (v : Int) : (d.set id i v).get id i = v := by
  show (d.par.set id i v).get id i = v
  rw [ParStore.get_set, if_pos rfl]
  split <;> simp_all

/-- Every other parameter reads as before. -/
theorem Dev.get_set_ne (d : Dev) (id i jd j : Nat) (v : Int) (h : parKey jd j ≠ parKey id i) :
    (d.set id i v).get jd j = d.get jd j := by
  show (d.par.set id i v).get jd j = d.par.get jd j
  rw [ParStore.get_set, if_neg h]

/-- Another parameter reads as before, at every index below 65,536. -/
theorem Dev.get_set_id (d : Dev) (id i jd j : Nat) (v : Int) (hi : i < 65536) (hj : j < 65536) (h : jd ≠ id) :
    (d.set id i v).get jd j = d.get jd j :=
  d.get_set_ne id i jd j v (fun e => h (parKey_inj hj hi e).1)

/-- Another index of a parameter reads as before. -/
theorem Dev.get_set_idx (d : Dev) (id i j : Nat) (v : Int) (h : j ≠ i) : (d.set id i v).get id j = d.get id j :=
  d.get_set_ne id i id j v (fun e => h (by unfold parKey at e; omega))

@[simp] theorem Dev.get_setNv_same (d : Dev) (id i : Nat) (v : Int) : (d.setNv id i v).get id i = v :=
  d.get_set_same id i v

theorem Dev.get_setNv_ne (d : Dev) (id i jd j : Nat) (v : Int) (h : parKey jd j ≠ parKey id i) :
    (d.setNv id i v).get jd j = d.get jd j := d.get_set_ne id i jd j v h

end Sys2Proof.Machine
end

