-- ==== Sys2Proof/Laws/State.lean ====
section
/-! SUPPORT. One lemma per field per update of the device, all true by rfl, so that no proof unfolds a record update. -/

namespace Sys2Proof.Machine


/-! ### set -/

@[simp] theorem Dev.set_time (d : Dev) (id i : Nat) (v : Int) : (d.set id i v).time = d.time := rfl
@[simp] theorem Dev.set_tkc (d : Dev) (id i : Nat) (v : Int) : (d.set id i v).tkc = d.tkc := rfl
@[simp] theorem Dev.set_free (d : Dev) (id i : Nat) (v : Int) : (d.set id i v).free = d.free := rfl
@[simp] theorem Dev.set_par (d : Dev) (id i : Nat) (v : Int) : (d.set id i v).par = d.par.set id i v := rfl
@[simp] theorem Dev.set_factory (d : Dev) (id i : Nat) (v : Int) : (d.set id i v).factory = d.factory := rfl
@[simp] theorem Dev.set_slotNv (d : Dev) (id i : Nat) (v : Int) : (d.set id i v).slotNv = d.slotNv := rfl
@[simp] theorem Dev.set_slots (d : Dev) (id i : Nat) (v : Int) : (d.set id i v).slots = d.slots := rfl
@[simp] theorem Dev.set_host (d : Dev) (id i : Nat) (v : Int) : (d.set id i v).host = d.host := rfl
@[simp] theorem Dev.set_cause (d : Dev) (id i : Nat) (v : Int) : (d.set id i v).cause = d.cause := rfl
@[simp] theorem Dev.set_latched (d : Dev) (id i : Nat) (v : Int) : (d.set id i v).latched = d.latched := rfl
@[simp] theorem Dev.set_colo (d : Dev) (id i : Nat) (v : Int) : (d.set id i v).colo = d.colo := rfl
@[simp] theorem Dev.set_sched (d : Dev) (id i : Nat) (v : Int) : (d.set id i v).sched = d.sched := rfl
@[simp] theorem Dev.set_nvm (d : Dev) (id i : Nat) (v : Int) : (d.set id i v).nvm = d.nvm := rfl
@[simp] theorem Dev.set_pwr (d : Dev) (id i : Nat) (v : Int) : (d.set id i v).pwr = d.pwr := rfl
@[simp] theorem Dev.set_ao (d : Dev) (id i : Nat) (v : Int) : (d.set id i v).ao = d.ao := rfl
@[simp] theorem Dev.set_pins (d : Dev) (id i : Nat) (v : Int) : (d.set id i v).pins = d.pins := rfl
@[simp] theorem Dev.set_clk (d : Dev) (id i : Nat) (v : Int) : (d.set id i v).clk = d.clk := rfl
@[simp] theorem Dev.set_pace (d : Dev) (id i : Nat) (v : Int) : (d.set id i v).pace = d.pace := rfl
@[simp] theorem Dev.set_led (d : Dev) (id i : Nat) (v : Int) : (d.set id i v).led = d.led := rfl
@[simp] theorem Dev.set_lanes (d : Dev) (id i : Nat) (v : Int) : (d.set id i v).lanes = d.lanes := rfl
@[simp] theorem Dev.set_laneNv (d : Dev) (id i : Nat) (v : Int) : (d.set id i v).laneNv = d.laneNv := rfl
@[simp] theorem Dev.set_ranges (d : Dev) (id i : Nat) (v : Int) : (d.set id i v).ranges = d.ranges := rfl
@[simp] theorem Dev.set_convoys (d : Dev) (id i : Nat) (v : Int) : (d.set id i v).convoys = d.convoys := rfl
@[simp] theorem Dev.set_bands (d : Dev) (id i : Nat) (v : Int) : (d.set id i v).bands = d.bands := rfl
@[simp] theorem Dev.set_link (d : Dev) (id i : Nat) (v : Int) : (d.set id i v).link = d.link := rfl
@[simp] theorem Dev.set_chains (d : Dev) (id i : Nat) (v : Int) : (d.set id i v).chains = d.chains := rfl
@[simp] theorem Dev.set_scBanks (d : Dev) (id i : Nat) (v : Int) : (d.set id i v).scBanks = d.scBanks := rfl
@[simp] theorem Dev.set_sc (d : Dev) (id i : Nat) (v : Int) : (d.set id i v).sc = d.sc := rfl
@[simp] theorem Dev.set_sv (d : Dev) (id i : Nat) (v : Int) : (d.set id i v).sv = d.sv := rfl
@[simp] theorem Dev.set_toll (d : Dev) (id i : Nat) (v : Int) : (d.set id i v).toll = d.toll := rfl
@[simp] theorem Dev.set_sto (d : Dev) (id i : Nat) (v : Int) : (d.set id i v).sto = d.sto := rfl
@[simp] theorem Dev.set_cour (d : Dev) (id i : Nat) (v : Int) : (d.set id i v).cour = d.cour := rfl
@[simp] theorem Dev.set_tap (d : Dev) (id i : Nat) (v : Int) : (d.set id i v).tap = d.tap := rfl
@[simp] theorem Dev.set_dbg (d : Dev) (id i : Nat) (v : Int) : (d.set id i v).dbg = d.dbg := rfl

/-! ### setNv -/

@[simp] theorem Dev.setNv_time (d : Dev) (id i : Nat) (v : Int) : (d.setNv id i v).time = d.time := rfl
@[simp] theorem Dev.setNv_tkc (d : Dev) (id i : Nat) (v : Int) : (d.setNv id i v).tkc = d.tkc := rfl
@[simp] theorem Dev.setNv_free (d : Dev) (id i : Nat) (v : Int) : (d.setNv id i v).free = d.free := rfl
@[simp] theorem Dev.setNv_par (d : Dev) (id i : Nat) (v : Int) : (d.setNv id i v).par = d.par.set id i v := rfl
@[simp] theorem Dev.setNv_factory (d : Dev) (id i : Nat) (v : Int) : (d.setNv id i v).factory = d.factory := rfl
@[simp] theorem Dev.setNv_slotNv (d : Dev) (id i : Nat) (v : Int) : (d.setNv id i v).slotNv = d.slotNv := rfl
@[simp] theorem Dev.setNv_slots (d : Dev) (id i : Nat) (v : Int) : (d.setNv id i v).slots = d.slots := rfl
@[simp] theorem Dev.setNv_host (d : Dev) (id i : Nat) (v : Int) : (d.setNv id i v).host = d.host := rfl
@[simp] theorem Dev.setNv_cause (d : Dev) (id i : Nat) (v : Int) : (d.setNv id i v).cause = d.cause := rfl
@[simp] theorem Dev.setNv_latched (d : Dev) (id i : Nat) (v : Int) : (d.setNv id i v).latched = d.latched := rfl
@[simp] theorem Dev.setNv_colo (d : Dev) (id i : Nat) (v : Int) : (d.setNv id i v).colo = d.colo := rfl
@[simp] theorem Dev.setNv_sched (d : Dev) (id i : Nat) (v : Int) : (d.setNv id i v).sched = d.sched := rfl
@[simp] theorem Dev.setNv_nvm (d : Dev) (id i : Nat) (v : Int) : (d.setNv id i v).nvm = { d.nvm with par := d.nvm.par.set id i v } := rfl
@[simp] theorem Dev.setNv_pwr (d : Dev) (id i : Nat) (v : Int) : (d.setNv id i v).pwr = d.pwr := rfl
@[simp] theorem Dev.setNv_ao (d : Dev) (id i : Nat) (v : Int) : (d.setNv id i v).ao = d.ao := rfl
@[simp] theorem Dev.setNv_pins (d : Dev) (id i : Nat) (v : Int) : (d.setNv id i v).pins = d.pins := rfl
@[simp] theorem Dev.setNv_clk (d : Dev) (id i : Nat) (v : Int) : (d.setNv id i v).clk = d.clk := rfl
@[simp] theorem Dev.setNv_pace (d : Dev) (id i : Nat) (v : Int) : (d.setNv id i v).pace = d.pace := rfl
@[simp] theorem Dev.setNv_led (d : Dev) (id i : Nat) (v : Int) : (d.setNv id i v).led = d.led := rfl
@[simp] theorem Dev.setNv_lanes (d : Dev) (id i : Nat) (v : Int) : (d.setNv id i v).lanes = d.lanes := rfl
@[simp] theorem Dev.setNv_laneNv (d : Dev) (id i : Nat) (v : Int) : (d.setNv id i v).laneNv = d.laneNv := rfl
@[simp] theorem Dev.setNv_ranges (d : Dev) (id i : Nat) (v : Int) : (d.setNv id i v).ranges = d.ranges := rfl
@[simp] theorem Dev.setNv_convoys (d : Dev) (id i : Nat) (v : Int) : (d.setNv id i v).convoys = d.convoys := rfl
@[simp] theorem Dev.setNv_bands (d : Dev) (id i : Nat) (v : Int) : (d.setNv id i v).bands = d.bands := rfl
@[simp] theorem Dev.setNv_link (d : Dev) (id i : Nat) (v : Int) : (d.setNv id i v).link = d.link := rfl
@[simp] theorem Dev.setNv_chains (d : Dev) (id i : Nat) (v : Int) : (d.setNv id i v).chains = d.chains := rfl
@[simp] theorem Dev.setNv_scBanks (d : Dev) (id i : Nat) (v : Int) : (d.setNv id i v).scBanks = d.scBanks := rfl
@[simp] theorem Dev.setNv_sc (d : Dev) (id i : Nat) (v : Int) : (d.setNv id i v).sc = d.sc := rfl
@[simp] theorem Dev.setNv_sv (d : Dev) (id i : Nat) (v : Int) : (d.setNv id i v).sv = d.sv := rfl
@[simp] theorem Dev.setNv_toll (d : Dev) (id i : Nat) (v : Int) : (d.setNv id i v).toll = d.toll := rfl
@[simp] theorem Dev.setNv_sto (d : Dev) (id i : Nat) (v : Int) : (d.setNv id i v).sto = d.sto := rfl
@[simp] theorem Dev.setNv_cour (d : Dev) (id i : Nat) (v : Int) : (d.setNv id i v).cour = d.cour := rfl
@[simp] theorem Dev.setNv_tap (d : Dev) (id i : Nat) (v : Int) : (d.setNv id i v).tap = d.tap := rfl
@[simp] theorem Dev.setNv_dbg (d : Dev) (id i : Nat) (v : Int) : (d.setNv id i v).dbg = d.dbg := rfl

/-! ### updSlot -/

@[simp] theorem Dev.updSlot_time (d : Dev) (k : Nat) (f : SlotRt → SlotRt) : (d.updSlot k f).time = d.time := rfl
@[simp] theorem Dev.updSlot_tkc (d : Dev) (k : Nat) (f : SlotRt → SlotRt) : (d.updSlot k f).tkc = d.tkc := rfl
@[simp] theorem Dev.updSlot_free (d : Dev) (k : Nat) (f : SlotRt → SlotRt) : (d.updSlot k f).free = d.free := rfl
@[simp] theorem Dev.updSlot_par (d : Dev) (k : Nat) (f : SlotRt → SlotRt) : (d.updSlot k f).par = d.par := rfl
@[simp] theorem Dev.updSlot_factory (d : Dev) (k : Nat) (f : SlotRt → SlotRt) : (d.updSlot k f).factory = d.factory := rfl
@[simp] theorem Dev.updSlot_slotNv (d : Dev) (k : Nat) (f : SlotRt → SlotRt) : (d.updSlot k f).slotNv = d.slotNv := rfl
@[simp] theorem Dev.updSlot_slots (d : Dev) (k : Nat) (f : SlotRt → SlotRt) : (d.updSlot k f).slots = upd d.slots k f := rfl
@[simp] theorem Dev.updSlot_host (d : Dev) (k : Nat) (f : SlotRt → SlotRt) : (d.updSlot k f).host = d.host := rfl
@[simp] theorem Dev.updSlot_cause (d : Dev) (k : Nat) (f : SlotRt → SlotRt) : (d.updSlot k f).cause = d.cause := rfl
@[simp] theorem Dev.updSlot_latched (d : Dev) (k : Nat) (f : SlotRt → SlotRt) : (d.updSlot k f).latched = d.latched := rfl
@[simp] theorem Dev.updSlot_colo (d : Dev) (k : Nat) (f : SlotRt → SlotRt) : (d.updSlot k f).colo = d.colo := rfl
@[simp] theorem Dev.updSlot_sched (d : Dev) (k : Nat) (f : SlotRt → SlotRt) : (d.updSlot k f).sched = d.sched := rfl
@[simp] theorem Dev.updSlot_nvm (d : Dev) (k : Nat) (f : SlotRt → SlotRt) : (d.updSlot k f).nvm = d.nvm := rfl
@[simp] theorem Dev.updSlot_pwr (d : Dev) (k : Nat) (f : SlotRt → SlotRt) : (d.updSlot k f).pwr = d.pwr := rfl
@[simp] theorem Dev.updSlot_ao (d : Dev) (k : Nat) (f : SlotRt → SlotRt) : (d.updSlot k f).ao = d.ao := rfl
@[simp] theorem Dev.updSlot_pins (d : Dev) (k : Nat) (f : SlotRt → SlotRt) : (d.updSlot k f).pins = d.pins := rfl
@[simp] theorem Dev.updSlot_clk (d : Dev) (k : Nat) (f : SlotRt → SlotRt) : (d.updSlot k f).clk = d.clk := rfl
@[simp] theorem Dev.updSlot_pace (d : Dev) (k : Nat) (f : SlotRt → SlotRt) : (d.updSlot k f).pace = d.pace := rfl
@[simp] theorem Dev.updSlot_led (d : Dev) (k : Nat) (f : SlotRt → SlotRt) : (d.updSlot k f).led = d.led := rfl
@[simp] theorem Dev.updSlot_lanes (d : Dev) (k : Nat) (f : SlotRt → SlotRt) : (d.updSlot k f).lanes = d.lanes := rfl
@[simp] theorem Dev.updSlot_laneNv (d : Dev) (k : Nat) (f : SlotRt → SlotRt) : (d.updSlot k f).laneNv = d.laneNv := rfl
@[simp] theorem Dev.updSlot_ranges (d : Dev) (k : Nat) (f : SlotRt → SlotRt) : (d.updSlot k f).ranges = d.ranges := rfl
@[simp] theorem Dev.updSlot_convoys (d : Dev) (k : Nat) (f : SlotRt → SlotRt) : (d.updSlot k f).convoys = d.convoys := rfl
@[simp] theorem Dev.updSlot_bands (d : Dev) (k : Nat) (f : SlotRt → SlotRt) : (d.updSlot k f).bands = d.bands := rfl
@[simp] theorem Dev.updSlot_link (d : Dev) (k : Nat) (f : SlotRt → SlotRt) : (d.updSlot k f).link = d.link := rfl
@[simp] theorem Dev.updSlot_chains (d : Dev) (k : Nat) (f : SlotRt → SlotRt) : (d.updSlot k f).chains = d.chains := rfl
@[simp] theorem Dev.updSlot_scBanks (d : Dev) (k : Nat) (f : SlotRt → SlotRt) : (d.updSlot k f).scBanks = d.scBanks := rfl
@[simp] theorem Dev.updSlot_sc (d : Dev) (k : Nat) (f : SlotRt → SlotRt) : (d.updSlot k f).sc = d.sc := rfl
@[simp] theorem Dev.updSlot_sv (d : Dev) (k : Nat) (f : SlotRt → SlotRt) : (d.updSlot k f).sv = d.sv := rfl
@[simp] theorem Dev.updSlot_toll (d : Dev) (k : Nat) (f : SlotRt → SlotRt) : (d.updSlot k f).toll = d.toll := rfl
@[simp] theorem Dev.updSlot_sto (d : Dev) (k : Nat) (f : SlotRt → SlotRt) : (d.updSlot k f).sto = d.sto := rfl
@[simp] theorem Dev.updSlot_cour (d : Dev) (k : Nat) (f : SlotRt → SlotRt) : (d.updSlot k f).cour = d.cour := rfl
@[simp] theorem Dev.updSlot_tap (d : Dev) (k : Nat) (f : SlotRt → SlotRt) : (d.updSlot k f).tap = d.tap := rfl
@[simp] theorem Dev.updSlot_dbg (d : Dev) (k : Nat) (f : SlotRt → SlotRt) : (d.updSlot k f).dbg = d.dbg := rfl

/-! ### updSlotN -/

@[simp] theorem Dev.updSlotN_time (d : Dev) (k : Nat) (f : SlotNv → SlotNv) : (d.updSlotN k f).time = d.time := rfl
@[simp] theorem Dev.updSlotN_tkc (d : Dev) (k : Nat) (f : SlotNv → SlotNv) : (d.updSlotN k f).tkc = d.tkc := rfl
@[simp] theorem Dev.updSlotN_free (d : Dev) (k : Nat) (f : SlotNv → SlotNv) : (d.updSlotN k f).free = d.free := rfl
@[simp] theorem Dev.updSlotN_par (d : Dev) (k : Nat) (f : SlotNv → SlotNv) : (d.updSlotN k f).par = d.par := rfl
@[simp] theorem Dev.updSlotN_factory (d : Dev) (k : Nat) (f : SlotNv → SlotNv) : (d.updSlotN k f).factory = d.factory := rfl
@[simp] theorem Dev.updSlotN_slotNv (d : Dev) (k : Nat) (f : SlotNv → SlotNv) : (d.updSlotN k f).slotNv = upd d.slotNv k f := rfl
@[simp] theorem Dev.updSlotN_slots (d : Dev) (k : Nat) (f : SlotNv → SlotNv) : (d.updSlotN k f).slots = d.slots := rfl
@[simp] theorem Dev.updSlotN_host (d : Dev) (k : Nat) (f : SlotNv → SlotNv) : (d.updSlotN k f).host = d.host := rfl
@[simp] theorem Dev.updSlotN_cause (d : Dev) (k : Nat) (f : SlotNv → SlotNv) : (d.updSlotN k f).cause = d.cause := rfl
@[simp] theorem Dev.updSlotN_latched (d : Dev) (k : Nat) (f : SlotNv → SlotNv) : (d.updSlotN k f).latched = d.latched := rfl
@[simp] theorem Dev.updSlotN_colo (d : Dev) (k : Nat) (f : SlotNv → SlotNv) : (d.updSlotN k f).colo = d.colo := rfl
@[simp] theorem Dev.updSlotN_sched (d : Dev) (k : Nat) (f : SlotNv → SlotNv) : (d.updSlotN k f).sched = d.sched := rfl
@[simp] theorem Dev.updSlotN_nvm (d : Dev) (k : Nat) (f : SlotNv → SlotNv) : (d.updSlotN k f).nvm = d.nvm := rfl
@[simp] theorem Dev.updSlotN_pwr (d : Dev) (k : Nat) (f : SlotNv → SlotNv) : (d.updSlotN k f).pwr = d.pwr := rfl
@[simp] theorem Dev.updSlotN_ao (d : Dev) (k : Nat) (f : SlotNv → SlotNv) : (d.updSlotN k f).ao = d.ao := rfl
@[simp] theorem Dev.updSlotN_pins (d : Dev) (k : Nat) (f : SlotNv → SlotNv) : (d.updSlotN k f).pins = d.pins := rfl
@[simp] theorem Dev.updSlotN_clk (d : Dev) (k : Nat) (f : SlotNv → SlotNv) : (d.updSlotN k f).clk = d.clk := rfl
@[simp] theorem Dev.updSlotN_pace (d : Dev) (k : Nat) (f : SlotNv → SlotNv) : (d.updSlotN k f).pace = d.pace := rfl
@[simp] theorem Dev.updSlotN_led (d : Dev) (k : Nat) (f : SlotNv → SlotNv) : (d.updSlotN k f).led = d.led := rfl
@[simp] theorem Dev.updSlotN_lanes (d : Dev) (k : Nat) (f : SlotNv → SlotNv) : (d.updSlotN k f).lanes = d.lanes := rfl
@[simp] theorem Dev.updSlotN_laneNv (d : Dev) (k : Nat) (f : SlotNv → SlotNv) : (d.updSlotN k f).laneNv = d.laneNv := rfl
@[simp] theorem Dev.updSlotN_ranges (d : Dev) (k : Nat) (f : SlotNv → SlotNv) : (d.updSlotN k f).ranges = d.ranges := rfl
@[simp] theorem Dev.updSlotN_convoys (d : Dev) (k : Nat) (f : SlotNv → SlotNv) : (d.updSlotN k f).convoys = d.convoys := rfl
@[simp] theorem Dev.updSlotN_bands (d : Dev) (k : Nat) (f : SlotNv → SlotNv) : (d.updSlotN k f).bands = d.bands := rfl
@[simp] theorem Dev.updSlotN_link (d : Dev) (k : Nat) (f : SlotNv → SlotNv) : (d.updSlotN k f).link = d.link := rfl
@[simp] theorem Dev.updSlotN_chains (d : Dev) (k : Nat) (f : SlotNv → SlotNv) : (d.updSlotN k f).chains = d.chains := rfl
@[simp] theorem Dev.updSlotN_scBanks (d : Dev) (k : Nat) (f : SlotNv → SlotNv) : (d.updSlotN k f).scBanks = d.scBanks := rfl
@[simp] theorem Dev.updSlotN_sc (d : Dev) (k : Nat) (f : SlotNv → SlotNv) : (d.updSlotN k f).sc = d.sc := rfl
@[simp] theorem Dev.updSlotN_sv (d : Dev) (k : Nat) (f : SlotNv → SlotNv) : (d.updSlotN k f).sv = d.sv := rfl
@[simp] theorem Dev.updSlotN_toll (d : Dev) (k : Nat) (f : SlotNv → SlotNv) : (d.updSlotN k f).toll = d.toll := rfl
@[simp] theorem Dev.updSlotN_sto (d : Dev) (k : Nat) (f : SlotNv → SlotNv) : (d.updSlotN k f).sto = d.sto := rfl
@[simp] theorem Dev.updSlotN_cour (d : Dev) (k : Nat) (f : SlotNv → SlotNv) : (d.updSlotN k f).cour = d.cour := rfl
@[simp] theorem Dev.updSlotN_tap (d : Dev) (k : Nat) (f : SlotNv → SlotNv) : (d.updSlotN k f).tap = d.tap := rfl
@[simp] theorem Dev.updSlotN_dbg (d : Dev) (k : Nat) (f : SlotNv → SlotNv) : (d.updSlotN k f).dbg = d.dbg := rfl

/-! ### updHost -/

@[simp] theorem Dev.updHost_time (d : Dev) (f : HostPort → HostPort) : (d.updHost f).time = d.time := rfl
@[simp] theorem Dev.updHost_tkc (d : Dev) (f : HostPort → HostPort) : (d.updHost f).tkc = d.tkc := rfl
@[simp] theorem Dev.updHost_free (d : Dev) (f : HostPort → HostPort) : (d.updHost f).free = d.free := rfl
@[simp] theorem Dev.updHost_par (d : Dev) (f : HostPort → HostPort) : (d.updHost f).par = d.par := rfl
@[simp] theorem Dev.updHost_factory (d : Dev) (f : HostPort → HostPort) : (d.updHost f).factory = d.factory := rfl
@[simp] theorem Dev.updHost_slotNv (d : Dev) (f : HostPort → HostPort) : (d.updHost f).slotNv = d.slotNv := rfl
@[simp] theorem Dev.updHost_slots (d : Dev) (f : HostPort → HostPort) : (d.updHost f).slots = d.slots := rfl
@[simp] theorem Dev.updHost_host (d : Dev) (f : HostPort → HostPort) : (d.updHost f).host = f d.host := rfl
@[simp] theorem Dev.updHost_cause (d : Dev) (f : HostPort → HostPort) : (d.updHost f).cause = d.cause := rfl
@[simp] theorem Dev.updHost_latched (d : Dev) (f : HostPort → HostPort) : (d.updHost f).latched = d.latched := rfl
@[simp] theorem Dev.updHost_colo (d : Dev) (f : HostPort → HostPort) : (d.updHost f).colo = d.colo := rfl
@[simp] theorem Dev.updHost_sched (d : Dev) (f : HostPort → HostPort) : (d.updHost f).sched = d.sched := rfl
@[simp] theorem Dev.updHost_nvm (d : Dev) (f : HostPort → HostPort) : (d.updHost f).nvm = d.nvm := rfl
@[simp] theorem Dev.updHost_pwr (d : Dev) (f : HostPort → HostPort) : (d.updHost f).pwr = d.pwr := rfl
@[simp] theorem Dev.updHost_ao (d : Dev) (f : HostPort → HostPort) : (d.updHost f).ao = d.ao := rfl
@[simp] theorem Dev.updHost_pins (d : Dev) (f : HostPort → HostPort) : (d.updHost f).pins = d.pins := rfl
@[simp] theorem Dev.updHost_clk (d : Dev) (f : HostPort → HostPort) : (d.updHost f).clk = d.clk := rfl
@[simp] theorem Dev.updHost_pace (d : Dev) (f : HostPort → HostPort) : (d.updHost f).pace = d.pace := rfl
@[simp] theorem Dev.updHost_led (d : Dev) (f : HostPort → HostPort) : (d.updHost f).led = d.led := rfl
@[simp] theorem Dev.updHost_lanes (d : Dev) (f : HostPort → HostPort) : (d.updHost f).lanes = d.lanes := rfl
@[simp] theorem Dev.updHost_laneNv (d : Dev) (f : HostPort → HostPort) : (d.updHost f).laneNv = d.laneNv := rfl
@[simp] theorem Dev.updHost_ranges (d : Dev) (f : HostPort → HostPort) : (d.updHost f).ranges = d.ranges := rfl
@[simp] theorem Dev.updHost_convoys (d : Dev) (f : HostPort → HostPort) : (d.updHost f).convoys = d.convoys := rfl
@[simp] theorem Dev.updHost_bands (d : Dev) (f : HostPort → HostPort) : (d.updHost f).bands = d.bands := rfl
@[simp] theorem Dev.updHost_link (d : Dev) (f : HostPort → HostPort) : (d.updHost f).link = d.link := rfl
@[simp] theorem Dev.updHost_chains (d : Dev) (f : HostPort → HostPort) : (d.updHost f).chains = d.chains := rfl
@[simp] theorem Dev.updHost_scBanks (d : Dev) (f : HostPort → HostPort) : (d.updHost f).scBanks = d.scBanks := rfl
@[simp] theorem Dev.updHost_sc (d : Dev) (f : HostPort → HostPort) : (d.updHost f).sc = d.sc := rfl
@[simp] theorem Dev.updHost_sv (d : Dev) (f : HostPort → HostPort) : (d.updHost f).sv = d.sv := rfl
@[simp] theorem Dev.updHost_toll (d : Dev) (f : HostPort → HostPort) : (d.updHost f).toll = d.toll := rfl
@[simp] theorem Dev.updHost_sto (d : Dev) (f : HostPort → HostPort) : (d.updHost f).sto = d.sto := rfl
@[simp] theorem Dev.updHost_cour (d : Dev) (f : HostPort → HostPort) : (d.updHost f).cour = d.cour := rfl
@[simp] theorem Dev.updHost_tap (d : Dev) (f : HostPort → HostPort) : (d.updHost f).tap = d.tap := rfl
@[simp] theorem Dev.updHost_dbg (d : Dev) (f : HostPort → HostPort) : (d.updHost f).dbg = d.dbg := rfl

/-! ### updPart -/

@[simp] theorem Dev.updPart_time (d : Dev) (k : Nat) (f : Partition → Partition) : (d.updPart k f).time = d.time := rfl
@[simp] theorem Dev.updPart_tkc (d : Dev) (k : Nat) (f : Partition → Partition) : (d.updPart k f).tkc = d.tkc := rfl
@[simp] theorem Dev.updPart_free (d : Dev) (k : Nat) (f : Partition → Partition) : (d.updPart k f).free = d.free := rfl
@[simp] theorem Dev.updPart_par (d : Dev) (k : Nat) (f : Partition → Partition) : (d.updPart k f).par = d.par := rfl
@[simp] theorem Dev.updPart_factory (d : Dev) (k : Nat) (f : Partition → Partition) : (d.updPart k f).factory = d.factory := rfl
@[simp] theorem Dev.updPart_slotNv (d : Dev) (k : Nat) (f : Partition → Partition) : (d.updPart k f).slotNv = d.slotNv := rfl
@[simp] theorem Dev.updPart_slots (d : Dev) (k : Nat) (f : Partition → Partition) : (d.updPart k f).slots = d.slots := rfl
@[simp] theorem Dev.updPart_host (d : Dev) (k : Nat) (f : Partition → Partition) : (d.updPart k f).host = d.host := rfl
@[simp] theorem Dev.updPart_cause (d : Dev) (k : Nat) (f : Partition → Partition) : (d.updPart k f).cause = d.cause := rfl
@[simp] theorem Dev.updPart_latched (d : Dev) (k : Nat) (f : Partition → Partition) : (d.updPart k f).latched = d.latched := rfl
@[simp] theorem Dev.updPart_colo (d : Dev) (k : Nat) (f : Partition → Partition) : (d.updPart k f).colo = upd d.colo k f := rfl
@[simp] theorem Dev.updPart_sched (d : Dev) (k : Nat) (f : Partition → Partition) : (d.updPart k f).sched = d.sched := rfl
@[simp] theorem Dev.updPart_nvm (d : Dev) (k : Nat) (f : Partition → Partition) : (d.updPart k f).nvm = d.nvm := rfl
@[simp] theorem Dev.updPart_pwr (d : Dev) (k : Nat) (f : Partition → Partition) : (d.updPart k f).pwr = d.pwr := rfl
@[simp] theorem Dev.updPart_ao (d : Dev) (k : Nat) (f : Partition → Partition) : (d.updPart k f).ao = d.ao := rfl
@[simp] theorem Dev.updPart_pins (d : Dev) (k : Nat) (f : Partition → Partition) : (d.updPart k f).pins = d.pins := rfl
@[simp] theorem Dev.updPart_clk (d : Dev) (k : Nat) (f : Partition → Partition) : (d.updPart k f).clk = d.clk := rfl
@[simp] theorem Dev.updPart_pace (d : Dev) (k : Nat) (f : Partition → Partition) : (d.updPart k f).pace = d.pace := rfl
@[simp] theorem Dev.updPart_led (d : Dev) (k : Nat) (f : Partition → Partition) : (d.updPart k f).led = d.led := rfl
@[simp] theorem Dev.updPart_lanes (d : Dev) (k : Nat) (f : Partition → Partition) : (d.updPart k f).lanes = d.lanes := rfl
@[simp] theorem Dev.updPart_laneNv (d : Dev) (k : Nat) (f : Partition → Partition) : (d.updPart k f).laneNv = d.laneNv := rfl
@[simp] theorem Dev.updPart_ranges (d : Dev) (k : Nat) (f : Partition → Partition) : (d.updPart k f).ranges = d.ranges := rfl
@[simp] theorem Dev.updPart_convoys (d : Dev) (k : Nat) (f : Partition → Partition) : (d.updPart k f).convoys = d.convoys := rfl
@[simp] theorem Dev.updPart_bands (d : Dev) (k : Nat) (f : Partition → Partition) : (d.updPart k f).bands = d.bands := rfl
@[simp] theorem Dev.updPart_link (d : Dev) (k : Nat) (f : Partition → Partition) : (d.updPart k f).link = d.link := rfl
@[simp] theorem Dev.updPart_chains (d : Dev) (k : Nat) (f : Partition → Partition) : (d.updPart k f).chains = d.chains := rfl
@[simp] theorem Dev.updPart_scBanks (d : Dev) (k : Nat) (f : Partition → Partition) : (d.updPart k f).scBanks = d.scBanks := rfl
@[simp] theorem Dev.updPart_sc (d : Dev) (k : Nat) (f : Partition → Partition) : (d.updPart k f).sc = d.sc := rfl
@[simp] theorem Dev.updPart_sv (d : Dev) (k : Nat) (f : Partition → Partition) : (d.updPart k f).sv = d.sv := rfl
@[simp] theorem Dev.updPart_toll (d : Dev) (k : Nat) (f : Partition → Partition) : (d.updPart k f).toll = d.toll := rfl
@[simp] theorem Dev.updPart_sto (d : Dev) (k : Nat) (f : Partition → Partition) : (d.updPart k f).sto = d.sto := rfl
@[simp] theorem Dev.updPart_cour (d : Dev) (k : Nat) (f : Partition → Partition) : (d.updPart k f).cour = d.cour := rfl
@[simp] theorem Dev.updPart_tap (d : Dev) (k : Nat) (f : Partition → Partition) : (d.updPart k f).tap = d.tap := rfl
@[simp] theorem Dev.updPart_dbg (d : Dev) (k : Nat) (f : Partition → Partition) : (d.updPart k f).dbg = d.dbg := rfl

/-! ### updNvm -/

@[simp] theorem Dev.updNvm_time (d : Dev) (f : Nvm → Nvm) : (d.updNvm f).time = d.time := rfl
@[simp] theorem Dev.updNvm_tkc (d : Dev) (f : Nvm → Nvm) : (d.updNvm f).tkc = d.tkc := rfl
@[simp] theorem Dev.updNvm_free (d : Dev) (f : Nvm → Nvm) : (d.updNvm f).free = d.free := rfl
@[simp] theorem Dev.updNvm_par (d : Dev) (f : Nvm → Nvm) : (d.updNvm f).par = d.par := rfl
@[simp] theorem Dev.updNvm_factory (d : Dev) (f : Nvm → Nvm) : (d.updNvm f).factory = d.factory := rfl
@[simp] theorem Dev.updNvm_slotNv (d : Dev) (f : Nvm → Nvm) : (d.updNvm f).slotNv = d.slotNv := rfl
@[simp] theorem Dev.updNvm_slots (d : Dev) (f : Nvm → Nvm) : (d.updNvm f).slots = d.slots := rfl
@[simp] theorem Dev.updNvm_host (d : Dev) (f : Nvm → Nvm) : (d.updNvm f).host = d.host := rfl
@[simp] theorem Dev.updNvm_cause (d : Dev) (f : Nvm → Nvm) : (d.updNvm f).cause = d.cause := rfl
@[simp] theorem Dev.updNvm_latched (d : Dev) (f : Nvm → Nvm) : (d.updNvm f).latched = d.latched := rfl
@[simp] theorem Dev.updNvm_colo (d : Dev) (f : Nvm → Nvm) : (d.updNvm f).colo = d.colo := rfl
@[simp] theorem Dev.updNvm_sched (d : Dev) (f : Nvm → Nvm) : (d.updNvm f).sched = d.sched := rfl
@[simp] theorem Dev.updNvm_nvm (d : Dev) (f : Nvm → Nvm) : (d.updNvm f).nvm = f d.nvm := rfl
@[simp] theorem Dev.updNvm_pwr (d : Dev) (f : Nvm → Nvm) : (d.updNvm f).pwr = d.pwr := rfl
@[simp] theorem Dev.updNvm_ao (d : Dev) (f : Nvm → Nvm) : (d.updNvm f).ao = d.ao := rfl
@[simp] theorem Dev.updNvm_pins (d : Dev) (f : Nvm → Nvm) : (d.updNvm f).pins = d.pins := rfl
@[simp] theorem Dev.updNvm_clk (d : Dev) (f : Nvm → Nvm) : (d.updNvm f).clk = d.clk := rfl
@[simp] theorem Dev.updNvm_pace (d : Dev) (f : Nvm → Nvm) : (d.updNvm f).pace = d.pace := rfl
@[simp] theorem Dev.updNvm_led (d : Dev) (f : Nvm → Nvm) : (d.updNvm f).led = d.led := rfl
@[simp] theorem Dev.updNvm_lanes (d : Dev) (f : Nvm → Nvm) : (d.updNvm f).lanes = d.lanes := rfl
@[simp] theorem Dev.updNvm_laneNv (d : Dev) (f : Nvm → Nvm) : (d.updNvm f).laneNv = d.laneNv := rfl
@[simp] theorem Dev.updNvm_ranges (d : Dev) (f : Nvm → Nvm) : (d.updNvm f).ranges = d.ranges := rfl
@[simp] theorem Dev.updNvm_convoys (d : Dev) (f : Nvm → Nvm) : (d.updNvm f).convoys = d.convoys := rfl
@[simp] theorem Dev.updNvm_bands (d : Dev) (f : Nvm → Nvm) : (d.updNvm f).bands = d.bands := rfl
@[simp] theorem Dev.updNvm_link (d : Dev) (f : Nvm → Nvm) : (d.updNvm f).link = d.link := rfl
@[simp] theorem Dev.updNvm_chains (d : Dev) (f : Nvm → Nvm) : (d.updNvm f).chains = d.chains := rfl
@[simp] theorem Dev.updNvm_scBanks (d : Dev) (f : Nvm → Nvm) : (d.updNvm f).scBanks = d.scBanks := rfl
@[simp] theorem Dev.updNvm_sc (d : Dev) (f : Nvm → Nvm) : (d.updNvm f).sc = d.sc := rfl
@[simp] theorem Dev.updNvm_sv (d : Dev) (f : Nvm → Nvm) : (d.updNvm f).sv = d.sv := rfl
@[simp] theorem Dev.updNvm_toll (d : Dev) (f : Nvm → Nvm) : (d.updNvm f).toll = d.toll := rfl
@[simp] theorem Dev.updNvm_sto (d : Dev) (f : Nvm → Nvm) : (d.updNvm f).sto = d.sto := rfl
@[simp] theorem Dev.updNvm_cour (d : Dev) (f : Nvm → Nvm) : (d.updNvm f).cour = d.cour := rfl
@[simp] theorem Dev.updNvm_tap (d : Dev) (f : Nvm → Nvm) : (d.updNvm f).tap = d.tap := rfl
@[simp] theorem Dev.updNvm_dbg (d : Dev) (f : Nvm → Nvm) : (d.updNvm f).dbg = d.dbg := rfl

/-! ### updPwr -/

@[simp] theorem Dev.updPwr_time (d : Dev) (f : Power → Power) : (d.updPwr f).time = d.time := rfl
@[simp] theorem Dev.updPwr_tkc (d : Dev) (f : Power → Power) : (d.updPwr f).tkc = d.tkc := rfl
@[simp] theorem Dev.updPwr_free (d : Dev) (f : Power → Power) : (d.updPwr f).free = d.free := rfl
@[simp] theorem Dev.updPwr_par (d : Dev) (f : Power → Power) : (d.updPwr f).par = d.par := rfl
@[simp] theorem Dev.updPwr_factory (d : Dev) (f : Power → Power) : (d.updPwr f).factory = d.factory := rfl
@[simp] theorem Dev.updPwr_slotNv (d : Dev) (f : Power → Power) : (d.updPwr f).slotNv = d.slotNv := rfl
@[simp] theorem Dev.updPwr_slots (d : Dev) (f : Power → Power) : (d.updPwr f).slots = d.slots := rfl
@[simp] theorem Dev.updPwr_host (d : Dev) (f : Power → Power) : (d.updPwr f).host = d.host := rfl
@[simp] theorem Dev.updPwr_cause (d : Dev) (f : Power → Power) : (d.updPwr f).cause = d.cause := rfl
@[simp] theorem Dev.updPwr_latched (d : Dev) (f : Power → Power) : (d.updPwr f).latched = d.latched := rfl
@[simp] theorem Dev.updPwr_colo (d : Dev) (f : Power → Power) : (d.updPwr f).colo = d.colo := rfl
@[simp] theorem Dev.updPwr_sched (d : Dev) (f : Power → Power) : (d.updPwr f).sched = d.sched := rfl
@[simp] theorem Dev.updPwr_nvm (d : Dev) (f : Power → Power) : (d.updPwr f).nvm = d.nvm := rfl
@[simp] theorem Dev.updPwr_pwr (d : Dev) (f : Power → Power) : (d.updPwr f).pwr = f d.pwr := rfl
@[simp] theorem Dev.updPwr_ao (d : Dev) (f : Power → Power) : (d.updPwr f).ao = d.ao := rfl
@[simp] theorem Dev.updPwr_pins (d : Dev) (f : Power → Power) : (d.updPwr f).pins = d.pins := rfl
@[simp] theorem Dev.updPwr_clk (d : Dev) (f : Power → Power) : (d.updPwr f).clk = d.clk := rfl
@[simp] theorem Dev.updPwr_pace (d : Dev) (f : Power → Power) : (d.updPwr f).pace = d.pace := rfl
@[simp] theorem Dev.updPwr_led (d : Dev) (f : Power → Power) : (d.updPwr f).led = d.led := rfl
@[simp] theorem Dev.updPwr_lanes (d : Dev) (f : Power → Power) : (d.updPwr f).lanes = d.lanes := rfl
@[simp] theorem Dev.updPwr_laneNv (d : Dev) (f : Power → Power) : (d.updPwr f).laneNv = d.laneNv := rfl
@[simp] theorem Dev.updPwr_ranges (d : Dev) (f : Power → Power) : (d.updPwr f).ranges = d.ranges := rfl
@[simp] theorem Dev.updPwr_convoys (d : Dev) (f : Power → Power) : (d.updPwr f).convoys = d.convoys := rfl
@[simp] theorem Dev.updPwr_bands (d : Dev) (f : Power → Power) : (d.updPwr f).bands = d.bands := rfl
@[simp] theorem Dev.updPwr_link (d : Dev) (f : Power → Power) : (d.updPwr f).link = d.link := rfl
@[simp] theorem Dev.updPwr_chains (d : Dev) (f : Power → Power) : (d.updPwr f).chains = d.chains := rfl
@[simp] theorem Dev.updPwr_scBanks (d : Dev) (f : Power → Power) : (d.updPwr f).scBanks = d.scBanks := rfl
@[simp] theorem Dev.updPwr_sc (d : Dev) (f : Power → Power) : (d.updPwr f).sc = d.sc := rfl
@[simp] theorem Dev.updPwr_sv (d : Dev) (f : Power → Power) : (d.updPwr f).sv = d.sv := rfl
@[simp] theorem Dev.updPwr_toll (d : Dev) (f : Power → Power) : (d.updPwr f).toll = d.toll := rfl
@[simp] theorem Dev.updPwr_sto (d : Dev) (f : Power → Power) : (d.updPwr f).sto = d.sto := rfl
@[simp] theorem Dev.updPwr_cour (d : Dev) (f : Power → Power) : (d.updPwr f).cour = d.cour := rfl
@[simp] theorem Dev.updPwr_tap (d : Dev) (f : Power → Power) : (d.updPwr f).tap = d.tap := rfl
@[simp] theorem Dev.updPwr_dbg (d : Dev) (f : Power → Power) : (d.updPwr f).dbg = d.dbg := rfl

/-! ### updAo -/

@[simp] theorem Dev.updAo_time (d : Dev) (f : AlwaysOn → AlwaysOn) : (d.updAo f).time = d.time := rfl
@[simp] theorem Dev.updAo_tkc (d : Dev) (f : AlwaysOn → AlwaysOn) : (d.updAo f).tkc = d.tkc := rfl
@[simp] theorem Dev.updAo_free (d : Dev) (f : AlwaysOn → AlwaysOn) : (d.updAo f).free = d.free := rfl
@[simp] theorem Dev.updAo_par (d : Dev) (f : AlwaysOn → AlwaysOn) : (d.updAo f).par = d.par := rfl
@[simp] theorem Dev.updAo_factory (d : Dev) (f : AlwaysOn → AlwaysOn) : (d.updAo f).factory = d.factory := rfl
@[simp] theorem Dev.updAo_slotNv (d : Dev) (f : AlwaysOn → AlwaysOn) : (d.updAo f).slotNv = d.slotNv := rfl
@[simp] theorem Dev.updAo_slots (d : Dev) (f : AlwaysOn → AlwaysOn) : (d.updAo f).slots = d.slots := rfl
@[simp] theorem Dev.updAo_host (d : Dev) (f : AlwaysOn → AlwaysOn) : (d.updAo f).host = d.host := rfl
@[simp] theorem Dev.updAo_cause (d : Dev) (f : AlwaysOn → AlwaysOn) : (d.updAo f).cause = d.cause := rfl
@[simp] theorem Dev.updAo_latched (d : Dev) (f : AlwaysOn → AlwaysOn) : (d.updAo f).latched = d.latched := rfl
@[simp] theorem Dev.updAo_colo (d : Dev) (f : AlwaysOn → AlwaysOn) : (d.updAo f).colo = d.colo := rfl
@[simp] theorem Dev.updAo_sched (d : Dev) (f : AlwaysOn → AlwaysOn) : (d.updAo f).sched = d.sched := rfl
@[simp] theorem Dev.updAo_nvm (d : Dev) (f : AlwaysOn → AlwaysOn) : (d.updAo f).nvm = d.nvm := rfl
@[simp] theorem Dev.updAo_pwr (d : Dev) (f : AlwaysOn → AlwaysOn) : (d.updAo f).pwr = d.pwr := rfl
@[simp] theorem Dev.updAo_ao (d : Dev) (f : AlwaysOn → AlwaysOn) : (d.updAo f).ao = f d.ao := rfl
@[simp] theorem Dev.updAo_pins (d : Dev) (f : AlwaysOn → AlwaysOn) : (d.updAo f).pins = d.pins := rfl
@[simp] theorem Dev.updAo_clk (d : Dev) (f : AlwaysOn → AlwaysOn) : (d.updAo f).clk = d.clk := rfl
@[simp] theorem Dev.updAo_pace (d : Dev) (f : AlwaysOn → AlwaysOn) : (d.updAo f).pace = d.pace := rfl
@[simp] theorem Dev.updAo_led (d : Dev) (f : AlwaysOn → AlwaysOn) : (d.updAo f).led = d.led := rfl
@[simp] theorem Dev.updAo_lanes (d : Dev) (f : AlwaysOn → AlwaysOn) : (d.updAo f).lanes = d.lanes := rfl
@[simp] theorem Dev.updAo_laneNv (d : Dev) (f : AlwaysOn → AlwaysOn) : (d.updAo f).laneNv = d.laneNv := rfl
@[simp] theorem Dev.updAo_ranges (d : Dev) (f : AlwaysOn → AlwaysOn) : (d.updAo f).ranges = d.ranges := rfl
@[simp] theorem Dev.updAo_convoys (d : Dev) (f : AlwaysOn → AlwaysOn) : (d.updAo f).convoys = d.convoys := rfl
@[simp] theorem Dev.updAo_bands (d : Dev) (f : AlwaysOn → AlwaysOn) : (d.updAo f).bands = d.bands := rfl
@[simp] theorem Dev.updAo_link (d : Dev) (f : AlwaysOn → AlwaysOn) : (d.updAo f).link = d.link := rfl
@[simp] theorem Dev.updAo_chains (d : Dev) (f : AlwaysOn → AlwaysOn) : (d.updAo f).chains = d.chains := rfl
@[simp] theorem Dev.updAo_scBanks (d : Dev) (f : AlwaysOn → AlwaysOn) : (d.updAo f).scBanks = d.scBanks := rfl
@[simp] theorem Dev.updAo_sc (d : Dev) (f : AlwaysOn → AlwaysOn) : (d.updAo f).sc = d.sc := rfl
@[simp] theorem Dev.updAo_sv (d : Dev) (f : AlwaysOn → AlwaysOn) : (d.updAo f).sv = d.sv := rfl
@[simp] theorem Dev.updAo_toll (d : Dev) (f : AlwaysOn → AlwaysOn) : (d.updAo f).toll = d.toll := rfl
@[simp] theorem Dev.updAo_sto (d : Dev) (f : AlwaysOn → AlwaysOn) : (d.updAo f).sto = d.sto := rfl
@[simp] theorem Dev.updAo_cour (d : Dev) (f : AlwaysOn → AlwaysOn) : (d.updAo f).cour = d.cour := rfl
@[simp] theorem Dev.updAo_tap (d : Dev) (f : AlwaysOn → AlwaysOn) : (d.updAo f).tap = d.tap := rfl
@[simp] theorem Dev.updAo_dbg (d : Dev) (f : AlwaysOn → AlwaysOn) : (d.updAo f).dbg = d.dbg := rfl

/-! ### updPace -/

@[simp] theorem Dev.updPace_time (d : Dev) (f : Pace → Pace) : (d.updPace f).time = d.time := rfl
@[simp] theorem Dev.updPace_tkc (d : Dev) (f : Pace → Pace) : (d.updPace f).tkc = d.tkc := rfl
@[simp] theorem Dev.updPace_free (d : Dev) (f : Pace → Pace) : (d.updPace f).free = d.free := rfl
@[simp] theorem Dev.updPace_par (d : Dev) (f : Pace → Pace) : (d.updPace f).par = d.par := rfl
@[simp] theorem Dev.updPace_factory (d : Dev) (f : Pace → Pace) : (d.updPace f).factory = d.factory := rfl
@[simp] theorem Dev.updPace_slotNv (d : Dev) (f : Pace → Pace) : (d.updPace f).slotNv = d.slotNv := rfl
@[simp] theorem Dev.updPace_slots (d : Dev) (f : Pace → Pace) : (d.updPace f).slots = d.slots := rfl
@[simp] theorem Dev.updPace_host (d : Dev) (f : Pace → Pace) : (d.updPace f).host = d.host := rfl
@[simp] theorem Dev.updPace_cause (d : Dev) (f : Pace → Pace) : (d.updPace f).cause = d.cause := rfl
@[simp] theorem Dev.updPace_latched (d : Dev) (f : Pace → Pace) : (d.updPace f).latched = d.latched := rfl
@[simp] theorem Dev.updPace_colo (d : Dev) (f : Pace → Pace) : (d.updPace f).colo = d.colo := rfl
@[simp] theorem Dev.updPace_sched (d : Dev) (f : Pace → Pace) : (d.updPace f).sched = d.sched := rfl
@[simp] theorem Dev.updPace_nvm (d : Dev) (f : Pace → Pace) : (d.updPace f).nvm = d.nvm := rfl
@[simp] theorem Dev.updPace_pwr (d : Dev) (f : Pace → Pace) : (d.updPace f).pwr = d.pwr := rfl
@[simp] theorem Dev.updPace_ao (d : Dev) (f : Pace → Pace) : (d.updPace f).ao = d.ao := rfl
@[simp] theorem Dev.updPace_pins (d : Dev) (f : Pace → Pace) : (d.updPace f).pins = d.pins := rfl
@[simp] theorem Dev.updPace_clk (d : Dev) (f : Pace → Pace) : (d.updPace f).clk = d.clk := rfl
@[simp] theorem Dev.updPace_pace (d : Dev) (f : Pace → Pace) : (d.updPace f).pace = f d.pace := rfl
@[simp] theorem Dev.updPace_led (d : Dev) (f : Pace → Pace) : (d.updPace f).led = d.led := rfl
@[simp] theorem Dev.updPace_lanes (d : Dev) (f : Pace → Pace) : (d.updPace f).lanes = d.lanes := rfl
@[simp] theorem Dev.updPace_laneNv (d : Dev) (f : Pace → Pace) : (d.updPace f).laneNv = d.laneNv := rfl
@[simp] theorem Dev.updPace_ranges (d : Dev) (f : Pace → Pace) : (d.updPace f).ranges = d.ranges := rfl
@[simp] theorem Dev.updPace_convoys (d : Dev) (f : Pace → Pace) : (d.updPace f).convoys = d.convoys := rfl
@[simp] theorem Dev.updPace_bands (d : Dev) (f : Pace → Pace) : (d.updPace f).bands = d.bands := rfl
@[simp] theorem Dev.updPace_link (d : Dev) (f : Pace → Pace) : (d.updPace f).link = d.link := rfl
@[simp] theorem Dev.updPace_chains (d : Dev) (f : Pace → Pace) : (d.updPace f).chains = d.chains := rfl
@[simp] theorem Dev.updPace_scBanks (d : Dev) (f : Pace → Pace) : (d.updPace f).scBanks = d.scBanks := rfl
@[simp] theorem Dev.updPace_sc (d : Dev) (f : Pace → Pace) : (d.updPace f).sc = d.sc := rfl
@[simp] theorem Dev.updPace_sv (d : Dev) (f : Pace → Pace) : (d.updPace f).sv = d.sv := rfl
@[simp] theorem Dev.updPace_toll (d : Dev) (f : Pace → Pace) : (d.updPace f).toll = d.toll := rfl
@[simp] theorem Dev.updPace_sto (d : Dev) (f : Pace → Pace) : (d.updPace f).sto = d.sto := rfl
@[simp] theorem Dev.updPace_cour (d : Dev) (f : Pace → Pace) : (d.updPace f).cour = d.cour := rfl
@[simp] theorem Dev.updPace_tap (d : Dev) (f : Pace → Pace) : (d.updPace f).tap = d.tap := rfl
@[simp] theorem Dev.updPace_dbg (d : Dev) (f : Pace → Pace) : (d.updPace f).dbg = d.dbg := rfl

/-! ### updLed -/

@[simp] theorem Dev.updLed_time (d : Dev) (f : Ledger → Ledger) : (d.updLed f).time = d.time := rfl
@[simp] theorem Dev.updLed_tkc (d : Dev) (f : Ledger → Ledger) : (d.updLed f).tkc = d.tkc := rfl
@[simp] theorem Dev.updLed_free (d : Dev) (f : Ledger → Ledger) : (d.updLed f).free = d.free := rfl
@[simp] theorem Dev.updLed_par (d : Dev) (f : Ledger → Ledger) : (d.updLed f).par = d.par := rfl
@[simp] theorem Dev.updLed_factory (d : Dev) (f : Ledger → Ledger) : (d.updLed f).factory = d.factory := rfl
@[simp] theorem Dev.updLed_slotNv (d : Dev) (f : Ledger → Ledger) : (d.updLed f).slotNv = d.slotNv := rfl
@[simp] theorem Dev.updLed_slots (d : Dev) (f : Ledger → Ledger) : (d.updLed f).slots = d.slots := rfl
@[simp] theorem Dev.updLed_host (d : Dev) (f : Ledger → Ledger) : (d.updLed f).host = d.host := rfl
@[simp] theorem Dev.updLed_cause (d : Dev) (f : Ledger → Ledger) : (d.updLed f).cause = d.cause := rfl
@[simp] theorem Dev.updLed_latched (d : Dev) (f : Ledger → Ledger) : (d.updLed f).latched = d.latched := rfl
@[simp] theorem Dev.updLed_colo (d : Dev) (f : Ledger → Ledger) : (d.updLed f).colo = d.colo := rfl
@[simp] theorem Dev.updLed_sched (d : Dev) (f : Ledger → Ledger) : (d.updLed f).sched = d.sched := rfl
@[simp] theorem Dev.updLed_nvm (d : Dev) (f : Ledger → Ledger) : (d.updLed f).nvm = d.nvm := rfl
@[simp] theorem Dev.updLed_pwr (d : Dev) (f : Ledger → Ledger) : (d.updLed f).pwr = d.pwr := rfl
@[simp] theorem Dev.updLed_ao (d : Dev) (f : Ledger → Ledger) : (d.updLed f).ao = d.ao := rfl
@[simp] theorem Dev.updLed_pins (d : Dev) (f : Ledger → Ledger) : (d.updLed f).pins = d.pins := rfl
@[simp] theorem Dev.updLed_clk (d : Dev) (f : Ledger → Ledger) : (d.updLed f).clk = d.clk := rfl
@[simp] theorem Dev.updLed_pace (d : Dev) (f : Ledger → Ledger) : (d.updLed f).pace = d.pace := rfl
@[simp] theorem Dev.updLed_led (d : Dev) (f : Ledger → Ledger) : (d.updLed f).led = f d.led := rfl
@[simp] theorem Dev.updLed_lanes (d : Dev) (f : Ledger → Ledger) : (d.updLed f).lanes = d.lanes := rfl
@[simp] theorem Dev.updLed_laneNv (d : Dev) (f : Ledger → Ledger) : (d.updLed f).laneNv = d.laneNv := rfl
@[simp] theorem Dev.updLed_ranges (d : Dev) (f : Ledger → Ledger) : (d.updLed f).ranges = d.ranges := rfl
@[simp] theorem Dev.updLed_convoys (d : Dev) (f : Ledger → Ledger) : (d.updLed f).convoys = d.convoys := rfl
@[simp] theorem Dev.updLed_bands (d : Dev) (f : Ledger → Ledger) : (d.updLed f).bands = d.bands := rfl
@[simp] theorem Dev.updLed_link (d : Dev) (f : Ledger → Ledger) : (d.updLed f).link = d.link := rfl
@[simp] theorem Dev.updLed_chains (d : Dev) (f : Ledger → Ledger) : (d.updLed f).chains = d.chains := rfl
@[simp] theorem Dev.updLed_scBanks (d : Dev) (f : Ledger → Ledger) : (d.updLed f).scBanks = d.scBanks := rfl
@[simp] theorem Dev.updLed_sc (d : Dev) (f : Ledger → Ledger) : (d.updLed f).sc = d.sc := rfl
@[simp] theorem Dev.updLed_sv (d : Dev) (f : Ledger → Ledger) : (d.updLed f).sv = d.sv := rfl
@[simp] theorem Dev.updLed_toll (d : Dev) (f : Ledger → Ledger) : (d.updLed f).toll = d.toll := rfl
@[simp] theorem Dev.updLed_sto (d : Dev) (f : Ledger → Ledger) : (d.updLed f).sto = d.sto := rfl
@[simp] theorem Dev.updLed_cour (d : Dev) (f : Ledger → Ledger) : (d.updLed f).cour = d.cour := rfl
@[simp] theorem Dev.updLed_tap (d : Dev) (f : Ledger → Ledger) : (d.updLed f).tap = d.tap := rfl
@[simp] theorem Dev.updLed_dbg (d : Dev) (f : Ledger → Ledger) : (d.updLed f).dbg = d.dbg := rfl

/-! ### updLane -/

@[simp] theorem Dev.updLane_time (d : Dev) (k : Nat) (f : Lane → Lane) : (d.updLane k f).time = d.time := rfl
@[simp] theorem Dev.updLane_tkc (d : Dev) (k : Nat) (f : Lane → Lane) : (d.updLane k f).tkc = d.tkc := rfl
@[simp] theorem Dev.updLane_free (d : Dev) (k : Nat) (f : Lane → Lane) : (d.updLane k f).free = d.free := rfl
@[simp] theorem Dev.updLane_par (d : Dev) (k : Nat) (f : Lane → Lane) : (d.updLane k f).par = d.par := rfl
@[simp] theorem Dev.updLane_factory (d : Dev) (k : Nat) (f : Lane → Lane) : (d.updLane k f).factory = d.factory := rfl
@[simp] theorem Dev.updLane_slotNv (d : Dev) (k : Nat) (f : Lane → Lane) : (d.updLane k f).slotNv = d.slotNv := rfl
@[simp] theorem Dev.updLane_slots (d : Dev) (k : Nat) (f : Lane → Lane) : (d.updLane k f).slots = d.slots := rfl
@[simp] theorem Dev.updLane_host (d : Dev) (k : Nat) (f : Lane → Lane) : (d.updLane k f).host = d.host := rfl
@[simp] theorem Dev.updLane_cause (d : Dev) (k : Nat) (f : Lane → Lane) : (d.updLane k f).cause = d.cause := rfl
@[simp] theorem Dev.updLane_latched (d : Dev) (k : Nat) (f : Lane → Lane) : (d.updLane k f).latched = d.latched := rfl
@[simp] theorem Dev.updLane_colo (d : Dev) (k : Nat) (f : Lane → Lane) : (d.updLane k f).colo = d.colo := rfl
@[simp] theorem Dev.updLane_sched (d : Dev) (k : Nat) (f : Lane → Lane) : (d.updLane k f).sched = d.sched := rfl
@[simp] theorem Dev.updLane_nvm (d : Dev) (k : Nat) (f : Lane → Lane) : (d.updLane k f).nvm = d.nvm := rfl
@[simp] theorem Dev.updLane_pwr (d : Dev) (k : Nat) (f : Lane → Lane) : (d.updLane k f).pwr = d.pwr := rfl
@[simp] theorem Dev.updLane_ao (d : Dev) (k : Nat) (f : Lane → Lane) : (d.updLane k f).ao = d.ao := rfl
@[simp] theorem Dev.updLane_pins (d : Dev) (k : Nat) (f : Lane → Lane) : (d.updLane k f).pins = d.pins := rfl
@[simp] theorem Dev.updLane_clk (d : Dev) (k : Nat) (f : Lane → Lane) : (d.updLane k f).clk = d.clk := rfl
@[simp] theorem Dev.updLane_pace (d : Dev) (k : Nat) (f : Lane → Lane) : (d.updLane k f).pace = d.pace := rfl
@[simp] theorem Dev.updLane_led (d : Dev) (k : Nat) (f : Lane → Lane) : (d.updLane k f).led = d.led := rfl
@[simp] theorem Dev.updLane_lanes (d : Dev) (k : Nat) (f : Lane → Lane) : (d.updLane k f).lanes = upd d.lanes k f := rfl
@[simp] theorem Dev.updLane_laneNv (d : Dev) (k : Nat) (f : Lane → Lane) : (d.updLane k f).laneNv = d.laneNv := rfl
@[simp] theorem Dev.updLane_ranges (d : Dev) (k : Nat) (f : Lane → Lane) : (d.updLane k f).ranges = d.ranges := rfl
@[simp] theorem Dev.updLane_convoys (d : Dev) (k : Nat) (f : Lane → Lane) : (d.updLane k f).convoys = d.convoys := rfl
@[simp] theorem Dev.updLane_bands (d : Dev) (k : Nat) (f : Lane → Lane) : (d.updLane k f).bands = d.bands := rfl
@[simp] theorem Dev.updLane_link (d : Dev) (k : Nat) (f : Lane → Lane) : (d.updLane k f).link = d.link := rfl
@[simp] theorem Dev.updLane_chains (d : Dev) (k : Nat) (f : Lane → Lane) : (d.updLane k f).chains = d.chains := rfl
@[simp] theorem Dev.updLane_scBanks (d : Dev) (k : Nat) (f : Lane → Lane) : (d.updLane k f).scBanks = d.scBanks := rfl
@[simp] theorem Dev.updLane_sc (d : Dev) (k : Nat) (f : Lane → Lane) : (d.updLane k f).sc = d.sc := rfl
@[simp] theorem Dev.updLane_sv (d : Dev) (k : Nat) (f : Lane → Lane) : (d.updLane k f).sv = d.sv := rfl
@[simp] theorem Dev.updLane_toll (d : Dev) (k : Nat) (f : Lane → Lane) : (d.updLane k f).toll = d.toll := rfl
@[simp] theorem Dev.updLane_sto (d : Dev) (k : Nat) (f : Lane → Lane) : (d.updLane k f).sto = d.sto := rfl
@[simp] theorem Dev.updLane_cour (d : Dev) (k : Nat) (f : Lane → Lane) : (d.updLane k f).cour = d.cour := rfl
@[simp] theorem Dev.updLane_tap (d : Dev) (k : Nat) (f : Lane → Lane) : (d.updLane k f).tap = d.tap := rfl
@[simp] theorem Dev.updLane_dbg (d : Dev) (k : Nat) (f : Lane → Lane) : (d.updLane k f).dbg = d.dbg := rfl

/-! ### updConvoy -/

@[simp] theorem Dev.updConvoy_time (d : Dev) (k : Nat) (f : Convoy → Convoy) : (d.updConvoy k f).time = d.time := rfl
@[simp] theorem Dev.updConvoy_tkc (d : Dev) (k : Nat) (f : Convoy → Convoy) : (d.updConvoy k f).tkc = d.tkc := rfl
@[simp] theorem Dev.updConvoy_free (d : Dev) (k : Nat) (f : Convoy → Convoy) : (d.updConvoy k f).free = d.free := rfl
@[simp] theorem Dev.updConvoy_par (d : Dev) (k : Nat) (f : Convoy → Convoy) : (d.updConvoy k f).par = d.par := rfl
@[simp] theorem Dev.updConvoy_factory (d : Dev) (k : Nat) (f : Convoy → Convoy) : (d.updConvoy k f).factory = d.factory := rfl
@[simp] theorem Dev.updConvoy_slotNv (d : Dev) (k : Nat) (f : Convoy → Convoy) : (d.updConvoy k f).slotNv = d.slotNv := rfl
@[simp] theorem Dev.updConvoy_slots (d : Dev) (k : Nat) (f : Convoy → Convoy) : (d.updConvoy k f).slots = d.slots := rfl
@[simp] theorem Dev.updConvoy_host (d : Dev) (k : Nat) (f : Convoy → Convoy) : (d.updConvoy k f).host = d.host := rfl
@[simp] theorem Dev.updConvoy_cause (d : Dev) (k : Nat) (f : Convoy → Convoy) : (d.updConvoy k f).cause = d.cause := rfl
@[simp] theorem Dev.updConvoy_latched (d : Dev) (k : Nat) (f : Convoy → Convoy) : (d.updConvoy k f).latched = d.latched := rfl
@[simp] theorem Dev.updConvoy_colo (d : Dev) (k : Nat) (f : Convoy → Convoy) : (d.updConvoy k f).colo = d.colo := rfl
@[simp] theorem Dev.updConvoy_sched (d : Dev) (k : Nat) (f : Convoy → Convoy) : (d.updConvoy k f).sched = d.sched := rfl
@[simp] theorem Dev.updConvoy_nvm (d : Dev) (k : Nat) (f : Convoy → Convoy) : (d.updConvoy k f).nvm = d.nvm := rfl
@[simp] theorem Dev.updConvoy_pwr (d : Dev) (k : Nat) (f : Convoy → Convoy) : (d.updConvoy k f).pwr = d.pwr := rfl
@[simp] theorem Dev.updConvoy_ao (d : Dev) (k : Nat) (f : Convoy → Convoy) : (d.updConvoy k f).ao = d.ao := rfl
@[simp] theorem Dev.updConvoy_pins (d : Dev) (k : Nat) (f : Convoy → Convoy) : (d.updConvoy k f).pins = d.pins := rfl
@[simp] theorem Dev.updConvoy_clk (d : Dev) (k : Nat) (f : Convoy → Convoy) : (d.updConvoy k f).clk = d.clk := rfl
@[simp] theorem Dev.updConvoy_pace (d : Dev) (k : Nat) (f : Convoy → Convoy) : (d.updConvoy k f).pace = d.pace := rfl
@[simp] theorem Dev.updConvoy_led (d : Dev) (k : Nat) (f : Convoy → Convoy) : (d.updConvoy k f).led = d.led := rfl
@[simp] theorem Dev.updConvoy_lanes (d : Dev) (k : Nat) (f : Convoy → Convoy) : (d.updConvoy k f).lanes = d.lanes := rfl
@[simp] theorem Dev.updConvoy_laneNv (d : Dev) (k : Nat) (f : Convoy → Convoy) : (d.updConvoy k f).laneNv = d.laneNv := rfl
@[simp] theorem Dev.updConvoy_ranges (d : Dev) (k : Nat) (f : Convoy → Convoy) : (d.updConvoy k f).ranges = d.ranges := rfl
@[simp] theorem Dev.updConvoy_convoys (d : Dev) (k : Nat) (f : Convoy → Convoy) : (d.updConvoy k f).convoys = upd d.convoys k f := rfl
@[simp] theorem Dev.updConvoy_bands (d : Dev) (k : Nat) (f : Convoy → Convoy) : (d.updConvoy k f).bands = d.bands := rfl
@[simp] theorem Dev.updConvoy_link (d : Dev) (k : Nat) (f : Convoy → Convoy) : (d.updConvoy k f).link = d.link := rfl
@[simp] theorem Dev.updConvoy_chains (d : Dev) (k : Nat) (f : Convoy → Convoy) : (d.updConvoy k f).chains = d.chains := rfl
@[simp] theorem Dev.updConvoy_scBanks (d : Dev) (k : Nat) (f : Convoy → Convoy) : (d.updConvoy k f).scBanks = d.scBanks := rfl
@[simp] theorem Dev.updConvoy_sc (d : Dev) (k : Nat) (f : Convoy → Convoy) : (d.updConvoy k f).sc = d.sc := rfl
@[simp] theorem Dev.updConvoy_sv (d : Dev) (k : Nat) (f : Convoy → Convoy) : (d.updConvoy k f).sv = d.sv := rfl
@[simp] theorem Dev.updConvoy_toll (d : Dev) (k : Nat) (f : Convoy → Convoy) : (d.updConvoy k f).toll = d.toll := rfl
@[simp] theorem Dev.updConvoy_sto (d : Dev) (k : Nat) (f : Convoy → Convoy) : (d.updConvoy k f).sto = d.sto := rfl
@[simp] theorem Dev.updConvoy_cour (d : Dev) (k : Nat) (f : Convoy → Convoy) : (d.updConvoy k f).cour = d.cour := rfl
@[simp] theorem Dev.updConvoy_tap (d : Dev) (k : Nat) (f : Convoy → Convoy) : (d.updConvoy k f).tap = d.tap := rfl
@[simp] theorem Dev.updConvoy_dbg (d : Dev) (k : Nat) (f : Convoy → Convoy) : (d.updConvoy k f).dbg = d.dbg := rfl

/-! ### updBand -/

@[simp] theorem Dev.updBand_time (d : Dev) (k : Nat) (f : Band → Band) : (d.updBand k f).time = d.time := rfl
@[simp] theorem Dev.updBand_tkc (d : Dev) (k : Nat) (f : Band → Band) : (d.updBand k f).tkc = d.tkc := rfl
@[simp] theorem Dev.updBand_free (d : Dev) (k : Nat) (f : Band → Band) : (d.updBand k f).free = d.free := rfl
@[simp] theorem Dev.updBand_par (d : Dev) (k : Nat) (f : Band → Band) : (d.updBand k f).par = d.par := rfl
@[simp] theorem Dev.updBand_factory (d : Dev) (k : Nat) (f : Band → Band) : (d.updBand k f).factory = d.factory := rfl
@[simp] theorem Dev.updBand_slotNv (d : Dev) (k : Nat) (f : Band → Band) : (d.updBand k f).slotNv = d.slotNv := rfl
@[simp] theorem Dev.updBand_slots (d : Dev) (k : Nat) (f : Band → Band) : (d.updBand k f).slots = d.slots := rfl
@[simp] theorem Dev.updBand_host (d : Dev) (k : Nat) (f : Band → Band) : (d.updBand k f).host = d.host := rfl
@[simp] theorem Dev.updBand_cause (d : Dev) (k : Nat) (f : Band → Band) : (d.updBand k f).cause = d.cause := rfl
@[simp] theorem Dev.updBand_latched (d : Dev) (k : Nat) (f : Band → Band) : (d.updBand k f).latched = d.latched := rfl
@[simp] theorem Dev.updBand_colo (d : Dev) (k : Nat) (f : Band → Band) : (d.updBand k f).colo = d.colo := rfl
@[simp] theorem Dev.updBand_sched (d : Dev) (k : Nat) (f : Band → Band) : (d.updBand k f).sched = d.sched := rfl
@[simp] theorem Dev.updBand_nvm (d : Dev) (k : Nat) (f : Band → Band) : (d.updBand k f).nvm = d.nvm := rfl
@[simp] theorem Dev.updBand_pwr (d : Dev) (k : Nat) (f : Band → Band) : (d.updBand k f).pwr = d.pwr := rfl
@[simp] theorem Dev.updBand_ao (d : Dev) (k : Nat) (f : Band → Band) : (d.updBand k f).ao = d.ao := rfl
@[simp] theorem Dev.updBand_pins (d : Dev) (k : Nat) (f : Band → Band) : (d.updBand k f).pins = d.pins := rfl
@[simp] theorem Dev.updBand_clk (d : Dev) (k : Nat) (f : Band → Band) : (d.updBand k f).clk = d.clk := rfl
@[simp] theorem Dev.updBand_pace (d : Dev) (k : Nat) (f : Band → Band) : (d.updBand k f).pace = d.pace := rfl
@[simp] theorem Dev.updBand_led (d : Dev) (k : Nat) (f : Band → Band) : (d.updBand k f).led = d.led := rfl
@[simp] theorem Dev.updBand_lanes (d : Dev) (k : Nat) (f : Band → Band) : (d.updBand k f).lanes = d.lanes := rfl
@[simp] theorem Dev.updBand_laneNv (d : Dev) (k : Nat) (f : Band → Band) : (d.updBand k f).laneNv = d.laneNv := rfl
@[simp] theorem Dev.updBand_ranges (d : Dev) (k : Nat) (f : Band → Band) : (d.updBand k f).ranges = d.ranges := rfl
@[simp] theorem Dev.updBand_convoys (d : Dev) (k : Nat) (f : Band → Band) : (d.updBand k f).convoys = d.convoys := rfl
@[simp] theorem Dev.updBand_bands (d : Dev) (k : Nat) (f : Band → Band) : (d.updBand k f).bands = upd d.bands k f := rfl
@[simp] theorem Dev.updBand_link (d : Dev) (k : Nat) (f : Band → Band) : (d.updBand k f).link = d.link := rfl
@[simp] theorem Dev.updBand_chains (d : Dev) (k : Nat) (f : Band → Band) : (d.updBand k f).chains = d.chains := rfl
@[simp] theorem Dev.updBand_scBanks (d : Dev) (k : Nat) (f : Band → Band) : (d.updBand k f).scBanks = d.scBanks := rfl
@[simp] theorem Dev.updBand_sc (d : Dev) (k : Nat) (f : Band → Band) : (d.updBand k f).sc = d.sc := rfl
@[simp] theorem Dev.updBand_sv (d : Dev) (k : Nat) (f : Band → Band) : (d.updBand k f).sv = d.sv := rfl
@[simp] theorem Dev.updBand_toll (d : Dev) (k : Nat) (f : Band → Band) : (d.updBand k f).toll = d.toll := rfl
@[simp] theorem Dev.updBand_sto (d : Dev) (k : Nat) (f : Band → Band) : (d.updBand k f).sto = d.sto := rfl
@[simp] theorem Dev.updBand_cour (d : Dev) (k : Nat) (f : Band → Band) : (d.updBand k f).cour = d.cour := rfl
@[simp] theorem Dev.updBand_tap (d : Dev) (k : Nat) (f : Band → Band) : (d.updBand k f).tap = d.tap := rfl
@[simp] theorem Dev.updBand_dbg (d : Dev) (k : Nat) (f : Band → Band) : (d.updBand k f).dbg = d.dbg := rfl

/-! ### updClk -/

@[simp] theorem Dev.updClk_time (d : Dev) (f : Clock → Clock) : (d.updClk f).time = d.time := rfl
@[simp] theorem Dev.updClk_tkc (d : Dev) (f : Clock → Clock) : (d.updClk f).tkc = d.tkc := rfl
@[simp] theorem Dev.updClk_free (d : Dev) (f : Clock → Clock) : (d.updClk f).free = d.free := rfl
@[simp] theorem Dev.updClk_par (d : Dev) (f : Clock → Clock) : (d.updClk f).par = d.par := rfl
@[simp] theorem Dev.updClk_factory (d : Dev) (f : Clock → Clock) : (d.updClk f).factory = d.factory := rfl
@[simp] theorem Dev.updClk_slotNv (d : Dev) (f : Clock → Clock) : (d.updClk f).slotNv = d.slotNv := rfl
@[simp] theorem Dev.updClk_slots (d : Dev) (f : Clock → Clock) : (d.updClk f).slots = d.slots := rfl
@[simp] theorem Dev.updClk_host (d : Dev) (f : Clock → Clock) : (d.updClk f).host = d.host := rfl
@[simp] theorem Dev.updClk_cause (d : Dev) (f : Clock → Clock) : (d.updClk f).cause = d.cause := rfl
@[simp] theorem Dev.updClk_latched (d : Dev) (f : Clock → Clock) : (d.updClk f).latched = d.latched := rfl
@[simp] theorem Dev.updClk_colo (d : Dev) (f : Clock → Clock) : (d.updClk f).colo = d.colo := rfl
@[simp] theorem Dev.updClk_sched (d : Dev) (f : Clock → Clock) : (d.updClk f).sched = d.sched := rfl
@[simp] theorem Dev.updClk_nvm (d : Dev) (f : Clock → Clock) : (d.updClk f).nvm = d.nvm := rfl
@[simp] theorem Dev.updClk_pwr (d : Dev) (f : Clock → Clock) : (d.updClk f).pwr = d.pwr := rfl
@[simp] theorem Dev.updClk_ao (d : Dev) (f : Clock → Clock) : (d.updClk f).ao = d.ao := rfl
@[simp] theorem Dev.updClk_pins (d : Dev) (f : Clock → Clock) : (d.updClk f).pins = d.pins := rfl
@[simp] theorem Dev.updClk_clk (d : Dev) (f : Clock → Clock) : (d.updClk f).clk = f d.clk := rfl
@[simp] theorem Dev.updClk_pace (d : Dev) (f : Clock → Clock) : (d.updClk f).pace = d.pace := rfl
@[simp] theorem Dev.updClk_led (d : Dev) (f : Clock → Clock) : (d.updClk f).led = d.led := rfl
@[simp] theorem Dev.updClk_lanes (d : Dev) (f : Clock → Clock) : (d.updClk f).lanes = d.lanes := rfl
@[simp] theorem Dev.updClk_laneNv (d : Dev) (f : Clock → Clock) : (d.updClk f).laneNv = d.laneNv := rfl
@[simp] theorem Dev.updClk_ranges (d : Dev) (f : Clock → Clock) : (d.updClk f).ranges = d.ranges := rfl
@[simp] theorem Dev.updClk_convoys (d : Dev) (f : Clock → Clock) : (d.updClk f).convoys = d.convoys := rfl
@[simp] theorem Dev.updClk_bands (d : Dev) (f : Clock → Clock) : (d.updClk f).bands = d.bands := rfl
@[simp] theorem Dev.updClk_link (d : Dev) (f : Clock → Clock) : (d.updClk f).link = d.link := rfl
@[simp] theorem Dev.updClk_chains (d : Dev) (f : Clock → Clock) : (d.updClk f).chains = d.chains := rfl
@[simp] theorem Dev.updClk_scBanks (d : Dev) (f : Clock → Clock) : (d.updClk f).scBanks = d.scBanks := rfl
@[simp] theorem Dev.updClk_sc (d : Dev) (f : Clock → Clock) : (d.updClk f).sc = d.sc := rfl
@[simp] theorem Dev.updClk_sv (d : Dev) (f : Clock → Clock) : (d.updClk f).sv = d.sv := rfl
@[simp] theorem Dev.updClk_toll (d : Dev) (f : Clock → Clock) : (d.updClk f).toll = d.toll := rfl
@[simp] theorem Dev.updClk_sto (d : Dev) (f : Clock → Clock) : (d.updClk f).sto = d.sto := rfl
@[simp] theorem Dev.updClk_cour (d : Dev) (f : Clock → Clock) : (d.updClk f).cour = d.cour := rfl
@[simp] theorem Dev.updClk_tap (d : Dev) (f : Clock → Clock) : (d.updClk f).tap = d.tap := rfl
@[simp] theorem Dev.updClk_dbg (d : Dev) (f : Clock → Clock) : (d.updClk f).dbg = d.dbg := rfl

/-! ### updRef -/

@[simp] theorem Dev.updRef_time (d : Dev) (k : Nat) (f : Ref → Ref) : (d.updRef k f).time = d.time := rfl
@[simp] theorem Dev.updRef_tkc (d : Dev) (k : Nat) (f : Ref → Ref) : (d.updRef k f).tkc = d.tkc := rfl
@[simp] theorem Dev.updRef_free (d : Dev) (k : Nat) (f : Ref → Ref) : (d.updRef k f).free = d.free := rfl
@[simp] theorem Dev.updRef_par (d : Dev) (k : Nat) (f : Ref → Ref) : (d.updRef k f).par = d.par := rfl
@[simp] theorem Dev.updRef_factory (d : Dev) (k : Nat) (f : Ref → Ref) : (d.updRef k f).factory = d.factory := rfl
@[simp] theorem Dev.updRef_slotNv (d : Dev) (k : Nat) (f : Ref → Ref) : (d.updRef k f).slotNv = d.slotNv := rfl
@[simp] theorem Dev.updRef_slots (d : Dev) (k : Nat) (f : Ref → Ref) : (d.updRef k f).slots = d.slots := rfl
@[simp] theorem Dev.updRef_host (d : Dev) (k : Nat) (f : Ref → Ref) : (d.updRef k f).host = d.host := rfl
@[simp] theorem Dev.updRef_cause (d : Dev) (k : Nat) (f : Ref → Ref) : (d.updRef k f).cause = d.cause := rfl
@[simp] theorem Dev.updRef_latched (d : Dev) (k : Nat) (f : Ref → Ref) : (d.updRef k f).latched = d.latched := rfl
@[simp] theorem Dev.updRef_colo (d : Dev) (k : Nat) (f : Ref → Ref) : (d.updRef k f).colo = d.colo := rfl
@[simp] theorem Dev.updRef_sched (d : Dev) (k : Nat) (f : Ref → Ref) : (d.updRef k f).sched = d.sched := rfl
@[simp] theorem Dev.updRef_nvm (d : Dev) (k : Nat) (f : Ref → Ref) : (d.updRef k f).nvm = d.nvm := rfl
@[simp] theorem Dev.updRef_pwr (d : Dev) (k : Nat) (f : Ref → Ref) : (d.updRef k f).pwr = d.pwr := rfl
@[simp] theorem Dev.updRef_ao (d : Dev) (k : Nat) (f : Ref → Ref) : (d.updRef k f).ao = d.ao := rfl
@[simp] theorem Dev.updRef_pins (d : Dev) (k : Nat) (f : Ref → Ref) : (d.updRef k f).pins = d.pins := rfl
@[simp] theorem Dev.updRef_clk (d : Dev) (k : Nat) (f : Ref → Ref) : (d.updRef k f).clk = { d.clk with refs := upd d.clk.refs k f } := rfl
@[simp] theorem Dev.updRef_pace (d : Dev) (k : Nat) (f : Ref → Ref) : (d.updRef k f).pace = d.pace := rfl
@[simp] theorem Dev.updRef_led (d : Dev) (k : Nat) (f : Ref → Ref) : (d.updRef k f).led = d.led := rfl
@[simp] theorem Dev.updRef_lanes (d : Dev) (k : Nat) (f : Ref → Ref) : (d.updRef k f).lanes = d.lanes := rfl
@[simp] theorem Dev.updRef_laneNv (d : Dev) (k : Nat) (f : Ref → Ref) : (d.updRef k f).laneNv = d.laneNv := rfl
@[simp] theorem Dev.updRef_ranges (d : Dev) (k : Nat) (f : Ref → Ref) : (d.updRef k f).ranges = d.ranges := rfl
@[simp] theorem Dev.updRef_convoys (d : Dev) (k : Nat) (f : Ref → Ref) : (d.updRef k f).convoys = d.convoys := rfl
@[simp] theorem Dev.updRef_bands (d : Dev) (k : Nat) (f : Ref → Ref) : (d.updRef k f).bands = d.bands := rfl
@[simp] theorem Dev.updRef_link (d : Dev) (k : Nat) (f : Ref → Ref) : (d.updRef k f).link = d.link := rfl
@[simp] theorem Dev.updRef_chains (d : Dev) (k : Nat) (f : Ref → Ref) : (d.updRef k f).chains = d.chains := rfl
@[simp] theorem Dev.updRef_scBanks (d : Dev) (k : Nat) (f : Ref → Ref) : (d.updRef k f).scBanks = d.scBanks := rfl
@[simp] theorem Dev.updRef_sc (d : Dev) (k : Nat) (f : Ref → Ref) : (d.updRef k f).sc = d.sc := rfl
@[simp] theorem Dev.updRef_sv (d : Dev) (k : Nat) (f : Ref → Ref) : (d.updRef k f).sv = d.sv := rfl
@[simp] theorem Dev.updRef_toll (d : Dev) (k : Nat) (f : Ref → Ref) : (d.updRef k f).toll = d.toll := rfl
@[simp] theorem Dev.updRef_sto (d : Dev) (k : Nat) (f : Ref → Ref) : (d.updRef k f).sto = d.sto := rfl
@[simp] theorem Dev.updRef_cour (d : Dev) (k : Nat) (f : Ref → Ref) : (d.updRef k f).cour = d.cour := rfl
@[simp] theorem Dev.updRef_tap (d : Dev) (k : Nat) (f : Ref → Ref) : (d.updRef k f).tap = d.tap := rfl
@[simp] theorem Dev.updRef_dbg (d : Dev) (k : Nat) (f : Ref → Ref) : (d.updRef k f).dbg = d.dbg := rfl

/-! ### updLink -/

@[simp] theorem Dev.updLink_time (d : Dev) (f : Link → Link) : (d.updLink f).time = d.time := rfl
@[simp] theorem Dev.updLink_tkc (d : Dev) (f : Link → Link) : (d.updLink f).tkc = d.tkc := rfl
@[simp] theorem Dev.updLink_free (d : Dev) (f : Link → Link) : (d.updLink f).free = d.free := rfl
@[simp] theorem Dev.updLink_par (d : Dev) (f : Link → Link) : (d.updLink f).par = d.par := rfl
@[simp] theorem Dev.updLink_factory (d : Dev) (f : Link → Link) : (d.updLink f).factory = d.factory := rfl
@[simp] theorem Dev.updLink_slotNv (d : Dev) (f : Link → Link) : (d.updLink f).slotNv = d.slotNv := rfl
@[simp] theorem Dev.updLink_slots (d : Dev) (f : Link → Link) : (d.updLink f).slots = d.slots := rfl
@[simp] theorem Dev.updLink_host (d : Dev) (f : Link → Link) : (d.updLink f).host = d.host := rfl
@[simp] theorem Dev.updLink_cause (d : Dev) (f : Link → Link) : (d.updLink f).cause = d.cause := rfl
@[simp] theorem Dev.updLink_latched (d : Dev) (f : Link → Link) : (d.updLink f).latched = d.latched := rfl
@[simp] theorem Dev.updLink_colo (d : Dev) (f : Link → Link) : (d.updLink f).colo = d.colo := rfl
@[simp] theorem Dev.updLink_sched (d : Dev) (f : Link → Link) : (d.updLink f).sched = d.sched := rfl
@[simp] theorem Dev.updLink_nvm (d : Dev) (f : Link → Link) : (d.updLink f).nvm = d.nvm := rfl
@[simp] theorem Dev.updLink_pwr (d : Dev) (f : Link → Link) : (d.updLink f).pwr = d.pwr := rfl
@[simp] theorem Dev.updLink_ao (d : Dev) (f : Link → Link) : (d.updLink f).ao = d.ao := rfl
@[simp] theorem Dev.updLink_pins (d : Dev) (f : Link → Link) : (d.updLink f).pins = d.pins := rfl
@[simp] theorem Dev.updLink_clk (d : Dev) (f : Link → Link) : (d.updLink f).clk = d.clk := rfl
@[simp] theorem Dev.updLink_pace (d : Dev) (f : Link → Link) : (d.updLink f).pace = d.pace := rfl
@[simp] theorem Dev.updLink_led (d : Dev) (f : Link → Link) : (d.updLink f).led = d.led := rfl
@[simp] theorem Dev.updLink_lanes (d : Dev) (f : Link → Link) : (d.updLink f).lanes = d.lanes := rfl
@[simp] theorem Dev.updLink_laneNv (d : Dev) (f : Link → Link) : (d.updLink f).laneNv = d.laneNv := rfl
@[simp] theorem Dev.updLink_ranges (d : Dev) (f : Link → Link) : (d.updLink f).ranges = d.ranges := rfl
@[simp] theorem Dev.updLink_convoys (d : Dev) (f : Link → Link) : (d.updLink f).convoys = d.convoys := rfl
@[simp] theorem Dev.updLink_bands (d : Dev) (f : Link → Link) : (d.updLink f).bands = d.bands := rfl
@[simp] theorem Dev.updLink_link (d : Dev) (f : Link → Link) : (d.updLink f).link = f d.link := rfl
@[simp] theorem Dev.updLink_chains (d : Dev) (f : Link → Link) : (d.updLink f).chains = d.chains := rfl
@[simp] theorem Dev.updLink_scBanks (d : Dev) (f : Link → Link) : (d.updLink f).scBanks = d.scBanks := rfl
@[simp] theorem Dev.updLink_sc (d : Dev) (f : Link → Link) : (d.updLink f).sc = d.sc := rfl
@[simp] theorem Dev.updLink_sv (d : Dev) (f : Link → Link) : (d.updLink f).sv = d.sv := rfl
@[simp] theorem Dev.updLink_toll (d : Dev) (f : Link → Link) : (d.updLink f).toll = d.toll := rfl
@[simp] theorem Dev.updLink_sto (d : Dev) (f : Link → Link) : (d.updLink f).sto = d.sto := rfl
@[simp] theorem Dev.updLink_cour (d : Dev) (f : Link → Link) : (d.updLink f).cour = d.cour := rfl
@[simp] theorem Dev.updLink_tap (d : Dev) (f : Link → Link) : (d.updLink f).tap = d.tap := rfl
@[simp] theorem Dev.updLink_dbg (d : Dev) (f : Link → Link) : (d.updLink f).dbg = d.dbg := rfl

/-! ### updPort -/

@[simp] theorem Dev.updPort_time (d : Dev) (k : Nat) (f : LinkPort → LinkPort) : (d.updPort k f).time = d.time := rfl
@[simp] theorem Dev.updPort_tkc (d : Dev) (k : Nat) (f : LinkPort → LinkPort) : (d.updPort k f).tkc = d.tkc := rfl
@[simp] theorem Dev.updPort_free (d : Dev) (k : Nat) (f : LinkPort → LinkPort) : (d.updPort k f).free = d.free := rfl
@[simp] theorem Dev.updPort_par (d : Dev) (k : Nat) (f : LinkPort → LinkPort) : (d.updPort k f).par = d.par := rfl
@[simp] theorem Dev.updPort_factory (d : Dev) (k : Nat) (f : LinkPort → LinkPort) : (d.updPort k f).factory = d.factory := rfl
@[simp] theorem Dev.updPort_slotNv (d : Dev) (k : Nat) (f : LinkPort → LinkPort) : (d.updPort k f).slotNv = d.slotNv := rfl
@[simp] theorem Dev.updPort_slots (d : Dev) (k : Nat) (f : LinkPort → LinkPort) : (d.updPort k f).slots = d.slots := rfl
@[simp] theorem Dev.updPort_host (d : Dev) (k : Nat) (f : LinkPort → LinkPort) : (d.updPort k f).host = d.host := rfl
@[simp] theorem Dev.updPort_cause (d : Dev) (k : Nat) (f : LinkPort → LinkPort) : (d.updPort k f).cause = d.cause := rfl
@[simp] theorem Dev.updPort_latched (d : Dev) (k : Nat) (f : LinkPort → LinkPort) : (d.updPort k f).latched = d.latched := rfl
@[simp] theorem Dev.updPort_colo (d : Dev) (k : Nat) (f : LinkPort → LinkPort) : (d.updPort k f).colo = d.colo := rfl
@[simp] theorem Dev.updPort_sched (d : Dev) (k : Nat) (f : LinkPort → LinkPort) : (d.updPort k f).sched = d.sched := rfl
@[simp] theorem Dev.updPort_nvm (d : Dev) (k : Nat) (f : LinkPort → LinkPort) : (d.updPort k f).nvm = d.nvm := rfl
@[simp] theorem Dev.updPort_pwr (d : Dev) (k : Nat) (f : LinkPort → LinkPort) : (d.updPort k f).pwr = d.pwr := rfl
@[simp] theorem Dev.updPort_ao (d : Dev) (k : Nat) (f : LinkPort → LinkPort) : (d.updPort k f).ao = d.ao := rfl
@[simp] theorem Dev.updPort_pins (d : Dev) (k : Nat) (f : LinkPort → LinkPort) : (d.updPort k f).pins = d.pins := rfl
@[simp] theorem Dev.updPort_clk (d : Dev) (k : Nat) (f : LinkPort → LinkPort) : (d.updPort k f).clk = d.clk := rfl
@[simp] theorem Dev.updPort_pace (d : Dev) (k : Nat) (f : LinkPort → LinkPort) : (d.updPort k f).pace = d.pace := rfl
@[simp] theorem Dev.updPort_led (d : Dev) (k : Nat) (f : LinkPort → LinkPort) : (d.updPort k f).led = d.led := rfl
@[simp] theorem Dev.updPort_lanes (d : Dev) (k : Nat) (f : LinkPort → LinkPort) : (d.updPort k f).lanes = d.lanes := rfl
@[simp] theorem Dev.updPort_laneNv (d : Dev) (k : Nat) (f : LinkPort → LinkPort) : (d.updPort k f).laneNv = d.laneNv := rfl
@[simp] theorem Dev.updPort_ranges (d : Dev) (k : Nat) (f : LinkPort → LinkPort) : (d.updPort k f).ranges = d.ranges := rfl
@[simp] theorem Dev.updPort_convoys (d : Dev) (k : Nat) (f : LinkPort → LinkPort) : (d.updPort k f).convoys = d.convoys := rfl
@[simp] theorem Dev.updPort_bands (d : Dev) (k : Nat) (f : LinkPort → LinkPort) : (d.updPort k f).bands = d.bands := rfl
@[simp] theorem Dev.updPort_link (d : Dev) (k : Nat) (f : LinkPort → LinkPort) : (d.updPort k f).link = { d.link with ports := upd d.link.ports k f } := rfl
@[simp] theorem Dev.updPort_chains (d : Dev) (k : Nat) (f : LinkPort → LinkPort) : (d.updPort k f).chains = d.chains := rfl
@[simp] theorem Dev.updPort_scBanks (d : Dev) (k : Nat) (f : LinkPort → LinkPort) : (d.updPort k f).scBanks = d.scBanks := rfl
@[simp] theorem Dev.updPort_sc (d : Dev) (k : Nat) (f : LinkPort → LinkPort) : (d.updPort k f).sc = d.sc := rfl
@[simp] theorem Dev.updPort_sv (d : Dev) (k : Nat) (f : LinkPort → LinkPort) : (d.updPort k f).sv = d.sv := rfl
@[simp] theorem Dev.updPort_toll (d : Dev) (k : Nat) (f : LinkPort → LinkPort) : (d.updPort k f).toll = d.toll := rfl
@[simp] theorem Dev.updPort_sto (d : Dev) (k : Nat) (f : LinkPort → LinkPort) : (d.updPort k f).sto = d.sto := rfl
@[simp] theorem Dev.updPort_cour (d : Dev) (k : Nat) (f : LinkPort → LinkPort) : (d.updPort k f).cour = d.cour := rfl
@[simp] theorem Dev.updPort_tap (d : Dev) (k : Nat) (f : LinkPort → LinkPort) : (d.updPort k f).tap = d.tap := rfl
@[simp] theorem Dev.updPort_dbg (d : Dev) (k : Nat) (f : LinkPort → LinkPort) : (d.updPort k f).dbg = d.dbg := rfl

/-! ### updChain -/

@[simp] theorem Dev.updChain_time (d : Dev) (k : Nat) (f : Chain → Chain) : (d.updChain k f).time = d.time := rfl
@[simp] theorem Dev.updChain_tkc (d : Dev) (k : Nat) (f : Chain → Chain) : (d.updChain k f).tkc = d.tkc := rfl
@[simp] theorem Dev.updChain_free (d : Dev) (k : Nat) (f : Chain → Chain) : (d.updChain k f).free = d.free := rfl
@[simp] theorem Dev.updChain_par (d : Dev) (k : Nat) (f : Chain → Chain) : (d.updChain k f).par = d.par := rfl
@[simp] theorem Dev.updChain_factory (d : Dev) (k : Nat) (f : Chain → Chain) : (d.updChain k f).factory = d.factory := rfl
@[simp] theorem Dev.updChain_slotNv (d : Dev) (k : Nat) (f : Chain → Chain) : (d.updChain k f).slotNv = d.slotNv := rfl
@[simp] theorem Dev.updChain_slots (d : Dev) (k : Nat) (f : Chain → Chain) : (d.updChain k f).slots = d.slots := rfl
@[simp] theorem Dev.updChain_host (d : Dev) (k : Nat) (f : Chain → Chain) : (d.updChain k f).host = d.host := rfl
@[simp] theorem Dev.updChain_cause (d : Dev) (k : Nat) (f : Chain → Chain) : (d.updChain k f).cause = d.cause := rfl
@[simp] theorem Dev.updChain_latched (d : Dev) (k : Nat) (f : Chain → Chain) : (d.updChain k f).latched = d.latched := rfl
@[simp] theorem Dev.updChain_colo (d : Dev) (k : Nat) (f : Chain → Chain) : (d.updChain k f).colo = d.colo := rfl
@[simp] theorem Dev.updChain_sched (d : Dev) (k : Nat) (f : Chain → Chain) : (d.updChain k f).sched = d.sched := rfl
@[simp] theorem Dev.updChain_nvm (d : Dev) (k : Nat) (f : Chain → Chain) : (d.updChain k f).nvm = d.nvm := rfl
@[simp] theorem Dev.updChain_pwr (d : Dev) (k : Nat) (f : Chain → Chain) : (d.updChain k f).pwr = d.pwr := rfl
@[simp] theorem Dev.updChain_ao (d : Dev) (k : Nat) (f : Chain → Chain) : (d.updChain k f).ao = d.ao := rfl
@[simp] theorem Dev.updChain_pins (d : Dev) (k : Nat) (f : Chain → Chain) : (d.updChain k f).pins = d.pins := rfl
@[simp] theorem Dev.updChain_clk (d : Dev) (k : Nat) (f : Chain → Chain) : (d.updChain k f).clk = d.clk := rfl
@[simp] theorem Dev.updChain_pace (d : Dev) (k : Nat) (f : Chain → Chain) : (d.updChain k f).pace = d.pace := rfl
@[simp] theorem Dev.updChain_led (d : Dev) (k : Nat) (f : Chain → Chain) : (d.updChain k f).led = d.led := rfl
@[simp] theorem Dev.updChain_lanes (d : Dev) (k : Nat) (f : Chain → Chain) : (d.updChain k f).lanes = d.lanes := rfl
@[simp] theorem Dev.updChain_laneNv (d : Dev) (k : Nat) (f : Chain → Chain) : (d.updChain k f).laneNv = d.laneNv := rfl
@[simp] theorem Dev.updChain_ranges (d : Dev) (k : Nat) (f : Chain → Chain) : (d.updChain k f).ranges = d.ranges := rfl
@[simp] theorem Dev.updChain_convoys (d : Dev) (k : Nat) (f : Chain → Chain) : (d.updChain k f).convoys = d.convoys := rfl
@[simp] theorem Dev.updChain_bands (d : Dev) (k : Nat) (f : Chain → Chain) : (d.updChain k f).bands = d.bands := rfl
@[simp] theorem Dev.updChain_link (d : Dev) (k : Nat) (f : Chain → Chain) : (d.updChain k f).link = d.link := rfl
@[simp] theorem Dev.updChain_chains (d : Dev) (k : Nat) (f : Chain → Chain) : (d.updChain k f).chains = upd d.chains k f := rfl
@[simp] theorem Dev.updChain_scBanks (d : Dev) (k : Nat) (f : Chain → Chain) : (d.updChain k f).scBanks = d.scBanks := rfl
@[simp] theorem Dev.updChain_sc (d : Dev) (k : Nat) (f : Chain → Chain) : (d.updChain k f).sc = d.sc := rfl
@[simp] theorem Dev.updChain_sv (d : Dev) (k : Nat) (f : Chain → Chain) : (d.updChain k f).sv = d.sv := rfl
@[simp] theorem Dev.updChain_toll (d : Dev) (k : Nat) (f : Chain → Chain) : (d.updChain k f).toll = d.toll := rfl
@[simp] theorem Dev.updChain_sto (d : Dev) (k : Nat) (f : Chain → Chain) : (d.updChain k f).sto = d.sto := rfl
@[simp] theorem Dev.updChain_cour (d : Dev) (k : Nat) (f : Chain → Chain) : (d.updChain k f).cour = d.cour := rfl
@[simp] theorem Dev.updChain_tap (d : Dev) (k : Nat) (f : Chain → Chain) : (d.updChain k f).tap = d.tap := rfl
@[simp] theorem Dev.updChain_dbg (d : Dev) (k : Nat) (f : Chain → Chain) : (d.updChain k f).dbg = d.dbg := rfl

/-! ### updCour -/

@[simp] theorem Dev.updCour_time (d : Dev) (f : Courier → Courier) : (d.updCour f).time = d.time := rfl
@[simp] theorem Dev.updCour_tkc (d : Dev) (f : Courier → Courier) : (d.updCour f).tkc = d.tkc := rfl
@[simp] theorem Dev.updCour_free (d : Dev) (f : Courier → Courier) : (d.updCour f).free = d.free := rfl
@[simp] theorem Dev.updCour_par (d : Dev) (f : Courier → Courier) : (d.updCour f).par = d.par := rfl
@[simp] theorem Dev.updCour_factory (d : Dev) (f : Courier → Courier) : (d.updCour f).factory = d.factory := rfl
@[simp] theorem Dev.updCour_slotNv (d : Dev) (f : Courier → Courier) : (d.updCour f).slotNv = d.slotNv := rfl
@[simp] theorem Dev.updCour_slots (d : Dev) (f : Courier → Courier) : (d.updCour f).slots = d.slots := rfl
@[simp] theorem Dev.updCour_host (d : Dev) (f : Courier → Courier) : (d.updCour f).host = d.host := rfl
@[simp] theorem Dev.updCour_cause (d : Dev) (f : Courier → Courier) : (d.updCour f).cause = d.cause := rfl
@[simp] theorem Dev.updCour_latched (d : Dev) (f : Courier → Courier) : (d.updCour f).latched = d.latched := rfl
@[simp] theorem Dev.updCour_colo (d : Dev) (f : Courier → Courier) : (d.updCour f).colo = d.colo := rfl
@[simp] theorem Dev.updCour_sched (d : Dev) (f : Courier → Courier) : (d.updCour f).sched = d.sched := rfl
@[simp] theorem Dev.updCour_nvm (d : Dev) (f : Courier → Courier) : (d.updCour f).nvm = d.nvm := rfl
@[simp] theorem Dev.updCour_pwr (d : Dev) (f : Courier → Courier) : (d.updCour f).pwr = d.pwr := rfl
@[simp] theorem Dev.updCour_ao (d : Dev) (f : Courier → Courier) : (d.updCour f).ao = d.ao := rfl
@[simp] theorem Dev.updCour_pins (d : Dev) (f : Courier → Courier) : (d.updCour f).pins = d.pins := rfl
@[simp] theorem Dev.updCour_clk (d : Dev) (f : Courier → Courier) : (d.updCour f).clk = d.clk := rfl
@[simp] theorem Dev.updCour_pace (d : Dev) (f : Courier → Courier) : (d.updCour f).pace = d.pace := rfl
@[simp] theorem Dev.updCour_led (d : Dev) (f : Courier → Courier) : (d.updCour f).led = d.led := rfl
@[simp] theorem Dev.updCour_lanes (d : Dev) (f : Courier → Courier) : (d.updCour f).lanes = d.lanes := rfl
@[simp] theorem Dev.updCour_laneNv (d : Dev) (f : Courier → Courier) : (d.updCour f).laneNv = d.laneNv := rfl
@[simp] theorem Dev.updCour_ranges (d : Dev) (f : Courier → Courier) : (d.updCour f).ranges = d.ranges := rfl
@[simp] theorem Dev.updCour_convoys (d : Dev) (f : Courier → Courier) : (d.updCour f).convoys = d.convoys := rfl
@[simp] theorem Dev.updCour_bands (d : Dev) (f : Courier → Courier) : (d.updCour f).bands = d.bands := rfl
@[simp] theorem Dev.updCour_link (d : Dev) (f : Courier → Courier) : (d.updCour f).link = d.link := rfl
@[simp] theorem Dev.updCour_chains (d : Dev) (f : Courier → Courier) : (d.updCour f).chains = d.chains := rfl
@[simp] theorem Dev.updCour_scBanks (d : Dev) (f : Courier → Courier) : (d.updCour f).scBanks = d.scBanks := rfl
@[simp] theorem Dev.updCour_sc (d : Dev) (f : Courier → Courier) : (d.updCour f).sc = d.sc := rfl
@[simp] theorem Dev.updCour_sv (d : Dev) (f : Courier → Courier) : (d.updCour f).sv = d.sv := rfl
@[simp] theorem Dev.updCour_toll (d : Dev) (f : Courier → Courier) : (d.updCour f).toll = d.toll := rfl
@[simp] theorem Dev.updCour_sto (d : Dev) (f : Courier → Courier) : (d.updCour f).sto = d.sto := rfl
@[simp] theorem Dev.updCour_cour (d : Dev) (f : Courier → Courier) : (d.updCour f).cour = f d.cour := rfl
@[simp] theorem Dev.updCour_tap (d : Dev) (f : Courier → Courier) : (d.updCour f).tap = d.tap := rfl
@[simp] theorem Dev.updCour_dbg (d : Dev) (f : Courier → Courier) : (d.updCour f).dbg = d.dbg := rfl

/-! ### updDbg -/

@[simp] theorem Dev.updDbg_time (d : Dev) (f : Debug → Debug) : (d.updDbg f).time = d.time := rfl
@[simp] theorem Dev.updDbg_tkc (d : Dev) (f : Debug → Debug) : (d.updDbg f).tkc = d.tkc := rfl
@[simp] theorem Dev.updDbg_free (d : Dev) (f : Debug → Debug) : (d.updDbg f).free = d.free := rfl
@[simp] theorem Dev.updDbg_par (d : Dev) (f : Debug → Debug) : (d.updDbg f).par = d.par := rfl
@[simp] theorem Dev.updDbg_factory (d : Dev) (f : Debug → Debug) : (d.updDbg f).factory = d.factory := rfl
@[simp] theorem Dev.updDbg_slotNv (d : Dev) (f : Debug → Debug) : (d.updDbg f).slotNv = d.slotNv := rfl
@[simp] theorem Dev.updDbg_slots (d : Dev) (f : Debug → Debug) : (d.updDbg f).slots = d.slots := rfl
@[simp] theorem Dev.updDbg_host (d : Dev) (f : Debug → Debug) : (d.updDbg f).host = d.host := rfl
@[simp] theorem Dev.updDbg_cause (d : Dev) (f : Debug → Debug) : (d.updDbg f).cause = d.cause := rfl
@[simp] theorem Dev.updDbg_latched (d : Dev) (f : Debug → Debug) : (d.updDbg f).latched = d.latched := rfl
@[simp] theorem Dev.updDbg_colo (d : Dev) (f : Debug → Debug) : (d.updDbg f).colo = d.colo := rfl
@[simp] theorem Dev.updDbg_sched (d : Dev) (f : Debug → Debug) : (d.updDbg f).sched = d.sched := rfl
@[simp] theorem Dev.updDbg_nvm (d : Dev) (f : Debug → Debug) : (d.updDbg f).nvm = d.nvm := rfl
@[simp] theorem Dev.updDbg_pwr (d : Dev) (f : Debug → Debug) : (d.updDbg f).pwr = d.pwr := rfl
@[simp] theorem Dev.updDbg_ao (d : Dev) (f : Debug → Debug) : (d.updDbg f).ao = d.ao := rfl
@[simp] theorem Dev.updDbg_pins (d : Dev) (f : Debug → Debug) : (d.updDbg f).pins = d.pins := rfl
@[simp] theorem Dev.updDbg_clk (d : Dev) (f : Debug → Debug) : (d.updDbg f).clk = d.clk := rfl
@[simp] theorem Dev.updDbg_pace (d : Dev) (f : Debug → Debug) : (d.updDbg f).pace = d.pace := rfl
@[simp] theorem Dev.updDbg_led (d : Dev) (f : Debug → Debug) : (d.updDbg f).led = d.led := rfl
@[simp] theorem Dev.updDbg_lanes (d : Dev) (f : Debug → Debug) : (d.updDbg f).lanes = d.lanes := rfl
@[simp] theorem Dev.updDbg_laneNv (d : Dev) (f : Debug → Debug) : (d.updDbg f).laneNv = d.laneNv := rfl
@[simp] theorem Dev.updDbg_ranges (d : Dev) (f : Debug → Debug) : (d.updDbg f).ranges = d.ranges := rfl
@[simp] theorem Dev.updDbg_convoys (d : Dev) (f : Debug → Debug) : (d.updDbg f).convoys = d.convoys := rfl
@[simp] theorem Dev.updDbg_bands (d : Dev) (f : Debug → Debug) : (d.updDbg f).bands = d.bands := rfl
@[simp] theorem Dev.updDbg_link (d : Dev) (f : Debug → Debug) : (d.updDbg f).link = d.link := rfl
@[simp] theorem Dev.updDbg_chains (d : Dev) (f : Debug → Debug) : (d.updDbg f).chains = d.chains := rfl
@[simp] theorem Dev.updDbg_scBanks (d : Dev) (f : Debug → Debug) : (d.updDbg f).scBanks = d.scBanks := rfl
@[simp] theorem Dev.updDbg_sc (d : Dev) (f : Debug → Debug) : (d.updDbg f).sc = d.sc := rfl
@[simp] theorem Dev.updDbg_sv (d : Dev) (f : Debug → Debug) : (d.updDbg f).sv = d.sv := rfl
@[simp] theorem Dev.updDbg_toll (d : Dev) (f : Debug → Debug) : (d.updDbg f).toll = d.toll := rfl
@[simp] theorem Dev.updDbg_sto (d : Dev) (f : Debug → Debug) : (d.updDbg f).sto = d.sto := rfl
@[simp] theorem Dev.updDbg_cour (d : Dev) (f : Debug → Debug) : (d.updDbg f).cour = d.cour := rfl
@[simp] theorem Dev.updDbg_tap (d : Dev) (f : Debug → Debug) : (d.updDbg f).tap = d.tap := rfl
@[simp] theorem Dev.updDbg_dbg (d : Dev) (f : Debug → Debug) : (d.updDbg f).dbg = f d.dbg := rfl

/-! ### updToll -/

@[simp] theorem Dev.updToll_time (d : Dev) (f : Toll → Toll) : (d.updToll f).time = d.time := rfl
@[simp] theorem Dev.updToll_tkc (d : Dev) (f : Toll → Toll) : (d.updToll f).tkc = d.tkc := rfl
@[simp] theorem Dev.updToll_free (d : Dev) (f : Toll → Toll) : (d.updToll f).free = d.free := rfl
@[simp] theorem Dev.updToll_par (d : Dev) (f : Toll → Toll) : (d.updToll f).par = d.par := rfl
@[simp] theorem Dev.updToll_factory (d : Dev) (f : Toll → Toll) : (d.updToll f).factory = d.factory := rfl
@[simp] theorem Dev.updToll_slotNv (d : Dev) (f : Toll → Toll) : (d.updToll f).slotNv = d.slotNv := rfl
@[simp] theorem Dev.updToll_slots (d : Dev) (f : Toll → Toll) : (d.updToll f).slots = d.slots := rfl
@[simp] theorem Dev.updToll_host (d : Dev) (f : Toll → Toll) : (d.updToll f).host = d.host := rfl
@[simp] theorem Dev.updToll_cause (d : Dev) (f : Toll → Toll) : (d.updToll f).cause = d.cause := rfl
@[simp] theorem Dev.updToll_latched (d : Dev) (f : Toll → Toll) : (d.updToll f).latched = d.latched := rfl
@[simp] theorem Dev.updToll_colo (d : Dev) (f : Toll → Toll) : (d.updToll f).colo = d.colo := rfl
@[simp] theorem Dev.updToll_sched (d : Dev) (f : Toll → Toll) : (d.updToll f).sched = d.sched := rfl
@[simp] theorem Dev.updToll_nvm (d : Dev) (f : Toll → Toll) : (d.updToll f).nvm = d.nvm := rfl
@[simp] theorem Dev.updToll_pwr (d : Dev) (f : Toll → Toll) : (d.updToll f).pwr = d.pwr := rfl
@[simp] theorem Dev.updToll_ao (d : Dev) (f : Toll → Toll) : (d.updToll f).ao = d.ao := rfl
@[simp] theorem Dev.updToll_pins (d : Dev) (f : Toll → Toll) : (d.updToll f).pins = d.pins := rfl
@[simp] theorem Dev.updToll_clk (d : Dev) (f : Toll → Toll) : (d.updToll f).clk = d.clk := rfl
@[simp] theorem Dev.updToll_pace (d : Dev) (f : Toll → Toll) : (d.updToll f).pace = d.pace := rfl
@[simp] theorem Dev.updToll_led (d : Dev) (f : Toll → Toll) : (d.updToll f).led = d.led := rfl
@[simp] theorem Dev.updToll_lanes (d : Dev) (f : Toll → Toll) : (d.updToll f).lanes = d.lanes := rfl
@[simp] theorem Dev.updToll_laneNv (d : Dev) (f : Toll → Toll) : (d.updToll f).laneNv = d.laneNv := rfl
@[simp] theorem Dev.updToll_ranges (d : Dev) (f : Toll → Toll) : (d.updToll f).ranges = d.ranges := rfl
@[simp] theorem Dev.updToll_convoys (d : Dev) (f : Toll → Toll) : (d.updToll f).convoys = d.convoys := rfl
@[simp] theorem Dev.updToll_bands (d : Dev) (f : Toll → Toll) : (d.updToll f).bands = d.bands := rfl
@[simp] theorem Dev.updToll_link (d : Dev) (f : Toll → Toll) : (d.updToll f).link = d.link := rfl
@[simp] theorem Dev.updToll_chains (d : Dev) (f : Toll → Toll) : (d.updToll f).chains = d.chains := rfl
@[simp] theorem Dev.updToll_scBanks (d : Dev) (f : Toll → Toll) : (d.updToll f).scBanks = d.scBanks := rfl
@[simp] theorem Dev.updToll_sc (d : Dev) (f : Toll → Toll) : (d.updToll f).sc = d.sc := rfl
@[simp] theorem Dev.updToll_sv (d : Dev) (f : Toll → Toll) : (d.updToll f).sv = d.sv := rfl
@[simp] theorem Dev.updToll_toll (d : Dev) (f : Toll → Toll) : (d.updToll f).toll = f d.toll := rfl
@[simp] theorem Dev.updToll_sto (d : Dev) (f : Toll → Toll) : (d.updToll f).sto = d.sto := rfl
@[simp] theorem Dev.updToll_cour (d : Dev) (f : Toll → Toll) : (d.updToll f).cour = d.cour := rfl
@[simp] theorem Dev.updToll_tap (d : Dev) (f : Toll → Toll) : (d.updToll f).tap = d.tap := rfl
@[simp] theorem Dev.updToll_dbg (d : Dev) (f : Toll → Toll) : (d.updToll f).dbg = d.dbg := rfl

/-! ### updRegs -/

@[simp] theorem Dev.updRegs_time (d : Dev) (f : TollRegs → TollRegs) : (d.updRegs f).time = d.time := rfl
@[simp] theorem Dev.updRegs_tkc (d : Dev) (f : TollRegs → TollRegs) : (d.updRegs f).tkc = d.tkc := rfl
@[simp] theorem Dev.updRegs_free (d : Dev) (f : TollRegs → TollRegs) : (d.updRegs f).free = d.free := rfl
@[simp] theorem Dev.updRegs_par (d : Dev) (f : TollRegs → TollRegs) : (d.updRegs f).par = d.par := rfl
@[simp] theorem Dev.updRegs_factory (d : Dev) (f : TollRegs → TollRegs) : (d.updRegs f).factory = d.factory := rfl
@[simp] theorem Dev.updRegs_slotNv (d : Dev) (f : TollRegs → TollRegs) : (d.updRegs f).slotNv = d.slotNv := rfl
@[simp] theorem Dev.updRegs_slots (d : Dev) (f : TollRegs → TollRegs) : (d.updRegs f).slots = d.slots := rfl
@[simp] theorem Dev.updRegs_host (d : Dev) (f : TollRegs → TollRegs) : (d.updRegs f).host = d.host := rfl
@[simp] theorem Dev.updRegs_cause (d : Dev) (f : TollRegs → TollRegs) : (d.updRegs f).cause = d.cause := rfl
@[simp] theorem Dev.updRegs_latched (d : Dev) (f : TollRegs → TollRegs) : (d.updRegs f).latched = d.latched := rfl
@[simp] theorem Dev.updRegs_colo (d : Dev) (f : TollRegs → TollRegs) : (d.updRegs f).colo = d.colo := rfl
@[simp] theorem Dev.updRegs_sched (d : Dev) (f : TollRegs → TollRegs) : (d.updRegs f).sched = d.sched := rfl
@[simp] theorem Dev.updRegs_nvm (d : Dev) (f : TollRegs → TollRegs) : (d.updRegs f).nvm = d.nvm := rfl
@[simp] theorem Dev.updRegs_pwr (d : Dev) (f : TollRegs → TollRegs) : (d.updRegs f).pwr = d.pwr := rfl
@[simp] theorem Dev.updRegs_ao (d : Dev) (f : TollRegs → TollRegs) : (d.updRegs f).ao = d.ao := rfl
@[simp] theorem Dev.updRegs_pins (d : Dev) (f : TollRegs → TollRegs) : (d.updRegs f).pins = d.pins := rfl
@[simp] theorem Dev.updRegs_clk (d : Dev) (f : TollRegs → TollRegs) : (d.updRegs f).clk = d.clk := rfl
@[simp] theorem Dev.updRegs_pace (d : Dev) (f : TollRegs → TollRegs) : (d.updRegs f).pace = d.pace := rfl
@[simp] theorem Dev.updRegs_led (d : Dev) (f : TollRegs → TollRegs) : (d.updRegs f).led = d.led := rfl
@[simp] theorem Dev.updRegs_lanes (d : Dev) (f : TollRegs → TollRegs) : (d.updRegs f).lanes = d.lanes := rfl
@[simp] theorem Dev.updRegs_laneNv (d : Dev) (f : TollRegs → TollRegs) : (d.updRegs f).laneNv = d.laneNv := rfl
@[simp] theorem Dev.updRegs_ranges (d : Dev) (f : TollRegs → TollRegs) : (d.updRegs f).ranges = d.ranges := rfl
@[simp] theorem Dev.updRegs_convoys (d : Dev) (f : TollRegs → TollRegs) : (d.updRegs f).convoys = d.convoys := rfl
@[simp] theorem Dev.updRegs_bands (d : Dev) (f : TollRegs → TollRegs) : (d.updRegs f).bands = d.bands := rfl
@[simp] theorem Dev.updRegs_link (d : Dev) (f : TollRegs → TollRegs) : (d.updRegs f).link = d.link := rfl
@[simp] theorem Dev.updRegs_chains (d : Dev) (f : TollRegs → TollRegs) : (d.updRegs f).chains = d.chains := rfl
@[simp] theorem Dev.updRegs_scBanks (d : Dev) (f : TollRegs → TollRegs) : (d.updRegs f).scBanks = d.scBanks := rfl
@[simp] theorem Dev.updRegs_sc (d : Dev) (f : TollRegs → TollRegs) : (d.updRegs f).sc = d.sc := rfl
@[simp] theorem Dev.updRegs_sv (d : Dev) (f : TollRegs → TollRegs) : (d.updRegs f).sv = d.sv := rfl
@[simp] theorem Dev.updRegs_toll (d : Dev) (f : TollRegs → TollRegs) : (d.updRegs f).toll = { d.toll with regs := f d.toll.regs } := rfl
@[simp] theorem Dev.updRegs_sto (d : Dev) (f : TollRegs → TollRegs) : (d.updRegs f).sto = d.sto := rfl
@[simp] theorem Dev.updRegs_cour (d : Dev) (f : TollRegs → TollRegs) : (d.updRegs f).cour = d.cour := rfl
@[simp] theorem Dev.updRegs_tap (d : Dev) (f : TollRegs → TollRegs) : (d.updRegs f).tap = d.tap := rfl
@[simp] theorem Dev.updRegs_dbg (d : Dev) (f : TollRegs → TollRegs) : (d.updRegs f).dbg = d.dbg := rfl

/-! ### push -/

@[simp] theorem Dev.push_time (d : Dev) (o : OutEntry) : (d.push o).time = d.time := rfl
@[simp] theorem Dev.push_tkc (d : Dev) (o : OutEntry) : (d.push o).tkc = d.tkc := rfl
@[simp] theorem Dev.push_free (d : Dev) (o : OutEntry) : (d.push o).free = d.free := rfl
@[simp] theorem Dev.push_par (d : Dev) (o : OutEntry) : (d.push o).par = d.par := rfl
@[simp] theorem Dev.push_factory (d : Dev) (o : OutEntry) : (d.push o).factory = d.factory := rfl
@[simp] theorem Dev.push_slotNv (d : Dev) (o : OutEntry) : (d.push o).slotNv = d.slotNv := rfl
@[simp] theorem Dev.push_slots (d : Dev) (o : OutEntry) : (d.push o).slots = d.slots := rfl
@[simp] theorem Dev.push_host (d : Dev) (o : OutEntry) : (d.push o).host = { d.host with outbox := d.host.outbox ++ [o] } := rfl
@[simp] theorem Dev.push_cause (d : Dev) (o : OutEntry) : (d.push o).cause = d.cause := rfl
@[simp] theorem Dev.push_latched (d : Dev) (o : OutEntry) : (d.push o).latched = d.latched := rfl
@[simp] theorem Dev.push_colo (d : Dev) (o : OutEntry) : (d.push o).colo = d.colo := rfl
@[simp] theorem Dev.push_sched (d : Dev) (o : OutEntry) : (d.push o).sched = d.sched := rfl
@[simp] theorem Dev.push_nvm (d : Dev) (o : OutEntry) : (d.push o).nvm = d.nvm := rfl
@[simp] theorem Dev.push_pwr (d : Dev) (o : OutEntry) : (d.push o).pwr = d.pwr := rfl
@[simp] theorem Dev.push_ao (d : Dev) (o : OutEntry) : (d.push o).ao = d.ao := rfl
@[simp] theorem Dev.push_pins (d : Dev) (o : OutEntry) : (d.push o).pins = d.pins := rfl
@[simp] theorem Dev.push_clk (d : Dev) (o : OutEntry) : (d.push o).clk = d.clk := rfl
@[simp] theorem Dev.push_pace (d : Dev) (o : OutEntry) : (d.push o).pace = d.pace := rfl
@[simp] theorem Dev.push_led (d : Dev) (o : OutEntry) : (d.push o).led = d.led := rfl
@[simp] theorem Dev.push_lanes (d : Dev) (o : OutEntry) : (d.push o).lanes = d.lanes := rfl
@[simp] theorem Dev.push_laneNv (d : Dev) (o : OutEntry) : (d.push o).laneNv = d.laneNv := rfl
@[simp] theorem Dev.push_ranges (d : Dev) (o : OutEntry) : (d.push o).ranges = d.ranges := rfl
@[simp] theorem Dev.push_convoys (d : Dev) (o : OutEntry) : (d.push o).convoys = d.convoys := rfl
@[simp] theorem Dev.push_bands (d : Dev) (o : OutEntry) : (d.push o).bands = d.bands := rfl
@[simp] theorem Dev.push_link (d : Dev) (o : OutEntry) : (d.push o).link = d.link := rfl
@[simp] theorem Dev.push_chains (d : Dev) (o : OutEntry) : (d.push o).chains = d.chains := rfl
@[simp] theorem Dev.push_scBanks (d : Dev) (o : OutEntry) : (d.push o).scBanks = d.scBanks := rfl
@[simp] theorem Dev.push_sc (d : Dev) (o : OutEntry) : (d.push o).sc = d.sc := rfl
@[simp] theorem Dev.push_sv (d : Dev) (o : OutEntry) : (d.push o).sv = d.sv := rfl
@[simp] theorem Dev.push_toll (d : Dev) (o : OutEntry) : (d.push o).toll = d.toll := rfl
@[simp] theorem Dev.push_sto (d : Dev) (o : OutEntry) : (d.push o).sto = d.sto := rfl
@[simp] theorem Dev.push_cour (d : Dev) (o : OutEntry) : (d.push o).cour = d.cour := rfl
@[simp] theorem Dev.push_tap (d : Dev) (o : OutEntry) : (d.push o).tap = d.tap := rfl
@[simp] theorem Dev.push_dbg (d : Dev) (o : OutEntry) : (d.push o).dbg = d.dbg := rfl

/-! ### respond -/

@[simp] theorem Dev.respond_time (d : Dev) (r : Request) (op : Nat) (rep : Reply) (w : AfterWrite) : (d.respond r op rep w).time = d.time := rfl
@[simp] theorem Dev.respond_tkc (d : Dev) (r : Request) (op : Nat) (rep : Reply) (w : AfterWrite) : (d.respond r op rep w).tkc = d.tkc := rfl
@[simp] theorem Dev.respond_free (d : Dev) (r : Request) (op : Nat) (rep : Reply) (w : AfterWrite) : (d.respond r op rep w).free = d.free := rfl
@[simp] theorem Dev.respond_par (d : Dev) (r : Request) (op : Nat) (rep : Reply) (w : AfterWrite) : (d.respond r op rep w).par = d.par := rfl
@[simp] theorem Dev.respond_factory (d : Dev) (r : Request) (op : Nat) (rep : Reply) (w : AfterWrite) : (d.respond r op rep w).factory = d.factory := rfl
@[simp] theorem Dev.respond_slotNv (d : Dev) (r : Request) (op : Nat) (rep : Reply) (w : AfterWrite) : (d.respond r op rep w).slotNv = d.slotNv := rfl
@[simp] theorem Dev.respond_slots (d : Dev) (r : Request) (op : Nat) (rep : Reply) (w : AfterWrite) : (d.respond r op rep w).slots = d.slots := rfl
@[simp] theorem Dev.respond_host (d : Dev) (r : Request) (op : Nat) (rep : Reply) (w : AfterWrite) : (d.respond r op rep w).host = { d.host with outbox := d.host.outbox ++
    [{ slot := r.slot, kind := .response, code := op, ref := r.ref, tagged := r.tagged, reply := rep, after := w }] } := rfl
@[simp] theorem Dev.respond_cause (d : Dev) (r : Request) (op : Nat) (rep : Reply) (w : AfterWrite) : (d.respond r op rep w).cause = d.cause := rfl
@[simp] theorem Dev.respond_latched (d : Dev) (r : Request) (op : Nat) (rep : Reply) (w : AfterWrite) : (d.respond r op rep w).latched = d.latched := rfl
@[simp] theorem Dev.respond_colo (d : Dev) (r : Request) (op : Nat) (rep : Reply) (w : AfterWrite) : (d.respond r op rep w).colo = d.colo := rfl
@[simp] theorem Dev.respond_sched (d : Dev) (r : Request) (op : Nat) (rep : Reply) (w : AfterWrite) : (d.respond r op rep w).sched = d.sched := rfl
@[simp] theorem Dev.respond_nvm (d : Dev) (r : Request) (op : Nat) (rep : Reply) (w : AfterWrite) : (d.respond r op rep w).nvm = d.nvm := rfl
@[simp] theorem Dev.respond_pwr (d : Dev) (r : Request) (op : Nat) (rep : Reply) (w : AfterWrite) : (d.respond r op rep w).pwr = d.pwr := rfl
@[simp] theorem Dev.respond_ao (d : Dev) (r : Request) (op : Nat) (rep : Reply) (w : AfterWrite) : (d.respond r op rep w).ao = d.ao := rfl
@[simp] theorem Dev.respond_pins (d : Dev) (r : Request) (op : Nat) (rep : Reply) (w : AfterWrite) : (d.respond r op rep w).pins = d.pins := rfl
@[simp] theorem Dev.respond_clk (d : Dev) (r : Request) (op : Nat) (rep : Reply) (w : AfterWrite) : (d.respond r op rep w).clk = d.clk := rfl
@[simp] theorem Dev.respond_pace (d : Dev) (r : Request) (op : Nat) (rep : Reply) (w : AfterWrite) : (d.respond r op rep w).pace = d.pace := rfl
@[simp] theorem Dev.respond_led (d : Dev) (r : Request) (op : Nat) (rep : Reply) (w : AfterWrite) : (d.respond r op rep w).led = d.led := rfl
@[simp] theorem Dev.respond_lanes (d : Dev) (r : Request) (op : Nat) (rep : Reply) (w : AfterWrite) : (d.respond r op rep w).lanes = d.lanes := rfl
@[simp] theorem Dev.respond_laneNv (d : Dev) (r : Request) (op : Nat) (rep : Reply) (w : AfterWrite) : (d.respond r op rep w).laneNv = d.laneNv := rfl
@[simp] theorem Dev.respond_ranges (d : Dev) (r : Request) (op : Nat) (rep : Reply) (w : AfterWrite) : (d.respond r op rep w).ranges = d.ranges := rfl
@[simp] theorem Dev.respond_convoys (d : Dev) (r : Request) (op : Nat) (rep : Reply) (w : AfterWrite) : (d.respond r op rep w).convoys = d.convoys := rfl
@[simp] theorem Dev.respond_bands (d : Dev) (r : Request) (op : Nat) (rep : Reply) (w : AfterWrite) : (d.respond r op rep w).bands = d.bands := rfl
@[simp] theorem Dev.respond_link (d : Dev) (r : Request) (op : Nat) (rep : Reply) (w : AfterWrite) : (d.respond r op rep w).link = d.link := rfl
@[simp] theorem Dev.respond_chains (d : Dev) (r : Request) (op : Nat) (rep : Reply) (w : AfterWrite) : (d.respond r op rep w).chains = d.chains := rfl
@[simp] theorem Dev.respond_scBanks (d : Dev) (r : Request) (op : Nat) (rep : Reply) (w : AfterWrite) : (d.respond r op rep w).scBanks = d.scBanks := rfl
@[simp] theorem Dev.respond_sc (d : Dev) (r : Request) (op : Nat) (rep : Reply) (w : AfterWrite) : (d.respond r op rep w).sc = d.sc := rfl
@[simp] theorem Dev.respond_sv (d : Dev) (r : Request) (op : Nat) (rep : Reply) (w : AfterWrite) : (d.respond r op rep w).sv = d.sv := rfl
@[simp] theorem Dev.respond_toll (d : Dev) (r : Request) (op : Nat) (rep : Reply) (w : AfterWrite) : (d.respond r op rep w).toll = d.toll := rfl
@[simp] theorem Dev.respond_sto (d : Dev) (r : Request) (op : Nat) (rep : Reply) (w : AfterWrite) : (d.respond r op rep w).sto = d.sto := rfl
@[simp] theorem Dev.respond_cour (d : Dev) (r : Request) (op : Nat) (rep : Reply) (w : AfterWrite) : (d.respond r op rep w).cour = d.cour := rfl
@[simp] theorem Dev.respond_tap (d : Dev) (r : Request) (op : Nat) (rep : Reply) (w : AfterWrite) : (d.respond r op rep w).tap = d.tap := rfl
@[simp] theorem Dev.respond_dbg (d : Dev) (r : Request) (op : Nat) (rep : Reply) (w : AfterWrite) : (d.respond r op rep w).dbg = d.dbg := rfl

end Sys2Proof.Machine
end

