-- ==== Sys2Proof/Laws/Events.lean ====
section
/-! SUPPORT. What the shared operations that record, count and signal can change: each lemma says it once, as the fields an
operation may write, so that every other field follows by rewriting. -/

namespace Sys2Proof.Machine

/-- HOST_IRQ_N is the only thing `irqLevel` writes. -/
theorem Dev.irqLevel_frame (d : Dev) : d.irqLevel = { d with pins := d.irqLevel.pins } := rfl

theorem Dev.setDevIrq_frame (d : Dev) (k : Nat) : d.setDevIrq k = { d with host := (d.setDevIrq k).host, pins := (d.setDevIrq k).pins } := rfl

@[simp] theorem Dev.setDevIrq_devIrq (d : Dev) (k : Nat) : (d.setDevIrq k).host.devIrq = d.host.devIrq ||| 2 ^ k := rfl

theorem Dev.setIndex_frame (d : Dev) (n v : Nat) : d.setIndex n v = { d with host := (d.setIndex n v).host, pins := (d.setIndex n v).pins } := rfl

/-- A record writes its partition, the queue of events and the loss counters (R534, R540, R542). -/
theorem Dev.recordAs_frame (d : Dev) (part : Nat) (o : Bool) (agent : Nat) (late : Bool) (ts code : Nat) (p : List Byte) :
    d.recordAs part o agent late ts code p =
      { d with colo := (d.recordAs part o agent late ts code p).colo, host := { d.host with events := (d.recordAs part o agent late ts code p).host.events },
               par := (d.recordAs part o agent late ts code p).par, nvm := { d.nvm with par := (d.recordAs part o agent late ts code p).nvm.par } } := by
  unfold Dev.recordAs
  dsimp only
  generalize (decide (part < 9) && (nth d.colo part).loses part) = b
  cases b <;> split <;> rfl

/-- A record changes no parameter but LOG_LOST and METRO_OVERFLOW. -/
theorem Dev.recordAs_get (d : Dev) (part : Nat) (o : Bool) (agent : Nat) (late : Bool) (ts code : Nat) (p : List Byte) (id i : Nat)
    (h1 : part < 9 → parKey id i ≠ parKey pLogLost part) (h2 : parKey id i ≠ parKey pMetroOverflow 8) :
    (d.recordAs part o agent late ts code p).get id i = d.get id i := by
  unfold Dev.recordAs
  dsimp only
  by_cases hl : (decide (part < 9) && (nth d.colo part).loses part) = true
  · have hp : part < 9 := by simp only [Bool.and_eq_true, decide_eq_true_eq] at hl; exact hl.1
    rw [if_pos hl]
    split <;> simp only [Dev.bumpNv, Dev.get_setNv_ne _ _ _ _ _ _ (h1 hp), Dev.get_setNv_ne _ _ _ _ _ _ h2] <;> rfl
  · rw [if_neg hl]
    split <;> (try simp only [Dev.bumpNv, Dev.get_setNv_ne _ _ _ _ _ _ h2]) <;> rfl

theorem Dev.metroCheck_frame (d : Dev) :
    d.metroCheck = { d with colo := d.metroCheck.colo, host := { d.host with events := d.metroCheck.host.events },
                            par := d.metroCheck.par, nvm := { d.nvm with par := d.metroCheck.nvm.par } } := by
  unfold Dev.metroCheck
  dsimp only
  split
  · rw [Dev.recordAs_frame]
  · rfl

/-- What raising an event writes: before READY the latched list, then a record (R130, R195). -/
theorem Dev.raiseAs_frame (d : Dev) (part : Nat) (o : Bool) (agent code : Nat) (p : List Byte) :
    d.raiseAs part o agent code p =
      { d with colo := (d.raiseAs part o agent code p).colo, latched := (d.raiseAs part o agent code p).latched,
               host := { d.host with events := (d.raiseAs part o agent code p).host.events },
               par := (d.raiseAs part o agent code p).par, nvm := { d.nvm with par := (d.raiseAs part o agent code p).nvm.par } } := by
  unfold Dev.raiseAs
  dsimp only
  split
  · split
    · rw [Dev.metroCheck_frame, Dev.recordAs_frame]
    · rw [Dev.recordAs_frame]
  · rfl

theorem Dev.metroCheck_get (d : Dev) (id i : Nat) (h1 : parKey id i ≠ parKey pLogLost 0) (h2 : parKey id i ≠ parKey pMetroOverflow 8) :
    d.metroCheck.get id i = d.get id i := by
  unfold Dev.metroCheck
  dsimp only
  split
  · rw [Dev.recordAs_get _ _ _ _ _ _ _ _ _ _ (fun _ => h1) h2]; rfl
  · rfl

/-- Raising an event changes no parameter but LOG_LOST of its partition and the device's, and METRO_OVERFLOW. -/
theorem Dev.raiseAs_get (d : Dev) (part : Nat) (o : Bool) (agent code : Nat) (p : List Byte) (id i : Nat)
    (h0 : parKey id i ≠ parKey pLogLost 0) (h1 : part < 9 → parKey id i ≠ parKey pLogLost part) (h2 : parKey id i ≠ parKey pMetroOverflow 8) :
    (d.raiseAs part o agent code p).get id i = d.get id i := by
  unfold Dev.raiseAs
  dsimp only
  split
  · split
    · rw [Dev.metroCheck_get _ _ _ h0 h2, Dev.recordAs_get _ _ _ _ _ _ _ _ _ _ h1 h2]
    · rw [Dev.recordAs_get _ _ _ _ _ _ _ _ _ _ h1 h2]
  · rfl

/-- In the terms of the statements: no parameter but those of the loss counters. -/
theorem Dev.raiseAs_same (d : Dev) (part : Nat) (o : Bool) (agent code : Nat) (p : List Byte) (id i : Nat)
    (hid : id ≠ pLogLost ∧ id ≠ pMetroOverflow) (hi : i < 65536) : (d.raiseAs part o agent code p).get id i = d.get id i :=
  Dev.raiseAs_get _ _ _ _ _ _ _ _ (fun h => hid.1 (parKey_inj hi (by decide) h).1) (fun hp h => hid.1 (parKey_inj hi (by omega) h).1)
    (fun h => hid.2 (parKey_inj hi (by decide) h).1)

end Sys2Proof.Machine
end

