-- ==== Sys2Proof/Laws/HostCmd.lean ====
section
/-! SUPPORT. Everything the frame of a host command can do (R110, R132 to R135, R145, R147): it waits, it is refused, or its own
meaning gives the device, the response and what follows it. -/

namespace Sys2Proof.Machine

theorem hostCmd_waits {c : CmdSpec} {r : Request} {d : Dev} (h : d.consumes = false) : hostCmd c r d = d := by
  simp [hostCmd, h]

theorem hostCmd_refuses {c : CmdSpec} {r : Request} {d : Dev} {rep : Reply} (h : d.consumes = true) (hc : c.check d r = some rep) :
    hostCmd c r d = d.respond r c.opcode rep := by
  simp [hostCmd, h, hc]

theorem hostCmd_takes {c : CmdSpec} {r : Request} {s : State} (h : Takes c s r) : hostCmd c r s.dev = c.effect s.dev r := by
  simp [hostCmd, h.1, h.2]

/-- A meaning that answers at once, with no NVM write and no completion (R134, R622). -/
theorem CmdSpec.effect_answers {c : CmdSpec} {d : Dev} {r : Request} {a : Answer}
    (ha : c.run { d with cause := some (r.slot, r.ref) } r = a) (hn : c.nvm d r = false) (hs : a.reply.status ≠ .accepted)
    (hh : a.held = false) (hc : a.completion = none) (hb : a.reply.blk.length ≤ 40 * d.halfDepth r.slot) :
    c.effect d r = ({ a.dev with cause := d.cause } : Dev).respond r c.opcode a.reply a.after := by
  have hb' : ¬ 40 * d.halfDepth r.slot < a.reply.blk.length := by omega
  simp [CmdSpec.effect, ha, hn, hs, hh, hc, hb']

/-- A meaning that opens a long command: ACCEPTED is its first response (R147). -/
theorem CmdSpec.effect_accepts {c : CmdSpec} {d : Dev} {r : Request} {a : Answer}
    (ha : c.run { d with cause := some (r.slot, r.ref) } r = a) (hn : c.nvm d r = false) (hs : a.reply.status = .accepted)
    (hh : a.held = false) (hc : a.completion = none) (hb : a.reply.blk = []) :
    c.effect d r = ((({ a.dev with cause := d.cause } : Dev).openLong r c.opcode (leNat a.reply.body)).respond r c.opcode a.reply
      a.after) := by
  simp [CmdSpec.effect, ha, hn, hs, hh, hc, hb]

/-- A refusal of a meaning that leaves the device as it was (R134). -/
theorem CmdSpec.effect_refuses {c : CmdSpec} {d : Dev} {r : Request} {rep : Reply}
    (ha : c.run { d with cause := some (r.slot, r.ref) } r = refuse { d with cause := some (r.slot, r.ref) } rep)
    (hs : rep.status ≠ .ok ∧ rep.status ≠ .accepted) (hb : rep.blk = []) : c.effect d r = d.respond r c.opcode rep := by
  simp [CmdSpec.effect, ha, refuse, hs.1, hs.2, hb, Dev.respond, Dev.push]

/-- What a host command does to a state it is carried out in. -/
theorem act_takes {c : CmdSpec} {r : Request} {s : State} (h : Takes c s r) :
    s.act (hostCmd c r) = .next { s with dev := c.effect s.dev r } := by
  simp [State.act, hostCmd_takes h]

/-- A command whose meaning only reads answers, and nothing else changes. -/
theorem act_reads {c : CmdSpec} {r : Request} {s : State} {rep : Reply} (h : Takes c s r)
    (ha : c.run { s.dev with cause := some (r.slot, r.ref) } r = { dev := { s.dev with cause := some (r.slot, r.ref) }, reply := rep })
    (hn : c.nvm s.dev r = false) (hs : rep.status ≠ .accepted) (hb : rep.blk.length ≤ 40 * s.dev.halfDepth r.slot) :
    s.act (hostCmd c r) = .next { s with dev := s.dev.respond r c.opcode rep } := by
  rw [act_takes h, CmdSpec.effect_answers ha hn hs rfl rfl hb]

end Sys2Proof.Machine
end

