-- ==== Sys2Proof/Laws/Memory.lean ====
section
/-! SUPPORT. The ring window: reads after writes, and every operation keeps the canonical form. -/

namespace Sys2Proof.Machine

/-- The canonical form as a proposition. -/
theorem Memory.wf_iff (m : Memory) :
    m.wf = true ↔ (∀ c ∈ m, c.1 < 262144 ∧ c.2 ≠ Memory.unlisted) ∧ m.Pairwise (fun a b => a.1 < b.1) := by
  simp [Memory.wf, List.all_eq_true]

theorem Memory.erase_sublist (m : Memory) (a : Nat) : (m.erase a).Sublist m := by
  induction m with
  | nil => simp [Memory.erase]
  | cons c m ih =>
    unfold Memory.erase
    split
    · exact ih.cons c
    · exact ih.cons_cons c

theorem Memory.mem_erase_ne {m : Memory} {a : Nat} {c : Host.Cell} (h : c ∈ m.erase a) : c.1 ≠ a := by
  induction m with
  | nil => simp [Memory.erase] at h
  | cons x m ih =>
    unfold Memory.erase at h
    split at h
    · exact ih h
    · rcases List.mem_cons.1 h with rfl | h
      · assumption
      · exact ih h

theorem Memory.mem_insert {m : Memory} {a : Nat} {v : Byte} {c : Host.Cell} :
    c ∈ m.insert a v ↔ c = (a, v) ∨ c ∈ m := by
  induction m with
  | nil => simp [Memory.insert]
  | cons x m ih =>
    unfold Memory.insert
    split
    · simp
    · simp only [List.mem_cons, ih, or_left_comm]

theorem Memory.insert_sorted {m : Memory} {a : Nat} {v : Byte} (h : m.Pairwise (fun x y => x.1 < y.1))
    (hne : ∀ c ∈ m, c.1 ≠ a) : (m.insert a v).Pairwise (fun x y => x.1 < y.1) := by
  induction m with
  | nil => simp [Memory.insert]
  | cons x m ih =>
    rw [List.pairwise_cons] at h
    unfold Memory.insert
    split
    · rename_i hlt
      refine List.pairwise_cons.2 ⟨?_, List.pairwise_cons.2 h⟩
      intro c hc
      rcases List.mem_cons.1 hc with rfl | hc
      · exact hlt
      · exact Nat.lt_trans hlt (h.1 c hc)
    · rename_i hge
      refine List.pairwise_cons.2 ⟨?_, ih h.2 (fun c hc => hne c (List.mem_cons_of_mem _ hc))⟩
      intro c hc
      rcases Memory.mem_insert.1 hc with rfl | hc
      · have := hne x (List.mem_cons_self ..)
        simp only; omega
      · exact h.1 c hc

/-- A write keeps the canonical form. -/
theorem Memory.write_wf {m : Memory} (a : Nat) (v : Byte) (h : m.wf = true) : (m.write a v).wf = true := by
  rw [Memory.wf_iff] at h ⊢
  have he : ∀ c ∈ m.erase a, c.1 < 262144 ∧ c.2 ≠ Memory.unlisted :=
    fun c hc => h.1 c ((Memory.erase_sublist m a).subset hc)
  have hp := h.2.sublist (Memory.erase_sublist m a)
  unfold Memory.write
  split
  · split
    · exact ⟨he, hp⟩
    · rename_i ha hv
      refine ⟨fun c hc => ?_, Memory.insert_sorted hp (fun c hc => Memory.mem_erase_ne hc)⟩
      rcases Memory.mem_insert.1 hc with rfl | hc
      · exact ⟨ha, hv⟩
      · exact he c hc
  · exact h

/-- Consecutive writes keep the canonical form. -/
theorem Memory.writes_wf {m : Memory} (bs : List Byte) (a : Nat) (h : m.wf = true) : (m.writes a bs).wf = true := by
  induction bs generalizing m a with
  | nil => exact h
  | cons v vs ih => exact ih (a + 1) (Memory.write_wf a v h)

theorem Memory.read_erase (m : Memory) (a b : Nat) :
    (m.erase a).read b = if b = a then Memory.unlisted else m.read b := by
  induction m with
  | nil => simp [Memory.erase, Memory.read]
  | cons c m ih =>
    unfold Memory.erase
    by_cases h : c.1 = a
    · simp only [h, if_true, ih, Memory.read]
      by_cases hb : b = a
      · simp [hb]
      · simp [hb, Ne.symm hb]
    · simp only [h, if_false, Memory.read, ih]
      by_cases hb : b = a
      · simp [hb, h]
      · simp [hb]

theorem Memory.read_insert {m : Memory} {a : Nat} (v : Byte) (b : Nat) (hne : ∀ c ∈ m, c.1 ≠ a) :
    (m.insert a v).read b = if b = a then v else m.read b := by
  induction m with
  | nil => simp [Memory.insert, Memory.read, eq_comm]
  | cons c m ih =>
    have hc := hne c (List.mem_cons_self ..)
    unfold Memory.insert
    split
    · simp only [Memory.read]
      by_cases hb : b = a
      · simp [hb]
      · simp [hb, Ne.symm hb]
    · simp only [Memory.read, ih (fun x hx => hne x (List.mem_cons_of_mem _ hx))]
      by_cases hb : b = a
      · simp [hb, hc]
      · simp [hb]

/-- A read after a write: the value written at its offset, the old one everywhere else. -/
theorem Memory.read_write (m : Memory) (a b : Nat) (v : Byte) (ha : a < 262144) :
    (m.write a v).read b = if b = a then v else m.read b := by
  unfold Memory.write
  rw [if_pos ha]
  split
  · rename_i hv
    rw [Memory.read_erase, hv]
  · rw [Memory.read_insert v b (fun c hc => Memory.mem_erase_ne hc), Memory.read_erase]
    by_cases hb : b = a <;> simp [hb]

/-- A write outside the window changes nothing. -/
theorem Memory.write_outside (m : Memory) (a : Nat) (v : Byte) (ha : 262144 ≤ a) : m.write a v = m := by
  unfold Memory.write
  rw [if_neg (by omega)]

/-- Consecutive writes leave every byte before and behind them. -/
theorem Memory.read_writes_other (bs : List Byte) (m : Memory) (a b : Nat) (h : b < a ∨ a + bs.length ≤ b) :
    (m.writes a bs).read b = m.read b := by
  induction bs generalizing m a with
  | nil => rfl
  | cons v vs ih =>
    simp only [List.length_cons] at h
    rw [Memory.writes, ih _ _ (by omega)]
    by_cases ha : a < 262144
    · rw [Memory.read_write _ _ _ _ ha, if_neg (by omega)]
    · rw [Memory.write_outside _ _ _ (by omega)]

/-- Consecutive writes inside the window: each byte reads as written. -/
theorem Memory.read_writes_same (bs : List Byte) (m : Memory) (a k : Nat) (hk : k < bs.length) (ha : a + k < 262144) :
    (m.writes a bs).read (a + k) = bs[k] := by
  induction bs generalizing m a k with
  | nil => simp at hk
  | cons v vs ih =>
    rw [Memory.writes]
    cases k with
    | zero =>
      rw [Memory.read_writes_other _ _ _ _ (by omega), Memory.read_write _ _ _ _ (by omega)]
      simp
    | succ k =>
      have h := ih (m.write a v) (a + 1) k (by simpa using hk) (by omega)
      rw [show a + (k + 1) = a + 1 + k by omega, h]
      rfl

end Sys2Proof.Machine
end

