-- ==== Sys2Proof/Laws/Port.lean ====
section
/-! SUPPORT. The host port: what a stall check, a settled port and a host error can change, and what the registers of the rings read
after a write. -/

namespace Sys2Proof.Machine

/-- A stall's begin and end write the slot, its counters and an event (R118). -/
theorem Dev.stallCheck_frame (d : Dev) (k : Nat) :
    d.stallCheck k = { d with slots := (d.stallCheck k).slots, par := (d.stallCheck k).par, colo := (d.stallCheck k).colo,
                              latched := (d.stallCheck k).latched, host := { d.host with events := (d.stallCheck k).host.events },
                              nvm := { d.nvm with par := (d.stallCheck k).nvm.par } } := by
  unfold Dev.stallCheck
  split
  · rfl
  · rw [show ∀ (e : Dev) (s c : Nat) (p : List Byte), e.raiseSlot s c p = e.raiseAs s (s = 0) 0 c p from fun _ _ _ _ => rfl, Dev.raiseAs_frame]
    rfl
  · rfl

theorem Dev.stallCheck_get (d : Dev) (k id i : Nat) (h0 : parKey id i ≠ parKey pLogLost 0) (h1 : parKey id i ≠ parKey pLogLost k)
    (h2 : parKey id i ≠ parKey pMetroOverflow 8) (h3 : parKey id i ≠ parKey pRspStalls k) (h4 : parKey id i ≠ parKey pRspStallTime k) : (d.stallCheck k).get id i = d.get id i := by
  unfold Dev.stallCheck
  split
  · exact Dev.get_set_ne _ _ _ _ _ _ h3
  · rw [show ∀ (e : Dev) (s c : Nat) (p : List Byte), e.raiseSlot s c p = e.raiseAs s (s = 0) 0 c p from fun _ _ _ _ => rfl, Dev.raiseAs_get _ _ _ _ _ _ _ _ h0 (fun _ => h1) h2]
    exact Dev.get_set_ne _ _ _ _ _ _ h4
  · rfl

/-- Settling the port writes the slots, the stall counters and events: no register of the window (R109, R110, R118). -/
theorem Dev.settlePort_frame (d : Dev) :
    d.settlePort = { d with slots := d.settlePort.slots, par := d.settlePort.par, colo := d.settlePort.colo,
                            latched := d.settlePort.latched, host := { d.host with events := d.settlePort.host.events },
                            nvm := { d.nvm with par := d.settlePort.nvm.par } } := by
  unfold Dev.settlePort
  generalize List.range 8 = l
  induction l generalizing d with
  | nil => rfl
  | cons k l ih =>
    rw [List.foldl_cons, ih]
    simp only [Dev.updSlot]
    rw [Dev.stallCheck_frame]

/-- The registers of the window after the port settles. -/
theorem Dev.settlePort_host (d : Dev) : d.settlePort.host = { d.host with events := d.settlePort.host.events } := by
  rw [congrArg Dev.host d.settlePort_frame]

/-- A settled port has no parameter changed but the stall counters and the loss counters. -/
theorem Dev.settlePort_same (d : Dev) (id i : Nat) (hid : id ≠ pLogLost ∧ id ≠ pMetroOverflow ∧ id ≠ pRspStalls ∧ id ≠ pRspStallTime)
    (hi : i < 65536) : d.settlePort.get id i = d.get id i := by
  have key : ∀ (l : List Nat) (d : Dev), (∀ k ∈ l, k < 65536) → (l.foldl (fun e k =>
      let e1 := e.stallCheck k
      let on := e1.cmdDue k
      e1.updSlot k (fun s => { s with dueTick := if on then some (s.dueTick.getD e1.tickNow) else none })) d).get id i = d.get id i := by
    intro l
    induction l with
    | nil => intros; rfl
    | cons k l ih =>
      intro d hk
      rw [List.foldl_cons, ih _ (fun j hj => hk j (List.mem_cons_of_mem _ hj))]
      have hk' := hk k List.mem_cons_self
      exact Dev.stallCheck_get d k id i (fun h => hid.1 (parKey_inj hi (by decide) h).1) (fun h => hid.1 (parKey_inj hi hk' h).1)
        (fun h => hid.2.1 (parKey_inj hi (by decide) h).1) (fun h => hid.2.2.1 (parKey_inj hi hk' h).1)
        (fun h => hid.2.2.2 (parKey_inj hi hk' h).1)
  exact key _ d (fun k hk => Nat.lt_trans (List.mem_range.1 hk) (by decide))

/-- What a host error writes (R95, R97, R621). -/
theorem Dev.hostError_frame (d : Dev) (code addr : Nat) :
    ∃ early ev irq colo latched par npar, d.hostError code addr =
      { d with host := { d.host with hostErrCount := min 65535 (d.host.hostErrCount + 1), hostErrCode := code,
                                     devIrq := d.host.devIrq ||| 4, earlyErrors := early, events := ev },
               pins := { d.pins with hostIrqN := irq }, colo := colo, latched := latched, par := par,
               nvm := { d.nvm with par := npar } } := by
  unfold Dev.hostError
  dsimp only
  split
  · rw [show ∀ (e : Dev) (c : Nat) (p : List Byte), e.raiseDev c p = e.raiseAs 0 false 0 c p from fun _ _ _ => rfl, Dev.raiseAs_frame]
    exact ⟨_, _, _, _, _, _, _, rfl⟩
  · split
    · rw [show ∀ (e : Dev) (c : Nat) (p : List Byte), e.raiseDev c p = e.raiseAs 0 false 0 c p from fun _ _ _ => rfl, Dev.raiseAs_frame]
      exact ⟨_, _, _, _, _, _, _, rfl⟩
    · exact ⟨_, _, _, _, _, _, _, rfl⟩

/-- A host error's parameters: HOST_ERROR_COUNT goes up, and nothing else moves but the loss counters. -/
theorem Dev.hostError_get (d : Dev) (code addr id i : Nat) (hid : id ≠ pLogLost ∧ id ≠ pMetroOverflow) (hi : i < 65536) :
    (d.hostError code addr).get id i = (d.bump pHostErrorCount 0).get id i := by
  unfold Dev.hostError
  dsimp only
  split
  · exact Dev.raiseAs_same _ 0 false 0 _ _ id i hid hi
  · split
    · exact Dev.raiseAs_same _ 0 false 0 _ _ id i hid hi
    · rfl

/-- A host error's registers. -/
@[simp] theorem Dev.hostError_ringCfg (d : Dev) (code addr : Nat) : (d.hostError code addr).host.ringCfg = d.host.ringCfg := by
  obtain ⟨_, _, _, _, _, _, _, h⟩ := Dev.hostError_frame d code addr
  rw [h]
@[simp] theorem Dev.hostError_doorbell (d : Dev) (code addr : Nat) : (d.hostError code addr).host.doorbell = d.host.doorbell := by
  obtain ⟨_, _, _, _, _, _, _, h⟩ := Dev.hostError_frame d code addr
  rw [h]
@[simp] theorem Dev.hostError_devIndex (d : Dev) (code addr : Nat) : (d.hostError code addr).host.devIndex = d.host.devIndex := by
  obtain ⟨_, _, _, _, _, _, _, h⟩ := Dev.hostError_frame d code addr
  rw [h]
@[simp] theorem Dev.hostError_ringIrqMask (d : Dev) (code addr : Nat) : (d.hostError code addr).host.ringIrqMask = d.host.ringIrqMask := by
  obtain ⟨_, _, _, _, _, _, _, h⟩ := Dev.hostError_frame d code addr
  rw [h]
@[simp] theorem Dev.hostError_hostCtrl (d : Dev) (code addr : Nat) : (d.hostError code addr).host.hostCtrl = d.host.hostCtrl := by
  obtain ⟨_, _, _, _, _, _, _, h⟩ := Dev.hostError_frame d code addr
  rw [h]
@[simp] theorem Dev.hostError_devIrqMask (d : Dev) (code addr : Nat) : (d.hostError code addr).host.devIrqMask = d.host.devIrqMask := by
  obtain ⟨_, _, _, _, _, _, _, h⟩ := Dev.hostError_frame d code addr
  rw [h]
@[simp] theorem Dev.hostError_count (d : Dev) (code addr : Nat) :
    (d.hostError code addr).host.hostErrCount = min 65535 (d.host.hostErrCount + 1) := by
  obtain ⟨_, _, _, _, _, _, _, h⟩ := Dev.hostError_frame d code addr
  rw [h]
@[simp] theorem Dev.hostError_code (d : Dev) (code addr : Nat) : (d.hostError code addr).host.hostErrCode = code := by
  obtain ⟨_, _, _, _, _, _, _, h⟩ := Dev.hostError_frame d code addr
  rw [h]
@[simp] theorem Dev.hostError_pwr (d : Dev) (code addr : Nat) : (d.hostError code addr).pwr = d.pwr := by
  obtain ⟨_, _, _, _, _, _, _, h⟩ := Dev.hostError_frame d code addr
  rw [h]
@[simp] theorem Dev.hostError_slots (d : Dev) (code addr : Nat) : (d.hostError code addr).slots = d.slots := by
  obtain ⟨_, _, _, _, _, _, _, h⟩ := Dev.hostError_frame d code addr
  rw [h]

end Sys2Proof.Machine
end

