-- ==== Sys2Proof/Tests/Slice0.lean ====
section
/-! SUPPORT. The model's own tests: a witness for the hypotheses of every obligation, one or two small tests of a command, and
the smoke test of WellFormed. Each expected value is worked out from the rule the tested definition cites, except that
permits, proofs, tokens, images and calibration records were signed by the published algorithms outside Lean. -/

section

set_option Elab.async false

open Sys2Proof Sys2Proof.Machine

/-! ### Small states -/

namespace Sys2Proof.Tests

/-- What the block is after a command that goes on. -/
def after (o : Host.Outcome State Fault Refusal) : Option Dev :=
  match o with
  | .next t => some t.dev
  | _ => none

/-- A check of the device after a command that goes on. -/
def holds (o : Host.Outcome State Fault Refusal) (p : Dev → Bool) : Bool := (after o).elim false p

/-- The command changes nothing. -/
def still (i : Instr) (s : State) : Bool := holds (exec i s) (fun e => decide (e = s.dev))

/-- `Takes` as a check. -/
def takes (c : CmdSpec) (d : Dev) (r : Request) : Bool := d.consumes && (c.check d r).isNone

/-- What the check says of the state with that device. -/
theorem takes_of {c : CmdSpec} {d : Dev} {r : Request} (h : takes c d r = true) : Takes c { dev := d } r := by
  simp only [takes, Bool.and_eq_true, Option.isNone_iff_eq_none] at h
  exact h

/-- Every check of a list passes. -/
def all (l : List Bool) : Bool := l.all id

/-- The status of the last entry that waits for a response ring. -/
def lastStatus (e : Dev) : Option Status := e.host.outbox.getLast?.map (·.reply.status)
/-- The body of the last entry that waits for a response ring. -/
def lastBody (e : Dev) : Option (List Byte) := e.host.outbox.getLast?.map (·.reply.body)

/-- A unit that runs: ACTIVE, READY, every lane calibrated, sessions of S0 and S1 open, quad-SPI chosen, both BLK rings of
depth 256 enabled. -/
def ready : Dev :=
  { time := secU 100, tkc := secU 100
    host := { readable := true, ringCfg := upd (upd (List.replicate 32 0) 3 (fun _ => 0x8000 + 4 * 4096)) 7 (fun _ => 0x8000 + 4 * 4096 + 256) }
    pwr := { state := .active, phase := .ready, readyAt := some 0, lanesCal := true, vioValid := true, courierUp := true
             thresholdLoaded := true, temps := List.replicate 8 (some 400) }
    slots := { session := some {} } :: { session := some {} } :: List.replicate 6 {} }

/-- Parameters set one after another. -/
def put (d : Dev) (l : List (Nat × Nat × Int)) : Dev := l.foldl (fun e x => e.set x.1 x.2.1 x.2.2) d

/-- The state with a device. -/
def at_ (d : Dev) : State := { dev := d }

/-- A tagged request. -/
def ask (slot : Nat) (body : List Byte) (blk : Option (List Byte) := none) : Request :=
  { slot := slot, ref := 7, tagged := true, body := body, blkAttached := blk.isSome, blk := blk.getD [] }

/-- A long command of a slot, under the index 7. -/
def long (slot opcode : Nat) (body : List Byte) (blk : List Byte := []) : LongCmd :=
  { slot := slot, ref := 7, opcode := opcode, bound := 5000, body := body, blk := blk }

/-- A device with one long command open. -/
def withLong (d : Dev) (l : LongCmd) : Dev := { d with host := { d.host with longs := [l] } }

end Sys2Proof.Tests

/-! ### 02 Tenants, permits and isolation -/

namespace Sys2Proof.Tests

/-- A provisioning record of a slot with `n` keys, a share of a kind and a credential's first byte. -/
def provRecord (slot n share cred : Nat) : List Byte :=
  e8 slot ++ e8 n ++ zs 2 ++ e16 share ++ zs 26 ++ e8 cred ++ zs 287

/-- The unit with the whole of kind 0 free. -/
def unshared : Dev := put ready [(pShare, 0, 0)]

theorem witness_SlotProvisioned : all
    [takes cmdSlotProvision unshared (ask 0 [] (some (provRecord 2 0 1000 9))), unshared.provRefusal (provRecord 2 0 1000 9) = none,
     unshared.nvmBar = none,
     takes cmdSlotProvision unshared (ask 0 [] (some (provRecord 0 0 0 9))), unshared.provRefusal (provRecord 0 0 0 9) = some .state,
     unshared.provRefusal (provRecord 2 0 0 0) = some .state,
     takes cmdSlotProvision (put unshared [(pShare, 8, 1)]) (ask 0 [] (some (provRecord 2 0 1000 9))),
     (put unshared [(pShare, 8, 1)]).provRefusal (provRecord 2 0 1000 9) = some .wouldExceed,
     let l := long 0 0x0201 [] (provRecord 2 0 1000 9)
     let d := withLong unshared l
     d.longIs 0 7 0x0201 = some l && provFull l.blk && decide (2 < d.slotNv.length ∧ provShare l.blk 5 = d.share 2 5 ∧ provShare l.blk 6 = d.share 2 6)] = true := by
  decide +kernel

theorem test_slotProvision_enrols : holds (exec (.slotProvisionComplete 0 7) (at_ (withLong unshared (long 0 0x0201 [] (provRecord 2 0 1000 9)))))
    (fun e => e.get pSlotState 2 = 1 && e.share 2 0 = 1000 && decide (lastBody e = some [2, 1, 0, 0])) = true := by decide +kernel

/-- S1 and S2 provisioned. -/
def tenant : Dev := put ready [(pSlotState, 1, 2), (pSlotState, 2, 1)]

theorem witness_SlotRevoked : all
    [takes cmdSlotRevoke tenant (ask 0 [1, 0, 0, 0]), tenant.get pSlotState 1 = 2, takes cmdSlotRevoke tenant (ask 0 [2, 0, 0, 0]),
     tenant.get pSlotState 2 = 1, takes cmdSlotRevoke tenant (ask 0 [7, 0, 0, 0]), tenant.get pSlotState 7 = 0,
     let l := long 0 0x0202 [1, 0, 0, 0]
     let d := withLong tenant l
     d.longIs 0 7 0x0202 = some l && d.laneIds.all (fun i => d.owner i ≠ 1) && decide (d.share 1 5 = 0 ∧ d.share 1 6 = 0)] = true := by
  decide +kernel

theorem test_slotRevoke_empties : holds (exec (.slotRevokeComplete 0 7) (at_ (withLong tenant (long 0 0x0202 [1, 0, 0, 0]))))
    (fun e => e.get pSlotState 1 = 3 && (e.slot 1).session.isNone && decide (lastBody e = some [1, 0, 0, 0])) = true := by decide +kernel

theorem witness_LaneAssigned : all
    [takes cmdLaneAssign tenant (ask 0 ([7, 0, 3, 1] ++ e64 380000000 ++ e64 400000000)), tenant.owner 7 = 0, tenant.laneBand 7 = none,
     (tenant.laneSurvey 7).isNone, takes cmdLaneAssign tenant (ask 0 ([0, 1, 0, 2] ++ zs 16)), tenant.owner 0 ≠ 1] = true := by
  decide +kernel

theorem test_laneAssign_moves : holds (exec (.laneAssign (ask 0 ([0, 1, 0, 0] ++ e64 380000000 ++ e64 400000000))) (at_ tenant))
    (fun e => e.owner 0 = 1 && nth (nth e.ranges 0) 0 = some (380000000, 400000000)) = true := by decide +kernel

/-- The public key of the private key 1: the base point of P-256. -/
def issuer : List Byte :=
  beBytes 64 0x6b17d1f2e12c4247f8bce6e563a440f277037d812deb33a0f4a13945d898c2964fe342e2fe1a7f9b8ee7eb4a7c0f9e162bce33576b315ececbb6406837bf51f5

/-- The signed part of a permit for S1: an FDD donor entry of 700 MHz to 800 MHz, valid to `last`, ID 5. -/
def permitPart (last : Nat) : List Byte :=
  [1, 1, 1, 7] ++ keyIdOf issuer ++ zs 16 ++ e32 0 ++ e32 last ++ e32 1000 ++ e32 5 ++ e32 0 ++
    (e64 700000000 ++ e64 800000000 ++ [0, 0] ++ e16 1000 ++ e16 0 ++ e16 0 ++ zs 40)

/-- The permit, signed by the issuer. -/
def permit : List Byte := permitPart 1000000 ++ beBytes 64 0x8e533b6fa0bf7b4625bb30667c01fb607ef9f8b8a80fef5b300628703187b2a31f632f3b79f8112f3000c8360e62d01d3beb8599105293a82e0d0f0701482998
/-- The permit signed, valid up to the first second only. -/
def permitShort : List Byte := permitPart 1 ++ beBytes 64 0x8e533b6fa0bf7b4625bb30667c01fb607ef9f8b8a80fef5b300628703187b2a39cc85c25fdd70b5a32801e98cfa5b7bca1bb552e962587fb039b2bb11c3b017c
/-- A permit signed whose band direction is 3. -/
def permitWrong : List Byte := upd (permitPart 1000000) 64 (fun _ => 3) ++ beBytes 64 0x8e533b6fa0bf7b4625bb30667c01fb607ef9f8b8a80fef5b300628703187b2a3312cf09a1c7714b626838f0bd38ded30b84d4f3c2b6ae2676177eb6e79c6fd43

/-- S1 with the issuer's key. -/
def keyed : Dev := { tenant with slotNv := upd tenant.slotNv 1 (fun s => { s with keys := [issuer], vaultKey := some (zs 32) }) }
/-- The same at the wall time of 2 s. -/
def keyed2 : Dev := { keyed with ao := { keyed.ao with wallHw := 2 } }
/-- The same with no entry free. -/
def keyedFull : Dev := { keyed with slotNv := upd keyed.slotNv 1 (fun s => { s with permits := List.replicate 8 (some { permitId := 9 }) }) }

theorem witness_PermitChecksInOrder : all
    [takes cmdPermitLoad keyed (ask 1 [] (some (permit.drop 1))), (permit.drop 1).length ≠ 112 + 64 * fld (permit.drop 1) 1 1,
     takes cmdPermitLoad keyed (ask 1 [] (some ([2] ++ permit.drop 1))), permit.length = 176,
     takes cmdPermitLoad keyed (ask 1 [] (some permit)), fld permit 0 1 = 1, fld permit 2 1 = 1, slice permit 12 16 = keyed.factory.serial,
     fld (upd permit 2 (fun _ => 0)) 2 1 ≠ 1, takes cmdPermitLoad tenant (ask 1 [] (some permit)),
     (tenant.slotN 1).keys.find? (fun k => keyIdOf k = slice permit 4 8) = none,
     (keyed.slotN 1).keys.find? (fun k => keyIdOf k = slice permit 4 8) = some issuer] = true := by decide +kernel

theorem witness_PermitChecksInOrder_signatureFails : ecdsaCheck issuer (permitPart 1000001) (permit.drop 112) = false := by decide +kernel
theorem witness_PermitChecksInOrder_signaturePasses : ecdsaCheck issuer (permit.take 112) (permit.drop 112) = true := by decide +kernel
theorem witness_PermitChecksInOrder_fieldWrong : all
    [ecdsaCheck issuer (permitWrong.take 112) (permitWrong.drop 112), permitFieldsOk permitWrong = false] = true := by decide +kernel
theorem witness_PermitChecksInOrder_expired : all
    [ecdsaCheck issuer (permitShort.take 112) (permitShort.drop 112), permitFieldsOk permitShort, fld permitShort 32 4 ≤ keyed2.effTime] = true := by
  decide +kernel
theorem witness_PermitChecksInOrder_noPlace : all
    [permitFieldsOk permit, keyedFull.effTime < fld permit 32 4, keyedFull.permitPlace 1 (permitOf permit keyedFull.effTime) = none] = true := by
  decide +kernel

/-- S1 with the permit stored at entry 7, in a state. -/
def permitted (st : PermitState) : Dev :=
  { keyed with slotNv := upd keyed.slotNv 1 (fun s => { s with permits := upd s.permits 7 (fun _ => some { permitOf permit 0 with state := st }) }) }

/-- The same with a CAL_RUN of S1 on a lane whose channel the permit covers. -/
def permittedRun : Dev :=
  let d := permitted .active
  let l := long 1 0x0403 [] (e64 750000000 ++ e8 1 ++ zs 3)
  { withLong d l with lanes := upd d.lanes 0 (fun x => { x with calRun := some { slot := 1, ref := 7 } }) }

theorem witness_PermitsLoadedReadAndRemoved : all
    [takes cmdPermitLoad keyed (ask 1 [] (some permit)), nth (keyed.slotN 1).permits 0 = none,
     takes cmdPermitStatus keyed (ask 1 [7, 0, 0, 0]), takes cmdPermitRemove (permitted .active) (ask 1 [7, 0, 0, 0]),
     (permitted .active).permitInUse 1 7 (permitOf permit 0) = false, takes cmdPermitRemove permittedRun (ask 1 [7, 0, 0, 0]),
     permittedRun.permitInUse 1 7 (permitOf permit 0), keyed.permitChanges = [],
     (permitted .pending).permitChanges = [(1, 7, { permitOf permit 0 with state := .pending }, .active)]] = true := by decide +kernel

theorem witness_PermitsLoadedReadAndRemoved_verified : (match keyed.verifyPermit 1 permit with | .ok h => h = 0 | .error _ => false) = true := by decide +kernel

theorem test_permitEvaluation_activates : holds (exec .permitEvaluation (at_ (permitted .pending)))
    (fun e => (nth (e.slotN 1).permits 7).any (fun p => p.state = .active)) = true := by decide +kernel
theorem test_permitStatus_empty : holds (exec (.permitStatus (ask 1 [7, 0, 0, 0])) (at_ keyed))
    (fun e => lastBody e = some (255 :: zs 23)) = true := by decide +kernel

/-- S1 with object 31 sealed under write counter 1, and object 30 that does not open. -/
def vaulted : Dev :=
  let c := gcmXor (zs 32) (vaultNonce 1 31 1) [1, 2, 3]
  let o : VaultObject := { counter := 1, cipher := c, tag := gcmTag (zs 32) (vaultNonce 1 31 1) (keyed.vaultAad 1 31 1) c }
  { keyed with slotNv := upd keyed.slotNv 1 (fun s => { s with vault := upd (upd s.vault 31 (fun _ => some o)) 30 (fun _ => some o) }) }

theorem witness_VaultObjectsSealed_read : all
    [takes cmdVaultRead vaulted (ask 1 [0, 0, 0, 0]), nth (vaulted.slotN 1).vault 0 = none, takes cmdVaultRead vaulted (ask 1 [31, 0, 0, 0]),
     (nth (vaulted.slotN 1).vault 31).any (fun o => decide (o.cipher.length ≤ 40 * vaulted.halfDepth 1 ∧
       gcmOpen (zs 32) (vaultNonce 1 31 o.counter) (vaulted.vaultAad 1 31 o.counter) o.cipher o.tag = some [1, 2, 3])),
     takes cmdVaultRead vaulted (ask 1 [30, 0, 0, 0]),
     (nth (vaulted.slotN 1).vault 30).any (fun o =>
       gcmOpen (zs 32) (vaultNonce 1 30 o.counter) (vaulted.vaultAad 1 30 o.counter) o.cipher o.tag = none)] = true := by decide +kernel

/-- A rekeying message that opens under the all-zero session key. -/
def rekey : List Byte :=
  let c := gcmXor (zs 32) (zs 12) (List.replicate 32 5)
  zs 12 ++ c ++ gcmTag (zs 32) (zs 12) (e8 1 ++ zs 16) c
/-- Sessions of S0 and S1 under the all-zero key. -/
def zeroKeys (d : Dev) : Dev := { d with slots := d.slots.map (fun x => { x with session := x.session.map (fun s => { s with key := zs 32, full := false }) }) }

theorem witness_VaultObjectsSealed_written : all
    [takes cmdVaultWrite keyed (ask 1 [] (some [31, 0, 1, 0, 8])), (keyed.slotN 1).vaultKey ≠ none, takes cmdVaultWrite tenant (ask 1 [] (some [31, 0, 1, 0, 8])),
     (tenant.slotN 1).vaultKey = none,
     let l := long 1 0x0207 [] [31, 0, 1, 0, 8]
     let d := withLong keyed l
     d.longIs 1 7 0x0207 = some l && decide (d.nvm.queue = []),
     takes cmdSlotRekey (zeroKeys tenant) (ask 1 [] (some (zs 60))),
     gcmOpen (zs 32) (zs 12) (e8 1 ++ padTo 16 tenant.factory.serial) (zs 32) (zs 16) = none,
     takes cmdSlotRekey (zeroKeys tenant) (ask 1 [] (some rekey)),
     gcmOpen (zs 32) (slice rekey 0 12) (e8 1 ++ padTo 16 tenant.factory.serial) (slice rekey 12 32) (slice rekey 44 16) = some (List.replicate 32 5)] = true := by
  decide +kernel

theorem test_slotRekey_activates : holds (exec (.slotRekey (ask 1 [] (some rekey))) (at_ (zeroKeys tenant)))
    (fun e => decide ((e.slotN 1).credential = List.replicate 32 5)) = true := by decide +kernel
theorem test_vaultRead_plain : holds (exec (.vaultRead (ask 1 [31, 0, 0, 0])) (at_ vaulted)) (fun e => lastBody e = some [3, 0]) = true := by decide +kernel
theorem test_vaultWrite_seals : holds (exec (.vaultWriteComplete 1 7) (at_ (withLong keyed (long 1 0x0207 [] [31, 0, 1, 0, 8]))))
    (fun e => (nth (e.slotN 1).vault 31).isSome && (e.slotN 1).vaultCounter = 1) = true := by decide +kernel

end Sys2Proof.Tests

/-! ### Every command and every step -/

namespace Sys2Proof.Tests

theorem witness_FrontCommandIsCarriedOut : ({ pending := [.usbResume, .phaseReady] } : State).pending = .usbResume :: [.phaseReady] := rfl
theorem witness_EmptyQueueIsOneClockCycle : all
    [State.reset.pending = [], State.reset.dev.portIds.all (fun p => !State.reset.dev.portUp p)] = true := by decide +kernel
theorem witness_StepKeepsWindowCanonical : all
    [State.reset.mem.wf, (after (step State.reset)).isSome,
     ({ mem := [(0, 1), (262143, 5)], dev := ready, pending := [.hrwWrite 0x40000 [0, 0, 0, 0]] } : State).mem.wf,
     (after (step { mem := [(0, 1), (262143, 5)], dev := ready, pending := [.hrwWrite 0x40000 [0, 0, 0, 0]] })).isSome] = true := by decide +kernel
theorem witness_CommandsKeepQueueAndWindow : (∀ a b, Instr.usbResume ≠ .hrwWrite a b) ∧ (∀ k b, Instr.usbResume ≠ .usbOutPacket k b) ∧
    (∀ k, Instr.usbResume ≠ .responseWrite k) ∧ (∀ k r p b, Instr.usbResume ≠ .progressEntry k r p b) ∧ Instr.usbResume ≠ .eventDelivery := by
  simp
theorem witness_HostCommandWaitsOrIsRefused : all
    [(hostSpec (.nop (ask 2 []))).isSome, State.reset.dev.consumes = false, ready.consumes,
     (cmdNop.check ready (ask 2 [])).isSome] = true := by decide +kernel

/-- A session of S2 that is not full yet. -/
def enrolling : Dev := { ready with slots := upd ready.slots 2 (fun s => { s with session := some { full := false } }) }

theorem witness_CommonChecksInOrder : all
    [cmdParamSet.zeroTag = false, cmdFwCommit.enrol = false, (ready.slot 2).session.isNone, (enrolling.slot 2).session.any (fun x => !x.full),
     cmdLaneAssign.len [1] = false, cmdLaneAssign.len (zs 20), cmdPermitLoad.blk ≠ cmdLaneAssign.blk,
     (cmdSlotProvision.early ready (ask 0 [] (some [1]))).isSome, (cmdSlotProvision.early unshared (ask 0 [] (some (provRecord 2 0 1000 9)))).isNone,
     cmdLaneAssign.lacks { ready with factory := { variantH := true } } (ask 0 (4 :: zs 19)),
     cmdLaneAssign.denied ready (ask 1 (zs 20)), cmdLaneAssign.bad ready (ask 0 (8 :: zs 19)) = some 0,
     cmdSlotRevoke.long, decide (8 ≤ ({ ready with host := { ready.host with longs := List.replicate 8 (long 0 0x0101 []) } } : Dev).longCount 0),
     (cmdLaneTune.notReady { ready with pwr := { ready.pwr with lanesCal := false, releaseAt := secU 100 } } (ask 0 (zs 20))).isSome] = true := by decide +kernel

theorem witness_CommonChecksInOrder_ofACommand : cmdNop ∈ allCommands ∧ cmdShockStatusGet ∈ allCommands := by simp [allCommands]

theorem witness_CommandTableOfOpcodes : all [decide (0x0009 ≠ 0x0002), !(allCommands.map (fun c => c.opcode)).contains 0x0009] = true := by decide +kernel
theorem witness_EventRecordsAndNothingElse : all
    [State.reset.dev.pwr.phase ≠ .ready, ready.pwr.phase = .ready, 7 < ready.colo.length, (nth ready.colo 7).freeze.isNone,
     (nth ready.colo 7).staged.length < 16] = true := by decide +kernel

theorem test_idle_moves_time : holds (step State.reset) (fun e => decide (e.tkc = 1920000)) = true := by decide +kernel
theorem test_unknown_opcode : lastStatus (runCommand 0x0009 (ask 0 []) ready) = some .unknownOp := by decide +kernel

end Sys2Proof.Tests

/-! ### 03 The host port and the rings -/

namespace Sys2Proof.Tests

theorem witness_QspiTransactionRejectedByCode : all
    [ready.qspiLive, qspiFault 0x02 254 4 = some 3, qspiFault 0x02 0x3FFFE 4 = some 3, qspiFault 0x02 255 1 = some 2, qspiFault 0x02 0x7FFFC 3 = some 2,
     qspiFault 0x02 0x40000 516 = some 2, (List.replicate 516 (0 : Byte)).length = 516, qspiFault 0x02 0x40000 512 = none] = true := by decide +kernel
theorem test_qspi_instruction : holds (exec (.qspiTransactionRejected 0x03 0 4) (at_ ready)) (fun e => e.host.hostErrCode = 1) = true := by decide +kernel

theorem witness_RingWindowWriteReadsBack : all
    [ready.qspiLive, 0x40000 ≤ 0x7FFFC, 0x7FFFC + [1, 2, 3, 4].length ≤ 0x80000, 0x7FFFC % 4 = 0] = true := by decide +kernel
theorem test_ringWindow_last : (match exec (.hrwWrite 0x7FFFC [1, 2, 3, 4]) (at_ ready) with
    | .next t => decide (t.mem.read 0x3FFFF = 4)
    | _ => false) = true := by decide +kernel

theorem witness_RegisterWindowWrite : all [ready.qspiLive, ([1, 0, 0, 0] : List Byte).length = 4, ([16, 0] : List Byte).length = 2] = true := by decide +kernel
theorem test_hostCtrl : holds (exec (.hrwWrite 0x28 [1, 0, 0, 0]) (at_ ready)) (fun e => e.host.hostCtrl = 1) = true := by decide +kernel

/-- The unit with no session of S1. -/
def closed : Dev := { ready with slots := upd ready.slots 1 (fun _ => {}) }

theorem witness_RingCfgRules : all
    [ready.qspiLive, ready.ringOn 3, bit 0x8000 15, ready.ringOn 7, (ready.slot 1).session.isSome, closed.ringOn 7, (closed.slot 1).session.isNone,
     bit 0x7FFF 15 = false, ready.ringOn 31 = false, bit 0xFFFF 15, 4 < 0xFFFF / 4096 % 8, 4096 < 0x8FF1 % 4096 + 16, 0x8FF0 % 4096 + 16 ≤ 4096,
     ready.ringOn 3 && decide (0x80FF % 4096 < ready.ringCfg 3 % 4096 + ready.depth 3), ready.overlaps 31 0x0FF0 16 = false] = true := by decide +kernel
theorem test_ringCfg_last_unit : holds (exec (.ringCfgWrite 31 0x8FF0) (at_ ready)) (fun e => e.ringOn 31) = true := by decide +kernel
theorem test_ringCfg_overlap : holds (exec (.ringCfgWrite 31 0x80FF) (at_ ready)) (fun e => decide (e.host.hostErrCode = 6) && !e.ringOn 31) = true := by decide +kernel

/-- The CMD and RSP rings of S0 with 16 entries each, one entry in RSP. -/
def rings : Dev :=
  { ready with host := { ready.host with
      ringCfg := upd (upd (upd ready.host.ringCfg 0 (fun _ => 0x8200)) 1 (fun _ => 0x8210)) 2 (fun _ => 0x8220), devIndex := upd ready.host.devIndex 1 (fun _ => 1) } }

theorem witness_DoorbellRules : all
    [rings.qspiLive, rings.ringOn 31 = false, rings.ringOn 0, ixSub 16 16 (rings.doorbell 0) ≤ ixSub 16 (rings.devIndex 0 + rings.depth 0) (rings.doorbell 0),
     ixSub 16 (rings.devIndex 0 + rings.depth 0) (rings.doorbell 0) < ixSub 16 17 (rings.doorbell 0),
     rings.ringOn 1, ixSub 16 1 (rings.doorbell 1) ≤ ixSub 16 (rings.devIndex 1) (rings.doorbell 1),
     ixSub 16 (rings.devIndex 1) (rings.doorbell 1) < ixSub 16 2 (rings.doorbell 1),
     rings.ringOn 3, decide (rings.doorbell 3 < 65536), ixSub 8 128 0 ≤ ixSub 8 (0 + rings.depth 3 / 2) 0, ixSub 8 (0 + rings.depth 3 / 2) 0 < ixSub 8 129 0,
     ixSub 8 0 0 ≤ ixSub 8 0 0, ixSub 8 0 0 < ixSub 8 1 0, decide (30 < 31)] = true := by decide +kernel
theorem test_doorbell_full : holds (exec (.doorbellWrite 0 16) (at_ rings)) (fun e => e.cmdWaiting 0 = 16) = true := by decide +kernel
theorem test_doorbell_beyond : holds (exec (.doorbellWrite 0 17) (at_ rings)) (fun e => decide (e.host.hostErrCode = 7 ∧ e.cmdWaiting 0 = 0)) = true := by decide +kernel

theorem witness_InterruptBitsCleared : all [ready.qspiLive, 0xFFFFFFFF < 4294967296, 15 < 16, 16 ≤ 0xFFFF] = true := by decide +kernel
theorem test_ringIrq_clear : holds (exec (.ringIrqClear 5) (at_ { ready with host := { ready.host with ringIrq := 7 } })) (fun e => e.host.ringIrq = 2) = true := by
  decide +kernel

/-- The port on USB. -/
def usbPort (configured : Bool) : Dev :=
  { ready with host := { rings.host with usb := true, usbConfigured := configured, usbIn := [(0, 1), (1, 1)] } }
/-- The same with the CMD ring full. -/
def usbFull : Dev := { usbPort true with host := { (usbPort true).host with doorbell := upd rings.host.doorbell 0 (fun _ => 16) } }
/-- An entry with an index and a kind. -/
def entry (index kind : Nat) : List Byte := e16 index ++ zs 4 ++ e8 kind ++ zs 57

theorem witness_UsbEndpointsAndBusEvents_endpoints : all
    [(usbPort false).usbLive, decide (31 < (usbPort false).host.ringCfg.length ∧ 31 < (usbPort false).host.doorbell.length), (usbPort true).host.usbConfigured,
     decide ((entry 0 1).length = 64 ∧ fld (entry 0 1) 6 1 = 1), (usbPort true).ringOn 0,
     0 < ixSub 16 ((usbPort true).devIndex 0 + (usbPort true).depth 0) ((usbPort true).doorbell 0),
     usbFull.usbLive, ixSub 16 (usbFull.devIndex 0 + usbFull.depth 0) (usbFull.doorbell 0) = 0,
     decide (fld (entry 255 6) 6 1 = 6 ∧ bit (fld (entry 255 6) 0 2) 8 = false), (usbPort true).ringOn 3,
     0 < ixSub 8 ((usbPort true).devIndex 3 % 256 + (usbPort true).depth 3 / 2) ((usbPort true).doorbell 3),
     decide (fld (entry 0 2) 6 1 ≠ 1 ∧ fld (entry 0 2) 6 1 ≠ 6), (usbPort true).host.usbIn = (0, 1) :: [(1, 1)]] = true := by decide +kernel

theorem witness_UsbEndpointsAndBusEvents_requests : all
    [decide (254 + 2 ≤ 256), decide (0x40 / 32 % 4 ≠ 0), hrwRequestOk 0x40 2 0xFF 2 = false,
     let d : Dev := { usbPort true with pwr := { ready.pwr with state := .sleep } }
     d.usbLive && decide (d.pwr.wakePend = none ∧ d.pwr.state = .sleep),
     ({ ready with pwr := { ready.pwr with state := .watch } } : Dev).pwr.state = .watch] = true := by decide +kernel

theorem test_usbConfiguration : holds (exec (.usbSetConfiguration true) (at_ (usbPort false))) (fun e => nth e.host.ringCfg 31 = 0xA7C0) = true := by decide +kernel
theorem test_usbOut : holds (exec (.usbOutPacket 0 (entry 0 1)) (at_ (usbPort true))) (fun e => e.doorbell 0 = 1) = true := by decide +kernel
theorem test_hostWake_short : still (.hostWakeEdge 9) (at_ { ready with pwr := { ready.pwr with state := .watch } }) = true := by decide +kernel
theorem test_usbEp0_stalled : holds (exec (.usbEp0Request 0x40 2 0xFF 2 [1, 1]) (at_ (usbPort true))) (fun e => e.host.hostErrCode = 9) = true := by decide +kernel

end Sys2Proof.Tests

/-! ### 04 The command model -/

namespace Sys2Proof.Tests

/-- A HELLO challenge of S1, made now, and a lockout of S2 of 1 s to go. -/
def greeted : Dev :=
  let one := upd tenant.slots 1 (fun s => { s with challenge := some { nh := zs 16, nd := zs 16, since := secU 100 } })
  { tenant with slots := upd one 2 (fun s => { s with lockEnd := some (secU 101) }) }
/-- A zero-tag request. -/
def hello (slot : Nat) (body : List Byte) : Request := { slot := slot, ref := 7, body := body }

theorem witness_CommonCommandsAnswer : all
    [takes cmdNop ready (ask 0 [1, 2]), takes cmdNop ready (hello 5 []), takes cmdStatusGet ready (hello 5 (zs 4)), takes cmdBye ready (ask 1 (zs 4)),
     (paramRow 0x0201).isSome, takes cmdParamGet ready (ask 0 (e16 0x0201 ++ e16 7)), takes cmdParamList ready (ask 1 [15, 127, 0, 0]),
     (ready.slot 1).session.isSome, takes cmdEventMaskSet ready (ask 1 ([15, 2, 0, 0] ++ zs 16)),
     takes cmdHelloPhase1 ready (hello 5 (1 :: zs 19)), (ready.slot 5).lockEnd = none,
     takes cmdHelloPhase1 greeted (hello 2 (1 :: zs 19)), (greeted.slot 2).lockEnd = some (secU 101), greeted.time < secU 101] = true := by decide +kernel
theorem test_paramList_first : holds (exec (.paramList (ask 1 [2, 1, 0, 0])) (at_ ready))
    (fun e => ((lastBody e).map (fun b => b.take 3)) = some [2, 8, 9]) = true := by decide +kernel
theorem test_statusGet_slot : holds (exec (.statusGet (hello 5 (zs 4))) (at_ ready)) (fun e => ((lastBody e).map (fun b => fld b 7 1)) = some 5) = true := by
  decide +kernel
theorem test_hello_locked : holds (exec (.helloPhase1 (hello 2 (1 :: zs 19))) (at_ greeted)) (fun e => lastStatus e = some .notYet) = true := by decide +kernel

/-- The host_proof of S1's challenge under its empty credential. -/
def proof1 : List Byte := greeted.helloMac 0x48 0x50 1 (zs 16) (zs 16)

theorem witness_HelloPhaseTwoOpensOrCounts : all
    [takes cmdHelloPhase2 greeted (hello 1 (2 :: zs 35)), (greeted.slot 1).lockEnd = none, 1 < greeted.slots.length,
     takes cmdHelloPhase2 greeted (hello 3 (2 :: zs 35)), greeted.pendingChallenge 3 = none, (greeted.pendingChallenge 1).isSome, greeted.get pSlotState 1 = 2,
     proof1 ≠ zs 32, slice ([2, 0, 0, 0] ++ proof1) 4 32 = proof1, takes cmdHelloPhase2 greeted (hello 1 ([2, 0, 0, 0] ++ proof1)),
     decide (min 65535 (greeted.getN pHelloFails 1 + 1) < 5), decide (5 ≤ min 65535 ((put greeted [(pHelloFails, 1, 4)]).getN pHelloFails 1 + 1))] = true := by
  decide +kernel
theorem test_hello_fifth_failure : holds (exec (.helloPhase2 (hello 1 (2 :: zs 35))) (at_ (put greeted [(pHelloFails, 1, 4)])))
    (fun e => (e.slot 1).lockEnd = some (secU 101)) = true := by decide +kernel
theorem test_hello_passes : holds (exec (.helloPhase2 (hello 1 ([2, 0, 0, 0] ++ proof1))) (at_ greeted)) (fun e => lastStatus e = some .ok) = true := by decide +kernel

/-- A PARAM_SET request: ID, index, type, size and value. -/
def setReq (slot id idx ty size v : Nat) : Request := ask slot (e16 id ++ e16 idx ++ e8 ty ++ e8 size ++ zs 2 ++ leBytes size v)

/-- The first parameters of the table that S0 sets to 1, volatile and in NVM. -/
def volatileRow : Option ParamRow := paramTable.find? (fun p => p.access = .own && !p.nvm && p.lo ≤ 1 && 1 ≤ p.hi && p.extra 1)
def nvmRow : Option ParamRow := paramTable.find? (fun p => p.access = .s0 && p.nvm && p.idx = .dev && p.lo ≤ 1 && 1 ≤ p.hi && p.extra 1)

theorem witness_ParamSetTakesEffect : all
    [volatileRow.any (fun p => takes cmdParamSet ready (setReq 0 p.id 0 p.ty.code p.ty.size 1) &&
       (ready.paramBar p.id 0 1).isNone && !p.nvm),
     nvmRow.any (fun p => takes cmdParamSet ready (setReq 0 p.id 0 p.ty.code p.ty.size 1) && (ready.paramBar p.id 0 1).isNone && p.nvm),
     ready.nvmBar = none, ready.consumes, (ready.slot 0).session.any (fun x => x.full), (paramRow 0).isNone,
     (paramRow pSlotState).any (fun row => !row.idx.valid 8)] = true := by decide +kernel
theorem test_paramGet_index : holds (exec (.paramGet (ask 0 (e16 pSlotState ++ e16 8))) (at_ ready))
    (fun e => decide (lastStatus e = some .badArg) && decide (lastBody e = some [2, 0, 0, 0])) = true := by decide +kernel

/-- An entry of Table HR-9: index, opcode, status, kind, flags, ref, body length, block length, body and tag. -/
def cmdBytes (index code status kind fl ref size blk : Nat) (tag : Byte) : List Byte :=
  e16 index ++ e16 code ++ e16 status ++ e8 kind ++ e8 fl ++ e16 ref ++ e16 size ++ e32 blk ++ zs 40 ++ List.replicate 8 tag
/-- The unit with an entry at the head of S0's CMD ring and no session, or with S0's session. -/
def withEntry (open_ : Bool) (e : List Byte) : State :=
  { mem := Memory.writes [] 0x8000 e
    dev := { rings with host := { rings.host with doorbell := upd rings.host.doorbell 0 (fun _ => 1) }, slots := if open_ then rings.slots else List.replicate 8 {} } }

/-- The hypotheses of the statement for one entry. -/
def entryCase (s : State) (p : List Byte → Nat → Nat → Bool) : Bool :=
  let c := s.dev.devIndex 0
  let e := s.mem.reads (s.dev.entryAt 0 c) 64
  decide (s.dev.settlePort.nextSlot = some 0) && s.dev.consumes && decide (0 < s.dev.host.devIndex.length) && p e c (fld e 2 2)

theorem witness_CmdEntryConsumedInOrder : all
    [entryCase (withEntry true (cmdBytes 1 1 0 1 0 0 0 0 0)) (fun e c _ => fld e 0 2 ≠ c),
     entryCase (withEntry true (cmdBytes 0 1 0 2 0 0 0 0 0)) (fun e c _ => fld e 0 2 = c && fld e 6 1 ≠ 1),
     entryCase (withEntry true (cmdBytes 0 1 0 1 0 0 41 0 0)) (fun e _ _ => fld e 6 1 = 1 && 40 < fld e 10 2),
     entryCase (withEntry true (cmdBytes 0 1 0 1 1 0 0 5121 0)) (fun e _ _ => decide (40 * (withEntry true []).dev.halfDepth 0 < fld e 12 4)),
     entryCase (withEntry false (cmdBytes 0 1 0 1 0 0 40 0 1)) (fun e _ _ => slice e 56 8 ≠ zs 8 && ((withEntry false []).dev.slot 0).session.isNone),
     entryCase (withEntry true (cmdBytes 0 9 0 1 0 0 0 0 0)) (fun e _ code => slice e 56 8 = zs 8 && (commandOf code []).isNone),
     entryCase (withEntry true (cmdBytes 0 1 0 1 0 0 40 0 0)) (fun e _ code => slice e 56 8 = zs 8 && code = 1)] = true := by decide +kernel
theorem test_entry_index : holds (exec .cmdEntryConsume (withEntry true (cmdBytes 1 1 0 1 0 0 0 0 0)))
    (fun e => decide (lastStatus e = some .badArg) && decide (lastBody e = some [0, 0]) && decide (e.devIndex 0 = 1)) = true := by decide +kernel

/-- The unit with one entry waiting for S0's RSP ring. -/
def answering (o : OutEntry) : Dev := { rings with host := { rings.host with outbox := [o] } }

theorem witness_ResponseWrittenToItsRing : all
    [(answering { tagged := true }).writes, (answering { tagged := true }).waiting 0 = some { tagged := true }, (answering {}).fits {},
     (answering { after := .openSession 2 (zs 32) }).waiting 0 = some { after := .openSession 2 (zs 32) }, (answering {}).host.usb = false,
     decide (1 < (answering {}).host.devIndex.length ∧ 0 < (answering {}).slots.length)] = true := by decide +kernel
theorem test_response_index : holds (exec (.responseWrite 0) (at_ (answering {}))) (fun e => decide (e.devIndex 1 = 2 ∧ e.host.ringIrq = 2)) = true := by decide +kernel

/-- A long command of S0 under way, and one event for S0, with a mask and an index of the EVT ring. -/
def running : Dev := { withLong rings (long 0 0x0101 []) with time := secU 101 }
def eventful (mask : Nat) (evt : Nat) : Dev :=
  { rings with
    host := { rings.host with events := [{ entry := { code := 0x0080 }, dest := [0] }], devIndex := upd rings.host.devIndex 2 (fun _ => evt) }
    slots := upd rings.slots 0 (fun s => { s with session := some { mask := List.replicate 16 mask } }) }

theorem witness_ProgressAndEventsWritten : all
    [(running.longOf 0 7).any (fun l => decide (1000 < l.bound ∧ msU 100 ≤ running.since l.lastProgress)), running.writes, running.responseDue 0 7 = false,
     running.room 1 ≠ 0, running.waiting 0 = none, (eventful 0 0).writes, ((eventful 0 0).slot 0).session.any (fun x => !x.enables 0x0080),
     ((eventful 1 16).slot 0).session.any (fun x => x.enables 0x0080), (eventful 1 16).room 2 = 0, (eventful 1 15).room 2 ≠ 0] = true := by decide +kernel
theorem test_event_written : holds (exec .eventDelivery (at_ (eventful 1 15))) (fun e => e.devIndex 2 = 16) = true := by decide +kernel

theorem witness_ChallengesAndLockoutsLapse : all
    [(greeted.slot 1).challenge.any (fun c => decide (({ greeted with time := secU 101 } : Dev).since c.since = msU 1000)),
     (greeted.slot 1).challenge.any (fun c => decide (greeted.since c.since < msU 1000)),
     (greeted.slot 2).lockEnd = some (secU 101), greeted.time < secU 101] = true := by decide +kernel
theorem test_lockout_runs : still (.helloLockoutExpiry 2) (at_ greeted) = true := by decide +kernel

end Sys2Proof.Tests

/-! ### 05 The pace loop and the fault sources -/

namespace Sys2Proof.Tests

/-- VCORE at a level, the last raise 20 µs ago. -/
def paced (v : Int) : Dev := { put ready [(pVcore, 0, v)] with pace := { lastRaise := some (secU 100 - usU 20) } }
/-- The same in an environment whose ceiling is 600 mV. -/
def capped (v : Int) : Dev := put (paced v) [(pVcoreCeilingHost, 0, 600)]

theorem witness_PaceRaisesOnDeficit : all
    [(paced 895).pace.lastRaise.any (fun t => decide (usU 20 ≤ (paced 895).since t)), (paced 895).inOverride = false,
     (paced 895).targetSlack ≤ (clampI 0 1000 200).toNat, 50 ≤ (paced 895).targetSlack, (clampI 0 1000 199).toNat < (paced 895).targetSlack,
     (paced 895).getN pVcore < (paced 895).vcoreCeiling, (paced 895).getN pVcore < 900, (capped 600).vcoreCeiling ≤ (capped 600).getN pVcore,
     (clampI 0 1000 (-5)).toNat < 50, 50 ≤ (clampI 0 1000 50).toNat] = true := by decide +kernel
theorem test_pace_raise : holds (exec (.workUnitComplete 4 199) (at_ (paced 895))) (fun e => e.get pVcore = 900) = true := by decide +kernel
theorem test_pace_override : holds (exec (.workUnitComplete 0 49) (at_ (capped 600))) (fun e => e.inOverride && e.get pVcore = 605) = true := by decide +kernel

/-- A window in which the lowest slack was as given. -/
def windowed (low : Nat) (v : Int) : Dev := { paced v with pace := { windowMin := [1000, low, 1000, 1000, 1000] } }

theorem witness_PaceLowersOncePerWindow : all
    [(windowed 250 555).inOverride = false, (windowed 250 555).pace.raised = false,
     (windowed 250 555).targetSlack + 50 ≤ (windowed 250 555).pace.windowMin.foldl min 1000,
     (windowed 250 555).vcoreFloor + 5 ≤ (windowed 250 555).getN pVcore,
     (windowed 249 555).pace.windowMin.foldl min 1000 < (windowed 249 555).targetSlack + 50,
     (capped 700).vcoreCeiling < (capped 700).getN pVcore, 50 ≤ (capped 700).pace.recent,
     ({ capped 700 with pace := { recent := 49 } } : Dev).pace.recent < 50, (capped 600).getN pVcore ≤ (capped 600).vcoreCeiling,
     takes cmdPacePolicySet ready (ask 0 (e16 900 ++ e16 550 ++ zs 4))] = true := by decide +kernel
theorem test_pace_lowers : holds (exec .slackWindowEnd (at_ (windowed 250 555))) (fun e => e.get pVcore = 550) = true := by decide +kernel
theorem test_pace_keeps : holds (exec .slackWindowEnd (at_ (windowed 249 555))) (fun e => e.get pVcore = 555) = true := by decide +kernel
theorem test_pace_descends : holds (exec .ceilingDescentStep (at_ (capped 602))) (fun e => e.get pVcore = 600) = true := by decide +kernel

/-- Four Quire C detections of the watchdog in the last 10 s. -/
def fragile : Dev := { ready with pace := { recoveries := List.replicate 4 (6, 0, secU 95) } }
/-- In FAULT of a cause for 10 s, with resets of the last 600 s. -/
def faulted (cause n : Nat) : Dev :=
  { ready with pwr := { ready.pwr with phase := .fault, faultCause := cause, faultSince := secU 90, faultResets := List.replicate n (secU 50) } }

theorem witness_FaultSourcesAct : all
    [ready.pwr.state = .active, (fragile.faultDevice 6 0 0).escalates 6 0, fragile.pwr.phase ≠ .fault, (ready.faultDevice 2 0 0).escalates 2 0 = false,
     (faulted 3 2).pwr.phase = .fault, secU 10 ≤ (faulted 3 2).since (faulted 3 2).pwr.faultSince,
     ((faulted 3 2).pwr.faultResets.filter (fun t => decide ((faulted 3 2).since t < secU 600))).length < 3, (faulted 4 0).pwr.faultCause = 4,
     3 ≤ ((faulted 1 3).pwr.faultResets.filter (fun t => decide ((faulted 1 3).since t < secU 600))).length] = true := by decide +kernel
theorem test_fault_fifth : holds (exec (.faultDetection 6 0 0 none none) (at_ fragile)) (fun e => decide (e.pwr.phase = .fault ∧ e.pwr.faultCause = 3)) = true := by
  decide +kernel
theorem test_faultReset_fourth : still .faultResetTimer (at_ (faulted 1 3)) = true := by decide +kernel
theorem test_faultReset_third : holds (exec .faultResetTimer (at_ (faulted 3 2))) (fun e => e.get pResetCause = 9) = true := by decide +kernel

end Sys2Proof.Tests

/-! ### 06 Power, start-up and shutdown -/

namespace Sys2Proof.Tests

/-- In OFF with a cause, 2 ms after its reset. -/
def off (cause : Nat) (core : Int) : Dev :=
  let p : Power := { state := .off, cause := cause, resetAt := some (secU 100 - msU 2), temps := upd (List.replicate 8 none) 0 (fun _ => some core) }
  { ready with pwr := p }
/-- At a phase of the start-up. -/
def starting (ph : Phase) : Dev := { ready with host := {}, pwr := { ready.pwr with phase := ph, readyAt := none, lanesCal := false } }

theorem witness_StartUpTimeline : all
    [(off 1 400).pwr.state = .off, (off 1 400).pins.resetN, (off 1 400).tapHolds = false, (off 1 400).pwr.resetAt.all (fun t => msU 2 ≤ (off 1 400).since t),
     (off 3 400).pwr.cause ≠ 1, 1792 ≤ (off 3 1792).junction, (off 3 400).junction < 1792,
     (starting .boot).pwr.state = .active, (starting .boot).pwr.startHeld = none, (starting .boot).host.readable = false, (starting .boot).pwr.vioValid,
     (put (starting .boot) [(pHostTransport, 0, 1)]).get pHostTransport = 1, (starting .boot).pwr.phase = .boot, (starting .quires).pwr.phase = .quires,
     (starting .quires).pwr.restartC = false, (starting .quires).pwr.lanesCal = false, ready.pwr.startComplete = false,
     (put ready [(pSubsysUp, 0, 115)]).stepsReached, msU 1200 ≤ ready.since ready.pwr.releaseAt,
     ({ ready with pwr := { ready.pwr with startComplete := true } } : Dev).pwr.startComplete] = true := by decide +kernel
theorem test_release_hot : holds (exec (.resetRelease 4600 true) (at_ (off 1 1792))) (fun e => e.pwr.startHeld.isSome && e.pins.hostSel && e.tkc = 0) = true := by
  decide +kernel
theorem test_release_low : still (.resetRelease 4599 true) (at_ (off 1 400)) = true := by decide +kernel
theorem test_quires : holds (exec (.phaseQuires true true true false []) (at_ (starting .boot))) (fun e => e.pwr.faultCause = 5) = true := by decide +kernel
theorem test_ready : holds (exec .phaseReady (at_ (starting .quires))) (fun e => e.pwr.phase = .ready) = true := by decide +kernel

/-- The hold after a hard abort with S = 112 °C. -/
def held : Dev := { ready with pwr := { ready.pwr with state := .hardHold } }
/-- An orderly sequence of a target, flushed, nothing left to write. -/
def ending (target : Nat) : Dev := { ready with pwr := { ready.pwr with sequence := some { kind := .orderly target 4, since := secU 99, flushed := true } } }
/-- Temperatures with the core sensor at a value. -/
def core (j : Int) : List (Option Int) := some j :: List.replicate 7 none

theorem witness_ResetsTakeTheirCause : all
    [ready.pwr.state ≠ .off, ready.pwr.state ≠ .hardHold, ready.powered, (ready.takeTemps (core 1888)).thermalS + 96 ≤ (ready.takeTemps (core 1888)).junction,
     held.pwr.state = .hardHold, 1551 < held.pwr.abortS - 240, (ending 0).pwr.sequence.isSome, (ending 1).host.outbox = [],
     msU 1100 ≤ (({ ending 1 with time := secU 101 } : Dev)).since (secU 99), (ending 1).pwr.orderlyWake = none] = true := by decide +kernel
theorem test_hardAbort : holds (exec (.hardAbort (core 1888)) (at_ ready)) (fun e => e.pwr.state = .hardHold && e.get pResetCause = 6) = true := by decide +kernel
theorem test_hardAbort_below : holds (exec (.hardAbort (core 1887)) (at_ ready)) (fun e => e.pwr.state = .active) = true := by decide +kernel
theorem test_hardAbortRelease : holds (exec (.hardAbortRelease 1551) (at_ held)) (fun e => e.pwr.state = .off) = true := by decide +kernel
theorem test_resetPin_short : holds (exec (.resetPin 9999 false) (at_ ready)) (fun e => e.pwr.state = .active) = true := by decide +kernel
theorem test_orderly_watch : holds (exec .orderlyShutdownEnd (at_ (ending 0))) (fun e => e.pwr.state = .watch) = true := by decide +kernel

/-- A brown-out sequence flushed 5 ms ago, VIO back for 5 ms. -/
def recovering : Dev :=
  let q : Sequence := { kind := .brownOut, since := secU 99, flushed := true, flushedAt := secU 100 - msU 5 }
  { ready with pwr := { ready.pwr with sequence := some q, vioLost := true, vioGoodSince := some (secU 100 - msU 5) } }
def watching : Dev := { ready with pwr := { ready.pwr with state := .watch } }
/-- THERMAL_STATE as given. -/
def warm (st : Int) : Dev := put ready [(pThermalState, 0, st)]

theorem witness_ShutdownSequences : all
    [ready.powered, watching.powered = false, recovering.pwr.sequence.any (fun q => q.kind = .brownOut && q.flushed && decide (msU 5 ≤ recovering.since q.flushedAt)),
     recovering.pwr.vioLost && recovering.pwr.vioValid && recovering.pwr.vioGoodSince.any (fun t => msU 5 ≤ recovering.since t),
     ({ ready with pwr := { ready.pwr with vioValid := false } } : Dev).pwr.vioMode = none,
     ({ ready with pwr := { ready.pwr with vioMode := some true } } : Dev).pwr.vioMode = some (!false),
     let j := fun (d : Dev) (t : Int) => (d.takeTemps (core t)).junction - (d.takeTemps (core t)).thermalS
     decide ((warm 0).get pThermalState = 0 ∧ j (warm 0) 1663 = -129 ∧ j (warm 0) 1664 = -128 ∧ j (warm 0) 1791 = -1 ∧ (warm 1).get pThermalState = 1 ∧
       j (warm 1) 1615 = -177 ∧ j (warm 1) 1616 = -176 ∧ (warm 2).get pThermalState = 2 ∧ j (warm 2) 1552 = -240),
     (starting .quires).get pThermalState ≠ 2, (starting .quires).pwr.readyAt = none, ((starting .quires).takeTemps (core 1792)).thermalS ≤ 1792,
     ({ recovering with pwr := { recovering.pwr with sequence := some {} } } : Dev).flushDue, ready.flushDue = false] = true := by decide +kernel
theorem test_thermal_warning : holds (exec (.thermalSample (core 1664)) (at_ (warm 0))) (fun e => e.get pThermalState = 1) = true := by decide +kernel
theorem test_thermal_hysteresis : holds (exec (.thermalSample (core 1616)) (at_ (warm 1))) (fun e => e.get pThermalState = 1) = true := by decide +kernel
theorem test_brownOut : holds (exec (.brownOutWarning 4499) (at_ ready)) (fun e => e.pwr.sequence.isSome) = true := by decide +kernel
theorem test_brownOut_over : holds (exec (.brownOutRecovered 4600) (at_ recovering)) (fun e => e.pwr.sequence.isNone) = true := by decide +kernel

/-- A sleep request noted, a mode change under way, and a wake pending in SLEEP. -/
def dozing : Dev := { ready with pwr := { ready.pwr with sleepReq := some (0, 7, secU 100) } }
def changing (mode : Nat) : Dev := { withLong ready (long 0 0x0101 [1, 0, 0, 0]) with pwr := { ready.pwr with modeSet := some (0, 7, mode) } }
def sleeping : Dev := { ready with pwr := { ready.pwr with state := .sleep, wakePend := some 1 } }
/-- A band of S0 bridging, and the unit on mains. -/
def bridging : Dev := put ready [(pBandState, 0, 3)]
def mains : Dev := { ready with pins := { ready.pins with mainsOk := true } }

theorem witness_SleepWatchAndModes : all
    [takes cmdPowerStateSet ready (ask 0 [0, 0, 0, 0]), takes cmdPowerStateSet dozing (ask 0 [1, 0, 0, 0]), dozing.pwr.sleepReq.isSome,
     takes cmdPowerStateSet bridging (ask 0 [1, 0, 0, 0]), !(bridging.pwr.sleepReq.isSome || bridging.resetting) && bridging.anyBridging,
     takes cmdPowerStateSet ready (ask 0 [1, 0, 0, 0]), takes cmdPowerStateSet ready (ask 0 [2, 0, 0, 0]),
     !(ready.pwr.sleepReq.isSome || ready.resetting || ready.anyBridging || ready.pwr.modeSet.isSome || ready.brownedOut) && decide (ready.sv.jobs = [] ∧ ready.host.longs = []),
     ready.pins.mainsOk = false, takes cmdPowerStateSet mains (ask 0 [2, 0, 0, 0]), mains.pins.mainsOk && !mains.anyBridging,
     takes cmdReset bridging (ask 0 [1, 0, 0, 0]), takes cmdReset ready (ask 0 [0, 0, 0, 0]), takes cmdModeSet ready (ask 0 [1, 0, 0, 0]),
     ready.getN pMode = 1, takes cmdModeSet ready (ask 0 [0, 0, 0, 0]), ready.pwr.modeSet = none, ready.laneIds.all ready.laneMuted,
     takes cmdModeSet (changing 0) (ask 0 [0, 0, 0, 0]), (changing 0).pwr.modeSet.isSome,
     let d := { ready with lanes := ready.lanes.map (fun l => { l with probing := true }) }
     takes cmdModeSet d (ask 0 [0, 0, 0, 0]) && d.laneIds.any (fun l => (d.lane l).probing),
     (changing 1).pwr.modeSet = some (0, 7, 1), ((changing 1).longIs 0 7 0x0101).isSome, (changing 0).sv.jobs = [],
     dozing.pwr.state = .active && decide (dozing.host.outbox = [] ∧ dozing.pwr.sequence = none ∧ dozing.pwr.thermalSeq = none),
     sleeping.pwr.wakePend = some 1, sleeping.pwr.state = .sleep, watching.pins.mainsOk ≠ true,
     ({ watching with pins := { watching.pins with mainsOk := true } } : Dev).pins.mainsOk ≠ false, ready.get pThermalState ≠ 2,
     let d : Dev := { ready with link := { ready.link with ports := ready.link.ports.map (fun p => { p with module := true, accepted := true }) } }
     d.portIds.all (fun p => (d.port p).module && (d.port p).accepted && decide (p < d.pins.txDisable.length))] = true := by decide +kernel
theorem test_sleep : holds (exec .sleepEntry (at_ dozing)) (fun e => e.pwr.state = .sleep) = true := by decide +kernel
theorem test_sleep_return : holds (exec .sleepReturn (at_ sleeping)) (fun e => decide (e.pwr.state = .active ∧ e.host.devIrq = 8)) = true := by decide +kernel
theorem test_modeSet : holds (exec .modeSetComplete (at_ (changing 0))) (fun e => e.get pMode = 0) = true := by decide +kernel
theorem test_mains_wakes : holds (exec (.mainsOkChange true) (at_ watching)) (fun e => e.get pResetCause = 7) = true := by decide +kernel

theorem witness_UnitReports : all
    [takes cmdInfoGet ready (ask 1 (zs 4)), takes cmdTempGet ready (ask 1 (zs 4)), takes cmdNvmStatus ready (ask 0 (zs 4)),
     takes cmdFactoryDataGet ready (ask 0 (zs 4)), takes cmdFaultCountersGet ready (ask 0 [15, 0, 0, 0]), takes cmdShockStatusGet ready (ask 0 (zs 4))] = true := by
  decide +kernel
theorem test_tempGet : holds (exec (.tempGet (ask 1 (zs 4))) (at_ ready)) (fun e => ((lastBody e).map (fun b => fldS b 16 2)) = some 1792) = true := by decide +kernel

end Sys2Proof.Tests

/-! ### 02 The shared resources; 07 The energy ledger -/

namespace Sys2Proof.Tests

/-- One NVM request of `n` pages by S1, whose reservation in the frame is one page. -/
def sharing (n : Nat) (slot : Nat) : Dev :=
  { ready with sched := { fresh := [{ res := .nvm, slot := slot, need := n }], reserve := upd (List.replicate 32 0) 17 (fun _ => 1) } }

theorem witness_SharesServedByTickAndFrame : all
    [watching.powered = false, (starting .quires).pwr.phase ≠ .ready, (sharing 1 1).powered, (sharing 1 1).pwr.phase = .ready,
     (sharing 1 1).sched.fresh = [{ res := .nvm, slot := 1, need := 1 }], (sharing 1 1).sched.queue = [],
     1 ≤ nth (sharing 1 1).sched.reserve 17 - nth (sharing 1 1).sched.used 17, nth (sharing 2 1).sched.reserve 17 - nth (sharing 2 1).sched.used 17 < 2,
     let spare := fun (d : Dev) => d.getN pNvmWriteBudget - (List.range 8).foldl (fun a k => a + nth d.sched.used (16 + k)) 0 - nth d.sched.beyondUsed 2 -
       (List.range 8).foldl (fun a k => a + (nth d.sched.reserve (16 + k) - nth d.sched.used (16 + k))) 0
     decide (2 ≤ spare (sharing 2 1) ∧ spare (sharing 1000 1) < 1000)] = true := by decide +kernel
theorem test_tick_charges : holds (exec .schedulerTick (at_ (sharing 1 1))) (fun e => nth e.sched.used 17 = 1) = true := by decide +kernel
theorem test_tick_waits : holds (exec .schedulerTick (at_ (sharing 1000 1))) (fun e => e.sched.queue.length = 1) = true := by decide +kernel
theorem test_frame_renews : holds (exec .frameStart (at_ ready)) (fun e => nth e.sched.reserve 0 = 4000) = true := by decide +kernel

/-- The first estimate taken, S1 ACTIVE, a battery of 100 kJ. -/
def estimated : Dev := { put tenant [(pColdBudget, 0, 0)] with led := { tenant.led with estimated := true, bat := 100000000000 } }
/-- A job of S0 at a handle, admitted some seconds ago. -/
def admitted (h : Nat) (sec : Nat) (started : Bool) : Dev :=
  let j : Job := { estimate := 5, admitted := secU (100 - sec), started := if started then some (secU 99) else none }
  { estimated with led := { estimated.led with jobs := upd estimated.led.jobs 0 (fun js => upd js h (fun _ => some j)) } }
/-- A JOB request of a generic job. -/
def generic (rate ms : Nat) : Request := ask 0 (e16 0 ++ zs 2 ++ e32 rate ++ e32 ms)

theorem witness_LedgerCommands : all
    [takes cmdLedgerGet ready (ask 1 (zs 4)), takes cmdQuotaSet tenant (ask 0 ([2, 0, 0, 0] ++ e64 0)), tenant.get pSlotState 2 ≠ 2,
     takes cmdQuotaSet tenant (ask 0 ([1, 0, 2, 0] ++ e64 1000000000000)), tenant.get pSlotState 1 = 2, decide (1 < tenant.led.balance.length),
     takes cmdJobEstimate estimated (generic 1 1), takes cmdJobAdmit estimated (generic 4294967295 4294967295),
     (estimated.admitRefusal 0 ((4294967295 * 4294967295 + 999999) / 1000000)).isSome,
     takes cmdJobAdmit (admitted 0 1 false) (generic 0 0), (admitted 0 1 false).admitRefusal 0 0 = none, (admitted 0 1 false).jobAt 0 0 ≠ none,
     (admitted 0 1 false).jobAt 0 1 = none, takes cmdPlanEndSet ready (ask 1 ([1, 0, 0, 0] ++ e32 1)), ready.wallValid = false,
     takes cmdPlanEndSet ready (ask 1 ([0, 0, 0, 0] ++ e32 0)), takes cmdPlanEndSet ready (ask 1 ([2, 0, 0, 0] ++ e32 2592000)),
     takes cmdJobRelease ready (ask 0 (e16 16 ++ zs 2)), ready.jobAt 0 16 = none, takes cmdJobRelease (admitted 15 1 true) (ask 0 (e16 15 ++ zs 2)),
     ((admitted 15 1 true).jobAt 0 15).any (fun j => j.started.isSome), takes cmdJobRelease (admitted 15 1 false) (ask 0 (e16 15 ++ zs 2)),
     ((admitted 15 9 false).jobAt 0 15).any (fun j => decide ((admitted 15 9 false).since j.admitted < secU 10)),
     ((admitted 15 10 false).jobAt 0 15).any (fun j => j.started.isNone && decide ((admitted 15 10 false).since j.admitted = secU 10)),
     decide (0 < (admitted 15 10 false).led.jobs.length)] = true := by decide +kernel
theorem test_jobAdmit_rounds_up : holds (exec (.jobAdmit (generic 1 1)) (at_ (admitted 0 1 false)))
    (fun e => (e.jobAt 0 1).any (fun j => j.estimate = 1)) = true := by decide +kernel
theorem test_jobExpiry : holds (exec (.jobAdmissionExpiry 0 15) (at_ (admitted 15 10 false))) (fun e => (e.jobAt 0 15).isNone) = true := by decide +kernel
theorem test_quotaSet : holds (exec (.quotaSet (ask 0 ([1, 0, 2, 0] ++ e64 7))) (at_ tenant)) (fun e => nth e.led.balance 1 = 7000) = true := by decide +kernel

/-- A step sample of 1,000 µJ from the battery. -/
def sample : StepSample := { means := List.replicate 10 0, invalid := List.replicate 10 false, power := List.replicate 8 0, battery := 1000 }
/-- A unit with energy enough that no level is crossed, in BATTERY mode or in GRID. -/
def rich (grid : Int) : Dev :=
  { put ready [(pLedgerMode, 0, grid), (pColdBudget, 0, 0), (pBatEnergyFull, 0, 0), (pHardReserve, 0, 0), (pOwnerReserve, 0, 0), (pEconomyLevel, 0, 0), (pPlanEnd, 1, 0)] with
    led := { ready.led with estimated := true, bat := 100000000000, mainsSince := some (secU 99) }, pins := { ready.pins with mainsOk := true } }

theorem witness_AccountingStepCounts : all
    [watching.powered = false, (starting .quires).powered && (starting .quires).pwr.phase ≠ .ready, (rich 0).powered && (rich 0).pwr.phase = .ready,
     (rich 1).isGrid, (rich 0).isGrid = false,
     let d := rich 0
     let b := sample.battery
     let d1 := (((d.takeVsys sample.vsys).holdup.takeMeans sample).countBattery sample).2
     decide (d.get pLedgerLevel = 0 ∧ ((d1.attribute sample b).closeSecond).levelNow = 0 ∧ d.quotaSlots = []),
     (rich 0).led.mainsSince.any (fun t => secU 1 ≤ (rich 0).since t)] = true := by decide +kernel
theorem test_step_battery : holds (exec (.accountingStep sample) (at_ (rich 0))) (fun e => e.led.bat = 99999999000) = true := by decide +kernel
theorem test_step_unpowered : still (.accountingStep sample) (at_ watching) = true := by decide +kernel

/-- Estimates held for want of valid windows, valid again for 10 s. -/
def heldEstimate : Dev := { estimated with led := { estimated.led with invalidHold := true, validSince := some (secU 90) } }
/-- Conditions of GRID met at the first estimate. -/
def atMains : Dev :=
  let d := put ready [(pMainsVRms, 0, 80000), (pChargeEnable, 0, 1)]
  { d with pins := { d.pins with mainsOk := true }, led := { d.led with mainsSince := some (secU 99) }, pwr := { d.pwr with cause := 1 } }
/-- A battery current small for 20 min, the estimate far from the count. -/
def drifted : Dev :=
  let d := put ready [(pBatEnergyFull, 0, 1000)]
  { d with time := secU 1300, led := { d.led with estimated := true, bat := -1000000000, quietSince := some (secU 100) } }
/-- S1 with a plan of 1,000 s, one bridging lane whose PA drew 50 kW in the last second. -/
def planned : Dev :=
  let d := put tenant [(pLaneOwner, 0, 1), (pBandState, 8, 3), (pPlanEnd, 1, 69206016000000), (pPaSupplyMv, 0, 28000), (pExhaustAction, 1, 0), (pEnergyWeight, 0, 1)]
  let band : Band := { cfg := { dlLane := 0, ulLane := 0 } }
  { d with bands := upd d.bands 8 (fun _ => band)
           led := { d.led with balance := upd d.led.balance 1 (fun _ => 1000), lanePower1s := upd d.led.lanePower1s 0 (fun _ => 50000000) } }

theorem witness_LedgerEstimatesAndTimers_estimates : all
    [(starting .quires).pwr.phase ≠ .ready, heldEstimate.led.estimated && heldEstimate.led.invalidHold && heldEstimate.validTen,
     decide (atMains.pwr.cause ≠ 7 ∧ atMains.led.estimated = false) && atMains.pins.mainsOk && atMains.led.mainsSince.any (fun t => secU 1 ≤ atMains.since t) &&
       atMains.getB pChargeEnable && decide (atMains.get pThermalState ≠ 2 ∧ 80000 ≤ atMains.getN pMainsVRms),
     drifted.led.estimated && !drifted.isGrid && drifted.led.quietSince.any (fun t => secU 1200 ≤ drifted.since t) &&
       decide (drifted.get pBatEnergyFull * 20 < (drifted.ocvEstimate - drifted.batUj).natAbs ∧ drifted.led.invalidHold = false),
     ready.led.estimated = false, decide (8000 + 300 ≤ 8300 ∧ 10000 ≤ 10000 ∧ (ready.get pMean1ms 49).natAbs < 50), 8299 < 8000 + 300] = true := by decide +kernel
theorem witness_LedgerEstimatesAndTimers_timers : all
    [ready.planBudget 1 = none,
     (planned.planBudget 1).any (fun b => decide (b.1 * planned.getN pEnergyWeight 0 * 1000 ≤
       (((nth planned.led.lanePower1s 0).toNat * b.2 * planned.getN pEnergyWeight 0 : Nat) : Int))),
     planned.laneIds.filter (fun x => planned.owner x = 1) = [0], planned.laneBand 0 = some 8, planned.bandState 8 = 3, planned.get pPaSupplyMv 0 ≠ 0,
     (planned.convoy 0).energyAt = none, nth planned.led.paInvalidSince 0 = none, ready.led.hardHoldAt = none,
     let d := fun (t : Nat) => ({ ready with led := { ready.led with hardHoldAt := some t } } : Dev)
     decide ((d (secU 41)).since (secU 41) < secU 60 ∧ (d (secU 40)).since (secU 40) = secU 60), ready.pins.mainsOk = false, mains.pins.mainsOk] = true := by
  decide +kernel
theorem test_estimate_grid : holds (exec (.firstBatteryEstimate none) (at_ atMains)) (fun e => e.get pLedgerMode = 1) = true := by decide +kernel
theorem test_hardHold_ends : holds (exec .hardHoldTimeout (at_ { ready with led := { ready.led with hardHoldAt := some (secU 40) } }))
    (fun e => e.pwr.sequence.isSome) = true := by decide +kernel

end Sys2Proof.Tests

/-! ### 08 Radio lanes -/

namespace Sys2Proof.Tests

/-- S1 holds L7 with the range and the permit of 700 MHz to 800 MHz; the lane is in a state. -/
def laned (st : Int) : Dev :=
  let d := put (permitted .active) [(pLaneOwner, 7, 1), (pLaneState, 7, st), (pColdBudget, 0, 0)]
  { d with ranges := upd d.ranges 7 (fun _ => [some (700000000, 800000000), none, none, none])
           led := { d.led with estimated := true, bat := 100000000000, balance := upd d.led.balance 1 (fun _ => 1000000) } }
/-- A LANE_TUNE of L7 in the donor direction at rate 1. -/
def tune (fc : Nat) : Request := ask 1 ([7, 0, 1, 0] ++ e64 fc)
/-- The lane with a survey job on it. -/
def surveyed : Dev := { laned 2 with lanes := upd (laned 2).lanes 7 (fun x => { x with survey := some (1, 9) }) }

theorem witness_LaneCommands_tune : all
    [takes cmdLaneTune (laned 2) (tune 380000000), inTuningRange 380000000 1 = false, inTuningRange 725000000 1, takes cmdLaneTune surveyed (tune 725000000),
     surveyed.laneBusy 7, (laned 2).laneBand 7 = none, (laned 2).laneBusy 7 = false, (laned 2).laneState 7 = 2, (laned 4).laneState 7 = 4,
     (laned 2).channelStatus 1 { lane := 7, dir := 0, fc := 724999999, rate := 1 } = some .noPermit,
     (laned 2).channelStatus 1 { lane := 7, dir := 0, fc := 725000000, rate := 1 } = none,
     (laned 4).channelStatus 1 { lane := 7, dir := 0, fc := 775000000, rate := 1 } = none, takes cmdLaneTune (laned 4) (tune 775000000),
     takes cmdLaneStateSet surveyed (ask 1 [7, 2, 0, 0]), takes cmdLaneStateSet (laned 1) (ask 1 [7, 2, 0, 0]),
     takes cmdLaneStateSet (put (laned 1) [(pThermalState, 0, 2)]) (ask 1 [7, 2, 0, 0]), (laned 1).get pThermalState ≠ 2,
     takes cmdLaneStateSet (put (laned 0) [(pLaneFreq, 7, 725000000)]) (ask 1 [7, 4, 0, 0]), decide (7 < (laned 0).lanes.length)] = true := by decide +kernel
theorem test_laneTune_edge : holds (exec (.laneTune (tune 724999999)) (at_ (laned 2))) (fun e => lastStatus e = some .noPermit) = true := by decide +kernel
theorem test_laneTune_ready : holds (exec (.laneTune (tune 725000000)) (at_ (laned 2))) (fun e => e.getN pLaneFreq 7 = 725000000) = true := by decide +kernel
theorem test_laneState_hot : holds (exec (.laneStateSet (ask 1 [7, 2, 0, 0])) (at_ (put (laned 1) [(pThermalState, 0, 2)])))
    (fun e => lastStatus e = some .thermal) = true := by decide +kernel

/-- One channel of a CAL_RUN. -/
def channel : List Byte := e64 725000000 ++ e8 1 ++ zs 3
def calAsk : Request := ask 1 ([7, 1] ++ e16 65535 ++ zs 4) (some channel)
/-- The lane in a CAL_RUN of S1, withdrawn or not. -/
def calibrating (w : Bool) : Dev :=
  let d := withLong (laned 7) (long 1 0x0403 ([7, 0] ++ e16 65535 ++ zs 4) channel)
  { d with lanes := upd d.lanes 7 (fun x => { x with calRun := some { slot := 1, ref := 7, job := 0, withdrawn := w } }) }
/-- A PA table of one RX and one TX entry. -/
def tableBytes : List Byte := [1, 1, 1, 1] ++ zs 36
def tabled : Dev := { ready with lanes := upd ready.lanes 0 (fun x => { x with table := some (paTableOf tableBytes) }) }
/-- A PA_TABLE_LOAD of L0. -/
def tableAsk (flag off total : Nat) (blk : List Byte) : Request := ask 0 ([0, BitVec.ofNat 8 flag] ++ e16 off ++ e16 total ++ zs 2) (some blk)

theorem witness_LaneCommands_calibration : all
    [takes cmdCalRun (laned 2) calAsk, inTuningRange (calChan channel 0).1 (calChan channel 0).2, (laned 2).anyDirection 1 7 725000000 1 = none,
     calPinsOver ((laned 2).lane 7).cal channel = false, (match (laned 2).startJob 1 65535 (calJob 7 1) with | .ok _ => true | .error _ => false),
     ((calibrating false).longIs 1 7 0x0403).any (fun c => fld c.body 0 1 = 7), ((calibrating false).lane 7).calRun.any (fun c => !c.withdrawn),
     ((calibrating true).lane 7).calRun.any (fun c => c.withdrawn), takes cmdCalStoreGet (laned 2) (ask 1 [7, 63, 0, 0]),
     takes cmdTxpowerModeSet (put ready [(pLaneState, 0, 5)]) (ask 0 [0, 1, 0, 5]), (put ready [(pLaneState, 0, 5)]).hardwareFree 0 = false,
     takes cmdTxpowerModeSet ready (ask 0 [0, 0, 0, 0]), (ready.lane 0).table.isNone, ready.hardwareFree 0, takes cmdTxpowerModeSet ready (ask 0 [0, 1, 0, 5]),
     (tabled.lane 0).table.any (fun t => bit t.flags 0), takes cmdTxpowerModeSet tabled (ask 0 [0, 0, 0, 0]), tabled.nvmBar = none,
     takes cmdPaTableLoad (put ready [(pLaneState, 0, 5)]) (tableAsk 3 0 40 tableBytes), takes cmdPaTableLoad ready (tableAsk 1 0 40 (tableBytes.take 16)),
     takes cmdPaTableLoad ready (tableAsk 0 16 40 tableBytes), (ready.lane 0).partialTable = none, takes cmdPaTableLoad ready (tableAsk 3 0 40 tableBytes),
     paTableReason 40 tableBytes = 0, takes cmdPaTableLoad ready (tableAsk 3 0 41 tableBytes), paTableReason 41 tableBytes = 1,
     takes cmdPaTableLoad ready (tableAsk 3 0 40 (2 :: tableBytes.drop 1)), paTableReason 40 (2 :: tableBytes.drop 1) = 2] = true := by decide +kernel
theorem test_calRun_bound : holds (exec (.calRun calAsk) (at_ (laned 2))) (fun e => decide (lastBody e = some (e32 3) ∧ e.laneState 7 = 7)) = true := by decide +kernel
theorem test_calRun_withdrawn : holds (exec (.calRunComplete 1 7 0) (at_ (calibrating true))) (fun e => decide (lastStatus e = some .denied ∧ e.laneState 7 = 2)) = true := by
  decide +kernel
theorem test_paTable_version : holds (exec (.paTableLoad (tableAsk 3 0 40 (2 :: tableBytes.drop 1))) (at_ ready)) (fun e => lastStatus e = some .badArg) = true := by
  decide +kernel
theorem test_txMode : holds (exec (.txpowerModeSet (ask 0 [0, 1, 0, 5])) (at_ ready)) (fun e => decide ((e.lane 0).backoff = 1280)) = true := by decide +kernel

/-- L0 carries a TDD band of S0 that bridges with a schedule, or an FDD one. -/
def tddBand (bursting : Bool) : Dev :=
  let d := put ready [(pBandState, 0, 3), (pLaneState, 0, 4)]
  let band : Band := { cfg := { tdd := true, dlLane := 0, dlFreq := 750000000, dlRate := 1 }, sched := true }
  { d with bands := upd d.bands 0 (fun _ => band)
           lanes := upd d.lanes 0 (fun x => { x with table := some (paTableOf tableBytes), tdd := true, burst := bursting }) }
/-- L0 with a calibrated active entry, taken 9 °C below. -/
def calibrated (tdd : Bool) (steps discards : Nat) : Dev :=
  let d := put ready [(pLaneState, 0, 4), (pBgcalFddWindow, 0, 1), (pIsoState, 0, 2)]
  let e : CalEntry := { freq := 750000000, calTemp := 271 }
  { d with lanes := upd d.lanes 0 (fun x => { x with tdd := tdd, active := some 63, cal := upd x.cal 63 (fun _ => some e), bgSteps := steps, bgDiscards := discards }) }
/-- A tune of L0 whose response waits. -/
def untuned : Dev :=
  let d := put ready [(pLaneState, 0, 4)]
  { d with lanes := upd d.lanes 0 (fun x => { x with undo := some { slot := 0, ref := 7 } }), host := { d.host with outbox := [{ ref := 7 }] } }
/-- L0 transmits CLOSED, its feedback quiet for 10 ms. -/
def quiet : Dev :=
  let d := put ready [(pTxpowerMode, 0, 0), (pTxEntry, 0, 0), (pLaneState, 0, 6)]
  { d with lanes := upd d.lanes 0 (fun x =>
      { x with table := some (paTableOf tableBytes), comp := [0], pIn := some 0, fbQuiet := some (secU 100 - msU 10), pins := { paEn := true } }) }

theorem witness_LaneEventsAct : all
    [ready.laneBand 0 = none, (tddBand false).laneBand 0 = some 0,
     decide (((tddBand false).band 0).cfg.tdd ∧ (tddBand false).bandState 0 = 3 ∧ ((tddBand false).band 0).sched ∧ (tddBand false).position = 0 ∧
       ((tddBand false).lane 0).table ≠ none), (put (tddBand false) [(pBandState, 0, 2)]).bandState 0 ≠ 3, (ready.lane 0).burst = false,
     ((tddBand true).lane 0).burst, ready.laneState 0 ≤ 3, 3 < (put ready [(pLaneState, 0, 4)]).laneState 0, ready.hasLane 0, decide (0 < ready.convoys.length),
     ((calibrating false).lane 7).calRun.isSome, (untuned.lane 0).calRun = none, (untuned.lane 0).undo.isSome,
     untuned.host.outbox.any (fun o => o.slot = 0 && o.ref = 7 && o.kind = .response), (ready.lane 0).undo = none, (ready.lane 0).active = none,
     ((calibrated true 22 0).lane 0).tdd && !((calibrated true 22 0).lane 0).burst && !((calibrated true 22 0).lane 0).bgStopped, 22 + 1 < 24, 24 ≤ 23 + 1,
     (nth ((calibrated true 23 0).lane 0).cal 63).isSome, ((calibrated false 0 0).lane 0).tdd = false, 128 < ((calibrated false 0 0).calDrift 0).natAbs,
     (calibrated false 0 0).getB pBgcalFddWindow 0, ((calibrated false 0 0).lane 0).bgWindow = none, ((calibrated false 0 0).convoy 0).ramp = none,
     (calibrated false 0 0).get pIsoState 0 ≠ 4, (quiet.lane 0).fbQuiet.any (fun t => msU 10 ≤ quiet.since t), quiet.openOut 0 ≠ none,
     quiet.get pTxpowerMode 0 = 0, (quiet.lane 0).pins.paEn, (ready.lane 0).fbQuiet = none, decide (0 ∈ tabled.laneIds) && (tabled.lane 0).table.isSome] = true := by
  decide +kernel
theorem test_burst_through : holds (exec (.burstStart 0 true) (at_ (tddBand false))) (fun e => e.laneState 0 = 6) = true := by decide +kernel
theorem test_bgcal_24th : holds (exec (.bgcalStep 0 true) (at_ (calibrated true 23 0))) (fun e => (nth (e.lane 0).cal 63).any (fun c => c.refined)) = true := by
  decide +kernel
theorem test_bgcal_eighth : holds (exec (.bgcalStep 0 false) (at_ (calibrated true 0 7))) (fun e => (e.lane 0).bgStopped) = true := by decide +kernel
theorem test_feedbackLost : holds (exec (.feedbackLost 0) (at_ quiet)) (fun e => decide ((e.lane 0).backoff = 192)) = true := by decide +kernel
theorem test_lockTimeout : holds (exec (.synthLockTimeout 0 0 0) (at_ untuned)) (fun e => lastStatus e = some .fault) = true := by decide +kernel
theorem test_unlock_counts : holds (exec (.synthUnlock 0 1) (at_ (put ready [(pLaneState, 0, 4)]))) (fun e => e.get pSynthUnlocks 0 = 1) = true := by decide +kernel

end Sys2Proof.Tests

/-! ### 09 The courier radio -/

namespace Sys2Proof.Tests

/-- A power table of strictly rising outputs. -/
def powers : List Byte := (List.range 16).flatMap (fun k => zs 4 ++ e16 k ++ zs 2)
/-- A unit of a chain, by its role and number, under a profile, in RX, every channel calibrated. -/
def courier (role unit profile : Int) : Dev :=
  let d := put ready [(pCourierProfile, 0, profile), (pChainRole, 0, role), (pUnitNumber, 0, unit), (pCourierState, 0, 2), (pCourierReturnState, 0, 2),
    (pChainMembers, 0, 7)]
  { d with link := { d.link with secret := some (zs 32) }, cour := { d.cour with table := powers, cal := List.replicate 64 (some 400), hopAt := d.time } }
/-- A COURIER_SEND body: destination, kind, ack, payload bytes. -/
def sendAsk (slot dest kind ack n : Nat) : Request := ask slot (e8 dest ++ e8 kind ++ e8 ack ++ e8 n ++ zs 16)
/-- A body of COURIER_PROFILE_SET. -/
def profileBody : List Byte := [2, 0] ++ e16 9 ++ e32 100000

theorem witness_CourierCommands : all
    [takes cmdCourierProfileSet (withLong ready (long 0 0x0502 [])) (ask 0 profileBody (some powers)), takes cmdCourierProfileSet ready (ask 0 profileBody (some (zs 128))),
     powerTableOrdered (zs 128) = false, takes cmdCourierProfileSet ready (ask 0 profileBody (some powers)), powerTableOrdered powers,
     ((withLong ready (long 0 0x0501 profileBody powers)).longIs 0 7 0x0501).isSome, takes cmdCourierSend ready (sendAsk 0 1 0 0 16), ready.get pCourierProfile = 0,
     takes cmdCourierSend (courier 1 0 2) (sendAsk 0 0 0 0 0), (courier 1 0 2).courierKey ≠ none, (courier 1 0 2).inChain 0, (courier 1 0 2).getN pUnitNumber = 0,
     takes cmdCourierSend (courier 1 0 2) (sendAsk 0 255 0 1 0), takes cmdCourierSend (courier 1 0 2) (sendAsk 0 2 2 0 0), (courier 1 0 2).inChain 2,
     takes cmdCourierSend (courier 1 0 2) (sendAsk 1 1 0 1 16), (courier 1 0 2).eu = false, takes cmdCourierSend (courier 1 0 1) (sendAsk 1 1 0 1 16), (courier 1 0 1).eu,
     (courier 1 0 1).euRoom 0 18, takes cmdCourierSend (courier 1 0 1) (sendAsk 0 1 0 1 16), (put (courier 1 0 1) [(pShare, 10, 0)]).euRoom 1 18 = false] = true := by
  decide +kernel
/-- A send of S0 whose packet is done with, or waits past its bound. -/
def sending (ended : Bool) : Dev :=
  let d := withLong (courier 1 0 2) (long 0 0x0502 [])
  let p : Packet := { device := false, slot := 0, ref := 7 }
  { d with cour := { d.cour with ended := if ended then [p] else [], queue := if ended then [] else [p] } }
theorem witness_CourierCommands_send : all
    [((sending true).longIs 0 7 0x0502).isSome, (sending true).cour.ended = [{ device := false, slot := 0, ref := 7 }], (sending false).cour.ended = [],
     ((sending false).longIs 0 7 0x0502).any (fun l => msU l.bound ≤ (sending false).since l.since),
     (({ sending false with time := 5 } : Dev).longIs 0 7 0x0502).any (fun l => ({ sending false with time := 5 } : Dev).since l.since < msU l.bound),
     takes cmdCourierStateSet ready (ask 0 [4, 1, 0, 0]), takes cmdCourierStateSet ready (ask 0 [0, 1, 0, 0]), takes cmdCourierStateSet (courier 1 0 2) (ask 0 [4, 1, 0, 0]),
     (courier 1 0 2).cour.air = none, takes cmdCourierStatsGet ready (ask 0 [0, 0, 0, 0]), takes cmdCourierStatsGet ready (ask 1 [1, 0, 0, 0])] = true := by
  decide +kernel
theorem test_courierProfile : holds (exec (.courierProfileSetComplete 0 7 [3]) (at_ (withLong ready (long 0 0x0501 profileBody powers))))
    (fun e => decide (lastBody e = some ([2, 63, 0, 0] ++ e32 100000000))) = true := by decide +kernel
theorem test_courierSend_self : holds (exec (.courierSend (sendAsk 0 0 0 0 0)) (at_ (courier 1 0 2))) (fun e => lastStatus e = some .badArg) = true := by decide +kernel
theorem test_courierState : holds (exec (.courierStateSet (ask 0 [4, 1, 0, 0])) (at_ (courier 1 0 2))) (fun e => e.get pCourierState = 4) = true := by decide +kernel

/-- A DATA packet that waits for a hop slot. -/
def datum : Packet := { device := false, slot := 0, ref := 7, dest := 1, payload := [0, 1, 5] }
/-- The head with it in the queue, on air, or waiting for its ACK after some tries. -/
def queued : Dev := { courier 1 0 2 with cour := { (courier 1 0 2).cour with queue := [datum] } }
def onAir (ack : Bool) : Dev := { courier 1 0 2 with cour := { (courier 1 0 2).cour with air := some { datum with ackReq := ack, airUs := 1000 } } }
def unacked (tries at_ : Nat) : Dev :=
  let d := withLong (courier 1 0 2) (long 0 0x0502 [])
  { d with cour := { d.cour with waiting := some { datum with tries := tries, notBefore := at_ } } }
/-- A packet of unit 1 to unit 0 before whitening. -/
def heard : List Byte := (courier 2 1 2).packetBody { datum with dest := 0, payload := [1, 1, 5], counter := 9 } ((courier 1 0 2).courierKey.getD [])
/-- The same with its last byte, net, or counter against it. -/
def garbled : List Byte := upd heard 13 (fun b => b ^^^ 1)
def foreign : List Byte := (put (courier 2 1 2) [(pCourierNetId, 0, 1)]).packetBody { datum with dest := 0 } []

theorem witness_CourierRadioActs_transmits : all
    [(starting .quires).get pCourierProfile = 0, queued.pwr.courierUp && queued.courierSends && queued.courierFree && !queued.eu, queued.link.breakDue = none,
     queued.cour.queue = [datum], nth queued.cour.cal (queued.hopChannel queued.hopSlot) ≠ none, queued.fitsSlot datum (queued.hopChannel queued.hopSlot) 660,
     (queued.stepFor (queued.hopChannel queued.hopSlot) (queued.getN pCourierStep 1)).isSome, decide ((-5440 : Int) ≤ -5440 ∧ (-5440 : Int) < -5439), ready.cour.air = none,
     (onAir true).cour.air.any (fun p => p.ackReq && p.kind = 0), decide (8 < (onAir true).cour.stats.length), ready.cour.waiting = none,
     (unacked 1 (secU 100 + 1)).cour.waiting.any (fun p => (unacked 1 (secU 100 + 1)).time < p.notBefore),
     (unacked 1 (secU 100)).cour.waiting.any (fun p => decide (p.notBefore ≤ (unacked 1 (secU 100)).time ∧ p.tries ≤ (unacked 1 (secU 100)).getN pCourierRetries)),
     (unacked 99 0).cour.waiting.any (fun p => decide ((unacked 99 0).getN pCourierRetries < p.tries)), (unacked 99 0).longIs 0 7 0x0502 ≠ none] = true := by
  decide +kernel
theorem witness_CourierRadioActs_receives : all
    [ready.get pCourierState ≠ 2, (courier 1 0 2).pwr.state = .active, (courier 1 0 2).pwr.courierUp, (courier 1 0 2).get pCourierState = 2,
     whiten (whiten heard) = heard, (courier 1 0 2).packetCheck heard = 0, decide (fld heard 1 1 = 0 ∧ bit (fld heard 3 1) 0 = false ∧ fld heard 2 1 % 8 < 8),
     (courier 1 0 2).packetCheck garbled = 1, (courier 1 0 2).packetCheck foreign = 2, (courier 2 2 2).packetCheck heard = 3] = true := by decide +kernel
theorem test_hop_sends : holds (exec (.hopSlotStart (-5440)) (at_ queued)) (fun e => e.cour.air.any (fun p => p.counter = 1)) = true := by decide +kernel
theorem test_hop_deferred : holds (exec (.hopSlotStart (-5439)) (at_ queued)) (fun e => e.cour.air.isNone) = true := by decide +kernel
theorem test_ack_retry : holds (exec .courierAckTimeout (at_ (unacked 1 (secU 100)))) (fun e => e.cour.queue.length = 1) = true := by decide +kernel
theorem test_receive : holds (exec (.courierPacketReceive (whiten heard) (-4000) false 0) (at_ (courier 1 0 2)))
    (fun e => decide (nth e.cour.highest 1 = some 9) && e.get pCourierRssi 1 = -4000) = true := by decide +kernel
theorem test_receive_garbled : holds (exec (.courierPacketReceive (whiten garbled) (-4000) false 0) (at_ (courier 1 0 2)))
    (fun e => (nth e.cour.stats 8).crcFail = 1) = true := by decide +kernel

/-- The head with a port UP; a unit that sniffs in WATCH; one whose wake failed 10 s ago; one with a member gone for 5 s. -/
def headUp : Dev := put (courier 1 0 2) [(pPortState, 0, 3)]
def sniffing : Dev := { put (courier 2 1 2) [(pWatchCourierSniff, 0, 1)] with pwr := { ready.pwr with state := .watch } }
def rewatching (sec : Nat) (session : Bool) : Dev :=
  { ready with cour := { ready.cour with rewatch := some (secU (100 - sec)) }, slots := if session then ready.slots else List.replicate 8 {} }
def silent (sec : Nat) : Dev :=
  let d := courier 1 0 2
  { d with link := { d.link with members := upd d.link.members 1 (fun _ => some {}), ports := upd d.link.ports 0 (fun p => { p with downSince := some (secU (100 - sec)) }) }
           cour := { d.cour with peers := upd d.cour.peers 1 (fun p => { p with heard := secU 1 }) } }
/-- A WAKE for unit 1, and a calibration of channel 0 that has drifted by more than 10 °C. -/
def wake : List Byte := (courier 1 0 2).packetBody { kind := 2, dest := 1 } ((courier 1 0 2).courierKey.getD [])
def chilled : Dev := { courier 1 0 2 with cour := { (courier 1 0 2).cour with cal := some 239 :: List.replicate 63 (some 400) } }
def follower : Dev := { courier 2 1 2 with link := { (courier 2 1 2).link with pathLost := true } }

theorem witness_CourierRadioActs_timers : all
    [!(ready.get pChainRole = 1), headUp.get pChainRole = 1 && headUp.portIds.any headUp.portUp && decide (headUp.cour.queue = []) && headUp.courierKey.isSome && headUp.pwr.courierUp,
     (courier 1 0 2).sniffs = false, sniffing.sniffs, sniffing.wakeNames (whiten (whiten wake)), ready.cour.rewatch = none,
     (rewatching 10 true).slots.any (fun x => x.session.isSome), (rewatching 10 false).slots.all (fun x => x.session.isNone), (rewatching 9 false).since (secU 91) < secU 10,
     (rewatching 10 false).since (secU 90) = secU 10, chilled.calDue = some 0, chilled.courierFree && decide (chilled.cour.queue = [] ∧ toUs (chilled.since chilled.cour.hopAt) ≤ 49450),
     ready.calDue = none, ready.linkGone 1 = none, (silent 5).linkGone 1 = some (secU 95), (nth (silent 5).cour.peers 1).silentAt = none,
     secU 5 ≤ (silent 5).since (max (secU 95) (nth (silent 5).cour.peers 1).heard), (silent 4).since (max (secU 96) (nth (silent 4).cour.peers 1).heard) < secU 5,
     follower.isFollower && follower.link.pathLost, ready.isFollower = false, ready.cour.queue.any (fun p => p.notBefore ≠ 0 && p.notBefore ≤ ready.time) = false,
     let d : Dev := { courier 1 0 2 with pwr := { ready.pwr with courierUp := false } }
     d.pwr.state = .active && !d.pwr.courierUp && d.get pCourierProfile ≠ 0] = true := by decide +kernel
theorem test_beacon : holds (exec .beaconSend (at_ headUp)) (fun e => e.cour.queue.length = 1) = true := by decide +kernel
theorem test_sniff_wakes : holds (exec (.sniffCycle (some (whiten wake, 0))) (at_ sniffing)) (fun e => e.pwr.state = .active && e.ao.wakeSource = 3) = true := by decide +kernel
theorem test_rewatch : holds (exec .courierWakeRewatch (at_ (rewatching 10 false))) (fun e => e.pwr.sequence.isSome) = true := by decide +kernel
theorem test_peer_silent : holds (exec (.courierPeerSilent 1) (at_ (silent 5))) (fun e => (nth e.cour.peers 1).silentAt.isSome) = true := by decide +kernel
theorem test_courierCal : holds (exec (.courierCalStep true true) (at_ chilled)) (fun e => decide (nth e.cour.cal 0 = some 400)) = true := by decide +kernel

end Sys2Proof.Tests

/-! ### 10 The filter chains; 11 The convoys -/

namespace Sys2Proof.Tests

/-- A CHAIN_CONFIG of L7: presets and averager. -/
def config (p t : Nat) : Request := ask 1 ([7, 0, 0, 0] ++ e8 p ++ e8 t ++ zs 4 ++ e8 16 ++ zs 1 ++ e32 1000 ++ zs 4)
/-- A FIR_LOAD of one tap or two. -/
def firAsk (slot c n delay decim : Nat) (blk : List Byte) : Request := ask slot (e8 c ++ zs 1 ++ e16 n ++ e32 delay ++ e8 decim ++ zs 3) (some blk)
/-- The lane of a chain with a band of its owner that bridges. -/
def banded : Dev :=
  let d := put (laned 6) [(pBandState, 8, 3)]
  { d with bands := upd d.bands 8 (fun _ => { cfg := { dlLane := 7, ulLane := 6 } }) }
/-- A THRESH_SET: chain, number, quantity. -/
def thrAsk (slot c k q : Nat) : Request := ask slot (e8 c ++ e8 k ++ e8 q ++ e8 5 ++ e16 100 ++ e16 10 ++ e32 16777216 ++ zs 4)
/-- A threshold of B1 that waits to fire. -/
def armed : Dev := { ready with chains := upd ready.chains 49 (fun x => { x with thr := upd x.thr 3 (fun _ => { qty := 3, flags := 5, level := 100, hyst := 10 }) }) }
/-- P7 stuck. -/
def stuck : Dev := { ready with chains := upd ready.chains 23 (fun x => { x with stuck := true }) }

theorem witness_ChainCommandsAndWindows_commands : all
    [takes cmdChainConfig (laned 4) (config 5 0), ((laned 4).chain 7).fir = none && decide (((laned 4).chain 7).shadow = none), takes cmdChainConfig banded (config 2 2),
     banded.laneBridges 7, takes cmdChainConfig (laned 4) (config 2 2), receives ((laned 4).laneState 7), (laned 4).laneBridges 7 = false, ((laned 4).lane 7).survey = none,
     decide (7 < (laned 4).chains.length), takes cmdFirLoad (laned 4) (firAsk 1 7 384 0 1 [1, 0, 0]), takes cmdFirLoad (laned 4) (firAsk 1 7 1 5 1 [1, 0, 0]),
     takes cmdFirLoad banded (firAsk 1 7 1 0 1 [1, 0, 0]), takes cmdFirLoad (laned 4) (firAsk 1 7 2 5 1 [1, 0, 0, 2, 0, 0]), takes cmdFirLoad (laned 4) (firAsk 1 24 1 0 16 [1, 0, 0]),
     takes cmdThreshSet ready (thrAsk 0 24 0 0), chainKind 24 ≠ 0 && chainKind 24 ≠ 2 && decide (chainKind 24 ≠ 6), takes cmdThreshSet ready (thrAsk 0 49 3 2),
     takes cmdThreshSet ready (thrAsk 0 49 3 3), takes cmdThreshSet (laned 4) (thrAsk 1 7 0 2), decide (3 < (ready.chain 49).thr.length),
     takes cmdChainStatusGet (laned 4) (ask 1 [23, 1, 0, 0]), takes cmdChainStatusGet (laned 4) (ask 1 [7, 0, 0, 0]), takes cmdDelayGet (laned 4) (ask 1 [7, 255, 255, 0]),
     takes cmdDelayGet ready (ask 1 [7, 2, 4, 0])] = true := by decide +kernel
theorem witness_ChainCommandsAndWindows_events : all
    [lacksChain ready 7 = false, !(decide (9 < 8) || decide (9 = 24)), 18446744073709551616 ≤ (2 ^ 64 : Nat), 500 * 2 < 1001, isChain 49 && !lacksChain armed 49,
     (nth (armed.chain 49).thr 3).wants 100, (nth (armed.chain 49).thr 3).wants 99 = false, (nth (armed.chain 49).thr 3).qty ≠ 2, decide (49 < armed.chains.length),
     decide (2 < chainStages 49 ∧ 2 < (ready.chain 49).sat.length), bit (ready.getN pSatFlags 49) 2 = false, bit ((put ready [(pSatFlags, 49, 4)]).getN pSatFlags 49) 2,
     decide (chainKind 23 = 2), (stuck.chain 23).stuck, (ready.chain 23).stuck = false] = true := by decide +kernel
theorem test_chainConfig_gap : holds (exec (.chainConfig (config 2 2)) (at_ (laned 4))) (fun e => e.get pAvgStatus 7 = 3) = true := by decide +kernel
theorem test_fir_asymmetric : holds (exec (.firLoad (firAsk 1 7 2 5 1 [1, 0, 0, 2, 0, 0])) (at_ (laned 4))) (fun e => decide (((e.chain 7).shadow.map (·.delay)) = some 5)) = true := by
  decide +kernel
theorem test_delay_rate0 : holds (exec (.delayGet (ask 1 [7, 0, 0, 0])) (at_ ready))
    (fun e => ((lastBody e).map (fun b => fld b 0 4)) = some (6272 + 1408 + 5888 + 2 * 82 * 128)) = true := by decide +kernel
theorem test_window_over : holds (exec (.avgWindowEnd 7 { sum := 2 ^ 64, valid := 1, overAt := 1 }) (at_ ready)) (fun e => e.get pAvgStatus 7 = 4) = true := by decide +kernel
theorem test_window_half : holds (exec (.avgWindowEnd 7 { sum := 5, valid := 499 }) (at_ (put ready [(pAvgWindow, 7, 1000)]))) (fun e => e.get pAvgStatus 7 = 2) = true := by
  decide +kernel
theorem test_threshold : holds (exec (.thresholdCrossed 49 3 100) (at_ armed)) (fun e => (nth (e.chain 49).thr 3).fired) = true := by decide +kernel
theorem test_saturation : holds (exec (.chainSaturated 49 2 70000) (at_ ready)) (fun e => nth (e.chain 49).sat 2 = 65535) = true := by decide +kernel
theorem test_stuck : holds (exec (.chainInputStuck 23 1) (at_ ready)) (fun e => (e.chain 23).stuck) = true := by decide +kernel

/-- A drover command's body. -/
def drv (c k : Nat) : List Byte := e8 c ++ e8 k ++ zs 2
/-- A DROVER_COEF_SET of a convoy and drover with a gain and a setpoint. -/
def coef (c k : Nat) (kp : Nat) (setpoint : Nat) : Request :=
  ask 0 (drv c k ++ e32 kp ++ zs 12 ++ e32 16777216 ++ e16 10000 ++ zs 2 ++ e16 setpoint ++ (if k = 7 then [7, 5, 3] else zs 3) ++ zs 7)
/-- D5 of L7 open, D3 closed. -/
def opened : Dev := put ready [(pDroverState, droverIx 7 5, 2), (pDroverState, droverIx 7 6, 2), (pDroverState, droverIx 7 7, 2)]

theorem witness_ConvoyCommands : all
    [takes cmdDroverOpen ready (ask 0 (drv 9 2)), usesSlot 9 2 = false, takes cmdDroverOpen (laned 4) (ask 0 (drv 7 5)), droverBarred (laned 4) 7 5,
     takes cmdDroverOpen opened (ask 0 (drv 7 5)), opened.droverState 7 5 = 2, takes cmdDroverOpen ready (ask 0 (drv 7 3)), ready.droverState 7 3 ≠ 2,
     droverBarred ready 7 3 = false, decide (7 < ready.convoys.length ∧ 3 < (ready.convoy 7).dr.length), takes cmdDroverClose ready (ask 0 (drv 8 6)), usesSlot 8 6 = false,
     takes cmdDroverClose ready (ask 0 (drv 7 5)), ready.droverState 7 5 ≠ 2, takes cmdDroverClose opened (ask 0 (drv 7 5)), opened.laneMuted 7,
     takes cmdDroverCoefSet (put ready [(pDroverState, droverIx 7 5, 0)]) (coef 7 5 0 0), (put ready [(pDroverState, droverIx 7 5, 0)]).droverState 7 5 = 0,
     takes cmdDroverCoefSet ready (coef 7 5 0 0), ready.droverState 7 5 = 1, takes cmdDroverCoefSet opened (coef 7 5 0 2400), takes cmdDroverCoefSet opened (coef 7 7 4294967295 0),
     opened.sourceOk 7 7, takes cmdSupervisorSet (laned 4) (ask 1 ([7, 255, 0, 0] ++ e32 100)), takes cmdSupervisorSet ready (ask 0 ([9, 5, 0, 0] ++ e32 600000)), usesSlot 9 5,
     takes cmdConvoyStatusGet ready (ask 1 [9, 0, 0, 0]), takes cmdIsolationGet (laned 4) (ask 1 [7, 0, 0, 0])] = true := by decide +kernel
theorem test_droverOpen_again : holds (exec (.droverOpen (ask 0 (drv 7 5))) (at_ opened)) (fun e => lastStatus e = some .state) = true := by decide +kernel
theorem test_coef_closed : holds (exec (.droverCoefSet (coef 7 5 0 0)) (at_ ready)) (fun e => lastStatus e = some .openRequired) = true := by decide +kernel
theorem test_coef_setpoint : holds (exec (.droverCoefSet (coef 7 5 0 2401)) (at_ opened)) (fun e => lastStatus e = some .badArg) = true := by decide +kernel
theorem test_droverClose_muted : holds (exec (.droverClose (ask 0 (drv 7 5))) (at_ opened)) (fun e => e.get pDroverOutput (droverIx 7 5) = -640) = true := by decide +kernel

/-- L7 with no mute source left. -/
def released : Dev :=
  let d := put ready [(pHostCeiling, 7, 0), (pDroverState, droverIx 7 3, 1), (pDroverState, droverIx 7 4, 1), (pEnergyTarget, 7, 4294967295)]
  { d with convoys := upd d.convoys 7 (fun x => { x with hold := 0 }) }

theorem witness_ControlSampleTakesTheLowest : all
    [10 ≤ 10, lacksLane { ready with factory := { variantH := true } } 4, lacksLane ready 9 = false, decide (7 < ready.convoys.length), ready.muteSources 7 ≠ 0,
     (released.takeReadings 7 {}).muteSources 7 = 0,
     holds (exec (.controlSample 7 {}) (at_ released)) (fun e => e.droverState 7 5 = 1 && (e.drover 7 5).u ≠ none)] = true := by decide +kernel
theorem test_sample_releases : holds (exec (.controlSample 7 {}) (at_ released)) (fun e => !e.laneMuted 7 && e.get pConvoyOutput 7 = -640) = true := by decide +kernel
theorem test_sample_mutes : holds (exec (.controlSample 7 {}) (at_ { released with convoys := upd released.convoys 7 (fun x => { x with muted := false, exhausted := true }) }))
    (fun e => e.laneMuted 7 && e.get pConvoyOutput 7 = -32768) = true := by decide +kernel

/-- A lane that transmits; convoy 7 as a change of it makes it. -/
def speaking : Dev := put ready [(pLaneState, 0, 5)]
def convoy7 (f : Convoy → Convoy) : Dev := { ready with convoys := upd ready.convoys 7 f }
def follower7 (f : Convoy → Convoy) : Dev := put (convoy7 f) [(pChainRole, 0, 2)]
/-- An estimator that runs, its window whole. -/
def estimating : Dev := convoy7 (fun x => { x with muted := false, iso := { x.iso with running := true } })

theorem witness_ConvoyEventsAct : all
    [speaking.transmitsNow 0, ready.transmitsNow 0 = false, ready.isFollower = false,
     let d := follower7 (fun x => { x with remote := some 0, remoteAt := secU 100 - msU 50 })
     d.isFollower && decide ((d.convoy 7).aged = false ∧ (d.convoy 7).remote ≠ none ∧ d.since (d.convoy 7).remoteAt = msU 50 ∧ d.laneBand 7 = none),
     let d := convoy7 (fun x => { x with limitedSince := some (secU 100 - msU 100) })
     decide ((d.convoy 7).limitedAt = none) && (d.convoy 7).limitedSince.any (fun t => d.since t = msU 100),
     ready.getN pSupervisorLimit (droverIx 7 2) = 5000,
     let d := convoy7 (fun x => { x with dr := x.dr.map (fun y => { y with satSince := some (secU 95 - 1) }) })
     (d.drover 7 2).satSince.any (fun t => msU 5000 < d.since t) && decide ((d.drover 7 7).satReported = false),
     let d := put (convoy7 (fun x => { x with starveSince := some (secU 95 - 1) })) [(pBandState, 0, 3)]
     let e : Dev := { d with bands := upd d.bands 0 (fun _ => { cfg := { dlLane := 7, ulLane := 6 } }) }
     (e.convoy 7).muted && e.laneStarted 7 && decide (e.getN pStarveLimit 7 = 5000) && (e.convoy 7).starveSince.any (fun t => msU 5000 < e.since t),
     (ready.convoy 7).iso.running = false, (estimating.convoy 7).iso.running && (estimating.convoy 7).iso.fresh && decide ((estimating.convoy 7).iso.heldSince = none),
     estimating.get pIsoState 7 ≠ 4, decide (49 < 50 ∧ (-3841 : Int) < -3840), estimating.laneMuted 7 = false, estimating.laneBand 7 = none,
     estimating.get pConvoyOutput 7 - 384 < -640, ¬((put estimating [(pConvoyOutput, 7, 1000)]).get pConvoyOutput 7 - 384 < -640),
     ((convoy7 (fun x => { x with backoffEnd := some (secU 100) })).convoy 7).backoffEnd = some (secU 100),
     ready.time < secU 100 + 1, ready.since 0 < secU 300, ({ ready with time := secU 300 } : Dev).since 0 = secU 300,
     ((convoy7 (fun x => { x with oscAt := some 0 })).convoy 7).oscAt = some 0] = true := by decide +kernel
theorem test_limited_ms100 : holds (exec (.convoyLimited 7) (at_ (convoy7 (fun x => { x with limitedSince := some (secU 100 - msU 100) }))))
    (fun e => (e.convoy 7).limitedAt.isSome) = true := by decide +kernel
theorem test_isolation_held : holds (exec (.isolationWindow 7 49 0 (some 5) 0) (at_ estimating)) (fun e => e.get pIsoState 7 = 3) = true := by decide +kernel
theorem test_isolation_valid : holds (exec (.isolationWindow 7 50 (-3840) (some 5) 65000) (at_ estimating))
    (fun e => decide (e.get pIsoState 7 = 1 ∧ e.get pIsoLoopDelay 7 = 64000)) = true := by decide +kernel
theorem test_oscillation : holds (exec (.oscillationDetected 7 0) (at_ (put estimating [(pConvoyOutput, 7, 1000)])))
    (fun e => decide ((e.convoy 7).backoffEnd = some (secU 102) ∧ (e.convoy 7).ladder = some 616)) = true := by decide +kernel
theorem test_backoff_end : holds (exec (.oscBackoffExpiry 7) (at_ (convoy7 (fun x => { x with backoffEnd := some (secU 100) })))) (fun e => (e.convoy 7).backoffEnd.isNone) = true := by
  decide +kernel

end Sys2Proof.Tests

/-! ### 12 The reference clock -/

namespace Sys2Proof.Tests

/-- The clock changed. -/
def clocked (f : Clock → Clock) (d : Dev := ready) : Dev := { d with clk := f d.clk }
/-- Only the reference `i` takes part: qualified, its signal there, its level 2; for GNSS with a sentence. -/
def only (i : Nat) (st : RefState) : Dev :=
  let d := put ready ([(pRefQl, i, 2), (pRefEnable, i, 1), (pCellFreq, 0, 725000000), (pSteerMode, 0, 0)] ++
    ((List.range 4).filter (· ≠ i)).map (fun j => (pRefEnable, j, 0)))
  clocked (fun c => { c with lastSentence := some (secU 99), refs := (List.range 4).map (fun j =>
    if j = i then { state := st, since := 0, signal := true, lastEdge := some (secU 100), level := 2, levelAt := some (secU 100) } else { state := .disabled }) }) d
/-- A unit of a chain as a follower, its port up and joined. -/
def follows (d : Dev := ready) : Dev := put d [(pChainRole, 0, 2)]
/-- Locked to a reference of level 2 for 60 s. -/
def locked60 : Dev := clocked (fun c => { c with state := .locked, selected := some 3, lockedSince := some (secU 40) }) (only 3 .qualified)
/-- A REF_CONFIG of a reference, with its last operands. -/
def refConf (k ql a : Nat) (freq : Nat := 0) : Request := ask 0 (e8 k ++ [1, 2] ++ e8 ql ++ e32 200000 ++ e8 a ++ zs 3 ++ e64 freq)
def wall (t force : Nat) : Request := ask 0 (e32 t ++ e8 force ++ zs 3 ++ e64 0)

theorem witness_ClockCommands : all
    [ready.nvmBar = none, takes cmdRefConfig ready (refConf 2 4 7 380000000), ready.owner 7 = 0, takes cmdRefConfig ready (refConf 2 4 255), takes cmdRefConfig ready (refConf 1 0 0),
     takes cmdRefConfig ready (refConf 3 15 2), takes cmdRefStatusGet ready (ask 1 [2, 0, 0, 0]), takes cmdClockBwSet ready (ask 0 [3, 0, 19, 0]), ready.refTopCode 3 = 18,
     takes cmdClockBwSet ready (ask 0 [3, 9, 8, 0]), takes cmdClockBwSet ready (ask 0 [3, 18, 18, 0]), takes cmdSteerSet (follows) (ask 0 (e8 0 ++ zs 7)), (follows).isFollower,
     takes cmdSteerSet ready (ask 0 (e8 1 ++ zs 3 ++ s32 (-250000000))), takes cmdSteerSet (put ready [(pSteerMode, 0, 1)]) (ask 0 (e8 0 ++ zs 7)), ready.isFollower = false,
     takes cmdWalltimeSet (put ready [(pWallSource, 0, 2)]) (wall 757382400 0), takes cmdWalltimeSet (put ready [(pWallSource, 0, 3), (pWallHighWater, 0, 757382400), (pWallFwdLimit, 0, 10)]) (wall 757382411 0),
     (put ready [(pWallHighWater, 0, 757382400)]).highWater = 757382400, takes cmdWalltimeSet ready (wall 757382411 1), ready.get pWallSource ≠ 1 && decide (ready.get pWallSource ≠ 2),
     takes cmdRefForce ready (ask 0 [1, 0, 0, 0]), takes cmdRefForce ready (ask 0 [3, 0, 0, 0]), (ready.ref 3).state ≠ .qualified, takes cmdRefForce (only 3 .qualified) (ask 0 [3, 0, 0, 0]),
     ((only 3 .qualified).ref 3).state = .qualified, takes cmdRefForce ready (ask 0 [255, 0, 0, 0])] = true := by decide +kernel
theorem test_bandwidth_top : holds (exec (.clockBwSet (ask 0 [3, 0, 19, 0])) (at_ ready)) (fun e => lastStatus e = some .badArg) = true := by decide +kernel
theorem test_wall_forward : holds (exec (.walltimeSet (wall 757382411 0)) (at_ (put ready [(pWallHighWater, 0, 757382400), (pWallFwdLimit, 0, 10)])))
    (fun e => lastStatus e = some .wouldExceed) = true := by decide +kernel
theorem test_wall_limit : holds (exec (.walltimeSet (wall 757382410 0)) (at_ (put ready [(pWallHighWater, 0, 757382400), (pWallFwdLimit, 0, 10)])))
    (fun e => e.wallNow = some 757382410) = true := by decide +kernel
theorem test_steer : holds (exec (.steerSet (ask 0 (e8 1 ++ zs 3 ++ s32 (-250000000)))) (at_ ready)) (fun e => e.clk.target = -250000000) = true := by decide +kernel

/-- A locked clock whose offset has been outside the window for 1 s, and an acquiring one inside it for 100 ms. -/
def straying : Dev := clocked (fun c => { c with outWindow := some (secU 99) }) locked60
def nearing : Dev := clocked (fun c => { c with state := .acquiring, inWindow := some (secU 99) }) (put locked60 [(pAvgWindow, 0, 0)])
/-- The selected reference in hold-off since a time. -/
def holding (t : Nat) : Dev := clocked (fun c => { c with refs := upd c.refs 3 (fun r => { r with state := .holdOff, since := t }) }) (put locked60 [(pHoldOff, 0, 1000)])
/-- A failed reference, its window just over. -/
def failedRef : Dev := clocked (fun c => { c with refs := upd c.refs 3 (fun r => { r with state := .failed, failedAt := 0 }) }) (put ready [(pHoldoverWindow, 0, 100)])
/-- The clock LOST, its cause gone since a time. -/
def lostSince (t : Option Nat) : Dev := clocked (fun c => { c with state := .lost, lostClear := t }) ready

theorem witness_ClockFollowsReferences : all
    [({ ready with pwr := { ready.pwr with phase := .quires } } : Dev).pwr.phase ≠ .ready, ready.pwr.phase = .ready, ready.clk.selected = none && decide (ready.clk.forced = none),
     let d := put ready ((List.range 4).map (fun j => (pRefEnable, j, 0)))
     let e := clocked (fun c => { c with refs := List.replicate 4 { state := .disabled } }) d
     (List.range 4).all (fun i => decide (e.refEnabled i = false ∧ (e.ref i).state = .disabled)),
     let d := only 3 .qualified
     ([0, 1, 2] : List Nat).all (fun j => decide (d.refEnabled j = false ∧ (d.ref j).state = .disabled)) && d.refEnabled 3 && decide ((d.ref 3).state = .qualified) && d.refSignal 3 &&
       d.refOffsetOk 3 && qlEligible (d.refLevel 3) && decide (d.clk.state = .freeRun ∧ d.get pSteerMode = 0 ∧ d.bandIds = [] ∧ d.clk.selected = none ∧ d.clk.forced = none),
     locked60.clk.selected = some 3, ((holding (secU 100)).ref 3).state = .holdOff, (holding (secU 100)).since (secU 100) < usU 1000,
     usU 1000 ≤ (holding 0).since 0 && decide (3 < (holding 0).clk.refs.length ∧ (holding 0).getN pHoldOff = 1000), (ready.refSignal 3) = false,
     let d := put (only 3 .qualifying) [(pRefQualTime, 3, 60000000)]
     d.refSignal 3 && d.refOffsetOk 3 && qlEligible (d.refLevel 3) && decide ((d.ref 3).state = .qualifying ∧ usU (d.getN pRefQualTime 3) ≤ d.since (d.ref 3).since),
     let d := put (only 3 .waitToRestore) [(pWaitToRestore, 0, 100)]
     d.refSignal 3 && d.refOffsetOk 3 && qlEligible (d.refLevel 3) && decide ((d.ref 3).state = .waitToRestore ∧ secU (d.getN pWaitToRestore) = d.since (d.ref 3).since),
     (failedRef.ref 3).state = .failed, secU (failedRef.getN pHoldoverWindow) = failedRef.since (failedRef.ref 3).failedAt] = true := by decide +kernel
theorem witness_ClockFollowsReferences_lock : all
    [nearing.clk.state = .acquiring && decide (nearing.clk.selected = some 3 ∧ nearing.clk.inWindow = some (secU 99) ∧ (nearing.ref 3).state = .qualified),
     max (usU (tenTauUs (nearing.refCodes 3).2)) (msU 100) ≤ nearing.since (secU 99), ready.clk.state ≠ .acquiring,
     straying.clk.state = .locked && decide (straying.clk.outWindow = some (secU 99)), secU 1 ≤ straying.since (secU 99),
     let d := clocked (fun c => { c with state := .holdover, failTime := 0 }) (put ready [(pHoldoverWindow, 0, 100)])
     decide (d.clk.state = .holdover ∧ secU (d.getN pHoldoverWindow) = d.since d.clk.failTime ∧ d.bandIds = []),
     ready.clk.state = .freeRun && decide (ready.get pSteerMode = 0), locked60.clk.lockedSince = some (secU 40), qlRank (locked60.refLevel 3) ≤ 2, secU 60 = locked60.since (secU 40),
     secU 60 ≤ locked60.since locked60.clk.lastLearn, xoBin locked60.xoTemp < locked60.clk.xo.length, ready.bandIds = [] && decide (ready.clk.state ≠ .lost),
     (lostSince none).clk.state = .lost, (lostSince (some (secU 99))).clk.lostClear = some (secU 99), msU 100 ≤ (lostSince none).since (secU 99), ready.clk.selected ≠ some 0,
     ready.clk.waiting = none, ready.host.readable && decide (ready.pwr.gnssBytes + 4096 ≤ 4096)] = true := by decide +kernel
theorem test_selects : holds (exec (.selectionStep 0) (at_ (only 3 .qualified))) (fun e => decide (e.clk.selected = some 3)) = true := by decide +kernel
theorem test_holdoff_fails : holds (exec .holdOffExpiry (at_ (holding 0))) (fun e => decide ((e.ref 3).state = .failed)) = true := by decide +kernel
theorem test_locks : holds (exec .lockDeclared (at_ nearing)) (fun e => decide (e.clk.state = .locked)) = true := by decide +kernel
theorem test_unlocks : holds (exec .lockLost (at_ straying)) (fun e => decide (e.clk.state = .acquiring)) = true := by decide +kernel
theorem test_lost_ends : holds (exec .lostExit (at_ (lostSince (some (secU 100 - msU 100))))) (fun e => decide (e.clk.state = .freeRun)) = true := by decide +kernel
theorem test_lost_stays : holds (exec .lostExit (at_ (lostSince (some (secU 100 - msU 100 + 1))))) (fun e => decide (e.clk.state = .lost)) = true := by decide +kernel

end Sys2Proof.Tests

/-! ### 13 The Caravan link -/

namespace Sys2Proof.Tests

def port (p : Nat) (f : LinkPort → LinkPort) (d : Dev := ready) : Dev := { d with link := { d.link with ports := upd d.link.ports p f } }
/-- Both ports UP, the link changed. -/
def upLink (role : Nat) (f : Link → Link := id) : Dev :=
  let d := put ready [(pPortState, 0, 3), (pPortState, 1, 3), (pChainRole, 0, role), (pChainId, 0, 9), (pUnitNumber, 0, if role = 2 then 2 else 0), (pChainMembers, 0, 1)]
  { d with link := f d.link }
/-- A chain secret, and a serial that is not the unit's. -/
def secret : List Byte := List.replicate 32 0x21
def other : List Byte := List.replicate 16 0x41
def head : Dev := upLink 1 (fun k => { k with secret := some secret })
/-- The head of a chain of two; its member 1 heard 5 s ago. -/
def headOf2 : Dev := put { head with link := { head.link with members := upd head.link.members 1 (fun _ => some { serial := other, heard := secU 95 }) } } [(pChainMembers, 0, 3)]
/-- A unit that joins, its port's delay known or not. -/
def joins (known : Bool) : Dev :=
  let d := upLink 0 (fun k => { k with joining := some { since := secU 98, secret := secret, nonce := zs 8 } })
  port 0 (fun x => { x with hopAt := if known then some (secU 100) else none }) d
/-- A JOIN_ACK for the unit: result and number. -/
def ackOf (d : Dev) (result number : Nat) : List Byte :=
  d.factory.serial ++ e8 result ++ e8 number ++ [2, 0] ++ e32 9 ++ joinAckProof secret d.factory.serial (zs 8) result number 9
def reqOf (proof : List Byte) : List Byte := other ++ [0, 0, 255, 0] ++ zs 8 ++ proof
def goodReq : List Byte := reqOf (joinReqProof secret other (zs 8) 255)
/-- A band of the unit bridges. -/
def bridges (d : Dev) : Dev := put d [(pBandState, 0, 3)]
def linkConf (p rate fec : Nat) : Request := ask 0 (e8 p ++ e8 rate ++ e8 fec ++ zs 1 ++ s32 (-1000000) ++ e16 3000 ++ zs 2)
def testAsk (p mode : Nat) (job : Nat := 65535) : Request := ask 0 (e8 p ++ e8 mode ++ e16 job ++ e32 1000)
/-- A medium test that runs on CL0 since a time. -/
def testing (t : Nat) : Dev := put (port 0 (fun x => { x with test := some { duration := 1000, since := t, running := true } }) (upLink 0)) [(pPortState, 0, 4)]

/-- The ledger estimated and full. -/
def charged (d : Dev) : Dev := { put d [(pColdBudget, 0, 0)] with led := { d.led with estimated := true, bat := 100000000000, balance := upd d.led.balance 0 (fun _ => 100000000000) } }

theorem witness_LinkCommandsAndMembership_commands : all
    [ready.nvmBar = none, takes cmdLinkConfig ready (linkConf 0 1 1), takes cmdLinkConfig (bridges (follows)) (linkConf 1 2 1), (bridges (follows)).portBridging 1,
     takes cmdLinkConfig ready (linkConf 1 2 1), ready.portBridging 1 = false, (ready.port 1).accepted = false, takes cmdLinkStatusGet ready (ask 1 [1, 0, 0, 0]),
     takes cmdChainJoin (joins true) (ask 0 [2, 0, 0, 0] (some secret)), (joins true).link.joining.isSome, takes cmdChainJoin head (ask 0 [1, 0, 0, 0] (some secret)), head.link.joining = none,
     takes cmdChainJoin ready (ask 0 [1, 0, 0, 0] (some secret)),
     decide (ready.get pChainRole = 0 ∧ ready.get pTopology = 0 ∧ ready.get pUnitNumber = 0 ∧ ready.get pUnitCount = 1 ∧ ready.longOf 0 7 = none ∧ ready.link.joining = none),
     takes cmdChainJoin head (ask 0 [2, 0, 0, 0] (some secret)), takes cmdChainJoin ready (ask 0 [2, 0, 0, 0] (some secret)), ready.portUp 0 = false,
     takes cmdChainJoin (upLink 2) (ask 0 [2, 0, 0, 0] (some secret)), (upLink 2).portUp 0 && (upLink 2).isFollower && !((upLink 2).port 0).joined,
     takes cmdChainLeave ready (ask 0 (zs 4)), takes cmdChainLeave head (ask 0 (zs 4)), head.anyBridging = false, head.belowJoined = false,
     takes cmdLinkTestStart ready (testAsk 1 1), takes cmdLinkTestStart (charged (upLink 0)) (testAsk 1 1), (charged (upLink 0)).portBridging 1 = false, (charged (upLink 0)).portUp 1,
     ((charged (upLink 0)).port 1).test = none, (match (charged (upLink 0)).startJob 0 65535 ((charged (upLink 0)).linkTestJob (testAsk 1 1).body) with | .ok _ => true | .error _ => false),
     takes cmdLinkTestStart (upLink 0) (testAsk 1 1 99),
     (match (upLink 0).startJob 0 99 ((upLink 0).linkTestJob (testAsk 1 1).body) with | .ok _ => false | .error rep => rep.blk = [] && decide (rep.status ≠ .ok ∧ rep.status ≠ .accepted)),
     takes cmdLinkTestResult ready (ask 0 [1, 0, 0, 0])] = true := by decide +kernel
theorem witness_LinkCommandsAndMembership_members : all
    [(upLink 2).isFollower, head.get pChainRole = 1 && decide (head.link.secret = some secret), (reqOf (zs 8)).length = 36, joinReqProof secret other (zs 8) 0 ≠ slice (reqOf (zs 8)) 28 8,
     joinReqProof secret (slice goodReq 0 16) (slice goodReq 20 8) 255 = slice goodReq 28 8, fld goodReq 18 1 = 255, head.bandIds = [] && decide (1 < head.link.members.length ∧ head.member 1 = none),
     ackOf ready 0 1 ≠ [] && decide ((ackOf ready 0 1).length = 32), slice (ackOf ready 0 1) 0 16 = ready.factory.serial,
     joinAckProof secret ready.factory.serial (zs 8) 0 1 (fld (ackOf ready 0 1) 20 4) = slice (ackOf ready 0 1) 24 8, ((joins false).port 0).hopAt = none, ((joins true).port 0).hopAt ≠ none,
     (joins true).link.joining.any (fun j => decide (j.host = none ∧ (joins true).since j.since = msU 2000)), headOf2.member 1 ≠ none, bit (headOf2.getN pChainMembers) 1,
     ready.portUp 0 = false, (upLink 0).portUp 0 && !(upLink 0).portBridging 0, ((testing (secU 99)).port 0).test.any (fun t => t.running && decide (msU t.duration = (testing 0).since t.since)),
     ((testing (secU 100)).port 0).test.any (fun t => decide ((testing 0).since t.since < msU t.duration))] = true := by decide +kernel
theorem test_join_numbers : holds (exec (.joinReq 1 goodReq) (at_ head)) (fun e => (e.member 1).isSome) = true := by decide +kernel
theorem test_join_refuses : holds (exec (.joinReq 1 (reqOf (zs 8))) (at_ head)) (fun e => (e.member 1).isNone) = true := by decide +kernel
theorem test_ack : holds (exec (.joinAck (ackOf ready 0 7)) (at_ (joins true))) (fun e => decide (e.getN pUnitNumber = 7 ∧ e.getN pChainId = 9)) = true := by decide +kernel
theorem test_linkConfig : holds (exec (.linkConfig (linkConf 0 1 1)) (at_ ready)) (fun e => lastStatus e = some .badArg) = true := by decide +kernel
theorem test_linkTest : holds (exec (.linkTestEnd 0 10 2 5 true) (at_ (testing (secU 99)))) (fun e => ((e.port 0).result.map (fun b => fld b 12 8)) = some 2) = true := by
  decide +kernel
theorem test_leave : holds (exec (.chainLeave (ask 0 (zs 4))) (at_ head)) (fun e => e.get pChainRole = 0) = true := by decide +kernel

/-- A bale header of a count, with its CRC. -/
def header (count : Nat) : List Byte := let h : List Byte := [0x4B] ++ e16 count ++ zs 4; h ++ e8 (crc8 h)
/-- CL0 with the module of an accepted kind, at rest. -/
def trains : Dev := put (port 0 (fun x => { x with module := true, accepted := true })) [(pPortState, 0, 2)]
/-- A10h identification of a 10G module. -/
def ident10 : List Byte := let a : List Byte := [3] ++ zs 11 ++ [103] ++ zs 50; a ++ e8 (a.foldl (fun s x => s + x.toNat) 0) ++ zs 32
def follower0 (f : LinkPort → LinkPort) : Dev := port 0 f (upLink 2)
/-- A band held by LINK_LOSS at a follower that rejoined and is locked to LINK. -/
def rejoined : Dev :=
  let d := put (follower0 (fun x => { x with joined := true, hopAt := some (secU 100) })) [(pTopology, 0, 1)]
  { d with clk := { d.clk with state := .locked, selected := some 1 }
           bands := upd d.bands 0 (fun x => { x with trig := [(7, 3)] }) }

theorem witness_LinkTrainsMeasuresAndReports_trains : all
    [({ ready with factory := { variantH := true } } : Dev).hasPort 1 = false, ready.hasPort 0 && !(ready.port 0).module, decide (ready.get pPortState 0 ≠ 3 ∧ ready.get pPortState 0 ≠ 4),
     ({ ready with pwr := { ready.pwr with phase := .quires } } : Dev).pwr.phase ≠ .ready, ready.moduleOk 0 ident10, trains.get pPortState 0 = 2, trains.bandIds = [] && decide (trains.link.secret = none),
     (upLink 0).get pPortState 0 = 3 && decide (((upLink 0).port 0).test = none ∧ (upLink 0).get pChainRole = 0 ∧ (upLink 0).link.joining = none), ((upLink 0).port 0).missRun < 7,
     headerOk (header 5), headerOk (header 5 |>.set 7 0xEE) = false, bit (fld (header 5) 2 1) 4 = false, ((upLink 0).port 0).baleCount = none, ((upLink 0).port 0).joined = false,
     head.get pChainRole = 1, ready.get pChainRole = 0, head.downPorts.contains 1, ready.downPorts.contains 1 = false,
     ((port 1 (fun x => { x with probeT1 := some (3, 100) }) head).port 1).probeT1 = some (3, 100), ((follower0 (fun x => { x with t2 := some (3, 100) })).port 0).t2 = some (3, 100),
     ready.link.stepDue = none, (upLink 0 (fun k => { k with stepDue := some 5000 })).inBurst = false, (ready.port 0).hopAt = none,
     let d := port 0 (fun x => { x with hopAt := some (secU 100 - msU 50) })
     d.since (secU 100 - msU 50) = msU 50 && !d.isFollower,
     (upLink 2).isFollower, headOf2.member 1 ≠ none && decide (headOf2.bandIds = []), (headOf2.member 1).any (fun m => decide (m.silentAt = none ∧ headOf2.since m.heard = secU 5)),
     head.hasLane 7, ready.get pSumBackoff 0 = 0] = true := by decide +kernel
theorem witness_LinkTrainsMeasuresAndReports_recovers : all
    [let d := put (upLink 1 (fun k => { k with sums := upd k.sums 0 (fun _ => { satAt := some (secU 99) }) })) [(pSumBackoff, 0, 192)]
     decide (d.get pSumBackoff 0 ≠ 0 ∧ (nth d.link.sums 0).decayAt = none ∧ secU 1 = d.since (secU 99)),
     ready.isFollower = false, rejoined.isFollower && (rejoined.port 0).joined && decide ((rejoined.band 0).resume = 0 ∧ rejoined.clk.state = .locked ∧ rejoined.clk.selected = some 1),
     (rejoined.bandDelay (rejoined.band 0).cfg []).isSome, decide (0 < rejoined.bands.length)] = true := by decide +kernel
theorem test_module : holds (exec (.sfpModuleIdentify 0 (some ident10)) (at_ { ready with pwr := { ready.pwr with phase := .quires } }))
    (fun e => (e.port 0).accepted && decide (e.getN pLinkRate 0 = 1)) = true := by decide +kernel
theorem test_bale_missed : holds (exec (.baleReceive 0 true (header 5 |>.set 7 0xEE) [] []) (at_ (upLink 0))) (fun e => e.getN pBalesMissed 0 = 1) = true := by decide +kernel
theorem test_linkLoss : holds (exec (.linkLoss 0 1) (at_ (upLink 0))) (fun e => e.getN pLinkDownCount 0 = 1) = true := by decide +kernel
theorem test_probeReply : holds (exec (.probeReplyMessage 1 (e16 3 ++ e64 200 ++ e64 250) 300) (at_ (port 1 (fun x => { x with probeT1 := some (3, 100) }) head)))
    (fun e => e.get pHopRtt 1 = unitsPs 150) = true := by decide +kernel
theorem test_silent : holds (exec (.unitUnreachable 1) (at_ headOf2)) (fun e => (e.member 1).any (fun m => m.silentAt.isSome)) = true := by decide +kernel
theorem test_satBackoff : holds (exec (.sumSatWindow 7 100 1) (at_ head)) (fun e => e.get pSumBackoff 7 = 0) = true := by decide +kernel

end Sys2Proof.Tests

/-! ### 14 Bridging and protection -/

namespace Sys2Proof.Tests

/-- A permit of S0: downlink and TDD 700 MHz to 800 MHz, uplink 800 MHz to 900 MHz; the pattern is DL, flexible, UL, flexible. -/
def grant : Permit :=
  let e : PermitBand := { fStart := 700000000, fStop := 800000000, maxEirp := 1000 }
  { state := .active, topologies := 7, validUntil := 1000000, delayCeiling := 50000
    bands := [e, { e with fStart := 800000000, fStop := 900000000, direction := 1 }, { e with direction := 2, duplex := 1, period := 4000, slots := 4, pattern := 0x98 }] }
/-- The configurations: FDD on L0 and L1, TDD on L0. -/
def fdd : BandCfg := { dlLane := 0, ulLane := 1, dlRate := 1, ulRate := 1, dlFreq := 750000000, ulFreq := 850000000 }
def tddCfg : BandCfg := { tdd := true, dlLane := 0, dlRate := 1, dlFreq := 750000000 }
/-- The bytes of a BAND_CONFIG. -/
def cfgBytes (id op : Nat) (c : BandCfg) : List Byte :=
  e8 id ++ e8 op ++ eb c.tdd ++ e8 c.unitMask ++ e8 c.dlLane ++ e8 c.ulLane ++ e8 c.dlRate ++ e8 c.ulRate ++ e64 c.dlFreq ++ e64 c.ulFreq ++ e32 c.syncOffset ++ zs 4
/-- Mode BRIDGE, the permit stored, L0 and L1 in LISTEN with ranges and tables, the ledger full. -/
def site : Dev :=
  let d := charged (put ready [(pMode, 0, 0), (pLaneState, 0, 4), (pLaneState, 1, 4), (pLaneRate, 0, 1), (pLaneRate, 1, 1), (pLaneFreq, 0, 750000000), (pLaneFreq, 1, 850000000)])
  { d with slotNv := upd d.slotNv 0 (fun x => { x with permits := upd x.permits 0 (fun _ => some grant) })
           ranges := upd (upd d.ranges 0 (fun _ => [some (700000000, 900000000), none, none, none])) 1 (fun _ => [some (700000000, 900000000), none, none, none])
           lanes := d.lanes.map (fun x => { x with table := some (paTableOf tableBytes) }) }
/-- Band 0 of S0 in a state. -/
def with0 (c : BandCfg) (st : Int) (f : Band → Band := id) : Dev :=
  let d := put site [(pBandState, 0, st), (pBandPermit, 0, 0)]
  { d with bands := upd d.bands 0 (fun _ => f { cfg := c, pattern := 0x98, slots := 4, period := 4000 }) }
def start0 (job : Nat) : Request := ask 0 ([0, 0] ++ e16 job ++ zs 4)
/-- The start of band 0 under way since a time. -/
def startingBand (c : BandCfg) (t : Nat) (f : Band → Band := id) : Dev :=
  withLong (with0 c 2 (fun x => f { x with start := some (0, 7), startAt := t })) (long 0 0x0A02 (start0 65535).body)
/-- A follower in the chain with band 0. -/
def branch (c : BandCfg) (st : Int) (f : Band → Band := id) : Dev := put (with0 c st f) [(pChainRole, 0, 2), (pTopology, 0, 1), (pUnitNumber, 0, 2)]

theorem witness_BridgeCommands : all
    [takes cmdBandConfig site (ask 0 (cfgBytes 0 1 {})), site.bandState 0 ≠ 1, takes cmdBandConfig (with0 fdd 1) (ask 0 (cfgBytes 0 1 {})), (with0 fdd 1).bandState 0 = 1,
     takes cmdBandConfig site (ask 0 (cfgBytes 0 0 { fdd with ulLane := 0 })), site.bandCfgOk 0 { fdd with ulLane := 0 } = false, takes cmdBandConfig site (ask 0 (cfgBytes 0 0 fdd)),
     bandCfgOf (ask 0 (cfgBytes 0 0 fdd)) = fdd, site.bandCfgOk 0 fdd && !site.bandBusy 0, (with0 fdd 3).bandBusy 0 && (with0 fdd 3).bandCfgOk 0 fdd,
     decide (site.laneState 0 = 4 ∧ site.laneState 1 = 4 ∧ site.laneBand 0 = none ∧ site.laneBand 1 = none), site.permitStatus 0 fdd.channels = none,
     (site.permitStatus 0 { fdd with dlFreq := 860000000 }.channels).isSome, site.overShare 0 fdd 0 = none, takes cmdBridgeStart (branch fdd 1) (start0 65535), (branch fdd 1).isFollower,
     takes cmdBridgeStart site (start0 65535), site.isFollower = false, (match site.startChecks 0 none with | .error (1, .state) => true | _ => false),
     takes cmdBridgeStart (with0 { tddCfg with syncOffset := 1 } 1) (start0 65535), (match (with0 fdd 1).startChecks 0 none with | .ok _ => true | .error _ => false),
     (match (with0 tddCfg 1).startChecks 0 none with | .ok _ => true | .error _ => false),
     (match (put (with0 tddCfg 1) [(pFeSwLead, 0, 2000000)]).startChecks 0 none with | .error (10, .wouldExceed) => true | _ => false), takes cmdBridgeStart (with0 fdd 1) (start0 65535),
     takes cmdBridgeStart (with0 fdd 1) (start0 99),
     (match (with0 fdd 1).startChecks 0 none with
      | .ok (_, p, _) => (match (with0 fdd 1).startJob 0 99 { opcode := 0x0A02, standing := true, rate := (with0 fdd 1).standingRate 0 p, lanes := fdd.lanes } with
        | .error rep => rep.blk = [] && decide (rep.status ≠ .accepted)
        | .ok _ => false)
      | .error _ => false),
     (match (with0 fdd 1).startChecks 0 none with
      | .ok (_, p, _) => (match (with0 fdd 1).startJob 0 65535 { opcode := 0x0A02, standing := true, rate := (with0 fdd 1).standingRate 0 p, lanes := fdd.lanes } with
        | .error _ => false
        | .ok _ => true)
      | .error _ => false)] = true := by decide +kernel
/-- A head whose band waits for the answers of unit 1. -/
def waitsFor (answers : List (Nat × Nat)) (t : Nat) : Dev := put (startingBand { fdd with unitMask := 2 } t (fun x => { x with answers := answers })) [(pChainRole, 0, 1), (pTopology, 0, 1)]

theorem witness_BridgeCommands_end : all
    [let d := startingBand fdd (secU 99) (fun x => { x with setFixed := true, detectedAt := some (secU 100) })
     d.starting 0 && (d.band 0).setFixed && (d.band 0).detectedAt.isSome && (d.longOf 0 7).isSome,
     let d := startingBand tddCfg (secU 99) (fun x => { x with setFixed := true, detectedAt := some (secU 100), verdict := 2 })
     d.starting 0 && decide ((d.band 0).verdict = 2), site.starting 0 = false,
     let d := waitsFor [] (secU 100 - msU 500)
     d.starting 0 && !(d.band 0).setFixed && decide (msU 500 = d.since (d.band 0).startAt ∧ (maskUnits (d.band 0).cfg.unitMask).filter (fun u => (d.band 0).answers.contains (u, 0)) = []),
     let d := waitsFor [(1, 0)] (secU 100 - msU 500)
     (maskUnits (d.band 0).cfg.unitMask).filter (fun u => (d.band 0).answers.contains (u, 0)) = [1],
     let d := startingBand fdd (secU 98)
     d.starting 0 && decide ((d.band 0).detectedAt = none ∧ msU 2000 = d.since (d.band 0).startAt),
     takes cmdBridgeStop (with0 fdd 1) (ask 0 (zs 4)), (with0 fdd 1).bandBusy 0 = false, takes cmdBridgeStop (with0 fdd 3) (ask 0 (zs 4)), fdd.lanes.all (fun l => l < 8),
     takes cmdTddPatternGet (with0 fdd 1) (ask 0 (zs 4)), takes cmdTddPatternGet (with0 tddCfg 1) (ask 0 (zs 4)), takes cmdProtectionStatusGet site (ask 0 (zs 4)),
     takes cmdProtectionStatusGet (with0 fdd 3) (ask 0 (zs 4)), (with0 fdd 3).laneBand 0 = some 0] = true := by decide +kernel
theorem test_bandConfig : holds (exec (.bandConfig (ask 0 (cfgBytes 0 0 fdd))) (at_ site)) (fun e => decide (e.bandState 0 = 1 ∧ e.laneBand 1 = some 0)) = true := by decide +kernel
theorem test_bridgeStart : holds (exec (.bridgeStart (start0 65535)) (at_ (with0 fdd 1))) (fun e => decide (e.bandState 0 = 2 ∧ e.laneState 0 = 6)) = true := by decide +kernel
theorem test_bridgeStart_idle : holds (exec (.bridgeStart (start0 65535)) (at_ site)) (fun e => lastStatus e = some .state) = true := by decide +kernel
theorem test_startComplete : holds (exec (.bridgeStartComplete 0) (at_ (startingBand fdd (secU 99) (fun x => { x with setFixed := true, detectedAt := some (secU 100), setUnits := 1 }))))
    (fun e => decide (e.bandState 0 = 3 ∧ (lastBody e).map (fun b => fld b 12 4) = some 1000000)) = true := by decide +kernel
theorem test_noCell : holds (exec (.startNoCellTimeout 0) (at_ (startingBand fdd (secU 98)))) (fun e => decide ((lastBody e).map (fun b => fld b 3 1) = some 1)) = true := by
  decide +kernel

/-- Band 0 of TDD in a state with a learning window that began 12 ms ago. -/
def learns (st : Int) (f : Band → Band := id) : Dev := with0 tddCfg st (fun x => f { x with learning := some (secU 100 - msU 12) })
/-- The rows of a window: downlink power in slot 0, and a power in the uplink slot. -/
def rows (ul : Int) : List (List Int) := List.replicate 3 [-3200, -6400, ul, -6400]
def noPatternTrip (x : Band) : Band := { x with trig := [(6, 0)] }
/-- Band 0 is HELD, its triggers gone, its back-off over. -/
def backOff (c : BandCfg) : Dev := with0 c 4 (fun x => { x with backoffEnd := some (secU 100), mustLearn := true })
/-- The body of a BAND message to unit 2 for band 0, or of a TDD message. -/
def bandMsg (d : Dev) (op : Nat) : List Byte := upd (d.bandBody 0 op 0) 7 (fun _ => 4)

theorem witness_BandsFollowCellsTriggersAndMessages_cells : all
    [site.bandBusy 0 = false, (with0 fdd 3).bandBusy 0 && !(with0 fdd 3).isFollower, (with0 tddCfg 2).bandBusy 0 && decide (((with0 tddCfg 2).band 0).anchor = none),
     ((with0 tddCfg 3 (fun x => { x with anchor := some 5000 })).band 0).anchor = some 5000, anchorError 100 101 4000 = 1 && decide ((1 : Int).natAbs * 100 ≤ 6291456),
     (6291456 : Nat) < (anchorError 0 62915 4000).natAbs * 100, ((with0 fdd 3).band 0).detectedAt = none,
     let d := with0 fdd 3 (fun x => { x with detectedAt := some (secU 98), cellUp := true })
     decide (d.since (secU 98) = secU 2 ∧ (d.band 0).trig = [] ∧ d.bandState 0 = 3) && (d.band 0).cellUp,
     let d := branch tddCfg 3 (fun x => { x with tddValidAt := some (secU 100 - msU 50) })
     d.isFollower && decide (d.since (secU 100 - msU 50) = msU 50 ∧ d.bandState 0 = 3), (with0 tddCfg 3).since 0 < secU 101,
     let d := put (with0 tddCfg 3) [(pTddVerifyInterval, 0, 100)]
     decide (secU (d.getN pTddVerifyInterval) = d.since (d.band 0).verifyAt ∧ (d.band 0).learning = none ∧ (d.band 0).learnAgainAt = none),
     let d := put (with0 tddCfg 3) [(pTddVerifyInterval, 0, 101)]
     decide (d.since (d.band 0).verifyAt < secU (d.getN pTddVerifyInterval)),
     let d := with0 tddCfg 4 (fun x => noPatternTrip { x with windowEnd := some (secU 90) })
     decide (d.since (secU 90) = secU 10 ∧ d.bandState 0 = 4), ((learns 2).band 0).learning = some (secU 100 - msU 12), (rows 0).length = learnPeriods 4000,
     (learns 2).since (secU 100 - msU 12) = usU (learnPeriods 4000 * 4000), windowMisses 0x98 4 (rows (-3584)) (windowPdl 0x98 (rows (-3584))) = [2],
     windowMisses 0x98 4 (rows (-3585)) (windowPdl 0x98 (rows (-3585))) = [], ((learns 3).band 0).episodes < 4, 4 ≤ ((learns 3 (fun x => { x with episodes := 4 })).band 0).episodes,
     ((learns 4 noPatternTrip).band 0).trig ≠ [] && decide (((learns 4 noPatternTrip).band 0).matched = 0), 1 ≤ ((learns 4 (fun x => noPatternTrip { x with matched := 1 })).band 0).matched,
     (learns 4).blocked 0 = false, (learns 4 (fun x => { x with trig := [(4, 0)] })).blocked 0] = true := by decide +kernel
theorem witness_BandsFollowCellsTriggersAndMessages_messages : all
    [site.laneIds.all (fun l => decide (site.d4Band l true = none ∧ site.d4Band l false = none)),
     let d := put (with0 fdd 3) [(pTxpowerMode, 1, 0), (pPaOutPower, 1, 640)]
     let e : Dev := { d with convoys := d.convoys.map (fun x => { x with muted := false }) }
     decide (e.d4Band 1 true = some 0 ∧ e.outPower 1 = some 640 ∧ e.laneMuted 1 = false ∧ (e.band 0).ulSuspended = false) && e.laneIds.all (fun k => k = 1 || decide (e.d4Band k true = none)) &&
       (e.boundPermit 0).isSome && (fdd.entry grant 1).isSome,
     let d := with0 fdd 3
     let e : Dev := { d with convoys := d.convoys.map (fun x => { x with muted := false }), lanes := d.lanes.map (fun x => { x with pIn := some (-2560) }) }
     decide (e.d4Band 0 false = some 0 ∧ (e.lane 0).pIn = some (-2560) ∧ e.laneMuted 0 = false) && e.laneIds.all (fun k => k = 0 || decide (e.d4Band k false = none)),
     ((backOff fdd).band 0).backoffEnd = some (secU 100), (backOff fdd).blocked 0 = false, ((backOff fdd).band 0).learnAgainAt = none && decide ((backOff fdd).bandState 0 = 4),
     (backOff tddCfg).isFollower = false && ((backOff tddCfg).band 0).mustLearn && decide (((backOff tddCfg).band 0).learning = none),
     (branch fdd 1).isFollower && bit (fld (bandMsg (branch fdd 1) 1) 7 1) ((branch fdd 1).getN pUnitNumber), bandOfBody 1 (bandMsg (branch fdd 1) 1) = 0,
     (branch fdd 1).configReason (bandMsg (branch fdd 1) 1) = 0, (branch fdd 1).configReason (bandMsg (branch { fdd with dlRate := 2 } 1) 1) ≠ 0,
     (branch fdd 1).bandBusy 0 = false, (branch fdd 3).bandBusy 0, (branch fdd 1).hasLane 3 && decide ((branch fdd 1).laneBand 3 = none), (branch tddCfg 3).bandBusy 0,
     let d := put (with0 fdd 3) [(pChainRole, 0, 1), (pTopology, 0, 1)]
     decide (d.position = 1 ∧ d.get pChainRole = 1) && d.bandIds.contains 0, site.position ≠ 1 && decide (site.get pChainRole = 0), (waitsFor [] 0).starting 0,
     let d := put (with0 { fdd with unitMask := 2 } 3 (fun x => { x with setFixed := true, setUnits := 3 })) [(pChainRole, 0, 1), (pTopology, 0, 1)]
     d.bandBusy 0 && bit (d.band 0).setUnits 1] = true := by decide +kernel
theorem test_learn_mismatch : holds (exec (.learningWindowEnd 0 (rows (-3584))) (at_ (learns 3))) (fun e => decide (e.bandState 0 = 4 ∧ (e.band 0).misSlots = 4)) = true := by
  decide +kernel
theorem test_learn_match : holds (exec (.learningWindowEnd 0 (rows (-3585))) (at_ (learns 3))) (fun e => decide (e.bandState 0 = 3)) = true := by decide +kernel
theorem test_learn_fifth : holds (exec (.learningWindowEnd 0 (rows 0)) (at_ (learns 3 (fun x => { x with episodes := 4 })))) (fun e => decide (e.bandState 0 = 1)) = true := by
  decide +kernel
theorem test_noCell_held : holds (exec (.noCell 0) (at_ (with0 fdd 3 (fun x => { x with detectedAt := some (secU 98), cellUp := true }))))
    (fun e => decide (e.bandState 0 = 4 ∧ e.getN pBandRung 0 = 1)) = true := by decide +kernel
theorem test_backoff_restarts : holds (exec (.restartBackoffExpiry 0) (at_ (backOff fdd))) (fun e => decide (e.bandState 0 = 3)) = true := by decide +kernel
theorem test_remote : holds (exec (.remoteMessage ([2, 3] ++ s16 (-640) ++ s16 (-640) ++ zs 8)) (at_ (branch fdd 3))) (fun e => (e.convoy 3).remote = some (-640)) = true := by
  decide +kernel

end Sys2Proof.Tests

/-! ### 15 Survey -/

namespace Sys2Proof.Tests

/-- The site in mode SURVEY. -/
def scout : Dev := put site [(pMode, 0, 1)]
/-- SCAN_START on a receiver from 700 MHz, with its point count; CELL_SEARCH; ISOLATION_PROBE from L0 to L1. -/
def scanAsk (rx points : Nat) (top : Nat := 860000000) (job : Nat := 65535) : Request :=
  ask 0 (e8 rx ++ zs 1 ++ e16 job ++ e64 700000000 ++ e64 top ++ e32 100000 ++ e16 1 ++ e16 points ++ zs 4)
def cellAsk (rx : Nat) (f : Nat := 750000000) (job : Nat := 65535) : Request := ask 0 (e8 rx ++ [1] ++ e16 job ++ e64 f ++ e32 20 ++ zs 8)
def probeAsk (tx rx : Nat) (f : Nat := 750000000) (level : Int := -2560) (job : Nat := 65535) : Request :=
  ask 0 (e8 tx ++ e8 rx ++ e16 job ++ e64 f ++ e8 1 ++ [0, 1, 0] ++ s16 level ++ zs 2)
/-- The site with open jobs, and their long commands. -/
def jobs (l : List Survey) : Dev :=
  { scout with sv := { scout.sv with jobs := l }, host := { scout.host with longs := l.map (fun x => { long 0 0x0B01 x.body with ref := x.ref }) } }
def job1 : Survey := { ref := 7, kind := 1, need := 4, body := (scanAsk 255 2).body, start := some (secU 99), job := 65535, bound := 100000 }
/-- A permit of S0 that has lapsed. -/
def lapsed : Dev := { scout with slotNv := upd scout.slotNv 0 (fun x => { x with permits := upd x.permits 0 (fun _ => some { grant with state := .expired }) }) }

theorem witness_SurveysRunReportAndEnd_starts : all
    [takes cmdScanStart (jobs (List.replicate 4 job1)) (scanAsk 255 2), (jobs (List.replicate 4 job1)).surveyCount 0 = 4, takes cmdCellSearch (jobs (List.replicate 4 job1)) (cellAsk 255),
     takes cmdIsolationProbe (jobs (List.replicate 4 job1)) (probeAsk 0 1), takes cmdScanStart site (scanAsk 0 2), site.laneServes 0 = false, takes cmdCellSearch site (cellAsk 0),
     takes cmdIsolationProbe site (probeAsk 0 1), takes cmdScanStart (put scout [(pThermalState, 0, 2)]) (scanAsk 255 2), takes cmdCellSearch (put scout [(pThermalState, 0, 2)]) (cellAsk 255),
     takes cmdIsolationProbe (put scout [(pThermalState, 0, 2)]) (probeAsk 0 1), scout.laneServes 0 && scout.laneServes 1 && decide (scout.get pThermalState ≠ 2 ∧ scout.surveyCount 0 < 4),
     takes cmdScanStart scout (scanAsk 255 16384 701000000), scout.scanArgs (scanAsk 255 16384 701000000).body = false, takes cmdCellSearch scout (cellAsk 255 379999999),
     scout.cellArgs (cellAsk 255 379999999).body = false, takes cmdIsolationProbe scout (probeAsk 0 1 381000000), inTuningRange 381000000 1 = false, takes cmdScanStart scout (scanAsk 255 2),
     scout.scanArgs (scanAsk 255 2).body, takes cmdCellSearch scout (cellAsk 0), scout.cellArgs (cellAsk 0).body, takes cmdScanStart (put site [(pShare, 1, 0)]) (scanAsk 255 2),
     shareUnits .scan ((put site [(pShare, 1, 0)]).share 0 1) < (site.scanJob (scanAsk 255 2).body).2.2.1,
     (match scout.startJob 0 65535 (scout.scanJob (scanAsk 255 2).body).1 with | .ok _ => true | .error _ => false),
     (match scout.startJob 0 65535 (cellJob (cellAsk 0).body) with | .ok _ => true | .error _ => false), scout.survey 0 7 = none,
     (match scout.startJob 0 9 (cellJob (cellAsk 0).body) with | .ok _ => false | .error rep => rep.blk = [] && decide (rep.status ≠ .accepted)),
     takes cmdIsolationProbe scout (probeAsk 0 1), (scout.lane 1).table.isSome && scout.pwr.modeSet.isNone && scout.pwr.sequence.isNone, inTuningRange 750000000 1] = true := by
  decide +kernel
theorem witness_SurveysRunReportAndEnd_probes : all
    [takes cmdIsolationProbe scout (probeAsk 0 1 950000000), takes cmdIsolationProbe lapsed (probeAsk 0 1), (lapsed.probeEntry 0 750000000 1 .expired).isSome,
     lapsed.probeEntry 0 750000000 1 .active = none, takes cmdIsolationProbe scout (probeAsk 0 1 812500000), (scout.probeEntry 0 750000000 1 .active).isSome,
     (scout.probeEntry 0 800000000 1 .active).isNone && (scout.probeEntry 0 800000000 1 .expired).isNone, takes cmdIsolationProbe scout (probeAsk 0 1 800000000),
     takes cmdIsolationProbe scout (probeAsk 0 1 750000000 32767), takes cmdIsolationProbe scout (probeAsk 0 1 750000000 (-2560) 9), scout.get pProbeMaxLevel < 32767,
     -2560 ≤ scout.get pProbeMaxLevel, (match scout.startJob 0 65535 (scout.probeJob (probeAsk 0 1).body) with | .ok _ => true | .error _ => false), takes cmdSurveyAbort scout (ask 0 [7, 0, 0, 0]),
     takes cmdSurveyAbort (jobs [job1]) (ask 0 [7, 0, 0, 0]), (jobs [job1]).survey 0 7 = some job1, takes cmdResultFetch (jobs [job1]) (ask 0 (e32 1 ++ e32 0 ++ e16 1 ++ zs 2)),
     takes cmdResultFetch scout (ask 0 (e32 1 ++ e32 0 ++ e16 1 ++ zs 2)), takes cmdResultFetch scout (ask 0 (e32 9 ++ e32 3 ++ e16 1024 ++ zs 2)), scout.halfDepth 0 = 128] = true := by
  decide +kernel
/-- One result kept, of three bytes. -/
def kept : Dev := { scout with sv := { scout.sv with results := upd scout.sv.results 0 (fun _ => [{ id := 9, kind := 1, data := [1, 2, 3] }]) } }
/-- A probe on air on L0. -/
def probing7 : Survey := { ref := 7, kind := 3, tx := 0, rx := 1, start := some (secU 99), body := (probeAsk 0 1).body, bound := 100000 }
/-- The SCAN capture of the CELL reference asked for, granted or not. -/
def cellAsked (granted : Bool) : Dev :=
  let d := put scout [(pCellFreq, 0, 750000000), (pCellSource, 0, 255)]
  { d with sched := { d.sched with queue := [{ res := .scan, slot := 0, ref := cellRef, need := 20, granted := granted }] } }

theorem witness_SurveysRunReportAndEnd_ends : all
    [(nth kept.sv.results 0).find? (fun x => x.id = 9) ≠ none && kept.sv.jobs.isEmpty, takes cmdResultFetch kept (ask 0 (e32 9 ++ e32 3 ++ e16 1 ++ zs 2)),
     takes cmdResultFetch kept (ask 0 (e32 9 ++ e32 2 ++ e16 1024 ++ zs 2)), scout.survey 0 7 = none, job1.kind = 1 && job1.start.isSome && !job1.withdrawn && decide (job1.segments ≤ job1.done + 1),
     (jobs [{ job1 with withdrawn := true }]).survey 0 7 ≠ none, (jobs [job1]).longOf 0 7 ≠ none,
     decide (0 + 1 < ({ job1 with segments := 2 } : Survey).segments ∧ (put site [(pShare, 1, 0)]).get pMode = 0 ∧ shareUnits .scan ((put site [(pShare, 1, 0)]).share 0 1) < job1.need),
     probing7.kind = 3 && probing7.start.isSome && !probing7.ended, ({ probing7 with ended := true } : Survey).ended, ({ job1 with done := 1 } : Survey).segments ≤ 1, (jobs [job1]).since job1.since = msU job1.bound,
     (jobs [{ job1 with since := 1 }]).since 1 < msU job1.bound, scout.get pCellFreq = 0, (put scout [(pCellFreq, 0, 750000000), (pCellSource, 0, 0)]).owner 0 = 0,
     decide ((put scout [(pCellFreq, 0, 750000000), (pCellSource, 0, 0)]).laneState 0 = 4 ∧ scout.getN pLaneFreq 0 = 750000000 ∧ scout.getN pLaneFreq 1 ≠ 750000000),
     (put scout [(pCellFreq, 0, 750000000), (pCellSource, 0, 255)]).sched.fresh.isEmpty, ((cellAsked true).grantOf .scan 0 cellRef).isSome, ((cellAsked false).grantOf .scan 0 cellRef).isNone,
     (cellAsked false).getN pCellSource = 255] = true := by decide +kernel
theorem test_scan_starts : holds (exec (.scanStart (scanAsk 255 2)) (at_ scout)) (fun e => (e.survey 0 7).isSome && lastStatus e = some .accepted) = true := by decide +kernel
theorem test_scan_points : holds (exec (.scanStart (scanAsk 255 16384 701000000)) (at_ scout)) (fun e => lastStatus e = some .badArg) = true := by decide +kernel
theorem test_probe_starts : holds (exec (.isolationProbe (probeAsk 0 1)) (at_ scout)) (fun e => decide ((e.survey 0 7).map (fun x => (x.permit, x.need, (e.lane 1).survey)) = some (0, 400, some (0, 7)))) = true := by decide +kernel
theorem test_segment : holds (exec (.scanSegmentDone 0 7 {}) (at_ (jobs [job1]))) (fun e => (e.survey 0 7).any (fun x => x.done = 1)) = true := by decide +kernel
theorem test_bound : holds (exec (.surveyBoundExpiry 0 7) (at_ (jobs [job1]))) (fun e => lastStatus e = some .busy) = true := by decide +kernel
theorem test_result : holds (exec (.resultFetch (ask 0 (e32 9 ++ e32 2 ++ e16 1024 ++ zs 2))) (at_ kept)) (fun e => e.host.outbox.getLast?.map (·.reply.blk) = some [3]) = true := by
  decide +kernel
theorem test_capture_missed : holds (exec (.cellRefCapture none 0) (at_ (cellAsked false))) (fun e => e.getN pCellRefMisses = 1) = true := by decide +kernel

end Sys2Proof.Tests

/-! ### 16 The Tollbook -/

namespace Sys2Proof.Tests

/-- Metering runs. -/
def metering (f : Toll → Toll := id) (d : Dev := ready) : Dev :=
  let e := put d [(pMeterState, 0, 1), (pTariffActive, 0, 1)]
  { e with toll := f { e.toll with running := true }, pins := { e.pins with meterMclk := true } }
/-- The registers changed. -/
def booked (f : TollRegs → TollRegs) : Dev := metering (fun t => { t with regs := f t.regs })
/-- A tariff table of one tariff, its id and activation time. -/
def tariff (id at' : Nat) : List Byte :=
  [1] ++ zs 3 ++ e32 id ++ e32 at' ++ zs 12 ++ (List.replicate 4 ([1, 0, 0, 0, 0, 0, 1, 0] ++ zs 60)).flatten ++ zs 256
def tariffAsk (b : List Byte) : Request := ask 0 (zs 4) (some b)
/-- The metrology partition has no room. -/
def noRoom : Dev := { metering with colo := upd metering.colo 8 (fun x => { x with freeze := some default }) }
/-- A unit whose metrology key is the test key; its calibration record 3 with the full scale of V given, signed. -/
def calUnit : Dev := metering id { ready with factory := { ready.factory with metrologyKey := issuer } }
def calRec (fs : Nat) : List Byte := [1] ++ zs 3 ++ zs 16 ++ e32 3 ++ e32 fs ++ e32 1 ++ e32 1 ++ e32 1 ++ zs 56
def calGood : List Byte := calRec 1 ++ beBytes 64 0x8e533b6fa0bf7b4625bb30667c01fb607ef9f8b8a80fef5b300628703187b2a316b60d8b5fc6136ca3c6b7ccad799f69364214e20d000db665d806716cf37008
def calBad : List Byte := calRec 0 ++ beBytes 64 0x8e533b6fa0bf7b4625bb30667c01fb607ef9f8b8a80fef5b300628703187b2a3c3fd4330439e932ccd4081661abd37cfca2700018b4415c78bf8cd1c9c0c93f1

theorem witness_TollbookMeasuresAndAnswers_commands : all
    [takes cmdTariffLoad metering (tariffAsk (zs 551)), takes cmdTariffLoad metering (tariffAsk (zs 552)), firstBad (zs 552) (tariffChecks 0 (zs 552)) = some 0,
     (tariff 1 0).length = 552, firstBad (tariff 1 0) (tariffChecks (metering.getN pTariffTableId) (tariff 1 0)) = none, takes cmdTariffLoad noRoom (tariffAsk (tariff 1 0)), noRoom.metroShort,
     takes cmdTariffLoad metering (tariffAsk (tariff 1 0)), metering.metroShort = false && decide (metering.nvmBar = none), takes cmdTariffLoad metering (tariffAsk (tariff 1 900)),
     takes cmdRegistersGet metering (ask 1 [0, 0, 0, 0]), takes cmdRegistersGet metering (ask 1 [2, 0, 0, 0]), takes cmdRegistersGet metering (ask 1 [1, 23, 0, 0]),
     metering.toll.devSnaps[23]? = none, takes cmdRegistersGet (metering (fun t => { t with devSnaps := [default] })) (ask 1 [1, 0, 0, 0]), takes cmdRegistersGet metering (ask 1 [3, 0, 0, 0]),
     takes cmdRegistersGet (metering (fun t => { t with slotSnaps := upd t.slotSnaps 1 (fun _ => [default]) })) (ask 1 [3, 0, 0, 0]),
     takes cmdPeriodClose (booked (fun r => { r with mtMark := 159, opened := 100 })) (ask 0 (zs 4)), (booked (fun r => { r with mtMark := 159, opened := 100 })).metroTime = 159,
     takes cmdPeriodClose (booked (fun r => { r with mtMark := 160, opened := 100 })) (ask 0 (zs 4)), (booked (fun r => { r with mtMark := 160, opened := 100 })).metroTime = 160,
     takes cmdSealValueGet ready (ask 1 (zs 4)), takes cmdTamperStatusGet ready (ask 1 (zs 4)), takes cmdAttributionSet ready (ask 0 ([7, 1, 0, 0] ++ e32 9)), ready.get pSlotState 7 ≠ 2,
     takes cmdAttributionSet tenant (ask 0 ([1, 1, 0, 0] ++ e32 9)), tenant.get pSlotState 1 = 2] = true := by decide +kernel
theorem witness_TollbookMeasuresAndAnswers_calibration : all
    [takes cmdMeterCalLoad calUnit (tariffAsk (zs 159)), takes cmdMeterCalLoad calUnit (tariffAsk (calGood.set 159 0)), takes cmdMeterCalLoad calUnit (tariffAsk calBad),
     takes cmdMeterCalLoad calUnit (tariffAsk calGood), calGood.length = 160, ecdsaCheck issuer (calGood.take 96) (calGood.drop 96), slice calGood 4 16 = calUnit.factory.serial,
     decide (calUnit.getN pCalId < fld calGood 20 4), firstBad calGood (calChecks calGood) = none, firstBad calBad (calChecks calBad) = some 24, calUnit.metroShort = false] = true := by
  decide +kernel
theorem witness_TollbookMeasuresAndAnswers_calibration_bad : all
    [ecdsaCheck issuer (calBad.take 96) (calBad.drop 96), ecdsaCheck issuer (calGood.take 96) ((calGood.set 159 0).drop 96) = false] = true := by decide +kernel
/-- An episode of the cover that is due, one that runs and is over, one that lacks a moment. -/
def tampered (w : Tamper) : Dev := metering (fun t => { t with watch := upd t.watch 0 (fun _ => w) })

theorem witness_TollbookMeasuresAndAnswers_measures : all
    [ready.get pMeterState = 0, metering.get pMeterState = 1, decide (44999 < 45000 ∧ 66000 < 66001),
     (metering (fun t => { t with pulseHigh := some (secU 100 - msU 30) })).since (secU 100 - msU 30) = msU 30, metering.toll.pulseHigh = none && decide (metering.toll.regs.backlog = 0),
     let d := metering (fun t => { t with pulseAt := some (secU 100 - msU 60), regs := { t.regs with backlog := 2 } })
     d.toll.running && decide (d.since (secU 100 - msU 60) = msU 60 ∧ d.toll.regs.backlog ≠ 0),
     decide (secU (tamperTimes 0).1 = ready.since (secU 95)), secU (tamperTimes 0).1 < ready.since (secU 95 - 1), ready.since (secU 96) < secU (tamperTimes 0).2, decide (0 < ready.toll.watch.length),
     metering.get pMeterState ≠ 0 && decide (padTo 4 [0, 0, 0, 0] = padTo 4 metering.toll.sealId ∧ padTo 4 [1] ≠ padTo 4 metering.toll.sealId),
     let d := { metering (fun t => { t with running := false }) with pwr := { metering.pwr with phase := .quires } }
     d.pins.meterMclk && !d.toll.running && decide (d.pwr.phase ≠ .boot ∧ d.get pMeterState ≠ 3)] = true := by decide +kernel
theorem test_period_early : holds (exec (.periodClose (ask 0 (zs 4))) (at_ (booked (fun r => { r with mtMark := 159, opened := 100 })))) (fun e => lastStatus e = some .state) = true := by
  decide +kernel
theorem test_period : holds (exec (.periodClose (ask 0 (zs 4))) (at_ (booked (fun r => { r with mtMark := 160, opened := 100 })))) (fun e => e.toll.regs.opened = 160) = true := by
  decide +kernel
theorem test_calibration : holds (exec (.meterCalLoad (tariffAsk calGood)) (at_ calUnit)) (fun e => e.getN pCalId = 3) = true := by decide +kernel
theorem test_interval : holds (exec (.integrationIntervalEnd { vi := 0 }) (at_ metering)) (fun e => e.get pMainsPActive = 0) = true := by decide +kernel
theorem test_cycle_bounds : holds (exec (.mainsCycleEnd 44999 {}) (at_ (put metering [(pMainsFreq, 0, 50000)]))) (fun e => e.getN pMainsFreq = 0) = true := by decide +kernel
theorem test_pulse : holds (exec .meterPulse (at_ (booked (fun r => { r with backlog := 2 })))) (fun e => e.pins.meterPulse && decide (e.toll.regs.backlog = 1)) = true := by decide +kernel
theorem test_tamper_starts : holds (exec (.tamperStart 1) (at_ (tampered { held := some (secU 95 - 1) }))) (fun e => (nth e.toll.regs.tamper 0).episodes = 1) = true := by decide +kernel
theorem test_tamper_five : still (.tamperStart 1) (at_ (tampered { held := some (secU 95) })) = true := by decide +kernel
theorem test_tamper_ends : holds (exec (.tamperEnd 1) (at_ (tampered { start := some (secU 90), absent := some (secU 95) }))) (fun e => (nth e.toll.regs.tamper 0).seconds = 10) = true := by
  decide +kernel
theorem test_seal : holds (exec (.sealRecompute [1]) (at_ metering)) (fun e => e.get pMeterState = 3) = true := by decide +kernel

end Sys2Proof.Tests

/-! ### 17 The Colophon; 18 Storage, firmware and shock -/

namespace Sys2Proof.Tests

def part (k : Nat) (f : Partition → Partition) (d : Dev := ready) : Dev := { d with colo := upd d.colo k f }
/-- Partition 0 with three records stored and one staged, of which record 2 is bad. -/
def logged (f : Partition → Partition := id) : Dev :=
  part 0 (fun x => f { x with next := 5, stored := [{ seq := 1 }, { seq := 2, bad := true }, { seq := 3 }], staged := [{ seq := 4 }] })
def frozen (ends : Nat) : Dev := logged (fun x => { x with freeze := some { ends := ends } })
def freezeAsk (k : Nat) (ms : Nat := 100) : Request := ask 0 (e8 k ++ zs 3 ++ e32 ms)
def thawAsk (k dest : Nat) : Request := ask 0 (e8 k ++ zs 1 ++ e48 dest)
/-- A staging area of Quire C as a change of it makes it. -/
def staged (f : Stage → Stage) (d : Dev := ready) : Dev := { d with sto := { d.sto with stages := upd d.sto.stages 0 f } }
def stageAsk (op q n : Nat) (blk : Option (List Byte) := none) : Request := ask 0 (e8 op ++ e8 q ++ zs 2 ++ e32 n) blk
def image : List Byte :=
  let b := [1, 1, 0, 0] ++ e32 2 ++ e32 4 ++ zs 20 ++ beBytes 32 0x9f64a747e1b97f131fabb6b447296c9b6f0201e79fb3c5356e6c77e89b6a806a ++ [1, 2, 3, 4]
  b ++ beBytes 64 0x8e533b6fa0bf7b4625bb30667c01fb607ef9f8b8a80fef5b300628703187b2a3ac1905b9d94ac09e07429f0af8293f7d20890d9584a1ee08ea9f2f88ca074c61
/-- Quire C is staged whole, and a verify is open. -/
def verifying (b : List Byte) : Dev :=
  let d := staged (fun _ => { state := 1, total := 132, data := b, busy := some (0, 7) }) { ready with factory := { ready.factory with wileskoKey := issuer } }
  withLong d (long 0 0x0E01 [2, 1, 0, 0, 0, 0, 0, 0])
/-- An open that waits for erases, begun at a time. -/
def opening (left since : Nat) : Dev :=
  withLong (staged (fun _ => { state := 1, total := 132, eraseLeft := left, busy := some (0, 7) })) { long 0 0x0E01 [0, 1, 0, 0, 132, 0, 0, 0] with since := since }
def tested : Dev := withLong { ready with sto := { ready.sto with selftest := some (0, 7, 15) } } (long 0 0x0F02 [15, 0, 0, 0])

theorem witness_RecordsStorageFirmwareAndShock_log : all
    [takes cmdLogFreeze (frozen 1) (freezeAsk 0), takes cmdLogFreeze (logged (fun x => { x with thawedAt := some (secU 91) })) (freezeAsk 0), ready.since (secU 91) < secU 10,
     takes cmdLogFreeze logged (freezeAsk 0 10000), (logged.part 0).freeze = none && decide ((logged.part 0).thawedAt = none ∧ 8 < logged.colo.length), takes cmdLogThaw logged (thawAsk 0 0),
     takes cmdLogThaw (part 8 (fun x => { x with freeze := some default })) (thawAsk 8 1), (ready.slot 0).session.any (fun x => x.readMax < 1), takes cmdLogThaw (frozen 1) (thawAsk 0 0),
     takes cmdLogRead logged (ask 0 ([0, 64] ++ e48 1)), takes cmdLogInfo logged (ask 0 [8, 0, 0, 0])] = true := by decide +kernel
theorem witness_RecordsStorageFirmwareAndShock_firmware : all
    [takes cmdFwStage (opening 1 0) (stageAsk 1 1 0 (some [1])), ((opening 1 0).stage 0).busy.isSome, takes cmdFwStage (bridges ready) (stageAsk 0 1 132), (bridges ready).anyBridging,
     takes cmdFwStage ready (stageAsk 0 2 2097153), quireSlot 1 = 2097152, takes cmdFwStage ready (stageAsk 0 2 2097152), ready.anyBridging = false && decide (ready.longCount 0 = 0 ∧ (ready.stage 1).busy = none),
     takes cmdFwStage ready (stageAsk 3 1 0), takes cmdFwStage ready (stageAsk 1 1 0 (some [1])), (ready.stage 0).state ≠ 1, takes cmdFwStage (staged (fun _ => { state := 1, total := 132 })) (stageAsk 2 1 0),
     takes cmdFwStage (staged (fun _ => { state := 1, total := 132 })) (stageAsk 1 1 1 (some [1])), takes cmdFwStage (staged (fun _ => { state := 1, total := 1 })) (stageAsk 1 1 0 (some [1, 1])),
     takes cmdFwStage (staged (fun _ => { state := 1, total := 132 })) (stageAsk 1 1 0 (some (zs 64))), fld (zs 64) 1 1 ≠ 1, takes cmdFwStage (staged (fun _ => { state := 1, total := 132 })) (stageAsk 1 1 0 (some image)),
     fld image 1 1 = 1 && decide (ready.activeVersion 0 < fld image 4 4 ∧ image.length = 132), takes cmdFwCommit ready (ask 0 [1, 0, 0, 0]), takes cmdFwCommit (staged (fun _ => { state := 2 })) (ask 0 [1, 0, 0, 0]),
     ready.metroShort = false && decide (0 < ready.sto.images.length ∧ ready.nvmBar = none), takes cmdSelftestRun tested (ask 0 [15, 0, 0, 0]), takes cmdSelftestRun (bridges ready) (ask 0 [15, 0, 0, 0]),
     takes cmdSelftestRun ready (ask 0 [15, 0, 0, 0]), ready.sto.selftest = none && decide (ready.sv.jobs = [])] = true := by decide +kernel
/-- A journal entry of one page, with the pages left of its copies. -/
def programming (a b : Nat) : Dev :=
  let e : JournalEntry := { typ := 0x0801, left0 := a, left1 := b, act := .respond 0 7 true 0x0801 (okBody []) }
  { ready with nvm := { ready.nvm with queue := [e] } }
def erasing (k : EraseKind) : Dev := { ready with nvm := { ready.nvm with erase := some k } }
/-- The shock watch on a source, changed. -/
def shock (source : Nat) (f : Shock → Shock := id) : Dev := let d := put ready [(pShockSource, 0, source)]; { d with sto := { d.sto with shock := f d.sto.shock } }
def shaken (last : Nat) : Dev := shock 2 (fun x => { x with start := some (secU 99), last := last, peak := 3 })
def recheck (t : Nat) : Dev := { port 0 (fun x => { x with module := true, ident := ident10 }) with sto := { ready.sto with shock := { recheckAt := some t } } }

theorem witness_RecordsStorageFirmwareAndShock_storage : all
    [ready.longIs 0 7 0x0E01 = none, ((verifying image).longIs 0 7 0x0E01).any (fun l => fld l.body 0 1 = 2), ((verifying image).stage 0).busy = some (0, 7), ((staged id).stage 0).busy ≠ some (0, 7),
     ((opening 0 0).longIs 0 7 0x0E01).any (fun l => fld l.body 0 1 ≠ 2) && decide (((opening 0 0).stage 0).eraseLeft = 0), ready.since (secU 95 + 1) < msU 5000, msU 5000 = (opening 1 (secU 95)).since (secU 95),
     ready.sto.selftest = none, (tested.longIs 0 7 0x0F02).isSome, (logged.part 0).freeze = none, ((frozen (secU 100)).part 0).freeze.any (fun f => f.ends ≤ ready.time),
     ((frozen (secU 100 + 1)).part 0).freeze.any (fun f => ready.time < f.ends), (logged.part 0).losses = [] && decide ((logged.part 0).curFill ≤ 128 ∧ ready.pwr.phase = .ready),
     (programming 1 1).nvm.queue.find? (programming 1 1).mayProgram ≠ none && decide (ready.pwr.state = .active), (programming 0 1).nvm.queue.find? (programming 0 1).mayProgram ≠ none,
     ready.nvm.queue.find? ready.mayProgram = none, ready.nvm.erase = none, (erasing (.colophon 1)).nvm.erase.isSome, decide (nth ready.nvm.freePages 0 = 32768),
     let d := { ready with nvm := { ready.nvm with freePages := [255, 255] } }
     decide (nth d.nvm.freePages 0 = 255 ∧ EraseKind.journal 0 ∉ d.nvm.erase.toList ++ d.nvm.eraseWanted ∧ 16 ≤ 255),
     ready.watchesShock 2 = false && (ready.watchesShock 1 = false), (shock 2).watchesShock 2 && (shock 1).watchesShock 1, (shock 2).sto.shock.start = none, (shaken 0).sto.shock.start.isSome,
     (shaken 0).since (secU 100 - msU 50) = msU 50, ready.sto.shock.recheckAt = none, (recheck (secU 100 + 1)).sto.shock.recheckAt = some (secU 100 + 1),
     (recheck (secU 100)).hasPort 0 && ((recheck (secU 100)).port 0).module && decide ((recheck (secU 100)).get pPortState ≠ 3 ∧ (recheck (secU 100)).get pPortState ≠ 4)] = true := by
  decide +kernel
theorem test_freeze : holds (exec (.logFreeze (freezeAsk 0)) (at_ logged)) (fun e => e.get pLogFrozen 0 = 1) = true := by decide +kernel
theorem test_freeze_again : holds (exec (.logFreeze (freezeAsk 0)) (at_ (logged (fun x => { x with thawedAt := some (secU 91) })))) (fun e => lastStatus e = some .state) = true := by
  decide +kernel
theorem test_logRead_bad : holds (exec (.logRead (ask 0 ([0, 64] ++ e48 1))) (at_ logged)) (fun e => (lastBody e).map (fun b => (fld b 1 1, fld b 3 1)) = some (3, 1)) = true := by decide +kernel
theorem test_flush : holds (exec (.colophonFlush 0) (at_ logged)) (fun e => (e.part 0).staged = [] && decide ((e.part 0).stored.length = 4)) = true := by decide +kernel
theorem test_verify : holds (exec (.fwStageComplete 0 7) (at_ (verifying image))) (fun e => (e.stage 0).state = 2) = true := by decide +kernel
theorem test_verify_fails : holds (exec (.fwStageComplete 0 7) (at_ (verifying (image.set 64 0)))) (fun e => (e.stage 0).state = 3) = true := by decide +kernel
theorem test_selftest : holds (exec (.selftestComplete 0 7 0 1 0 0 0) (at_ tested)) (fun e => (lastBody e).map (fun b => fld b 1 1) = some 4) = true := by decide +kernel
theorem test_program_first : holds (exec (.pageProgramComplete none) (at_ (programming 1 1))) (fun e => e.host.outbox = [] && decide (e.nvm.queue.length = 1)) = true := by decide +kernel
theorem test_program_last : holds (exec (.pageProgramComplete none) (at_ (programming 0 1))) (fun e => lastStatus e = some .ok && decide (e.nvm.queue = [])) = true := by decide +kernel
theorem test_erase : holds (exec (.eraseComplete 3 none) (at_ (erasing (.journal 0)))) (fun e => nth e.nvm.freePages 0 = 32784) = true := by decide +kernel
theorem test_shock : holds (exec (.shockInEdge 2000) (at_ (shock 1))) (fun e => decide (e.sto.shock.peak = 65535 ∧ e.getN pShockCount = 1)) = true := by decide +kernel
theorem test_shock_ends : holds (exec .shockEpisodeEnd (at_ (shaken (secU 100 - msU 50)))) (fun e => e.sto.shock.start.isNone && decide (e.sto.shock.lastPeak = 3)) = true := by decide +kernel
theorem test_recheck : holds (exec (.sfpRecheck [some ident10]) (at_ (recheck (secU 100)))) (fun e => e.sto.shock.recheck = 1) = true := by decide +kernel

end Sys2Proof.Tests

/-! ### 19 The test access port and the debug port -/

namespace Sys2Proof.Tests

/-- The debug port changed. -/
def debug (f : Debug → Debug) (d : Dev := ready) : Dev := { d with dbg := f d.dbg }
def lockedOut (left : Nat) : Dev := { ready with ao := { ready.ao with dbgLockEnd := some (secU 100 + left) } }
/-- Wall time held, a challenge pending since a time. -/
def challenged (t : Nat) : Dev :=
  debug (fun x => { x with nonce := some (zs 16, t) }) { put ready [(pSlotState, 0, 2), (pWallSource, 0, 3), (pWallUncLimit, 0, 1000)] with clk := { ready.clk with wallSet := true, anchorTkc := secU 100, anchorWall := 800000000, uncAt := secU 100 } }
/-- The port unlocked up to an expiry; the time is 800,000,000. -/
def unlocked (expiry : Nat) : Dev := debug (fun x => { x with unlocked := true, expiry := expiry, nonce := none }) (challenged 0)

theorem witness_TestAndDebugPortsAct : all
    [ready.pins.resetN && !ready.dbg.unlocked, (unlocked 0).dbg.unlocked, tapCodes.contains 0x14 && !tapCodes.contains 0x15, (lockedOut 1).dbgLockLeft = 1, (lockedOut 0).dbgLockLeft = 0 && ready.powered,
     ({ ready with pwr := { ready.pwr with state := .off } } : Dev).powered = false,
     let d := challenged (secU 41)
     d.dbgPending = some (zs 16) && d.powered && d.wallValid && decide (d.get pSlotState 0 = 2 ∧ d.effTime = 800000000),
     ({ ready with ao := { ready.ao with dbgFails := 2 } } : Dev).ao.dbgFails + 1 = 3, (challenged (secU 40)).dbgPending = none, ready.hasLane 8 = false, (unlocked 0).hasLane 7,
     (unlocked 800000001).effTime < (unlocked 800000001).dbg.expiry, (unlocked 800000000).dbg.expiry ≤ (unlocked 800000000).effTime, decide (0 < ready.convoys.length)] = true := by decide +kernel
theorem test_idcode : holds (exec .tapIdcode (at_ ready)) (fun e => e.tap.instr = 2) = true := by decide +kernel
theorem test_extest_locked : holds (exec (.tapExtest [true]) (at_ ready)) (fun e => e.tap.instr = 0x1F && !e.tap.driving) = true := by decide +kernel
theorem test_extest_reset : holds (exec (.tapExtest [true]) (at_ { ready with pins := { ready.pins with resetN := false } })) (fun e => e.tap.instr = 0 && e.tap.driving) = true := by
  decide +kernel
theorem test_unlock : holds (exec (.dbgUnlock 800086400 ((challenged (secU 41)).dbgToken (zs 16) 800086400)) (at_ (challenged (secU 41)))) (fun e => e.dbg.unlocked) = true := by decide +kernel
theorem test_unlock_expiry : holds (exec (.dbgUnlock 800086401 ((challenged (secU 41)).dbgToken (zs 16) 800086401)) (at_ (challenged (secU 41))))
    (fun e => !e.dbg.unlocked && decide (e.ao.dbgFails = 1)) = true := by decide +kernel
theorem test_unlock_third : holds (exec (.dbgUnlock 0 []) (at_ { ready with ao := { ready.ao with dbgFails := 2 } })) (fun e => e.ao.dbgLockEnd = some (secU 700)) = true := by decide +kernel
theorem test_access : holds (exec (.dbgAccess 7 1 725000000) (at_ (unlocked 800000001))) (fun e => e.dbg.ops = 1 && decide ((nth e.dbg.raw 7).freq = some 725000000)) = true := by decide +kernel
theorem test_expiry : holds (exec .dbgExpiry (at_ (unlocked 800000000))) (fun e => !e.dbg.unlocked && e.laneMuted 0) = true := by decide +kernel

end Sys2Proof.Tests

/-! ### Well-formedness: one ill-formed term for each check, and well-formed ones at the limits -/

namespace Sys2Proof.Tests

/-- A request at every limit, and one just past each: slot, index, body, BLK data without BLK_ATTACHED, BLK data. -/
def fullRequest : Request := { slot := 7, ref := 65535, body := zs 40, blkAttached := true, blk := zs 5120 }
def brokenRequests : List Request :=
  [{ fullRequest with slot := 8 }, { fullRequest with ref := 65536 }, { fullRequest with body := zs 41 }, { blkAttached := false, blk := zs 1 },
   { fullRequest with blk := zs 5121 }]

theorem smoke_request : fullRequest.wf && brokenRequests.all (fun r => !r.wf) = true := by decide +kernel
theorem smoke_requests : List.all
    ([.nop, .helloPhase1, .helloPhase2, .bye, .paramGet, .paramSet, .paramList, .eventMaskSet, .statusGet, .modeSet, .powerStateSet, .reset, .infoGet,
    .tempGet, .slotProvision, .slotRevoke, .permitLoad, .permitStatus, .permitRemove, .laneAssign, .vaultRead, .vaultWrite, .slotRekey, .ledgerGet,
    .quotaSet, .jobEstimate, .jobAdmit, .planEndSet, .jobRelease, .pacePolicySet, .laneTune, .laneStateSet, .calRun, .calStoreGet, .txpowerModeSet,
    .paTableLoad, .courierProfileSet, .courierSend, .courierStateSet, .courierStatsGet, .chainConfig, .firLoad, .threshSet, .chainStatusGet,
    .delayGet, .droverOpen, .droverClose, .droverCoefSet, .convoyStatusGet, .supervisorSet, .isolationGet, .refConfig, .refStatusGet, .clockBwSet,
    .steerSet, .walltimeSet, .refForce, .linkConfig, .linkStatusGet, .chainJoin, .chainLeave, .linkTestStart, .linkTestResult, .bandConfig,
    .bridgeStart, .bridgeStop, .tddPatternGet, .protectionStatusGet, .scanStart, .cellSearch, .isolationProbe, .surveyAbort, .resultFetch,
    .tariffLoad, .registersGet, .periodClose, .sealValueGet, .tamperStatusGet, .attributionSet, .meterCalLoad, .logFreeze, .logThaw, .logRead,
    .logInfo, .fwStage, .fwCommit, .nvmStatus, .factoryDataGet, .faultCountersGet, .selftestRun, .shockStatusGet] : List (Request → Instr))
    (fun c => (c {}).wf && !(c { slot := 8 }).wf) = true := by decide +kernel
theorem smoke_illFormed_1 : List.all
    ([.qspiTransactionRejected 256 16777215 default, .qspiTransactionRejected 255 16777216 default, .hrwWrite 16777216 (zs 512),
    .hrwWrite 16777215 (zs 513), .ringCfgWrite 32 65535, .ringCfgWrite 31 65536, .doorbellWrite 32 65535, .doorbellWrite 31 65536,
    .ringIrqClear 4294967296, .devIrqClear 65536, .usbOutPacket 8 (zs 512), .usbOutPacket 7 (zs 513), .usbInAck 8 8, .usbInAck 7 9,
    .usbEp0Request 256 255 65535 65535 (zs 256), .usbEp0Request 255 256 65535 65535 (zs 256), .usbEp0Request 255 255 65536 65535 (zs 256),
    .usbEp0Request 255 255 65535 65536 (zs 256), .usbEp0Request 255 255 65535 65535 (zs 257), .usbBusReset 3, .responseWrite 8,
    .progressEntry 8 65535 65535 (zs 32), .progressEntry 7 65536 65535 (zs 32), .progressEntry 7 65535 65536 (zs 32),
    .progressEntry 7 65535 65535 (zs 33), .helloLockoutExpiry 8, .helloChallengeLapse 8, .slotProvisionComplete 8 65535,
    .slotProvisionComplete 7 65536, .slotRevokeComplete 8 65535, .slotRevokeComplete 7 65536, .vaultWriteComplete 8 65535,
    .vaultWriteComplete 7 65536, .jobAdmissionExpiry 8 65535, .jobAdmissionExpiry 7 65536, .energyTargetUpdate 8, .workUnitComplete 5 default,
    .resetRelease 65536 default, .brownOutWarning 65536, .brownOutReset 65536, .alwaysOnLoss 65536, .brownOutRecovered 65536,
    .calRunComplete 8 65535 default, .calRunComplete 7 65536 default, .burstStart 8 default, .burstEnd 8, .synthUnlock 8 default,
    .synthLockTimeout 8 default default] : List Instr)
    (fun i => !i.wf) = true := by decide +kernel
theorem smoke_illFormed_2 : List.all
    ([.bgcalStep 8 default, .bgcalFddWindow 8 default, .feedbackLost 8, .courierProfileSetComplete 8 65535 default,
    .courierProfileSetComplete 7 65536 default, .courierSendComplete 8 65535, .courierSendComplete 7 65536,
    .courierPacketReceive (zs 256) default default default, .courierPeerSilent 8, .avgWindowEnd 25 default, .thresholdCrossed 25 3 default,
    .thresholdCrossed 49 4 default, .chainSaturated 25 default default, .chainInputStuck 25 default, .chainInputResume 25, .controlSample 10 default,
    .remoteAged 10, .convoyLimited 10, .droverSaturated 10 7, .droverSaturated 9 8, .convoyStarved 10,
    .isolationWindow 8 default default default default, .oscillationDetected 8 default, .oscBackoffExpiry 8, .oscLadderReset 8, .refQualified 4,
    .failedWindowExpiry 4, .linkTestEnd 2 default default default default, .sfpModuleIdentify 2 default, .portUp 2 default default default,
    .linkLoss 2 default, .baleReceive 2 default (zs 8) (zs 128) default, .baleReceive 1 default (zs 9) (zs 128) default,
    .baleReceive 1 default (zs 8) (zs 129) default, .clockMessage (zs 129), .probeSend 2 default, .probeMessage (zs 129) default default,
    .probeReplyMessage 2 (zs 128) default, .probeReplyMessage 1 (zs 129) default, .delayMessage (zs 129), .remoteMessage (zs 129),
    .tddMessage (zs 129), .bandAnnounce (zs 129), .bandStartMessage (zs 129), .bandStopMessage (zs 129), .bandStateMessage (zs 129),
    .breakMessage (zs 129), .statusMessage (zs 129)] : List Instr)
    (fun i => !i.wf) = true := by decide +kernel
theorem smoke_illFormed_3 : List.all
    ([.delayFigMessage (zs 129), .joinReq 2 (zs 128), .joinReq 1 (zs 129), .joinAck (zs 129), .leaveMessage (zs 129), .testMessage 2 (zs 128),
    .testMessage 1 (zs 129), .sumSatWindow 8 default default, .sumBackoffDecay 8, .unitUnreachable 8, .bandResumeAfterRejoin 64,
    .bridgeStartComplete 64, .followerAnswerTimeout 64, .startNoCellTimeout 64, .cellDetectorRun 64 default, .noCell 64, .tddMessageTimeout 64,
    .tddVerifyStart 64, .learningWindowEnd 64 default, .restartBackoffExpiry 64, .bandRungReset 64, .scanSegmentDone 8 65535 default,
    .scanSegmentDone 7 65536 default, .surveyJobComplete 8 65535 default, .surveyJobComplete 7 65536 default, .surveyBoundExpiry 8 65535,
    .surveyBoundExpiry 7 65536, .probeEnd 8 65535 default, .probeEnd 7 65536 default, .sealRecompute (zs 5), .freezeExpiry 9, .colophonFlush 9,
    .compaction 2 default, .fwStageComplete 8 65535, .fwStageComplete 7 65536, .selftestComplete 8 65535 default default default default default,
    .selftestComplete 7 65536 default default default default default, .tapBypass 32, .dbgUnlock 4294967296 (zs 16), .dbgUnlock 4294967295 (zs 17),
    .dbgAccess 16 15 18446744073709551615, .dbgAccess 15 16 18446744073709551615, .dbgAccess 15 15 18446744073709551616, .pathDelayTimeout 2] : List Instr)
    (fun i => !i.wf) = true := by decide +kernel
theorem smoke_limits_1 : List.all
    ([.qspiTransactionRejected 255 16777215 default, .hrwWrite 16777215 (zs 512), .ringCfgWrite 31 65535, .doorbellWrite 31 65535,
    .ringIrqClear 4294967295, .devIrqClear 65535, .usbOutPacket 7 (zs 512), .usbInAck 7 8, .usbEp0Request 255 255 65535 65535 (zs 256),
    .usbBusReset 2, .responseWrite 7, .progressEntry 7 65535 65535 (zs 32), .helloLockoutExpiry 7, .helloChallengeLapse 7,
    .slotProvisionComplete 7 65535, .slotRevokeComplete 7 65535, .vaultWriteComplete 7 65535, .jobAdmissionExpiry 7 65535, .energyTargetUpdate 7,
    .workUnitComplete 4 default, .resetRelease 65535 default, .brownOutWarning 65535, .brownOutReset 65535, .alwaysOnLoss 65535,
    .brownOutRecovered 65535, .calRunComplete 7 65535 default, .burstStart 7 default, .burstEnd 7, .synthUnlock 7 default,
    .synthLockTimeout 7 default default, .bgcalStep 7 default, .bgcalFddWindow 7 default, .feedbackLost 7,
    .courierProfileSetComplete 7 65535 default, .courierSendComplete 7 65535, .courierPacketReceive (zs 255) default default default,
    .courierPeerSilent 7, .avgWindowEnd 49 default, .thresholdCrossed 49 3 default, .chainSaturated 49 default default, .chainInputStuck 49 default,
    .chainInputResume 49, .controlSample 9 default, .remoteAged 9, .convoyLimited 9, .droverSaturated 9 7, .convoyStarved 9,
    .isolationWindow 7 default default default default] : List Instr)
    (fun i => i.wf) = true := by decide +kernel
theorem smoke_limits_2 : List.all
    ([.oscillationDetected 7 default, .oscBackoffExpiry 7, .oscLadderReset 7, .refQualified 3, .failedWindowExpiry 3,
    .linkTestEnd 1 default default default default, .sfpModuleIdentify 1 default, .portUp 1 default default default, .linkLoss 1 default,
    .baleReceive 1 default (zs 8) (zs 128) default, .clockMessage (zs 128), .probeSend 1 default, .probeMessage (zs 128) default default,
    .probeReplyMessage 1 (zs 128) default, .delayMessage (zs 128), .remoteMessage (zs 128), .tddMessage (zs 128), .bandAnnounce (zs 128),
    .bandStartMessage (zs 128), .bandStopMessage (zs 128), .bandStateMessage (zs 128), .breakMessage (zs 128), .statusMessage (zs 128),
    .delayFigMessage (zs 128), .joinReq 1 (zs 128), .joinAck (zs 128), .leaveMessage (zs 128), .testMessage 1 (zs 128),
    .sumSatWindow 7 default default, .sumBackoffDecay 7, .unitUnreachable 7, .bandResumeAfterRejoin 63, .bridgeStartComplete 63,
    .followerAnswerTimeout 63, .startNoCellTimeout 63, .cellDetectorRun 63 default, .noCell 63, .tddMessageTimeout 63, .tddVerifyStart 63,
    .learningWindowEnd 63 default, .restartBackoffExpiry 63, .bandRungReset 63, .scanSegmentDone 7 65535 default, .surveyJobComplete 7 65535 default,
    .surveyBoundExpiry 7 65535, .probeEnd 7 65535 default, .sealRecompute (zs 4), .freezeExpiry 8] : List Instr)
    (fun i => i.wf) = true := by decide +kernel
theorem smoke_limits_3 : List.all
    ([.colophonFlush 8, .compaction 1 default, .fwStageComplete 7 65535, .selftestComplete 7 65535 default default default default default,
    .tapBypass 31, .dbgUnlock 4294967295 (zs 16), .dbgAccess 15 15 18446744073709551615, .pathDelayTimeout 1] : List Instr)
    (fun i => i.wf) = true := by decide +kernel
theorem test_noTableBits : (decodeTableWord 0 0).isNone && (decodeTableWord 64 1).isNone = true := by decide +kernel

end Sys2Proof.Tests

end
end

section
/-! SUPPORT. How a host command that starts an NVM write ends, and what a permit's end, the scheduler's queues and a lone request
come to. -/

namespace Sys2Proof.Machine

/-! ### The ends of a host command (R134, R145) -/

/-- A command that changes only the device answers the state with the device its meaning gives. -/
theorem State.act_of_eq {s : State} {f : Dev → Dev} {e : Dev} (h : f s.dev = e) : s.act f = .next (s.on e) := by
  subst h
  rfl

/-- And the device of its answer is the one its meaning gives. -/
theorem State.act_eq_on {s : State} {f : Dev → Dev} {e : Dev} (h : s.act f = .next (s.on e)) : f s.dev = e :=
  congrArg State.dev (Host.Outcome.next.inj h)

/-- A meaning that refuses and leaves the device as it was: its response is all that changes. -/
theorem act_refuses {c : CmdSpec} {r : Request} {s : State} {rep : Reply} (h : Takes c s r)
    (ha : c.run { s.dev with cause := some (r.slot, r.ref) } r = refuse { s.dev with cause := some (r.slot, r.ref) } rep)
    (hs : rep.status ≠ .ok ∧ rep.status ≠ .accepted) (hb : rep.blk = []) :
    s.act (hostCmd c r) = .next (s.on (s.dev.respond r c.opcode rep)) := by
  rw [act_takes h, CmdSpec.effect_refuses ha hs hb]
  rfl

/-- A meaning that answers OK and starts an NVM write that is not barred: the response waits for the journal. -/
theorem act_holdsBack {c : CmdSpec} {r : Request} {s : State} {d : Dev} {body : List Byte} (h : Takes c s r)
    (hn : c.nvm s.dev r = true) (hbar : s.dev.nvmBar = none)
    (ha : c.run { s.dev with cause := some (r.slot, r.ref) } r = { dev := d, reply := okBody body }) :
    s.act (hostCmd c r) = .next (s.on (({ d with cause := s.dev.cause } : Dev).holdBack r c.opcode (okBody body) c.shared)) := by
  rw [act_takes h]
  simp [CmdSpec.effect, ha, hn, hbar, okBody, Dev.holdBack, State.on]

/-! ### Permits -/

/-- Where no band of the slot is configured and no survey job is open, the end of a permit touches nothing (R61, R492). -/
theorem Dev.permitEnded_idle {d : Dev} {slot : Nat} (h : Nat) (hb : d.slotBands slot = []) (hj : d.sv.jobs = []) :
    d.permitEnded slot h = d := by
  simp [Dev.permitEnded, hb, Dev.endProbesOf, Dev.endSurveys, hj]

/-- The slots whose permits have changed are below 8. -/
theorem Dev.permitChanges_slot_lt {d : Dev} {c : Nat × Nat × Permit × PermitState} (hc : c ∈ d.permitChanges) : c.1 < 8 := by
  simp only [Dev.permitChanges, List.mem_flatten, List.mem_map, List.mem_range] at hc
  obtain ⟨_, ⟨slot, hlt, rfl⟩, hc⟩ := hc
  obtain ⟨p, -, hp⟩ := List.mem_filterMap.1 hc
  split at hp
  · cases hp
  · cases hp
    exact hlt

/-- A permit stored and its event change no parameter but PERMITS_USED and the loss counters. -/
theorem Dev.permitMoved_get (d : Dev) (k h : Nat) (p : Option Permit) (old new pid id i : Nat) (hk : k < 8) (hi : i < 65536)
    (hid : id ≠ pPermitsUsed ∧ id ≠ pLogLost ∧ id ≠ pMetroOverflow) :
    ((d.setPermit k h p).permitEvent k h old new pid).get id i = d.get id i := by
  rw [Dev.permitEvent, Dev.raiseSlot, Dev.raiseAs_same _ _ _ _ _ _ _ _ hid.2 hi, Dev.setPermit,
    Dev.get_setNv_ne _ _ _ _ _ _ (fun e => hid.1 (parKey_inj hi (by omega) e).1)]
  rfl

theorem Dev.permitMoved_sv (d : Dev) (k h : Nat) (p : Option Permit) (old new pid : Nat) :
    ((d.setPermit k h p).permitEvent k h old new pid).sv = d.sv := by
  rw [Dev.permitEvent, Dev.raiseSlot, Dev.raiseAs_frame]
  rfl

/-- The bands of a slot are what they were after a permit is stored and its event raised. -/
theorem Dev.permitMoved_slotBands (d : Dev) (k h : Nat) (p : Option Permit) (old new pid : Nat) (hk : k < 8) :
    ((d.setPermit k h p).permitEvent k h old new pid).slotBands k = d.slotBands k := by
  unfold Dev.slotBands
  refine List.filter_congr fun b hb => ?_
  obtain ⟨i, hi, rfl⟩ := List.mem_map.1 hb
  have hlt : bandIx k i < 65536 := by
    have := List.mem_range.1 hi
    unfold bandIx
    omega
  have hstate : ((d.setPermit k h p).permitEvent k h old new pid).bandState (bandIx k i) = d.bandState (bandIx k i) :=
    congrArg Int.toNat (Dev.permitMoved_get d k h p old new pid pBandState _ hk hlt (by decide))
  rw [hstate]

/-! ### The scheduler's queues (R69, R70) -/

/-- Each slot stands once in the rotation. -/
theorem rotation_filter_slot (n : Nat) {k : Nat} (hk : k < 8) : (rotation n).filter (fun s => k = s) = [k] := by
  have hn : rotation n = rotation (n % 7) := by simp [rotation]
  have hall : ∀ j < 7, ∀ k < 8, (rotation j).filter (fun s => k = s) = [k] := by decide
  rw [hn]
  exact hall _ (Nat.mod_lt _ (by decide)) k hk

/-- A lone request comes once out of the rotation order. -/
theorem rotation_lone (n : Nat) {q : SchedReq} (hq : q.slot < 8) :
    (rotation n).flatMap (fun s => [q].filter (fun q => q.slot = s)) = [q] := by
  have key : ∀ l : List Nat, l.flatMap (fun s => [q].filter (fun q => q.slot = s)) = (l.filter (fun s => q.slot = s)).map (fun _ => q) := by
    intro l
    induction l with
    | nil => rfl
    | cons s l ih => by_cases h : q.slot = s <;> simp_all
  rw [key, rotation_filter_slot n hq, List.map_singleton]

theorem Dev.classifyAll_lone (d : Dev) {q : SchedReq} (hg : q.granted = false) :
    d.classifyAll [q] = ([(d.classify q).1], (d.classify q).2) := by
  simp [Dev.classifyAll, hg]

theorem Dev.nextOf_empty {d : Dev} (h : d.sched.queue = []) (res : Resource) : d.nextOf res = none := by
  simp [Dev.nextOf, h]

theorem Dev.nextOf_other {d : Dev} {q : SchedReq} (h : d.sched.queue = [q]) {res : Resource} (hr : q.res ≠ res) : d.nextOf res = none := by
  simp [Dev.nextOf, h, hr]

/-- A lone request is next where it is within share or the spare capacity holds it. -/
theorem Dev.nextOf_lone {d : Dev} {q : SchedReq} (h : d.sched.queue = [q]) (hg : q.granted = false) :
    d.nextOf q.res = if q.within = true ∨ q.need ≤ d.spare q.res then some q else none := by
  cases hw : q.within <;> simp [Dev.nextOf, h, hg, hw]

/-- With nothing to serve, serving changes nothing. -/
theorem Dev.serve_none {d : Dev} {res : Resource} (h : d.nextOf res = none) (n : Nat) : Dev.serve n res d = d := by
  cases n with
  | zero => rfl
  | succ n => simp [Dev.serve, h]

theorem Dev.serveAll_empty {d : Dev} (h : d.sched.queue = []) : d.serveAll = d := by
  simp [Dev.serveAll, Dev.serve_none (Dev.nextOf_empty h _)]

/-- A lone NVM request is granted and leaves the queue where it is within share or the spare capacity holds it; else it waits (R70). -/
theorem Dev.serveAll_lone {d : Dev} {q : SchedReq} (h : d.sched.queue = [q]) (hr : q.res = .nvm) (hg : q.granted = false) :
    d.serveAll = if q.within = true ∨ q.need ≤ d.spare .nvm then d.grant q else d := by
  have hother : ∀ res n, q.res ≠ res → Dev.serve n res d = d := fun res n hres => Dev.serve_none (Dev.nextOf_other h hres) n
  have hscan := hother .scan 1 (by simp [hr])
  have hcourier := hother .courier 1 (by simp [hr])
  have hnext := Dev.nextOf_lone h hg
  rw [hr] at hnext
  by_cases hserved : q.within = true ∨ q.need ≤ d.spare .nvm
  · have hempty : (d.grant q).sched.queue = [] := by
      cases hw : q.within <;> simp [Dev.grant, hr, hw, h]
    have hnvm : Dev.serve 1 .nvm d = d.grant q := by simp [Dev.serve, hnext, hserved]
    simp [Dev.serveAll, h, hscan, hcourier, hnvm, Dev.serve_none (Dev.nextOf_empty hempty _), hserved]
  · have hnvm : Dev.serve 1 .nvm d = d := Dev.serve_none (by rw [hnext, if_neg hserved]) 1
    simp [Dev.serveAll, h, hscan, hcourier, hnvm, hother .probe 1 (by simp [hr]), hserved]

end Sys2Proof.Machine
end

section
/-! PROOF. The completions of SLOT_PROVISION and SLOT_REVOKE: O10 and O11 fail as stated. -/

namespace Sys2Proof.Machine

/-! ### A slot out of range (O10, O11)

The statements of SLOT_PROVISION_COMPLETE and SLOT_REVOKE_COMPLETE hold the slot of the long command to no bound, where the
block has eight (`Instr.wf`). The parameter store's keys tell parameters apart for indices below 65,536 only (`parKey_inj`); past
that, LONG_CMDS_OPEN of a slot that does not exist lies on SLOT_STATE of one that does (`parKey_straySlot`), and the completion, which writes
LONG_CMDS_OPEN last, clears the state just set. -/

/-- The slot that does not exist whose LONG_CMDS_OPEN has the key of SLOT_STATE of slot `k`. -/
def straySlot (k : Nat) : Nat := (pSlotState - pLongCmdsOpen) * 65536 + k

theorem parKey_straySlot (k : Nat) : parKey pLongCmdsOpen (straySlot k) = parKey pSlotState k := by
  simp only [parKey, straySlot, pLongCmdsOpen, pSlotState]
  omega

/-- A full provisioning record of S2, with no keys and no shares. -/
def strayRecord : List Byte := e8 2 ++ zs 31 ++ e8 9 ++ zs 287

/-- A SLOT_PROVISION of S2, open in a slot that does not exist. -/
def strayProvision : LongCmd := { slot := straySlot 2, ref := 7, opcode := 0x0201, bound := 250, blk := strayRecord }

/-- A SLOT_REVOKE of S1, open in a slot that does not exist. -/
def strayRevoke : LongCmd := { slot := straySlot 1, ref := 7, opcode := 0x0202, bound := 100, body := e8 1 ++ zs 3 }

/-- The block with one long command open, S1 ACTIVE. -/
def withStray (l : LongCmd) : State :=
  { dev := { par := ParStore.set [] pSlotState 1 2, host := { longs := [l] } } }

/-- The completion leaves S2 EMPTY, not in ENROL. -/
theorem strayProvision_unsets_state : (slotProvisionComplete (straySlot 2) 7 (withStray strayProvision).dev).get pSlotState 2 = 0 := by
  decide +kernel

/-- The completion leaves S1 EMPTY, not REVOKED. -/
theorem strayRevoke_unsets_state : (slotRevokeComplete (straySlot 1) 7 (withStray strayRevoke).dev).get pSlotState 1 = 0 := by
  decide +kernel

end Sys2Proof.Machine

open Sys2Proof Sys2Proof.Machine

/-- Refutes O10: the statement bounds no slot, and the completion of S2's provisioning for the slot 33,488,898, which does not exist,
writes its LONG_CMDS_OPEN over S2's SLOT_STATE, which reads 0 and not 1. -/
theorem not_slotProvisioned : ¬ Obligations.SlotProvisioned := by
  unfold Obligations.SlotProvisioned
  rintro ⟨-, hcompletes⟩
  obtain ⟨-, htakes⟩ := hcompletes (withStray strayProvision) (straySlot 2) 7 strayProvision (by decide +kernel) rfl rfl
  obtain ⟨e, he, hstate, -⟩ := htakes (by decide +kernel) (by decide +kernel) (by decide +kernel) (by decide +kernel) (by decide +kernel)
    (by decide +kernel)
  have hdev : slotProvisionComplete (straySlot 2) 7 (withStray strayProvision).dev = e := State.act_eq_on he
  have hkept : e.get pSlotState 2 = 1 := hstate
  rw [← hdev, strayProvision_unsets_state] at hkept
  exact absurd hkept (by decide)

/-- Refutes O11: the statement bounds no slot, and the completion of S1's revocation for the slot 33,488,897, which does not exist,
writes its LONG_CMDS_OPEN over S1's SLOT_STATE, which reads 0 and not 3. -/
theorem not_slotRevoked : ¬ Obligations.SlotRevoked := by
  unfold Obligations.SlotRevoked
  rintro ⟨-, hcompletes⟩
  obtain ⟨-, htakes⟩ := hcompletes (withStray strayRevoke) (straySlot 1) 7 strayRevoke (by decide +kernel) (by decide +kernel)
  obtain ⟨e, he, hstate, -⟩ := htakes (by decide +kernel) (by decide +kernel) (by decide +kernel) (by decide +kernel) (by decide +kernel)
    (by decide +kernel)
  have hdev : slotRevokeComplete (straySlot 1) 7 (withStray strayRevoke).dev = e := State.act_eq_on he
  have hkept : e.get pSlotState 1 = 3 := hstate
  rw [← hdev, strayRevoke_unsets_state] at hkept
  exact absurd hkept (by decide)

end

section
/-! PROOF. The checks of PERMIT_LOAD: O13. -/

namespace Sys2Proof.Machine

/-! ### PERMIT_LOAD (Table TI-4) -/

/-- The body of a refused PERMIT_LOAD: band count and ID only once the fields have been judged (Table TI-9). -/
def permitRefused (b : List Byte) (st : Status) (why : Nat) : Reply :=
  { status := st, body := permitResult 255 255 why (if why < 7 then 0 else fld b 1 1) (if why < 7 then 0 else fld b 40 4) }

/-- PERMIT_LOAD of a permit that fails a step of Table TI-4 answers that step's status and reason, and changes nothing. -/
theorem permitLoad_refused {s : State} {r : Request} {st : Status} {why : Nat} (h : Takes cmdPermitLoad s r)
    (hv : s.dev.verifyPermit r.slot r.blk = .error (st, why)) (hs : st ≠ .ok ∧ st ≠ .accepted) :
    exec (.permitLoad r) s = .next (s.on (s.dev.respond r 0x0203 (permitRefused r.blk st why))) := by
  refine act_refuses h ?_ hs rfl
  have hv' : Dev.verifyPermit { s.dev with cause := some (r.slot, r.ref) } r.slot r.blk = .error (st, why) := hv
  simp only [cmdPermitLoad, hv']
  rfl

end Sys2Proof.Machine

open Sys2Proof Sys2Proof.Machine

/-- Settles O13: each step of Table TI-4 is one branch of the permit's verification, and the reply is that branch's. -/
theorem permitChecksInOrder : Obligations.PermitChecksInOrder := by
  unfold Obligations.PermitChecksInOrder
  intro s r h
  have refused : ∀ {st why}, s.dev.verifyPermit r.slot r.blk = .error (st, why) → st ≠ .ok ∧ st ≠ .accepted →
      exec (.permitLoad r) s = .next (s.on (s.dev.respond r 0x0203 (permitRefused r.blk st why))) := permitLoad_refused h
  refine ⟨fun hsize => ?_, fun hsize hver => ?_, fun hsize hver hbound => ?_, fun hsize hver hbound hkey => ?_,
    fun k hsize hver hbound hkey => ⟨fun hsig => ?_, fun hsig => ⟨fun hf => ?_, fun hf hexp => ?_, fun hf hexp hplace => ?_⟩⟩⟩
  · have hlen : r.blk.length ≠ 112 + 64 * fld r.blk 1 1 ∨ 1024 < r.blk.length := by omega
    exact refused (by simp [Dev.verifyPermit, hlen]) (by decide)
  all_goals
    obtain ⟨hlen, hmax⟩ := hsize
    have hmax' : ¬ 1024 < r.blk.length := by omega
  · exact refused (by simp [Dev.verifyPermit, ← hlen, hmax', hver]) (by decide)
  · have hother : fld r.blk 2 1 ≠ r.slot ∨ slice r.blk 12 16 ≠ s.dev.factory.serial := Classical.not_and_iff_not_or_not.1 hbound
    exact refused (by simp [Dev.verifyPermit, ← hlen, hmax', hver, hother]) (by decide)
  · exact refused (by simp [Dev.verifyPermit, ← hlen, hmax', hver, hbound, hkey]) (by decide)
  · exact refused (by simp [Dev.verifyPermit, ← hlen, hmax', hver, hbound, hkey, hsig]) (by decide)
  · exact refused (by simp [Dev.verifyPermit, ← hlen, hmax', hver, hbound, hkey, hsig, hf]) (by decide)
  · exact refused (by simp [Dev.verifyPermit, ← hlen, hmax', hver, hbound, hkey, hsig, hf, hexp]) (by decide)
  · exact refused (by simp [Dev.verifyPermit, ← hlen, hmax', hver, hbound, hkey, hsig, hf, hexp, hplace]) (by decide)

end

section
/-! PROOF. The scheduler's tick and frame: O39. -/

namespace Sys2Proof.Machine

/-! ### A tick of the scheduler (R69, R70) -/

/-- A tick before READY, or without VCORE, leaves everything. -/
theorem schedulerTick_asleep {d : Dev} (h : d.powered = false ∨ d.pwr.phase ≠ .ready) : schedulerTick d = d := by
  rcases h with h | h
  · have hs : d.pwr.state ≠ .active ∧ d.pwr.state ≠ .sleep := by simpa [Dev.powered] using h
    simp [schedulerTick, hs.1, hs.2]
  · simp [schedulerTick, h]

/-- Classifying a request leaves the queue. -/
theorem Dev.classify_queue (d : Dev) (q : SchedReq) : (d.classify q).2.sched.queue = d.sched.queue := by
  unfold Dev.classify
  split
  · rfl
  · split <;> rfl

/-- An NVM request that its slot's share holds is charged to the share (R70). -/
theorem Dev.classify_nvm_within {d : Dev} {q : SchedReq} (hr : q.res = .nvm) (h : q.need ≤ d.sched.left .nvm q.slot) :
    d.classify q = ({ q with within := true },
      { d with sched := { d.sched with used := upd d.sched.used (16 + q.slot) (fun v => v + q.need) } }) := by
  simp [Dev.classify, hr, h, schedIx, Resource.kind]

/-- An NVM request past its slot's share is beyond it, and charged to nothing yet (R70). -/
theorem Dev.classify_nvm_beyond {d : Dev} {q : SchedReq} (hr : q.res = .nvm) (h : d.sched.left .nvm q.slot < q.need) :
    d.classify q = ({ q with within := false }, d) := by
  simp [Dev.classify, hr, Nat.not_le.2 h]

/-- The NVM once it may write what a request asked for (R145). -/
def Nvm.letWrite (n : Nvm) (q : SchedReq) : Nvm :=
  { n with queue := n.queue.map (fun e => if e.hostWrite && !e.granted && e.slot = q.slot && e.ref = q.ref then { e with granted := true } else e) }

section LoneRequest

/-! A lone request of an idle queue, in a device that runs. -/

variable {d : Dev} {q : SchedReq} (hp : d.powered = true) (hr : d.pwr.phase = .ready) (hf : d.sched.fresh = [q])
  (hq : d.sched.queue = []) (hs : q.slot < 8) (hg : q.granted = false)
include hp hr hf hq hs hg

/-- It is classified, joins the queue and is served if it can be. -/
theorem schedulerTick_lone {e : Dev} {x : SchedReq} (hc : d.classify q = (x, e)) :
    schedulerTick d = ({ e with sched := { e.sched with fresh := [], queue := [x] } } : Dev).serveAll := by
  have hon : ((d.pwr.state ≠ .active && d.pwr.state ≠ .sleep) || d.pwr.phase ≠ .ready) = false := by
    simp only [Dev.powered, Bool.or_eq_true, decide_eq_true_eq] at hp
    rcases hp with hp | hp <;> simp [hp, hr]
  have hjoin : [x].filter (·.within) ++ [x].filter (fun y => !y.within) = [x] := by
    cases hw : x.within <;> simp [hw]
  have he : e.sched.queue = [] := by
    rw [← hq, ← Dev.classify_queue d q, hc]
  simp only [schedulerTick, hon, hf, rotation_lone _ hs, Dev.classifyAll_lone d hg, hc, hjoin, he, List.nil_append]
  rfl

/-- An NVM request within its slot's share is granted at the tick, and charged to the share. -/
theorem schedulerTick_within (hn : q.res = .nvm) (hw : q.need ≤ d.sched.left .nvm q.slot) :
    schedulerTick d = { d with
      nvm := d.nvm.letWrite q, sched := { d.sched with fresh := [], used := upd d.sched.used (16 + q.slot) (fun v => v + q.need) } } := by
  rw [schedulerTick_lone hp hr hf hq hs hg (Dev.classify_nvm_within hn hw),
    Dev.serveAll_lone (q := { q with within := true }) rfl hn hg, if_pos (Or.inl rfl)]
  simp [Dev.grant, hn, Nvm.letWrite, hq]

/-- Past the share it is granted where the spare capacity of the frame holds it, and charged to that. -/
theorem schedulerTick_spare (hn : q.res = .nvm) (hw : d.sched.left .nvm q.slot < q.need)
    (hsp : q.need ≤ d.spare .nvm) :
    schedulerTick d = { d with
      nvm := d.nvm.letWrite q, sched := { d.sched with fresh := [], beyondUsed := upd d.sched.beyondUsed 2 (fun v => v + q.need) } } := by
  rw [schedulerTick_lone hp hr hf hq hs hg (Dev.classify_nvm_beyond hn hw),
    Dev.serveAll_lone (q := { q with within := false }) rfl hn hg]
  refine (if_pos (Or.inr hsp)).trans ?_
  simp [Dev.grant, hn, Nvm.letWrite, hq, Resource.kind]

/-- Where the spare capacity does not hold it either, it waits, ungranted. -/
theorem schedulerTick_waits (hn : q.res = .nvm) (hw : d.sched.left .nvm q.slot < q.need)
    (hsp : d.spare .nvm < q.need) :
    schedulerTick d = { d with sched := { d.sched with fresh := [], queue := [{ q with within := false }] } } := by
  have hbar : ¬ (false = true ∨ q.need ≤ d.spare .nvm) := by simp [hsp]
  rw [schedulerTick_lone hp hr hf hq hs hg (Dev.classify_nvm_beyond hn hw),
    Dev.serveAll_lone (q := { q with within := false }) rfl hn hg]
  exact if_neg hbar

end LoneRequest

/-! ### The start of a frame (R68, R538) -/

/-- A frame that starts with nothing waiting: the device's airtime reserve aside, the reservations and the allotments renew. -/
theorem frameStart_idle {d : Dev} (hq : d.sched.queue = []) :
    ∃ c : Courier, frameStart d =
      { ({ d with cour := c } : Dev).renewReserves with colo := d.colo.map (fun p => { p with allotUsed := 0 }) } := by
  obtain ⟨c, hc⟩ : ∃ c : Courier, (if d.eu && !decide (d.time / secU 60 ≠ (d.time - secU 1) / secU 60) then d
      else d.updCour (fun c => { c with reserve := d.getN pCourierDeviceReserve })) = { d with cour := c } := by
    split
    · exact ⟨d.cour, rfl⟩
    · exact ⟨_, rfl⟩
  refine ⟨c, ?_⟩
  unfold frameStart
  dsimp only
  rw [hc]
  have hempty : (({ d with cour := c } : Dev).renewReserves).sched.queue = [] := hq
  simp only [hempty, Dev.classifyAll]
  split
  · rw [Dev.serveAll_empty rfl, ← hempty]
  · rw [← hempty]

theorem nth_append_left {l m : List Nat} {i : Nat} (h : i < l.length) : nth (l ++ m) i = nth l i := by
  simp only [nth, List.getD_eq_getElem?_getD, List.getElem?_append_left h]

theorem nth_append_right {l m : List Nat} {n : Nat} (h : l.length = n) (i : Nat) : nth (l ++ m) (n + i) = nth m i := by
  simp only [nth, List.getD_eq_getElem?_getD, ← h, List.getElem?_append_right (Nat.le_add_right _ _), Nat.add_sub_cancel_left]

theorem nth_map_range (f : Nat → Nat) {n k : Nat} (hk : k < n) : nth ((List.range n).map f) k = f k := by
  simp only [nth, List.getD_eq_getElem?_getD, List.getElem?_map, List.getElem?_range hk, Option.map_some, Option.getD_some]

/-- The reservations of a new frame by resource: SCAN, NVM and probe by the slots' shares in force (Table TI-5). -/
theorem Dev.renewReserves_reserve (d : Dev) {k : Nat} (hk : k < 8) :
    nth d.renewReserves.sched.reserve k = d.share k 1 * 4 ∧ nth d.renewReserves.sched.reserve (16 + k) = d.share k 3 * 400 / 1000 ∧
      nth d.renewReserves.sched.reserve (24 + k) = d.share k 4 * 4 := by
  have rows : d.renewReserves.sched.reserve = (List.range 8).map (d.reservation .scan) ++ (List.range 8).map (d.reservation .courier) ++
      (List.range 8).map (d.reservation .nvm) ++ (List.range 8).map (d.reservation .probe) := rfl
  have hlen : ∀ f : Nat → Nat, ((List.range 8).map f).length = 8 := fun f => by rw [List.length_map, List.length_range]
  rw [rows]
  refine ⟨?_, ?_, ?_⟩
  · rw [nth_append_left (by simp only [List.length_append, hlen]; omega), nth_append_left (by simp only [List.length_append, hlen]; omega),
      nth_append_left (by simp only [hlen]; omega), nth_map_range _ hk]
    rfl
  · rw [nth_append_left (by simp only [List.length_append, hlen]; omega), nth_append_right (by simp only [List.length_append, hlen]),
      nth_map_range _ hk]
    rfl
  · rw [nth_append_right (by simp only [List.length_append, hlen]), nth_map_range _ hk]
    rfl

end Sys2Proof.Machine

open Sys2Proof Sys2Proof.Machine

/-- Settles O39, from what a tick makes of a lone request and from a frame that starts with nothing waiting. -/
theorem sharesServedByTickAndFrame : Obligations.SharesServedByTickAndFrame := by
  unfold Obligations.SharesServedByTickAndFrame
  refine fun s => ⟨fun h => ?_, fun q hp hr hf hq hn hs hg => ⟨fun hw => ?_, fun hw hsp => ?_, fun hw hsp => ?_⟩, fun hq => ?_⟩
  · exact State.act_of_eq (schedulerTick_asleep h)
  · exact State.act_of_eq (schedulerTick_within hp hr hf hq hs hg hn hw)
  · exact State.act_of_eq (schedulerTick_spare hp hr hf hq hs hg hn hw hsp)
  · exact State.act_of_eq (schedulerTick_waits hp hr hf hq hs hg hn hw hsp)
  · obtain ⟨c, hc⟩ := frameStart_idle hq
    exact ⟨_, State.act_of_eq hc, hq, rfl, rfl, rfl,
      fun k hk => Dev.renewReserves_reserve ({ s.dev with cour := c } : Dev) hk, rfl, rfl, rfl⟩

end

section
/-! PROOF. Permits stored, read, removed and judged: O14. -/

namespace Sys2Proof.Machine

/-! ### Permits stored, read, removed and judged (R58 to R60, R82) -/

/-- PERMIT_LOAD into a free entry: the permit, its event from 255, and the response held back for the journal. -/
theorem permitLoad_stores {s : State} {r : Request} {h : Nat} (ht : Takes cmdPermitLoad s r) (hbar : s.dev.nvmBar = none)
    (hv : s.dev.verifyPermit r.slot r.blk = .ok h) (hfree : nth (s.dev.slotN r.slot).permits h = none) {p : Permit}
    (hp : p = permitOf r.blk s.dev.effTime) :
    exec (.permitLoad r) s = .next (s.on ((s.dev.caused r (fun d =>
      (d.setPermit r.slot h (some p)).permitEvent r.slot h 255 p.state.code p.permitId)).holdBack r 0x0203
        (okBody (permitResult h p.state.code 0 p.bands.length p.permitId)) false)) := by
  subst hp
  refine act_holdsBack ht rfl hbar ?_
  have hv' : Dev.verifyPermit { s.dev with cause := some (r.slot, r.ref) } r.slot r.blk = .ok h := hv
  have hfree' : nth (Dev.slotN { s.dev with cause := some (r.slot, r.ref) } r.slot).permits h = none := hfree
  simp only [cmdPermitLoad, hv', hfree']
  rfl

/-- PERMIT_STATUS answers from the entry and changes nothing. -/
theorem permitStatus_reads {s : State} {r : Request} (ht : Takes cmdPermitStatus s r) :
    exec (.permitStatus r) s = .next (s.on (s.dev.respond r 0x0204 (cmdPermitStatus.run s.dev r).reply)) :=
  act_reads ht rfl rfl (by simp [cmdPermitStatus, okBody]) (by simp [cmdPermitStatus, okBody])

/-- PERMIT_REMOVE of a permit in use is refused. -/
theorem permitRemove_inUse {s : State} {r : Request} {p : Permit} (ht : Takes cmdPermitRemove s r)
    (hp : nth (s.dev.slotN r.slot).permits (rq r 0 1) = some p) (hu : s.dev.permitInUse r.slot (rq r 0 1) p = true) :
    exec (.permitRemove r) s = .next (s.on (s.dev.respond r 0x0209 (fail .state))) := by
  refine act_refuses ht ?_ (by decide) rfl
  have hp' : nth (Dev.slotN { s.dev with cause := some (r.slot, r.ref) } r.slot).permits (rq r 0 1) = some p := hp
  have hu' : Dev.permitInUse { s.dev with cause := some (r.slot, r.ref) } r.slot (rq r 0 1) p = true := hu
  simp only [cmdPermitRemove, hp', hu', if_true]

/-- PERMIT_REMOVE of a permit nothing uses empties the entry, with its event, and waits for the journal. -/
theorem permitRemove_empties {s : State} {r : Request} {p : Permit} (ht : Takes cmdPermitRemove s r)
    (hp : nth (s.dev.slotN r.slot).permits (rq r 0 1) = some p) (hu : s.dev.permitInUse r.slot (rq r 0 1) p = false)
    (hbar : s.dev.nvmBar = none) :
    exec (.permitRemove r) s = .next (s.on ((s.dev.caused r (fun d =>
      (d.setPermit r.slot (rq r 0 1) none).permitEvent r.slot (rq r 0 1) p.state.code 255 p.permitId)).holdBack r 0x0209
        (okBody (e8 (rq r 0 1))) false)) := by
  refine act_holdsBack ht rfl hbar ?_
  have hp' : nth (Dev.slotN { s.dev with cause := some (r.slot, r.ref) } r.slot).permits (rq r 0 1) = some p := hp
  have hu' : Dev.permitInUse { s.dev with cause := some (r.slot, r.ref) } r.slot (rq r 0 1) p = false := hu
  simp [cmdPermitRemove, hp', hu']

theorem permitEvaluation_settled {d : Dev} (h : d.permitChanges = []) : permitEvaluation d = d := by
  simp [permitEvaluation, h]

/-- One changed permit takes its state, with its event; an expired one ends nothing where nothing uses the slot's permits. -/
theorem permitEvaluation_lone {d : Dev} {k h : Nat} {p : Permit} {st : PermitState} (hc : d.permitChanges = [(k, h, p, st)])
    (hidle : st = .expired → d.slotBands k = [] ∧ d.sv.jobs = []) :
    permitEvaluation d = (d.setPermit k h (some { p with state := st })).permitEvent k h p.state.code st.code p.permitId := by
  have hk : k < 8 := Dev.permitChanges_slot_lt (d := d) (c := (k, h, p, st)) (by simp [hc])
  by_cases hst : st = .expired
  · obtain ⟨hb, hj⟩ := hidle hst
    simp only [permitEvaluation, hc, hst, List.foldl_cons, List.foldl_nil, List.filter_cons, List.filter_nil, decide_true, if_true]
    exact Dev.permitEnded_idle h (by rw [Dev.permitMoved_slotBands _ _ _ _ _ _ _ hk, hb]) (by rw [Dev.permitMoved_sv, hj])
  · simp [permitEvaluation, hc, hst]

end Sys2Proof.Machine

open Sys2Proof Sys2Proof.Machine

/-- Settles O14, command by command. -/
theorem permitsLoadedReadAndRemoved : Obligations.PermitsLoadedReadAndRemoved := by
  unfold Obligations.PermitsLoadedReadAndRemoved
  refine fun s r => ⟨fun h ht hbar hv hfree => ⟨rfl, ?_⟩, fun ht => ?_,
    fun p ht hp => ⟨permitRemove_inUse ht hp, permitRemove_empties ht hp⟩, fun hc => ?_, fun k h p st hc hidle => ?_⟩
  · exact permitLoad_stores ht hbar hv hfree rfl
  · exact permitStatus_reads ht
  · exact State.act_of_eq (permitEvaluation_settled hc)
  · exact State.act_of_eq (permitEvaluation_lone hc hidle)

end

section
/-! SUPPORT. What a host command that answers at once comes to, what a response leaves, and what raising an event leaves and makes. -/

namespace Sys2Proof.Machine

/-! ### The ends of a host command (R132, R134) -/

/-- A command that leaves the device as it was leaves the state. -/
theorem State.act_unchanged {s : State} {f : Dev → Dev} (h : f s.dev = s.dev) : s.act f = .next s :=
  State.act_of_eq h

/-- A meaning that answers at once, with no BLK data: its device, its response, and what follows the writing of it. -/
theorem act_answers {c : CmdSpec} {r : Request} {s : State} {d : Dev} {rep : Reply} {after : AfterWrite} (h : Takes c s r)
    (ha : c.run { s.dev with cause := some (r.slot, r.ref) } r = { dev := d, reply := rep, after := after })
    (hn : c.nvm s.dev r = false) (hs : rep.status ≠ .accepted) (hb : rep.blk = []) :
    s.act (hostCmd c r) = .next (s.on (({ d with cause := s.dev.cause } : Dev).respond r c.opcode rep after)) := by
  rw [act_takes h, CmdSpec.effect_answers ha hn hs rfl rfl (by simp [hb])]
  rfl

/-- A meaning that only answers: what follows the writing of its response is still to come, and nothing else changes. -/
theorem act_onlyAnswers {c : CmdSpec} {r : Request} {s : State} {rep : Reply} {after : AfterWrite} (h : Takes c s r)
    (ha : c.run { s.dev with cause := some (r.slot, r.ref) } r =
      { dev := { s.dev with cause := some (r.slot, r.ref) }, reply := rep, after := after })
    (hn : c.nvm s.dev r = false) (hs : rep.status ≠ .accepted) (hb : rep.blk = []) :
    s.act (hostCmd c r) = .next (s.on (s.dev.respond r c.opcode rep after)) :=
  act_answers (d := { s.dev with cause := some (r.slot, r.ref) }) h ha hn hs hb

/-- An element of a fixed collection that was changed reads as changed. -/
theorem nth_upd_same {α : Type} [Inhabited α] {l : List α} {i : Nat} (f : α → α) (h : i < l.length) :
    nth (upd l i f) i = f (nth l i) := by
  simp [nth, upd, List.getD_eq_getElem?_getD, h]

/-! ### What a response leaves -/

@[simp] theorem Dev.respond_get (d : Dev) (r : Request) (op : Nat) (rep : Reply) (w : AfterWrite) (id i : Nat) :
    (d.respond r op rep w).get id i = d.get id i := rfl

@[simp] theorem Dev.respond_slot (d : Dev) (r : Request) (op : Nat) (rep : Reply) (w : AfterWrite) (k : Nat) :
    (d.respond r op rep w).slot k = d.slot k := rfl

theorem Dev.respond_outbox (d : Dev) (r : Request) (op : Nat) (rep : Reply) (w : AfterWrite) :
    (d.respond r op rep w).host.outbox = d.host.outbox ++ [answer r op rep w] := rfl

/-- A change that a request causes reads as the change leaves the marked device: only the mark itself is put back. -/
theorem Dev.caused_get (d : Dev) (r : Request) (f : Dev → Dev) (id i : Nat) :
    (d.caused r f).get id i = (f { d with cause := some (r.slot, r.ref) }).get id i := rfl

theorem Dev.caused_slot (d : Dev) (r : Request) (f : Dev → Dev) (k : Nat) :
    (d.caused r f).slot k = (f { d with cause := some (r.slot, r.ref) }).slot k := rfl

theorem Dev.caused_host (d : Dev) (r : Request) (f : Dev → Dev) :
    (d.caused r f).host = (f { d with cause := some (r.slot, r.ref) }).host := rfl

/-! ### Events (R130, R195, R534) -/

/-- An event of a slot leaves the slots, and the entries that wait for a RSP ring. -/
theorem Dev.raiseSlot_slots (d : Dev) (k code : Nat) (p : List Byte) : (d.raiseSlot k code p).slots = d.slots := by
  rw [Dev.raiseSlot, Dev.raiseAs_frame]

theorem Dev.raiseSlot_outbox (d : Dev) (k code : Nat) (p : List Byte) : (d.raiseSlot k code p).host.outbox = d.host.outbox := by
  rw [Dev.raiseSlot, Dev.raiseAs_frame]

theorem Partition.put_next (p : Partition) (part : Nat) (r : Record) : (p.put part r).next = p.next + 1 := by
  unfold Partition.put
  dsimp only
  split
  · rfl
  · split
    · rfl
    · split <;> rfl

/-- A record is staged where its partition is not frozen and its staging area has room (R537, R540); the metrology partition is
apart (R542). -/
theorem Partition.put_staged {p : Partition} {part : Nat} (r : Record) (hf : p.freeze = none) (hm : part ≠ 8)
    (hroom : p.staged.length < stageSize part) : (p.put part r).staged = p.staged ++ [r] := by
  simp [Partition.put, Partition.assign, hf, hm, Nat.not_le.2 hroom]

/-- The record an event raised now makes in a partition (Table CO-2). -/
def Dev.newRecord (d : Dev) (part agent code : Nat) (late : Bool) (p : List Byte) : Record :=
  { seq := (nth d.colo part).next, code := code, source := agent + 16 * d.getN pUnitNumber,
    flags := (nth d.colo part).freeze.isSome.toNat + 2 * late.toNat, payload := padTo 20 p }

/-- A record goes to its own partition. -/
theorem Dev.recordAs_colo (d : Dev) (part : Nat) (o : Bool) (agent : Nat) (late : Bool) (ts code : Nat) (p : List Byte) :
    (d.recordAs part o agent late ts code p).colo = upd d.colo part (fun x => x.put part (d.newRecord part agent code late p)) := by
  unfold Dev.recordAs
  dsimp only
  generalize (decide (part < 9) && (nth d.colo part).loses part) = b
  cases b <;> split <;> rfl

/-- At READY an event of a partition other than metrology makes its record there (R534). -/
theorem Dev.raiseAs_records {d : Dev} {part : Nat} (o : Bool) (agent code : Nat) (p : List Byte) (hr : d.pwr.phase = .ready)
    (hm : part ≠ 8) : d.raiseAs part o agent code p = d.recordAs part o agent false d.ts code p := by
  simp [Dev.raiseAs, hr, hm]

/-- Before READY an event waits for it, with no record (R195). -/
theorem Dev.raiseAs_latches {d : Dev} (part : Nat) (o : Bool) (agent code : Nat) (p : List Byte) (hr : d.pwr.phase ≠ .ready) :
    d.raiseAs part o agent code p =
      { d with latched := d.latched ++ [{ ts := d.ts, part := part, onlyS0 := o, agent := agent, code := code, payload := p }] } := by
  simp [Dev.raiseAs, hr]

end Sys2Proof.Machine
end

section
/-! PROOF. The common checks and the table of opcodes: O1, O7, O8. -/

namespace Sys2Proof.Machine

/-! ### The common checks (Table CM-4) -/

/-- Steps 1 to 3 pass: the tag is allowed, and a tagged request has a session that is full or need not be. -/
def CmdSpec.Admits (c : CmdSpec) (d : Dev) (r : Request) : Prop :=
  (r.tagged = true ∨ c.zeroTag = true) ∧
    (r.tagged = true → ∃ x, (d.slot r.slot).session = some x ∧ (x.full = true ∨ c.enrol = true))

/-- Step 4 fails: the body has another length, or BLK data is attached to a command without, or missing from one with. -/
def CmdSpec.misfits (c : CmdSpec) (r : Request) : Bool :=
  !c.len r.body || (if c.blkOptional r then false else r.blkAttached != c.blk)

/-- What is judged last: the limit of R149, then Table PS-4. -/
def CmdSpec.limits (c : CmdSpec) (d : Dev) (r : Request) : Option Reply :=
  if c.long && 8 ≤ d.longCount r.slot then some (fail .busy)
  else match c.notReady d r with
  | some ms => some (notYet ms)
  | none => none

/-- Steps 5 to 7, and what is judged after them. -/
def CmdSpec.fields (c : CmdSpec) (d : Dev) (r : Request) : Option Reply :=
  if c.lacks d r then some (fail .unsupported)
  else if c.denied d r then some (fail .denied)
  else match c.bad d r with
  | some o => some (failAt .badArg o)
  | none => c.limits d r

/-- A request that passes steps 1 to 3 is judged by its lengths, by what the chapter checks early (R143), then by its fields. -/
theorem CmdSpec.check_of_admits {c : CmdSpec} {d : Dev} {r : Request} (hop : c.opcode ≠ 0x0002) (ha : c.Admits d r) :
    c.check d r = if c.misfits r then some (fail .badLen) else (c.early d r).or (c.fields d r) := by
  obtain ⟨htag, hsess⟩ := ha
  refine (if_neg ?tagAllowed).trans <| (if_neg ?sessionOpen).trans <| (if_neg ?notHello).trans <| (if_neg ?sessionFull).trans ?laterSteps
  case tagAllowed => rcases htag with h | h <;> simp [h]
  case sessionOpen =>
    simp only [Bool.and_eq_true, not_and]
    intro ht
    obtain ⟨x, hx, -⟩ := hsess ht
    simp [hx]
  case notHello => simp [hop]
  case sessionFull =>
    simp only [Bool.and_eq_true, not_and]
    intro ⟨ht, hx'⟩
    obtain ⟨x, hx, hfull⟩ := hsess ht
    rw [hx] at hx'
    rcases hfull with h | h
    · simp [h] at hx'
    · simp [h]
  case laterSteps => cases c.early d r <;> rfl

/-- No command of the table has HELLO's opcode (Table CM-3). -/
theorem allCommands_opcode_ne_hello {c : CmdSpec} (hc : c ∈ allCommands) : c.opcode ≠ 0x0002 := by
  have hnone : 0x0002 ∉ allCommands.map (fun c => c.opcode) := by decide
  exact fun h => hnone (List.mem_map.2 ⟨c, hc, h⟩)

end Sys2Proof.Machine

open Sys2Proof Sys2Proof.Machine

/-- Settles O7: a request that fails steps 1 to 3 is refused at once, and any other is judged in the order of `check_of_admits`. -/
theorem commonChecksInOrder : Obligations.CommonChecksInOrder := by
  unfold Obligations.CommonChecksInOrder
  intro c d r hc
  have hop := allCommands_opcode_ne_hello hc
  refine ⟨fun ht hz => ?_, fun ht hs => ?_, fun x ht hx hfull henrol => ?_, fun htag hsess => ?_⟩
  · simp [CmdSpec.check, ht, hz]
  · simp [CmdSpec.check, ht, hs]
  · simp [CmdSpec.check, ht, hx, hop, hfull, henrol]
  rw [CmdSpec.check_of_admits hop ⟨htag, hsess⟩]
  have hfits : c.len r.body = true → (c.blkOptional r = true ∨ r.blkAttached = c.blk) → c.misfits r = false :=
    fun hlen hblk => by rcases hblk with h | h <;> simp [CmdSpec.misfits, hlen, h]
  refine ⟨fun hlen => ?_, fun hlen hopt hblk => ?_, fun rep hlen hblk he => ?_, fun hlen hblk he => ?_⟩
  · simp [CmdSpec.misfits, hlen]
  · simp [CmdSpec.misfits, hopt, hblk]
  · simp [hfits hlen hblk, he]
  simp only [hfits hlen hblk, he, Option.none_or, Bool.false_eq_true, if_false]
  refine ⟨fun hl => ?_, fun hl hd => ?_, fun o hl hd hb => ?_, fun hl hd hb => ?_⟩
  · simp [CmdSpec.fields, hl]
  · simp [CmdSpec.fields, hl, hd]
  · simp [CmdSpec.fields, hl, hd, hb]
  have hlast : c.fields d r = c.limits d r := by simp [CmdSpec.fields, hl, hd, hb]
  rw [hlast]
  refine ⟨fun hlong hn => ?_, fun hroom => ?_⟩
  · simp [CmdSpec.limits, hlong, hn]
  have hopen : ¬ (c.long && 8 ≤ d.longCount r.slot) = true := by
    rcases hroom with h | h <;> simp [h]
  exact ⟨fun ms hms => by simp [CmdSpec.limits, hopen, hms], fun hms => by simp [CmdSpec.limits, hopen, hms]⟩

/-- Settles O8: the table is read off, and an opcode outside it finds no command. -/
theorem commandTableOfOpcodes : Obligations.CommandTableOfOpcodes := by
  unfold Obligations.CommandTableOfOpcodes
  refine ⟨by decide, by decide, fun code r d hhello hcode => ?_⟩
  have hnone : commandOf code r.body = none := by
    simp only [commandOf, hhello, if_false, List.find?_eq_none, beq_iff_eq]
    exact fun c hc h => hcode (List.mem_map.2 ⟨c, hc, h⟩)
  simp [runCommand, hnone]

/-- Settles O1, by the equation of a step with a command in front. -/
theorem frontCommandIsCarriedOut : Obligations.FrontCommandIsCarriedOut := by
  unfold Obligations.FrontCommandIsCarriedOut
  intro c rest s h
  simp only [step, h]

end

section
/-! PROOF. What raising an event writes: O9. -/

open Sys2Proof Sys2Proof.Machine

/-- Settles O9, by what an event writes before READY and by the record it makes at READY. -/
theorem eventRecordsAndNothingElse : Obligations.EventRecordsAndNothingElse := by
  unfold Obligations.EventRecordsAndNothingElse
  intro d part o agent code p _
  refine ⟨⟨_, _, _, _, _, Dev.raiseAs_frame d part o agent code p⟩, fun id i hid hi => ?_, fun hr => ?_, fun hr hlt h0 hm => ?_⟩
  · have hne : id ≠ pLogLost ∧ id ≠ pMetroOverflow := by simpa [lossIds] using hid
    exact Dev.raiseAs_same d part o agent code p id i hne hi
  · rw [Dev.raiseAs_latches part o agent code p hr]
    exact ⟨rfl, rfl⟩
  · rw [Dev.raiseAs_records o agent code p hr hm, Dev.recordAs_colo, nth_upd_same _ hlt]
    have hsize : stageSize part = 16 := by simp [stageSize, h0, hm]
    exact ⟨Partition.put_next _ _ _, fun hf hroom =>
      ⟨d.newRecord part agent code false p, Partition.put_staged _ hf hm (hsize ▸ hroom), rfl, rfl, rfl⟩⟩

end

section
/-! PROOF. The common commands, HELLO, and what lapses: O24, O25, O30. -/

namespace Sys2Proof.Machine

/-! ### Lockouts, challenges and failures (R87, R137, R138) -/

/-- A slot whose lockout has ended, or that has none, is not locked. -/
theorem Dev.helloLocked_none {d : Dev} {k : Nat} (h : (d.slot k).lockEnd = none) : d.helloLocked k = none := by
  simp [Dev.helloLocked, h]

/-- While a lockout runs, HELLO is answered with the time left (R87). -/
theorem Dev.helloLocked_some {d : Dev} {k t : Nat} (h : (d.slot k).lockEnd = some t) (ht : d.time < t) :
    d.helloLocked k = some (notYet (toMsUp (t - d.time))) := by
  simp [Dev.helloLocked, h, ht]

/-- The device without the slot's pending challenge. -/
def Dev.endChallenge (d : Dev) (k : Nat) : Dev := d.updSlot k (fun x => { x with challenge := none })

theorem Dev.endChallenge_slot {d : Dev} {k : Nat} (hk : k < d.slots.length) :
    (d.endChallenge k).slot k = { d.slot k with challenge := none } := nth_upd_same _ hk

theorem lockSeconds_eq_zero {n : Nat} (h : n < 5) : lockSeconds n = 0 := if_pos h

theorem lockSeconds_pos {n : Nat} (h : 5 ≤ n) : lockSeconds n = min 256 (2 ^ min 8 (n - 5)) ∧ lockSeconds n ≠ 0 := by
  have hs : lockSeconds n = min 256 (2 ^ min 8 (n - 5)) := if_neg (by omega)
  have hpow : 0 < 2 ^ min 8 (n - 5) := Nat.two_pow_pos _
  exact ⟨hs, by omega⟩

/-- The slot's failures after one more (R87). -/
def Dev.failsAfter (d : Dev) (k : Nat) : Nat := min 65535 (d.getN pHelloFails k + 1)

/-- A failure is counted. -/
theorem Dev.helloFailed_fails (d : Dev) {k : Nat} (hk : k < 8) : (d.helloFailed k).get pHelloFails k = d.failsAfter k := by
  unfold Dev.helloFailed
  dsimp only
  rw [Dev.raiseSlot, Dev.raiseAs_same _ _ _ _ _ _ _ _ (by decide) (by omega)]
  split <;> exact Dev.get_setNv_same _ _ _ _

theorem Dev.helloFailed_outbox (d : Dev) (k : Nat) : (d.helloFailed k).host.outbox = d.host.outbox := by
  unfold Dev.helloFailed
  dsimp only
  rw [Dev.raiseSlot_outbox]
  split <;> rfl

/-- What a failure leaves of its slot: the first four start no lockout, from the fifth on one doubles up to 256 s (R87). -/
theorem Dev.helloFailed_slot (d : Dev) {k : Nat} (hk : k < d.slots.length) :
    (d.helloFailed k).slot k = { d.slot k with
      lockEnd := if d.failsAfter k < 5 then (d.slot k).lockEnd else some (d.time + secU (min 256 (2 ^ min 8 (d.failsAfter k - 5)))) } := by
  have hslots : (d.helloFailed k).slots = if lockSeconds (d.failsAfter k) = 0 then d.slots
      else upd d.slots k (fun x => { x with lockEnd := some (d.time + secU (lockSeconds (d.failsAfter k))) }) := by
    unfold Dev.helloFailed
    dsimp only
    rw [Dev.raiseSlot_slots]
    exact apply_ite Dev.slots _ _ _
  unfold Dev.slot
  rw [hslots]
  by_cases h : d.failsAfter k < 5
  · rw [if_pos h, if_pos (lockSeconds_eq_zero h)]
  · obtain ⟨hs, hpos⟩ := lockSeconds_pos (Nat.le_of_not_lt h)
    rw [if_neg h, if_neg hpos, hs, nth_upd_same _ hk]

/-! ### HELLO phase 2: the proof, and what a refusal counts -/

/-- The device after a proof that is refused: its challenge has ended, and the failure is counted, as the effect of the request. -/
def Dev.helloDenied (d : Dev) (r : Request) : Dev := d.caused r (fun e => (e.endChallenge r.slot).helloFailed r.slot)

theorem Dev.helloDenied_fails (d : Dev) {r : Request} (hk : r.slot < 8) :
    (d.helloDenied r).get pHelloFails r.slot = d.failsAfter r.slot := by
  rw [Dev.helloDenied, Dev.caused_get, Dev.helloFailed_fails _ hk]
  rfl

theorem Dev.helloDenied_outbox (d : Dev) (r : Request) : (d.helloDenied r).host.outbox = d.host.outbox := by
  rw [Dev.helloDenied, Dev.caused_host, Dev.helloFailed_outbox]
  rfl

theorem Dev.helloDenied_slot {d : Dev} {r : Request} (hk : r.slot < d.slots.length) (hl : (d.slot r.slot).lockEnd = none) :
    (d.helloDenied r).slot r.slot = { d.slot r.slot with
      challenge := none
      lockEnd := if d.failsAfter r.slot < 5 then none else some (d.time + secU (min 256 (2 ^ min 8 (d.failsAfter r.slot - 5)))) } := by
  have hlen : r.slot < (({ d with cause := some (r.slot, r.ref) } : Dev).endChallenge r.slot).slots.length := by
    simpa [Dev.endChallenge, upd] using hk
  have hended : (({ d with cause := some (r.slot, r.ref) } : Dev).endChallenge r.slot).slot r.slot =
      { d.slot r.slot with challenge := none } := Dev.endChallenge_slot hk
  rw [Dev.helloDenied, Dev.caused_slot, Dev.helloFailed_slot _ hlen, hended, hl]
  rfl

/-- A slot that may open a session, and a host_proof that matches the challenge (R136, R138). -/
def Dev.proves (d : Dev) (r : Request) (c : Challenge) : Prop :=
  (d.get pSlotState r.slot = 1 ∨ d.get pSlotState r.slot = 2) ∧ slice r.body 4 32 = d.helloMac 0x48 0x50 r.slot c.nh c.nd

theorem Dev.not_proves_iff (d : Dev) (r : Request) (c : Challenge) : ¬ d.proves r c ↔
    (d.get pSlotState r.slot ≠ 1 ∧ d.get pSlotState r.slot ≠ 2) ∨ slice r.body 4 32 ≠ d.helloMac 0x48 0x50 r.slot c.nh c.nd := by
  rw [Dev.proves, Classical.not_and_iff_not_or_not, not_or]

/-- The kind of session a slot opens: 1 in ENROL, else 2. -/
def Dev.helloKind (d : Dev) (k : Nat) : Nat := if d.get pSlotState k = 1 then 1 else 2

/-! ### HELLO phase 2: what its meaning gives -/

theorem helloPhase2_run_noChallenge {d : Dev} {r : Request} (hl : (d.slot r.slot).lockEnd = none)
    (hp : d.pendingChallenge r.slot = none) : cmdHelloPhase2.run d r = refuse (d.endChallenge r.slot) (fail .state) := by
  simp only [cmdHelloPhase2, Dev.helloLocked_none hl, hp]
  rfl

theorem helloPhase2_run_opens {d : Dev} {r : Request} {c : Challenge} (hl : (d.slot r.slot).lockEnd = none)
    (hp : d.pendingChallenge r.slot = some c) (hproof : d.proves r c) : cmdHelloPhase2.run d r =
      { dev := (d.endChallenge r.slot).setNv pHelloFails r.slot 0
        reply := okBody (e8 2 ++ e8 (d.helloKind r.slot) ++ zs 2 ++ d.helloMac 0x44 0x50 r.slot c.nh c.nd)
        after := .openSession (d.helloKind r.slot) (d.helloMac 0x4B 0x53 r.slot c.nh c.nd) } := by
  simp only [cmdHelloPhase2, Dev.helloLocked_none hl, hp]
  refine (if_neg ?_).trans rfl
  simp only [Bool.or_eq_true, Bool.and_eq_true, decide_eq_true_eq]
  exact fun hbad => (d.not_proves_iff r c).2 hbad hproof

theorem helloPhase2_run_denies {d : Dev} {r : Request} {c : Challenge} (hl : (d.slot r.slot).lockEnd = none)
    (hp : d.pendingChallenge r.slot = some c) (hproof : ¬ d.proves r c) :
    cmdHelloPhase2.run d r = refuse ((d.endChallenge r.slot).helloFailed r.slot) (failAt .denied 4) := by
  simp only [cmdHelloPhase2, Dev.helloLocked_none hl, hp]
  refine (if_pos ?_).trans rfl
  simp only [Bool.or_eq_true, Bool.and_eq_true, decide_eq_true_eq]
  exact (d.not_proves_iff r c).1 hproof

/-! ### HELLO carried out -/

section Phase2

variable {s : State} {r : Request} (ht : Takes cmdHelloPhase2 s r) (hl : (s.dev.slot r.slot).lockEnd = none)
include ht hl

/-- Phase 2 with no challenge pending is refused with STATE, and counts nothing (R138). -/
theorem helloPhase2_noChallenge (hp : s.dev.pendingChallenge r.slot = none) :
    exec (.helloPhase2 r) s = .next (s.on ((s.dev.endChallenge r.slot).respond r 0x0002 (fail .state))) :=
  act_answers ht (helloPhase2_run_noChallenge (d := { s.dev with cause := some (r.slot, r.ref) }) hl hp) rfl nofun rfl

/-- A proof that matches sets the failures to 0 and opens the session at the writing of its response (R138, R139). -/
theorem helloPhase2_opens {c : Challenge} (hp : s.dev.pendingChallenge r.slot = some c) (hproof : s.dev.proves r c) :
    exec (.helloPhase2 r) s = .next (s.on (((s.dev.endChallenge r.slot).setNv pHelloFails r.slot 0).respond r 0x0002
      (okBody (e8 2 ++ e8 (s.dev.helloKind r.slot) ++ zs 2 ++ s.dev.helloMac 0x44 0x50 r.slot c.nh c.nd))
      (.openSession (s.dev.helloKind r.slot) (s.dev.helloMac 0x4B 0x53 r.slot c.nh c.nd)))) :=
  act_answers ht (helloPhase2_run_opens (d := { s.dev with cause := some (r.slot, r.ref) }) hl hp hproof) rfl nofun rfl

/-- Any other slot or proof is refused with DENIED at the proof's offset, and counted (R87, R138). -/
theorem helloPhase2_denies {c : Challenge} (hp : s.dev.pendingChallenge r.slot = some c) (hproof : ¬ s.dev.proves r c) :
    exec (.helloPhase2 r) s = .next (s.on ((s.dev.helloDenied r).respond r 0x0002 (failAt .denied 4))) :=
  act_answers ht (helloPhase2_run_denies (d := { s.dev with cause := some (r.slot, r.ref) }) hl hp hproof) rfl nofun rfl

end Phase2

theorem helloPhase1_run_challenges {d : Dev} {r : Request} (hl : (d.slot r.slot).lockEnd = none) : cmdHelloPhase1.run d r =
      { dev := (d.draw 16).2
        reply := okBody (e8 1 ++ zs 3 ++ (d.draw 16).1 ++ padTo 16 d.factory.serial)
        after := .challenge (slice r.body 4 16) (d.draw 16).1 } := by
  simp only [cmdHelloPhase1, Dev.helloLocked_none hl]
  rfl

/-- HELLO phase 1 draws a fresh nonce, and its challenge is pending from the writing of the response (R137). -/
theorem helloPhase1_challenges {s : State} {r : Request} (ht : Takes cmdHelloPhase1 s r) (hl : (s.dev.slot r.slot).lockEnd = none) :
    exec (.helloPhase1 r) s = .next (s.on ((s.dev.draw 16).2.respond r 0x0002
      (okBody (e8 1 ++ zs 3 ++ (s.dev.draw 16).1 ++ padTo 16 s.dev.factory.serial)) (.challenge (slice r.body 4 16) (s.dev.draw 16).1))) :=
  act_answers ht (helloPhase1_run_challenges (d := { s.dev with cause := some (r.slot, r.ref) }) hl) rfl nofun rfl

theorem helloPhase1_run_locked {d : Dev} {r : Request} {t : Nat} (hl : (d.slot r.slot).lockEnd = some t) (hlt : d.time < t) :
    cmdHelloPhase1.run d r = refuse d (notYet (toMsUp (t - d.time))) := by
  simp only [cmdHelloPhase1, Dev.helloLocked_some hl hlt]

/-- HELLO phase 1 waits for the end of a lockout (R87). -/
theorem helloPhase1_locked {s : State} {r : Request} {t : Nat} (ht : Takes cmdHelloPhase1 s r)
    (hl : (s.dev.slot r.slot).lockEnd = some t) (hlt : s.dev.time < t) :
    exec (.helloPhase1 r) s = .next (s.on (s.dev.respond r 0x0002 (notYet (toMsUp (t - s.dev.time))))) :=
  act_refuses ht (helloPhase1_run_locked (d := { s.dev with cause := some (r.slot, r.ref) }) hl hlt) ⟨nofun, nofun⟩ rfl

/-! ### Parameters read (R142) -/

/-- The body of a parameter whose row is known (Table CM-9). -/
theorem Dev.parBody_of_row {d : Dev} {id : Nat} {row : ParamRow} (i : Nat) (h : paramRow id = some row) :
    d.parBody id i = e16 id ++ e16 i ++ e8 row.ty.code ++ e8 row.ty.size ++ zs 2 ++
      leBytes row.ty.size (wrapInt row.ty.size (d.parValue id i)) := by
  simp [Dev.parBody, h]

/-! ### What lapses (R87, R137) -/

/-- A challenge 1,000 ms old lapses, a younger one stays (R137). -/
theorem helloChallengeLapse_old {d : Dev} {k : Nat} {c : Challenge} (hc : (d.slot k).challenge = some c)
    (h : msU 1000 ≤ d.since c.since) : helloChallengeLapse k d = d.endChallenge k := by
  simp [helloChallengeLapse, hc, Nat.not_lt.2 h, Dev.endChallenge]

theorem helloChallengeLapse_young {d : Dev} {k : Nat} {c : Challenge} (hc : (d.slot k).challenge = some c)
    (h : d.since c.since < msU 1000) : helloChallengeLapse k d = d := by
  simp [helloChallengeLapse, hc, h]

/-- A lockout ends at its time, and not before (R87). -/
theorem helloLockoutExpiry_due {d : Dev} {k t : Nat} (hl : (d.slot k).lockEnd = some t) (h : t ≤ d.time) :
    helloLockoutExpiry k d = d.updSlot k (fun x => { x with lockEnd := none }) := by
  simp [helloLockoutExpiry, hl, Nat.not_lt.2 h]

theorem helloLockoutExpiry_early {d : Dev} {k t : Nat} (hl : (d.slot k).lockEnd = some t) (h : d.time < t) :
    helloLockoutExpiry k d = d := by
  simp [helloLockoutExpiry, hl, h]

end Sys2Proof.Machine

open Sys2Proof Sys2Proof.Machine

/-- Settles O25, one ending of phase 2 at a time: no challenge, a proof that matches, and any other. -/
theorem helloPhaseTwoOpensOrCounts : Obligations.HelloPhaseTwoOpensOrCounts := by
  unfold Obligations.HelloPhaseTwoOpensOrCounts
  intro s r ht hl hlen hk mac state fails
  have hended : (s.dev.endChallenge r.slot).slot r.slot = { s.dev.slot r.slot with challenge := none } := Dev.endChallenge_slot hlen
  cases hp : s.dev.pendingChallenge r.slot with
  | none =>
    refine ⟨_, helloPhase2_noChallenge ht hl hp, ?_, fun _ => ⟨rfl, rfl⟩, nofun, nofun⟩
    rw [Dev.respond_slot, hended]
  | some c =>
    by_cases hproof : s.dev.proves r c
    · refine ⟨_, helloPhase2_opens ht hl hp hproof, ?_, nofun, ?_, ?_⟩
      · exact congrArg SlotRt.challenge hended
      · rintro _ ⟨⟩ - -
        exact ⟨Dev.get_setNv_same _ pHelloFails r.slot 0, rfl⟩
      · rintro _ ⟨⟩ hbad
        exact absurd hproof ((s.dev.not_proves_iff r c).2 hbad)
    · refine ⟨_, helloPhase2_denies ht hl hp hproof, ?_, nofun, ?_, ?_⟩
      · rw [Dev.respond_slot, Dev.helloDenied_slot hlen hl]
      · rintro _ ⟨⟩ hstate hmac
        exact absurd ⟨hstate, hmac⟩ hproof
      · rintro _ ⟨⟩ -
        rw [Dev.respond_get, Dev.respond_slot, Dev.respond_outbox, Dev.helloDenied_fails s.dev hk, Dev.helloDenied_outbox,
          Dev.helloDenied_slot hlen hl]
        exact ⟨rfl, rfl, rfl, fun h => if_pos h, fun h => if_neg (Nat.not_lt.2 h)⟩

/-- Settles O24, command by command. -/
theorem commonCommandsAnswer : Obligations.CommonCommandsAnswer := by
  unfold Obligations.CommonCommandsAnswer
  refine fun s r => ⟨fun ht => ?_, fun ht => ?_, fun ht => ?_, fun row hrow ht => ?_, fun ht => ?_, fun x hx ht => ?_,
    fun ht hl => ?_, fun t ht hl hlt => ?_⟩
  · exact act_onlyAnswers ht rfl rfl nofun rfl
  · exact act_onlyAnswers ht rfl rfl nofun rfl
  · exact act_onlyAnswers ht rfl rfl nofun rfl
  · rw [← Dev.parBody_of_row _ hrow]
    exact act_onlyAnswers ht rfl rfl nofun rfl
  · exact act_onlyAnswers ht rfl rfl nofun rfl
  · refine act_onlyAnswers ht ?_ rfl nofun rfl
    have hx' : (Dev.slot { s.dev with cause := some (r.slot, r.ref) } r.slot).session = some x := hx
    simp only [cmdEventMaskSet, hx']
    rfl
  · exact helloPhase1_challenges ht hl
  · exact helloPhase1_locked ht hl hlt

/-- Settles O30, by the time of a challenge and of a lockout. -/
theorem challengesAndLockoutsLapse : Obligations.ChallengesAndLockoutsLapse := by
  unfold Obligations.ChallengesAndLockoutsLapse
  exact fun s k => ⟨fun c hc h => State.act_of_eq (helloChallengeLapse_old hc h),
    fun c hc h => State.act_unchanged (helloChallengeLapse_young hc h),
    fun t hl h => State.act_of_eq (helloLockoutExpiry_due hl h),
    fun t hl h => State.act_unchanged (helloLockoutExpiry_early hl h)⟩

end

section
/-! SUPPORT. What the operations of the pace loop change: the parameters they leave, and the effective window they are judged by. -/

namespace Sys2Proof.Machine

/-! ### Parameters left alone -/

/-- What a change leaves alone, a change of more parameters leaves alone too. -/
theorem SamePar.mono {ids ids' : List Nat} {d e : Dev} (h : SamePar ids d e) (hsub : ids ⊆ ids') : SamePar ids' d e :=
  fun id i hid hi => h id i (fun hmem => hid (hsub hmem)) hi

theorem SamePar.trans {ids : List Nat} {d e f : Dev} (h : SamePar ids d e) (h' : SamePar ids e f) : SamePar ids d f :=
  fun id i hid hi => (h' id i hid hi).trans (h id i hid hi)

theorem SamePar.getN_eq {ids : List Nat} {d e : Dev} (h : SamePar ids d e) {id i : Nat} (hid : id ∉ ids) (hi : i < 65536) :
    e.getN id i = d.getN id i :=
  congrArg Int.toNat (h id i hid hi)

theorem Dev.set_samePar (d : Dev) (id : Nat) {i : Nat} (v : Int) (hi : i < 65536) : SamePar [id] d (d.set id i v) :=
  fun _ _ hne hj => d.get_set_id id i _ _ v hi hj (fun e => hne (List.mem_singleton.2 e))

@[simp] theorem Dev.getN_set_same (d : Dev) (id i n : Nat) : (d.set id i (n : Nat)).getN id i = n :=
  congrArg Int.toNat (d.get_set_same id i n)

theorem Dev.raiseDev_samePar (d : Dev) (code : Nat) (p : List Byte) : SamePar lossIds d (d.raiseDev code p) :=
  fun id i hid hi => Dev.raiseAs_same d 0 false 0 code p id i (by simpa [lossIds] using hid) hi

@[simp] theorem Dev.raiseDev_pace (d : Dev) (code : Nat) (p : List Byte) : (d.raiseDev code p).pace = d.pace := by
  rw [Dev.raiseDev, Dev.raiseAs_frame]

/-! ### The effective window (R168) -/

/-- The parameters that T, floor_eff and ceiling_eff are computed from. -/
def windowIds : List Nat := [pPaceTargetSlack, pVcoreFloorHost, pVcoreCeilingHost, pVcoreCapLedger]

/-- T, floor_eff and ceiling_eff stand where neither their parameters nor READY moves. -/
theorem Dev.effectiveWindow_same {ids : List Nat} {d e : Dev} (hpwr : e.pwr = d.pwr) (hpar : SamePar ids d e)
    (hids : ∀ id ∈ windowIds, id ∉ ids) :
    e.targetSlack = d.targetSlack ∧ e.vcoreFloor = d.vcoreFloor ∧ e.vcoreCeiling = d.vcoreCeiling := by
  have hsame : ∀ id ∈ windowIds, e.getN id = d.getN id := fun id hid => hpar.getN_eq (hids id hid) (by decide)
  simp only [windowIds, List.forall_mem_cons] at hsame
  obtain ⟨htarget, hfloor, hceiling, hcap, -⟩ := hsame
  simp [Dev.targetSlack, Dev.vcoreFloor, Dev.vcoreCeiling, hpwr, htarget, hfloor, hceiling, hcap]

/-! ### VCORE moved (R166, R171) -/

@[simp] theorem Dev.setVcore_vcore (d : Dev) (v : Nat) : (d.setVcore v).getN pVcore = v := d.getN_set_same pVcore 0 v

theorem Dev.setVcore_samePar (d : Dev) (v : Nat) : SamePar [pVcore] d (d.setVcore v) := d.set_samePar pVcore v (by decide)

@[simp] theorem Dev.raiseVcore_vcore (d : Dev) : d.raiseVcore.getN pVcore = min 900 (d.getN pVcore + 5) := d.setVcore_vcore _

@[simp] theorem Dev.raiseVcore_inOverride (d : Dev) : d.raiseVcore.inOverride = d.inOverride := rfl

@[simp] theorem Dev.raiseVcore_lastRaise (d : Dev) : d.raiseVcore.pace.lastRaise = some d.time := rfl

theorem Dev.raiseVcore_samePar (d : Dev) : SamePar [pVcore] d d.raiseVcore := d.setVcore_samePar _

/-- The override's first raise, its flag and its count, before its event (R171). -/
def Dev.overriding (d : Dev) : Dev :=
  (((d.updPace (fun p => { p with overrideAt := some d.time, peak := 0, calm := 0 })).raiseVcore).set pPaceOverride 0 1).bump pOverrideCount 0

/-- An override entered is its first raise, its flag and its count, then PACE_POLICY_OVERRIDDEN. -/
theorem Dev.enterOverride_eq (d : Dev) (domain slack : Nat) : d.enterOverride domain slack =
    d.overriding.raiseDev 0x03E0 (e8 domain ++ zs 1 ++ e16 d.vcoreCeiling ++ e16 (d.overriding.getN pVcore) ++ e16 slack) := rfl

/-- The parameters an override moves as it begins. -/
def overrideIds : List Nat := [pVcore, pPaceOverride, pOverrideCount]

theorem Dev.overriding_samePar (d : Dev) : SamePar overrideIds d d.overriding := by
  have hraise := (d.updPace (fun p => { p with overrideAt := some d.time, peak := 0, calm := 0 })).raiseVcore_samePar
  exact (hraise.mono (by decide)).trans (((Dev.set_samePar _ pPaceOverride 1 (by decide)).mono (by decide)).trans
    ((Dev.set_samePar _ pOverrideCount _ (by decide)).mono (by decide)))

theorem Dev.enterOverride_samePar (d : Dev) (domain slack : Nat) :
    SamePar (overrideIds ++ lossIds) d (d.enterOverride domain slack) :=
  (d.overriding_samePar.mono (by decide)).trans ((d.overriding.raiseDev_samePar _ _).mono (by decide))

theorem Dev.overriding_vcore (d : Dev) : d.overriding.get pVcore = (min 900 (d.getN pVcore + 5) : Nat) := by
  unfold Dev.overriding Dev.bump
  rw [Dev.get_set_id _ _ _ _ _ _ (by decide) (by decide) (by decide), Dev.get_set_id _ _ _ _ _ _ (by decide) (by decide) (by decide)]
  exact Dev.get_set_same _ _ _ _

theorem Dev.overriding_flag (d : Dev) : d.overriding.get pPaceOverride = 1 := by
  unfold Dev.overriding Dev.bump
  rw [Dev.get_set_id _ _ _ _ _ _ (by decide) (by decide) (by decide)]
  exact Dev.get_set_same _ _ _ _

theorem Dev.overriding_count (d : Dev) : d.overriding.get pOverrideCount = (inc32 (d.getN pOverrideCount) : Nat) := by
  unfold Dev.overriding Dev.bump Dev.getN
  rw [Dev.get_set_same, Dev.get_set_id _ _ _ _ _ _ (by decide) (by decide) (by decide), Dev.raiseVcore_samePar _ _ _ (by decide) (by decide)]
  rfl

/-- What stands once an override has begun: its first raise, its flag, and its count (R171). -/
theorem Dev.enterOverride_begins (d : Dev) (domain slack : Nat) :
    (d.enterOverride domain slack).getN pVcore = min 900 (d.getN pVcore + 5) ∧ (d.enterOverride domain slack).inOverride = true ∧
      (d.enterOverride domain slack).get pPaceOverride = 1 ∧
      (d.enterOverride domain slack).get pOverrideCount = (inc32 (d.getN pOverrideCount) : Nat) := by
  have hevent := d.overriding.raiseDev_samePar 0x03E0
    (e8 domain ++ zs 1 ++ e16 d.vcoreCeiling ++ e16 (d.overriding.getN pVcore) ++ e16 slack)
  rw [Dev.enterOverride_eq]
  refine ⟨?_, ?_, ?_, ?_⟩
  · rw [hevent.getN_eq (by decide) (by decide), Dev.getN, Dev.overriding_vcore]
    rfl
  · rw [Dev.inOverride, Dev.raiseDev_pace]
    rfl
  · rw [hevent _ _ (by decide) (by decide), Dev.overriding_flag]
  · rw [hevent _ _ (by decide) (by decide), Dev.overriding_count]

end Sys2Proof.Machine
end

section
/-! PROOF. A completed work unit: O31. -/

namespace Sys2Proof.Machine

/-! ### A work unit counted (R164) -/

/-- A slack in 0.1 %, a missed deadline as 0 (R164). -/
def slackSteps (slack : Int) : Nat := (clampI 0 1000 slack).toNat

/-- The device with a work unit in its domain's minimum, and a missed deadline counted, before VCORE moves. -/
def Dev.countUnit (d : Dev) (domain : Nat) (slack : Int) : Dev :=
  let d1 := d.updPace (fun p =>
    { p with windowMin := upd p.windowMin domain (min (slackSteps slack)), recent := min p.recent (slackSteps slack) })
  if slack < 0 then d1.bump pDeadlineMisses domain else d1

theorem Dev.countUnit_frame (d : Dev) (domain : Nat) (slack : Int) :
    (d.countUnit domain slack).time = d.time ∧ (d.countUnit domain slack).pwr = d.pwr ∧
      (d.countUnit domain slack).inOverride = d.inOverride ∧ (d.countUnit domain slack).pace.lastRaise = d.pace.lastRaise := by
  unfold Dev.countUnit
  split <;> exact ⟨rfl, rfl, rfl, rfl⟩

theorem Dev.countUnit_samePar (d : Dev) {domain : Nat} (slack : Int) (hdom : domain < 5) :
    SamePar [pDeadlineMisses] d (d.countUnit domain slack) := by
  unfold Dev.countUnit
  split
  · exact Dev.set_samePar (d.updPace _) pDeadlineMisses _ (by omega)
  · exact fun _ _ _ _ => rfl

theorem Dev.countUnit_misses (d : Dev) (domain : Nat) (slack : Int) : (d.countUnit domain slack).get pDeadlineMisses domain =
    if slack < 0 then ((inc32 (d.getN pDeadlineMisses domain) : Nat) : Int) else d.get pDeadlineMisses domain := by
  unfold Dev.countUnit
  split
  · exact Dev.get_set_same _ _ _ _
  · rfl

/-! ### The raise it asks for (R166, R170, R171) -/

/-- A raise is less than 20 µs old (R166). -/
def Dev.raisedLately (d : Dev) : Bool :=
  match d.pace.lastRaise with
  | some t => decide (d.since t < usU 20)
  | none => false

theorem Dev.raisedLately_false {d : Dev} (h : ∀ t, d.pace.lastRaise = some t → usU 20 ≤ d.since t) : d.raisedLately = false := by
  unfold Dev.raisedLately
  split
  · next t ht => simpa using h t ht
  · rfl

theorem workUnitComplete_noDomain {domain : Nat} (slack : Int) (d : Dev) (h : 5 ≤ domain) : workUnitComplete domain slack d = d :=
  if_pos h

/-- Outside an override and 20 µs after the last raise, a unit is counted, and slack below T is answered by where VCORE stands to the
effective ceiling. -/
theorem workUnitComplete_eq {domain : Nat} (slack : Int) {d : Dev} (hdom : domain < 5)
    (hlast : ∀ t, d.pace.lastRaise = some t → usU 20 ≤ d.since t) (hover : d.inOverride = false) :
    workUnitComplete domain slack d =
      if slackSteps slack < d.targetSlack then
        if d.getN pVcore < d.vcoreCeiling then
          if d.getN pVcore < 900 then (d.countUnit domain slack).raiseVcore else d.countUnit domain slack
        else if slackSteps slack < 50 ∧ d.getN pVcore < 900 then (d.countUnit domain slack).enterOverride domain (slackSteps slack)
        else d.countUnit domain slack
      else d.countUnit domain slack := by
  obtain ⟨htime, hpwr, hover', hlast'⟩ := d.countUnit_frame domain slack
  have hpar := d.countUnit_samePar slack hdom
  obtain ⟨htarget, -, hceiling⟩ := Dev.effectiveWindow_same hpwr hpar (by decide)
  have hvcore := hpar.getN_eq (id := pVcore) (i := 0) (by decide) (by decide)
  have hquiet : (d.countUnit domain slack).raisedLately = false := by
    refine Dev.raisedLately_false fun t ht => ?_
    rw [Dev.since, htime]
    exact hlast t (hlast' ▸ ht)
  have hmeaning : workUnitComplete domain slack d =
      let e := d.countUnit domain slack
      if (slackSteps slack < if e.inOverride then 50 else e.targetSlack) && !e.raisedLately then
        if e.inOverride || e.getN pVcore < e.vcoreCeiling then (if e.getN pVcore < 900 then e.raiseVcore else e)
        else if slackSteps slack < 50 && e.getN pVcore < 900 then e.enterOverride domain (slackSteps slack)
        else e
      else e := if_neg (by omega)
  rw [hmeaning]
  simp [hquiet, hover', hover, htarget, hceiling, hvcore]

section WorkUnit

variable {domain : Nat} {slack : Int} {d : Dev} (hdom : domain < 5)
  (hlast : ∀ t, d.pace.lastRaise = some t → usU 20 ≤ d.since t) (hover : d.inOverride = false)
include hdom hlast hover

/-- Slack of T or more is counted, and VCORE stands (R166). -/
theorem workUnitComplete_enough (hslack : d.targetSlack ≤ slackSteps slack) :
    workUnitComplete domain slack d = d.countUnit domain slack := by
  rw [workUnitComplete_eq slack hdom hlast hover, if_neg (Nat.not_lt.2 hslack)]

/-- Slack below T raises VCORE while it is below the effective ceiling (R166). -/
theorem workUnitComplete_raises (hslack : slackSteps slack < d.targetSlack) (hbelow : d.getN pVcore < d.vcoreCeiling)
    (hmax : d.getN pVcore < 900) : workUnitComplete domain slack d = (d.countUnit domain slack).raiseVcore := by
  rw [workUnitComplete_eq slack hdom hlast hover, if_pos hslack, if_pos hbelow, if_pos hmax]

/-- At the effective ceiling, slack below 5.0 % enters the override (R171). -/
theorem workUnitComplete_overrides (hslack : slackSteps slack < d.targetSlack) (hat : d.vcoreCeiling ≤ d.getN pVcore)
    (hmax : d.getN pVcore < 900) (hlow : slackSteps slack < 50) :
    workUnitComplete domain slack d = (d.countUnit domain slack).enterOverride domain (slackSteps slack) := by
  rw [workUnitComplete_eq slack hdom hlast hover, if_pos hslack, if_neg (Nat.not_lt.2 hat), if_pos ⟨hlow, hmax⟩]

/-- At the effective ceiling, slack of 5.0 % or more leaves VCORE there (R170). -/
theorem workUnitComplete_holds (hslack : slackSteps slack < d.targetSlack) (hat : d.vcoreCeiling ≤ d.getN pVcore)
    (hhigh : 50 ≤ slackSteps slack) : workUnitComplete domain slack d = d.countUnit domain slack := by
  rw [workUnitComplete_eq slack hdom hlast hover, if_pos hslack, if_neg (Nat.not_lt.2 hat), if_neg (fun h => absurd h.1 (Nat.not_lt.2 hhigh))]

/-- Whatever VCORE does, only what an override moves and the loss counters differ from the unit counted. -/
theorem workUnitComplete_samePar : SamePar (overrideIds ++ lossIds) (d.countUnit domain slack) (workUnitComplete domain slack d) := by
  have hstands : SamePar (overrideIds ++ lossIds) (d.countUnit domain slack) (d.countUnit domain slack) := fun _ _ _ _ => rfl
  rw [workUnitComplete_eq slack hdom hlast hover]
  split
  · split
    · split
      · exact (Dev.raiseVcore_samePar _).mono (by decide)
      · exact hstands
    · split
      · exact Dev.enterOverride_samePar _ _ _
      · exact hstands
  · exact hstands

end WorkUnit

end Sys2Proof.Machine

open Sys2Proof Sys2Proof.Machine

/-- Settles O31, by where the slack stands to T and to 5.0 %, and VCORE to the effective ceiling. -/
theorem paceRaisesOnDeficit : Obligations.PaceRaisesOnDeficit := by
  unfold Obligations.PaceRaisesOnDeficit
  refine fun s domain slack => ⟨fun h => State.act_unchanged (workUnitComplete_noDomain slack s.dev h), fun hdom hlast hover => ?_⟩
  have hpar : SamePar (overrideIds ++ lossIds) (s.dev.countUnit domain slack) (workUnitComplete domain slack s.dev) :=
    workUnitComplete_samePar hdom hlast hover
  have hcount := s.dev.countUnit_samePar slack hdom
  have hvcore := hcount pVcore 0 (by decide) (by decide)
  obtain ⟨htime, -, hover', hlast'⟩ := s.dev.countUnit_frame domain slack
  refine ⟨_, State.act_of_eq rfl, ?_, ?_, fun hslack _ => ?_, fun hslack hbelow hmax => ?_, fun hslack hat hmax hlow => ?_,
    fun hslack hat hhigh => ?_⟩
  · rw [hpar _ _ (by decide) (by omega), Dev.countUnit_misses]
  · exact (hcount.mono (by decide)).trans (hpar.mono (by decide))
  · rw [workUnitComplete_enough hdom hlast hover hslack]
    exact ⟨hvcore, hover'.trans hover, hlast'⟩
  · rw [workUnitComplete_raises hdom hlast hover hslack hbelow hmax, Dev.raiseVcore_vcore, Dev.getN, hvcore,
      Dev.raiseVcore_inOverride, Dev.raiseVcore_lastRaise, htime]
    exact ⟨rfl, hover'.trans hover, rfl⟩
  · rw [workUnitComplete_overrides hdom hlast hover hslack hat hmax hlow]
    have hbegins := (s.dev.countUnit domain slack).enterOverride_begins domain (slackSteps slack)
    rwa [hcount.getN_eq (id := pVcore) (by decide) (by decide), hcount.getN_eq (id := pOverrideCount) (by decide) (by decide)] at hbegins
  · rw [workUnitComplete_holds hdom hlast hover hslack hat hhigh]
    exact ⟨hvcore, hover'.trans hover⟩

end

section
/-! PROOF. The end of a window, the descent to a lowered ceiling, and the policy: O32. -/

namespace Sys2Proof.Machine

/-! ### The window's minima reported (R164) -/

/-- One domain's minimum reported, and its low water lowered to it. -/
def Dev.reportDomain (mins : List Nat) (d : Dev) (k : Nat) : Dev :=
  (d.set pSlackMin k (nth mins k : Nat)).set pSlackLowWater k (min (d.getN pSlackLowWater k) (nth mins k) : Nat)

/-- The minima of the first `n` domains reported. -/
def Dev.reportSlack (mins : List Nat) (n : Nat) (d : Dev) : Dev := (List.range n).foldl (Dev.reportDomain mins) d

theorem Dev.reportSlack_succ (mins : List Nat) (n : Nat) (d : Dev) :
    d.reportSlack mins (n + 1) = Dev.reportDomain mins (d.reportSlack mins n) n := by
  simp [Dev.reportSlack, List.range_succ]

theorem Dev.reportDomain_samePar (mins : List Nat) (d : Dev) {k : Nat} (hk : k < 65536) :
    SamePar [pSlackMin, pSlackLowWater] d (Dev.reportDomain mins d k) :=
  ((d.set_samePar pSlackMin _ hk).mono (by decide)).trans ((Dev.set_samePar _ pSlackLowWater _ hk).mono (by decide))

/-- A domain reported reads as the window found it; every other domain as before. -/
theorem Dev.reportDomain_slackMin (mins : List Nat) (d : Dev) {k j : Nat} (hk : k < 65536) (hj : j < 65536) :
    (Dev.reportDomain mins d k).getN pSlackMin j = if j = k then nth mins k else d.getN pSlackMin j := by
  have hother : (Dev.reportDomain mins d k).getN pSlackMin j = (d.set pSlackMin k (nth mins k : Nat)).getN pSlackMin j :=
    (Dev.set_samePar _ pSlackLowWater _ hk).getN_eq (by decide) hj
  rw [hother]
  split
  · next h => rw [h, Dev.getN_set_same]
  · next h => exact congrArg Int.toNat (Dev.get_set_idx _ _ _ _ _ h)

theorem Dev.reportDomain_lowWater (mins : List Nat) (d : Dev) {k j : Nat} (hk : k < 65536) (hj : j < 65536) :
    (Dev.reportDomain mins d k).getN pSlackLowWater j =
      if j = k then min (d.getN pSlackLowWater k) (nth mins k) else d.getN pSlackLowWater j := by
  split
  · next h => rw [h, Dev.reportDomain, Dev.getN_set_same]
  · next h => exact (congrArg Int.toNat (Dev.get_set_idx _ _ _ _ _ h)).trans ((d.set_samePar pSlackMin _ hk).getN_eq (by decide) hj)

theorem Dev.reportSlack_samePar (mins : List Nat) (d : Dev) {n : Nat} (hn : n ≤ 65536) :
    SamePar [pSlackMin, pSlackLowWater] d (d.reportSlack mins n) := by
  induction n with
  | zero => exact fun _ _ _ _ => rfl
  | succ n ih =>
    rw [Dev.reportSlack_succ]
    exact (ih (by omega)).trans (Dev.reportDomain_samePar mins _ (by omega))

theorem Dev.reportSlack_frame (mins : List Nat) (n : Nat) (d : Dev) :
    (d.reportSlack mins n).pace = d.pace ∧ (d.reportSlack mins n).pwr = d.pwr := by
  induction n with
  | zero => exact ⟨rfl, rfl⟩
  | succ n ih =>
    rw [Dev.reportSlack_succ]
    exact ih

/-- SLACK_MIN is what the window found, and SLACK_LOW_WATER the lowest yet, of the domains reported and of no other (R164). -/
theorem Dev.reportSlack_reads (mins : List Nat) (d : Dev) {n j : Nat} (hn : n ≤ 65536) (hj : j < 65536) :
    (d.reportSlack mins n).getN pSlackMin j = (if j < n then nth mins j else d.getN pSlackMin j) ∧
      (d.reportSlack mins n).getN pSlackLowWater j =
        if j < n then min (d.getN pSlackLowWater j) (nth mins j) else d.getN pSlackLowWater j := by
  induction n with
  | zero => exact ⟨rfl, rfl⟩
  | succ n ih =>
    obtain ⟨hmin, hlow⟩ := ih (by omega)
    rw [Dev.reportSlack_succ, Dev.reportDomain_slackMin mins _ (by omega) hj, Dev.reportDomain_lowWater mins _ (by omega) hj]
    obtain hlt | rfl | hgt := Nat.lt_trichotomy j n
    · rw [hmin, hlow, if_neg (Nat.ne_of_lt hlt), if_neg (Nat.ne_of_lt hlt), if_pos hlt, if_pos hlt, if_pos (Nat.lt_succ_of_lt hlt),
        if_pos (Nat.lt_succ_of_lt hlt)]
      exact ⟨rfl, rfl⟩
    · rw [hlow, if_pos rfl, if_pos rfl, if_neg (Nat.lt_irrefl j), if_pos (Nat.lt_succ_self j), if_pos (Nat.lt_succ_self j)]
      exact ⟨rfl, rfl⟩
    · have hout : ¬ j < n + 1 := Nat.not_lt.2 (Nat.succ_le_of_lt hgt)
      have hout' : ¬ j < n := Nat.not_lt.2 (Nat.le_of_lt hgt)
      rw [hmin, hlow, if_neg (Nat.ne_of_gt hgt), if_neg (Nat.ne_of_gt hgt), if_neg hout, if_neg hout, if_neg hout', if_neg hout']
      exact ⟨rfl, rfl⟩

/-! ### The end of a window (R166, R174) -/

/-- The lowest slack of the window, 1,000 where no work unit completed. -/
def Dev.lowestSlack (d : Dev) : Nat := d.pace.windowMin.foldl min 1000

/-- Headroom is lost at 900 mV with slack below T, and has not been reported within 1 s (R174). -/
def Dev.headroomLost (d : Dev) (low : Nat) : Bool :=
  d.getN pVcore = 900 && low < d.targetSlack && (match d.pace.headroomAt with
    | some t => decide (secU 1 ≤ d.since t)
    | none => true)

/-- PACE_HEADROOM_LOST where headroom is lost. -/
def Dev.reportHeadroom (d : Dev) (low : Nat) (domain : Option Nat) : Dev :=
  if d.headroomLost low then
    (d.updPace (fun p => { p with headroomAt := some d.time })).raiseDev 0x03E2 (e8 (domain.getD 0) ++ zs 1 ++ e16 low ++ s16 d.junction)
  else d

theorem Dev.reportHeadroom_samePar (d : Dev) (low : Nat) (domain : Option Nat) : SamePar lossIds d (d.reportHeadroom low domain) := by
  unfold Dev.reportHeadroom
  split
  · exact Dev.raiseDev_samePar (d.updPace _) _ _
  · exact fun _ _ _ _ => rfl

theorem Dev.reportHeadroom_inOverride (d : Dev) (low : Nat) (domain : Option Nat) :
    (d.reportHeadroom low domain).inOverride = d.inOverride := by
  unfold Dev.reportHeadroom
  split
  · rw [Dev.inOverride, Dev.raiseDev_pace]
    rfl
  · rfl

/-- A window closed: VCORE lowered to `v` or not, and the minima anew. -/
def Dev.closeWindow (d : Dev) (lower : Bool) (v : Nat) : Dev :=
  (if lower then d.setVcore v else d).updPace (fun p => { p with windowMin := [1000, 1000, 1000, 1000, 1000], raised := false })

theorem Dev.closeWindow_anew (d : Dev) (lower : Bool) (v : Nat) :
    (d.closeWindow lower v).pace.windowMin = [1000, 1000, 1000, 1000, 1000] ∧ (d.closeWindow lower v).pace.raised = false := ⟨rfl, rfl⟩

theorem Dev.closeWindow_inOverride (d : Dev) (lower : Bool) (v : Nat) : (d.closeWindow lower v).inOverride = d.inOverride := by
  cases lower <;> rfl

theorem Dev.closeWindow_vcore (d : Dev) (lower : Bool) (v : Nat) :
    (d.closeWindow lower v).getN pVcore = if lower then v else d.getN pVcore := by
  cases lower
  · rfl
  · exact d.setVcore_vcore v

theorem Dev.closeWindow_samePar (d : Dev) (lower : Bool) (v : Nat) : SamePar [pVcore] d (d.closeWindow lower v) := by
  cases lower
  · exact fun _ _ _ _ => rfl
  · exact d.setVcore_samePar v

/-- The device with the window's slack and lost headroom reported, before VCORE moves. -/
def Dev.windowReported (d : Dev) : Dev :=
  (d.reportSlack d.pace.windowMin 5).reportHeadroom d.lowestSlack
    ((List.range 5).find? (fun k => nth d.pace.windowMin k = d.lowestSlack))

theorem Dev.windowReported_inOverride (d : Dev) : d.windowReported.inOverride = d.inOverride := by
  rw [Dev.windowReported, Dev.reportHeadroom_inOverride, Dev.inOverride, (Dev.reportSlack_frame _ _ _).1, Dev.inOverride]

theorem Dev.windowReported_samePar (d : Dev) : SamePar ([pSlackMin, pSlackLowWater] ++ lossIds) d d.windowReported :=
  ((Dev.reportSlack_samePar _ _ (by decide)).mono (by decide)).trans ((Dev.reportHeadroom_samePar _ _ _).mono (by decide))

/-- The five domains' slack stands as the window found it (R164). -/
theorem Dev.windowReported_reads (d : Dev) {k : Nat} (hk : k < 5) :
    d.windowReported.getN pSlackMin k = nth d.pace.windowMin k ∧
      d.windowReported.getN pSlackLowWater k = min (d.getN pSlackLowWater k) (nth d.pace.windowMin k) := by
  obtain ⟨hmin, hlow⟩ := Dev.reportSlack_reads d.pace.windowMin d (n := 5) (j := k) (by decide) (by omega)
  rw [if_pos hk] at hmin hlow
  have hheadroom : SamePar lossIds (d.reportSlack d.pace.windowMin 5) d.windowReported := Dev.reportHeadroom_samePar _ _ _
  exact ⟨(hheadroom.getN_eq (by decide) (by omega)).trans hmin, (hheadroom.getN_eq (by decide) (by omega)).trans hlow⟩

/-- VCORE may be lowered: nothing was raised, the slack is T + 5 % or more, and the floor allows it (R166, R169). -/
def Dev.lowers (d : Dev) : Bool := !d.pace.raised && d.targetSlack + 50 ≤ d.lowestSlack && d.vcoreFloor + 5 ≤ d.getN pVcore

theorem Dev.lowers_iff (d : Dev) :
    d.lowers = true ↔ d.pace.raised = false ∧ d.targetSlack + 50 ≤ d.lowestSlack ∧ d.vcoreFloor + 5 ≤ d.getN pVcore := by
  simp [Dev.lowers, and_assoc]

/-- The end of a window outside an override: the reports, at most one lowering, and minima anew. -/
theorem slackWindowEnd_eq {d : Dev} (hover : d.inOverride = false) :
    slackWindowEnd d = d.windowReported.closeWindow d.lowers (d.getN pVcore - 5) := by
  obtain ⟨hpace, hpwr⟩ := Dev.reportSlack_frame d.pace.windowMin 5 d
  have hpar := Dev.reportSlack_samePar d.pace.windowMin d (n := 5) (by decide)
  obtain ⟨htarget, hfloor, -⟩ := Dev.effectiveWindow_same hpwr hpar (by decide)
  have hvcore := hpar.getN_eq (id := pVcore) (i := 0) (by decide) (by decide)
  have hover1 : (d.reportSlack d.pace.windowMin 5).inOverride = false := by rw [Dev.inOverride, hpace]; exact hover
  have hover2 : d.windowReported.inOverride = false := d.windowReported_inOverride.trans hover
  have hmeaning : slackWindowEnd d =
      let e := d.reportSlack d.pace.windowMin 5
      let v := e.getN pVcore
      let bottom := if e.inOverride then max e.vcoreCeiling e.vcoreFloor else e.vcoreFloor
      let lower := !e.pace.raised && (if e.inOverride then 100 else e.targetSlack + 50) ≤ d.lowestSlack && bottom + 5 ≤ v
      let calm := !e.pace.raised && 100 ≤ d.lowestSlack && v ≤ e.vcoreCeiling
      let w := if d.windowReported.inOverride then
          (d.windowReported.bump pOverrideTime 0).updPace (fun p => { p with calm := if calm then p.calm + 1 else 0 })
        else d.windowReported
      if (w.closeWindow lower (v - 5)).inOverride && 100 ≤ (w.closeWindow lower (v - 5)).pace.calm then
        (w.closeWindow lower (v - 5)).endOverride
      else w.closeWindow lower (v - 5) := rfl
  rw [hmeaning]
  simp [Dev.closeWindow_inOverride, Dev.lowers, hover1, hover2, htarget, hfloor, hvcore, hpace]

/-! ### The descent to a lowered ceiling (R173) -/

theorem ceilingDescentStep_atCeiling {d : Dev} (h : d.getN pVcore ≤ d.vcoreCeiling) : ceilingDescentStep d = d := by
  simp [ceilingDescentStep, h]

section Above

variable {d : Dev} (hover : d.inOverride = false) (habove : d.vcoreCeiling < d.getN pVcore)
include hover habove

/-- VCORE above the ceiling falls by 5 mV towards it where its level has shown 5.0 % of slack. -/
theorem ceilingDescentStep_lowers (h : 50 ≤ d.pace.recent) :
    ceilingDescentStep d = d.setVcore (max d.vcoreCeiling (d.getN pVcore - 5)) := by
  simp [ceilingDescentStep, hover, Nat.not_le.2 habove, Nat.not_lt.2 h]

/-- Where it has shown less, the override is entered first (R171). -/
theorem ceilingDescentStep_overrides (h : d.pace.recent < 50) : ∃ domain, ceilingDescentStep d = d.enterOverride domain d.pace.recent := by
  refine ⟨((List.range 5).find? (fun k => nth d.pace.windowMin k ≤ d.pace.recent)).getD 0, ?_⟩
  simp [ceilingDescentStep, hover, Nat.not_le.2 habove, h]

end Above

/-! ### The policy (R185) -/

/-- A meaning that answers OK later, with nothing barring its NVM write: its device, and no response yet (R145). -/
theorem act_answersLater {c : CmdSpec} {r : Request} {s : State} {d : Dev} {body : List Byte} (h : Takes c s r)
    (hbar : s.dev.nvmBar = none)
    (ha : c.run { s.dev with cause := some (r.slot, r.ref) } r = { dev := d, reply := okBody body, held := true }) :
    s.act (hostCmd c r) = .next (s.on { d with cause := s.dev.cause }) := by
  rw [act_takes h]
  simp [CmdSpec.effect, ha, hbar, okBody, State.on]

end Sys2Proof.Machine

open Sys2Proof Sys2Proof.Machine

/-- Settles O32: a window that closes, VCORE above its ceiling, and what the arbiter and the policy count and queue. -/
theorem paceLowersOncePerWindow : Obligations.PaceLowersOncePerWindow := by
  unfold Obligations.PaceLowersOncePerWindow
  refine fun s => ⟨fun hover => ?_, fun hover habove hrecent => ?_, fun hover habove hrecent => ?_, fun h => ?_, rfl, fun r ht hbar => ?_⟩
  · have hclose := s.dev.windowReported.closeWindow_samePar s.dev.lowers (s.dev.getN pVcore - 5)
    have hvcore := s.dev.windowReported_samePar.getN_eq (id := pVcore) (i := 0) (by decide) (by decide)
    obtain ⟨hanew, hraised⟩ := s.dev.windowReported.closeWindow_anew s.dev.lowers (s.dev.getN pVcore - 5)
    refine ⟨_, State.act_of_eq (slackWindowEnd_eq hover), fun k hk => ?_, hanew, hraised, fun hlower => ?_, fun hkeep => ?_⟩
    · rw [hclose.getN_eq (by decide) (by omega), hclose.getN_eq (by decide) (by omega)]
      exact s.dev.windowReported_reads hk
    · rw [Dev.closeWindow_vcore, if_pos (s.dev.lowers_iff.2 hlower)]
    · rw [Dev.closeWindow_vcore, if_neg (fun h => hkeep (s.dev.lowers_iff.1 h)), hvcore]
  · exact ⟨_, State.act_of_eq (ceilingDescentStep_lowers hover habove hrecent), Dev.setVcore_vcore _ _, hover, Dev.setVcore_samePar _ _⟩
  · obtain ⟨domain, hmeaning⟩ := ceilingDescentStep_overrides hover habove hrecent
    obtain ⟨-, hin, hflag, -⟩ := s.dev.enterOverride_begins domain s.dev.pace.recent
    exact ⟨_, State.act_of_eq hmeaning, hin, hflag⟩
  · exact State.act_unchanged (ceilingDescentStep_atCeiling h)
  · exact act_answersLater ht hbar rfl

end

section
/-! PROOF. What VCORE's going leaves, and each cause of a reset: O35. -/

namespace Sys2Proof.Machine

/-! ### What VCORE's going leaves (R187, R199) -/

/-- The unit is in the state given, to start with the cause given; the S of the hold stands. -/
theorem Dev.down_power (d : Dev) (cause : Nat) (st : PowerState) :
    (d.down cause st).pwr.state = st ∧ (d.down cause st).pwr.cause = cause ∧ (d.down cause st).pwr.abortS = d.pwr.abortS := by
  unfold Dev.down
  simp only [Dev.set_pwr, apply_ite Dev.pwr, ite_self, and_self]

theorem Dev.down_resetCause (d : Dev) (cause : Nat) (st : PowerState) : (d.down cause st).get pResetCause = cause :=
  Dev.get_set_same _ pResetCause 0 cause

theorem Dev.down_resetN (d : Dev) (cause : Nat) (st : PowerState) : (d.down cause st).pins.resetN = d.pins.resetN := by
  unfold Dev.down
  simp only [Dev.set_pins, apply_ite Dev.pins, ite_self]

/-- The time goes on; commands, their entries and sessions are gone, and no command is the cause of what follows (R199). -/
theorem Dev.down_fresh (d : Dev) (cause : Nat) (st : PowerState) :
    (d.down cause st).time = d.time ∧ (d.down cause st).host.longs = [] ∧ (d.down cause st).host.outbox = [] ∧
      (∀ x ∈ (d.down cause st).slots, x.session = none) ∧ (d.down cause st).cause = none := by
  have hslots : (d.down cause st).slots = d.slots.map (fun s => { lockEnd := s.lockEnd }) := by
    unfold Dev.down
    simp only [Dev.set_slots, apply_ite Dev.slots, ite_self]
  have hhost : (d.down cause st).host = {} := by
    unfold Dev.down
    simp only [Dev.set_host, apply_ite Dev.host, ite_self]
  refine ⟨?_, by rw [hhost], by rw [hhost], fun x hx => ?_, ?_⟩
  · unfold Dev.down
    simp only [Dev.set_time, apply_ite Dev.time, ite_self]
  · obtain ⟨s, -, rfl⟩ := List.mem_map.1 (hslots ▸ hx)
    rfl
  · unfold Dev.down
    simp only [Dev.set_cause, apply_ite Dev.cause, ite_self]

/-- At a power-on the always-on domain and wall time are lost (R199, R388). -/
theorem Dev.down_powerOn (d : Dev) (st : PowerState) : (d.down 1 st).ao = {} ∧ (d.down 1 st).clk.wallSet = false := by
  unfold Dev.down
  simp only [Dev.set_ao, Dev.set_clk, apply_ite Dev.ao, apply_ite Dev.clk, ite_self]
  exact ⟨rfl, rfl⟩

/-! ### The causes (Table PS-5) -/

section Powered

/-! Outside OFF and the hold of a hard abort. -/

variable {d : Dev} (hoff : d.pwr.state ≠ .off) (hhold : d.pwr.state ≠ .hardHold)
include hoff hhold

theorem brownOutReset_below {v : Nat} (hv : v < 3000) : brownOutReset v d = (d.takeVsys v).resetTo 2 := by
  simp [brownOutReset, hoff, hhold, Nat.not_le.2 hv]

theorem resetPin_long {ns : Nat} (still : Bool) (hns : 10000 ≤ ns) :
    resetPin ns still d = ({ d with pins := { d.pins with resetN := !still } } : Dev).resetTo 3 := by
  simp [resetPin, hoff, hhold, Nat.not_lt.2 hns]

/-- A junction at S + 6 °C while VCORE is powered: every rail goes, and the S of that moment is kept for the hold (R211). -/
theorem hardAbort_hot {temps : List (Option Int)} (hp : d.powered = true)
    (hj : (d.takeTemps temps).thermalS + 96 ≤ (d.takeTemps temps).junction) :
    hardAbort temps d = ((d.takeTemps temps).updPwr (fun p => { p with abortS := (d.takeTemps temps).thermalS })).down 6 .hardHold := by
  have hpowered : (d.takeTemps temps).powered = true := hp
  simp [hardAbort, hoff, hhold, hpowered, Int.not_lt.2 hj]

end Powered

/-- RESET_N low for less than 10 µs shows at the pin, and resets nothing (Table PS-5). -/
theorem resetPin_short {d : Dev} {ns : Nat} (still : Bool) (hns : ns < 10000) (hoff : d.pwr.state ≠ .off) :
    resetPin ns still d = { d with pins := { d.pins with resetN := !still } } := by
  simp [resetPin, hoff, hns]

theorem alwaysOnLoss_below {d : Dev} {v : Nat} (hv : v < 2500) :
    alwaysOnLoss v d = (d.down 1 .off).updPwr (fun p => { p with vsys := v, resetAt := some d.time }) :=
  if_neg (Nat.not_le.2 hv)

theorem hardAbortRelease_cool {d : Dev} {j : Int} (hs : d.pwr.state = .hardHold) (hj : j < d.pwr.abortS - 240) :
    hardAbortRelease j d = d.updPwr (fun p =>
      { p with state := .off, resetAt := some d.time, temps := upd (p.temps.map (fun _ => none)) 0 (fun _ => some j) }) := by
  have hcool : ¬ d.pwr.abortS - 240 ≤ j := Int.not_le.2 hj
  exact if_neg (by simp only [hs, hcool, ne_eq, not_true, decide_false, Bool.or_self, Bool.false_eq_true, not_false_eq_true])

/-! ### The end of an orderly sequence (R206) -/

/-- WATCH with what the device before the end leaves the courier to do: sniff, or nothing. -/
def Dev.enterWatch (d : Dev) : Dev :=
  (d.down 7 .watch).set pCourierState 0 (if d.getB pWatchCourierSniff && d.courierKey.isSome then 4 else 0)

/-- Flushed, with its completions written or 1,100 ms gone, an orderly sequence ends its sessions, stores their records, and takes
the unit into reset or into WATCH. -/
theorem orderlyShutdownEnd_due {d : Dev} {target cause : Nat} {q : Sequence} (hq : d.pwr.sequence = some q)
    (hkind : q.kind = .orderly target cause) (hflushed : q.flushed = true)
    (hdue : d.host.outbox = [] ∨ msU 1100 ≤ d.since q.since) (hwake : d.pwr.orderlyWake = none) :
    orderlyShutdownEnd d =
      if target ≠ 0 then ((d.endSessions 3).storeLast).resetTo cause else ((d.endSessions 3).storeLast).enterWatch := by
  obtain ⟨kind, since, flushed⟩ := q
  subst hkind hflushed
  have hends : ¬ (d.host.outbox ≠ [] && decide (d.since since < msU 1100)) = true := by
    rcases hdue with h | h
    · simp [h]
    · simp [Nat.not_lt.2 h]
  simp only [orderlyShutdownEnd, hq, hwake]
  exact if_neg hends

end Sys2Proof.Machine

open Sys2Proof Sys2Proof.Machine

/-- Settles O35, cause by cause, from what VCORE's going leaves. -/
theorem resetsTakeTheirCause : Obligations.ResetsTakeTheirCause := by
  unfold Obligations.ResetsTakeTheirCause
  refine fun s => ⟨fun v hv hoff hhold => ?_, fun v hv => ?_, fun ns still hns hoff hhold => ?_, fun ns still hns hoff => ?_,
    fun temps hoff hhold hp hj => ?_, fun j hs hj => ?_, fun target cause q hq hkind hflushed hdue hwake => ?_⟩
  · obtain ⟨hstate, hcause, -⟩ := (s.dev.takeVsys v).down_power 2 .off
    exact ⟨_, State.act_of_eq (brownOutReset_below hoff hhold hv), hstate, hcause, Dev.down_resetCause _ _ _, Dev.down_fresh _ _ _⟩
  · obtain ⟨hstate, hcause, -⟩ := s.dev.down_power 1 .off
    obtain ⟨hao, hwall⟩ := s.dev.down_powerOn .off
    exact ⟨_, State.act_of_eq (alwaysOnLoss_below hv), hstate, hcause, hao, hwall, rfl, Dev.down_fresh _ _ _⟩
  · obtain ⟨hstate, hcause, -⟩ := ({ s.dev with pins := { s.dev.pins with resetN := !still } } : Dev).down_power 3 .off
    exact ⟨_, State.act_of_eq (resetPin_long hoff hhold still hns), hstate, hcause, Dev.down_resetN _ _ _, Dev.down_fresh _ _ _⟩
  · exact State.act_of_eq (resetPin_short still hns hoff)
  · obtain ⟨hstate, hcause, habortS⟩ := ((s.dev.takeTemps temps).updPwr
      (fun p => { p with abortS := (s.dev.takeTemps temps).thermalS })).down_power 6 .hardHold
    exact ⟨_, State.act_of_eq (hardAbort_hot hoff hhold hp hj), hstate, hcause, Dev.down_resetCause _ _ _, habortS, Dev.down_fresh _ _ _⟩
  · exact State.act_of_eq (hardAbortRelease_cool hs hj)
  · refine ⟨_, State.act_of_eq (orderlyShutdownEnd_due hq hkind hflushed hdue hwake), ?_⟩
    generalize (s.dev.endSessions 3).storeLast = d
    by_cases ht : target = 0
    · obtain ⟨hstate, -⟩ := d.down_power 7 .watch
      obtain ⟨-, hlongs, -, hsessions, -⟩ := d.down_fresh 7 .watch
      rw [if_neg (fun h => h ht)]
      exact ⟨fun _ => hstate, fun h => absurd ht h, hlongs, hsessions⟩
    · obtain ⟨hstate, hcause, -⟩ := d.down_power cause .off
      obtain ⟨-, hlongs, -, hsessions, -⟩ := d.down_fresh cause .off
      rw [if_pos ht]
      exact ⟨fun h => absurd h ht, fun _ => ⟨hstate, hcause⟩, hlongs, hsessions⟩

end

section
/-! SUPPORT. What the reports and resumptions of READY leave: the time, PHASE and the moment of READY. -/

namespace Sys2Proof.Machine

/-- The time, PHASE and the moment of READY are those of `d`. -/
structure SameStart (d e : Dev) : Prop where
  time : e.time = d.time
  phase : e.pwr.phase = d.pwr.phase
  readyAt : e.pwr.readyAt = d.pwr.readyAt

theorem SameStart.refl (d : Dev) : SameStart d d := ⟨rfl, rfl, rfl⟩

theorem SameStart.trans {d e f : Dev} (h : SameStart d e) (h' : SameStart e f) : SameStart d f :=
  ⟨h'.time.trans h.time, h'.phase.trans h.phase, h'.readyAt.trans h.readyAt⟩

/-- What both branches keep, the choice keeps. -/
theorem SameStart.ite {c : Prop} [Decidable c] {d e f : Dev} (he : SameStart d e) (hf : SameStart d f) :
    SameStart d (if c then e else f) := by
  split
  · exact he
  · exact hf

/-- A fold keeps what each of its steps keeps. -/
theorem SameStart.foldl {α : Type} {f : Dev → α → Dev} (hf : ∀ e x, SameStart e (f e x)) (l : List α) {d e : Dev}
    (h : SameStart d e) : SameStart d (l.foldl f e) := by
  induction l generalizing e with
  | nil => exact h
  | cons x l ih => exact ih (h.trans (hf e x))

/-! ### Records and events (R130, R534) -/

theorem SameStart.recordAs {d e : Dev} (h : SameStart d e) (part : Nat) (o : Bool) (agent : Nat) (late : Bool) (ts code : Nat)
    (p : List Byte) : SameStart d (e.recordAs part o agent late ts code p) := by
  rw [Dev.recordAs_frame]
  exact ⟨h.time, h.phase, h.readyAt⟩

theorem SameStart.raiseAs {d e : Dev} (h : SameStart d e) (part : Nat) (o : Bool) (agent code : Nat) (p : List Byte) :
    SameStart d (e.raiseAs part o agent code p) := by
  rw [Dev.raiseAs_frame]
  exact ⟨h.time, h.phase, h.readyAt⟩

theorem SameStart.raiseDev {d e : Dev} (h : SameStart d e) (code : Nat) (p : List Byte) : SameStart d (e.raiseDev code p) :=
  h.raiseAs _ _ _ _ _

theorem SameStart.raiseSlot {d e : Dev} (h : SameStart d e) (slot code : Nat) (p : List Byte) :
    SameStart d (e.raiseSlot slot code p) :=
  h.raiseAs _ _ _ _ _

/-! ### What the start found and held back (R195, R198, R200, R541, R569) -/

theorem Dev.startPrevious_sameStart (d : Dev) : SameStart d d.startPrevious := by
  unfold Dev.startPrevious
  split
  · exact .refl d
  · exact (SameStart.refl d).raiseDev _ _

theorem Dev.faultEntered_sameStart (d : Dev) : SameStart d d.faultEntered := by
  unfold Dev.faultEntered
  split
  · exact .refl d
  · exact SameStart.raiseDev (by exact ⟨rfl, rfl, rfl⟩) _ _

theorem Dev.recordLatched_sameStart (d : Dev) : SameStart d d.recordLatched :=
  SameStart.foldl (fun e _ => (SameStart.refl e).recordAs _ _ _ _ _ _ _) _ ⟨rfl, rfl, rfl⟩

theorem Dev.addLost_sameStart (d : Dev) (part n : Nat) : SameStart d (d.addLost part n) := by
  unfold Dev.addLost
  split <;> exact ⟨rfl, rfl, rfl⟩

theorem Dev.reportReset_sameStart (d : Dev) (part : Nat) : SameStart d (d.reportReset part) := by
  unfold Dev.reportReset
  refine SameStart.foldl (fun e r => ?run) _ ?thaw
  case thaw =>
    split
    · exact SameStart.recordAs (by exact ⟨rfl, rfl, rfl⟩) _ _ _ _ _ _ _
    · exact ⟨rfl, rfl, rfl⟩
  case run =>
    refine SameStart.recordAs ?_ _ _ _ _ _ _ _
    split
    · exact e.addLost_sameStart part r.count
    · exact .refl e

theorem Dev.startHeldEvent_sameStart (d : Dev) : SameStart d d.startHeldEvent := by
  unfold Dev.startHeldEvent
  split
  · exact .refl d
  · exact (SameStart.refl d).raiseDev _ _

/-! ### The ledger and the WAKE packet (R238, R308) -/

theorem Dev.restoreLedger_sameStart (d : Dev) : SameStart d d.restoreLedger := by
  unfold Dev.restoreLedger
  split
  · exact .refl d
  · exact SameStart.foldl (fun e s => SameStart.raiseSlot (by exact ⟨rfl, rfl, rfl⟩) s _ _) _ (.refl d)

theorem SameStart.heardFrom {d e : Dev} (h : SameStart d e) (b : List Byte) (rssi : Int) (antennaB : Bool) :
    SameStart d (e.heardFrom b rssi antennaB) := by
  have htime : (e.heardFrom b rssi antennaB).time = e.time := by simp [Dev.heardFrom, Dev.updPeer]
  have hpwr : (e.heardFrom b rssi antennaB).pwr = e.pwr := by simp [Dev.heardFrom, Dev.updPeer]
  exact ⟨htime.trans h.time, (congrArg Power.phase hpwr).trans h.phase, (congrArg Power.readyAt hpwr).trans h.readyAt⟩

theorem Dev.checkWake_sameStart (d : Dev) : SameStart d d.checkWake := by
  unfold Dev.checkWake
  split
  · exact .refl d
  · unfold Dev.wakeReceived
    dsimp only
    refine SameStart.raiseDev ?_ _ _
    split
    · exact SameStart.heardFrom (by exact ⟨rfl, rfl, rfl⟩) _ _ _
    · exact ⟨rfl, rfl, rfl⟩

/-! ### The sentences buffered (R195, R393) -/

theorem Dev.setWall_sameStart (d : Dev) (source flags anchorTkc wall uncUs : Nat) (event : Bool) :
    SameStart d (d.setWall source flags anchorTkc wall uncUs event) := by
  unfold Dev.setWall
  split
  · exact SameStart.raiseDev (by exact ⟨rfl, rfl, rfl⟩) _ _
  · exact ⟨rfl, rfl, rfl⟩

theorem SameStart.holdWall {d e : Dev} (h : SameStart d e) (source : Nat) : SameStart d (e.holdWall source) := by
  unfold Dev.holdWall
  split
  · exact ⟨h.time, h.phase, h.readyAt⟩
  · exact h

/-- A labelled epoch sets wall time, holds it as mismatched, or is only kept. -/
theorem Dev.epoch_sameStart (d : Dev) (edge label : Nat) (second60 : Bool) : SameStart d (d.epoch edge label second60) := by
  have hset := d.setWall_sameStart 1 0 edge label 0
  have hmismatch := fun code p => ((SameStart.refl d).raiseDev code p).holdWall 1
  unfold Dev.epoch
  refine .ite (.ite ?leapDriven ?leapKept) (.ite ?deleted (.ite (.ite ?driven (.ite ?mismatched ?doubted)) (.ite ?taken ?kept)))
  case leapDriven => exact SameStart.raiseDev (by exact ⟨(hset false).time, (hset false).phase, (hset false).readyAt⟩) _ _
  case deleted => exact SameStart.raiseDev (by exact ⟨(hset false).time, (hset false).phase, (hset false).readyAt⟩) _ _
  case driven => exact ⟨(hset false).time, (hset false).phase, (hset false).readyAt⟩
  case mismatched => exact ⟨(hmismatch _ _).time, (hmismatch _ _).phase, (hmismatch _ _).readyAt⟩
  case taken => exact ⟨(hset true).time, (hset true).phase, (hset true).readyAt⟩
  all_goals exact ⟨rfl, rfl, rfl⟩

theorem nmeaSentence_sameStart (label : Nat) (second60 statusV : Bool) (d : Dev) :
    SameStart d (nmeaSentence label second60 statusV d) := by
  have hkept : SameStart d (d.updClk (fun c => { c with lastSentence := some d.time, statusV := statusV })) := ⟨rfl, rfl, rfl⟩
  unfold nmeaSentence
  dsimp only
  generalize d.updClk (fun c => { c with lastSentence := some d.time, statusV := statusV }) = e at hkept ⊢
  refine .ite hkept (.ite (.ite hkept ⟨hkept.time, hkept.phase, hkept.readyAt⟩) ?_)
  split
  · exact .ite (hkept.trans (e.epoch_sameStart _ _ _)) hkept
  · exact hkept

theorem Dev.parseGnss_sameStart (d : Dev) : SameStart d d.parseGnss :=
  have h := SameStart.foldl (fun e (x : Nat × Bool × Bool) => nmeaSentence_sameStart x.1 x.2.1 x.2.2 e) d.pwr.gnssBuffer (.refl d)
  ⟨h.time, h.phase, h.readyAt⟩

/-! ### Erases and the CMD rings (R118, R196, R559) -/

theorem SameStart.startErase {d e : Dev} (h : SameStart d e) : SameStart d e.startErase := by
  unfold Dev.startErase
  split
  · exact h
  · split
    · exact h
    · split
      · split <;> exact ⟨h.time, h.phase, h.readyAt⟩
      · exact ⟨h.time, h.phase, h.readyAt⟩

theorem SameStart.abandonErase {d e : Dev} (h : SameStart d e) : SameStart d e.abandonErase := by
  unfold Dev.abandonErase
  split
  · exact h
  · exact SameStart.raiseDev (by exact ⟨h.time, h.phase, h.readyAt⟩) _ _

theorem Dev.checkErase_sameStart (d : Dev) : SameStart d d.checkErase := by
  unfold Dev.checkErase
  dsimp only
  split
  · exact SameStart.startErase (by exact ⟨rfl, rfl, rfl⟩)
  · exact SameStart.abandonErase (by exact ⟨rfl, rfl, rfl⟩)

theorem Dev.stallCheck_sameStart (d : Dev) (slot : Nat) : SameStart d (d.stallCheck slot) := by
  unfold Dev.stallCheck
  split
  · exact ⟨rfl, rfl, rfl⟩
  · exact SameStart.raiseSlot (by exact ⟨rfl, rfl, rfl⟩) _ _ _
  · exact .refl d

theorem Dev.settlePort_sameStart (d : Dev) : SameStart d d.settlePort := by
  unfold Dev.settlePort
  refine SameStart.foldl (fun e k => ?_) _ (.refl d)
  have h := e.stallCheck_sameStart k
  exact ⟨h.time, h.phase, h.readyAt⟩

theorem Dev.allDue_sameStart (d : Dev) : SameStart d d.allDue := by
  unfold Dev.allDue
  refine SameStart.foldl (fun e k => ?_) _ d.settlePort_sameStart
  exact ⟨rfl, rfl, rfl⟩

end Sys2Proof.Machine
end

section
/-! PROOF. The start-up timeline: O34. -/

namespace Sys2Proof.Machine

/-! ### Release (R193, R198, R199) -/

/-- HOST_SEL sampled at a power-on, and at no other start (R89). -/
def Dev.sampleHostSel (d : Dev) (sel : Bool) : Dev := if d.pwr.cause = 1 then { d with pins := { d.pins with hostSel := sel } } else d

/-- In OFF with supply, pins and 2 ms as R193 asks, the unit is released. -/
theorem resetRelease_due {d : Dev} {vsys : Nat} (sel : Bool) (hoff : d.pwr.state = .off) (hv : 4600 ≤ vsys)
    (hpin : d.pins.resetN = true) (htap : d.tapHolds = false) (hpast : ∀ t, d.pwr.resetAt = some t → msU 2 ≤ d.since t) :
    resetRelease vsys sel d = ((d.sampleHostSel sel).takeVsys vsys).release0 := by
  unfold resetRelease
  refine if_neg ?_
  cases hreset : d.pwr.resetAt with
  | none => simp [hoff, Nat.not_lt.2 hv, hpin, htap]
  | some t => simp [hoff, Nat.not_lt.2 hv, hpin, htap, Nat.not_lt.2 (hpast t hreset)]

theorem Dev.sampleHostSel_frame (d : Dev) (sel : Bool) : d.sampleHostSel sel = { d with pins := (d.sampleHostSel sel).pins } := by
  unfold Dev.sampleHostSel
  split <;> rfl

theorem Dev.sampleHostSel_hostSel (d : Dev) (sel : Bool) :
    (d.sampleHostSel sel).pins.hostSel = if d.pwr.cause = 1 then sel else d.pins.hostSel := by
  unfold Dev.sampleHostSel
  split <;> rfl

/-- A release begins the timeline, held at once at 112 °C or above, with the TKC at 0 after a power-on. -/
theorem Dev.release0_begins (d : Dev) :
    d.release0.pwr.state = .active ∧ d.release0.pwr.phase = .boot ∧ d.release0.pwr.releaseAt = d.time ∧
      d.release0.pwr.startHeld = (if 1792 ≤ d.junction then some d.time else none) ∧
      d.release0.tkc = (if d.pwr.cause = 1 then 0 else d.tkc) ∧ d.release0.pins = d.pins := by
  unfold Dev.release0
  split <;> exact ⟨rfl, rfl, rfl, ite_congr (propext decide_eq_true_iff) (fun _ => rfl) (fun _ => rfl), rfl, rfl⟩

/-- RESET_CAUSE is the cause of the reset before (R199). -/
theorem Dev.release0_resetCause (d : Dev) : d.release0.get pResetCause = d.pwr.cause := by
  unfold Dev.release0 Dev.bumpNv
  rw [Dev.get_set_id _ _ _ _ _ _ (by decide) (by decide) (by decide),
    Dev.get_setNv_ne _ _ _ _ _ _ (by decide), Dev.get_set_same]
  split <;> rfl

theorem Dev.release0_vsysNow (d : Dev) : d.release0.get pVsysNow = d.get pVsysNow := by
  unfold Dev.release0 Dev.bumpNv
  rw [Dev.get_set_id _ _ _ _ _ _ (by decide) (by decide) (by decide),
    Dev.get_setNv_ne _ _ _ _ _ _ (by decide), Dev.get_set_id _ _ _ _ _ _ (by decide) (by decide) (by decide),
    Dev.get_set_id _ _ _ _ _ _ (by decide) (by decide) (by decide)]
  split <;> rfl

theorem Dev.takeVsys_vsysNow (d : Dev) (v : Nat) : (d.takeVsys v).get pVsysNow = (min 20000 v : Nat) := by
  unfold Dev.takeVsys
  rw [Dev.get_set_id _ _ _ _ _ _ (by decide) (by decide) (by decide), Dev.get_set_same]

/-! ### The window, the phases and the steps (R194, R216, Table PS-3) -/

theorem hrwReadable_opens {d : Dev} (hactive : d.pwr.state = .active) (hheld : d.pwr.startHeld = none)
    (hclosed : d.host.readable = false) (htransport : d.get pHostTransport = 1 ∨ d.pwr.vioValid = true) :
    hrwReadable d = { d with
      host := { d.host with readable := true, usb := decide (d.get pHostTransport = 1) }, pins := { d.pins with hostIrqN := true } } := by
  unfold hrwReadable
  refine if_neg ?_
  rcases htransport with h | h <;> simp [hactive, hheld, hclosed, h]

/-- A PHASE moved to shows at DEV_IRQ[0], and changes nothing else but HOST_IRQ_N (R97). -/
theorem Dev.setPhase_moves {d : Dev} {p : Phase} (h : d.pwr.phase ≠ p) :
    d.setPhase p = ({ d with pwr := { d.pwr with phase := p } } : Dev).setDevIrq 0 :=
  if_neg h

/-- Images and factory data that verify bring QUIRES; factory data that do not bring FAULT of cause 5 (R568). -/
theorem phaseQuires_verified {d : Dev} (other factoryOk : Bool) (hactive : d.pwr.state = .active) (hboot : d.pwr.phase = .boot)
    (hheld : d.pwr.startHeld = none) :
    phaseQuires true true other factoryOk [] d = if factoryOk then (d.quiresUp true).setPhase .quires else d.enterFault 5 := by
  unfold phaseQuires
  cases factoryOk <;> simp [hactive, hboot, hheld]

theorem Dev.setPhase_pwr (d : Dev) (p : Phase) : (d.setPhase p).pwr = { d.pwr with phase := p } := by
  unfold Dev.setPhase
  split
  · next h => rw [← h]
  · rfl

theorem Dev.setPhase_time (d : Dev) (p : Phase) : (d.setPhase p).time = d.time := by
  unfold Dev.setPhase
  split <;> rfl

theorem Dev.enterFault_enters {d : Dev} (cause : Nat) (h : d.pwr.phase ≠ .fault) :
    (d.enterFault cause).pwr.phase = .fault ∧ (d.enterFault cause).pwr.faultCause = cause := by
  unfold Dev.enterFault
  rw [if_neg h, Dev.setPhase_pwr]
  exact ⟨rfl, rfl⟩

theorem laneCalibrationComplete_reached {d : Dev} (hactive : d.pwr.state = .active) (hheld : d.pwr.startHeld = none)
    (hboot : d.pwr.phase ≠ .boot) (hcal : d.pwr.lanesCal = false) :
    laneCalibrationComplete d = ({ d with pwr := { d.pwr with lanesCal := true } } : Dev).subsys 5 true := by
  simp [laneCalibrationComplete, hactive, hheld, hboot, hcal, Dev.updPwr]

theorem startComplete_reports {d : Dev} (hready : d.pwr.phase = .ready) (honce : d.pwr.startComplete = false)
    (hdue : d.stepsReached = true ∨ msU 1200 ≤ d.since d.pwr.releaseAt) :
    startComplete d = ({ d with pwr := { d.pwr with startComplete := true } } : Dev).raiseDev 0x0184
      (e8 d.pwr.cause ++ zs 1 ++ e16 (d.getN pSubsysUp % 65536) ++ e32 (d.getN pStartReadyTime) ++
        e32 (durOf (d.since d.pwr.releaseAt)) ++ e32 (d.getN pGnssEarlyOverflow)) := by
  unfold startComplete
  refine if_neg ?_
  rcases hdue with h | h <;> simp [hready, honce, h]

theorem startComplete_once {d : Dev} (h : d.pwr.startComplete = true) : startComplete d = d := by
  simp [startComplete, h]

/-! ### READY (R194 to R196) -/

/-- PHASE is READY from now, with its time since the release. -/
def Dev.reachReady (d : Dev) : Dev :=
  let e := (d.setPhase .ready).updPwr (fun p => { p with readyAt := some (d.setPhase .ready).time })
  e.set pStartReadyTime 0 (durOf ((d.setPhase .ready).since (d.setPhase .ready).pwr.releaseAt) : Nat)

theorem Dev.reachReady_ready (d : Dev) :
    d.reachReady.pwr.phase = .ready ∧ d.reachReady.pwr.readyAt = some d.time ∧ d.reachReady.time = d.time := by
  simp [Dev.reachReady, Dev.updPwr, Dev.setPhase_pwr, Dev.setPhase_time]

/-- Once READY is reached, what is recorded, reported and taken up again leaves the time, PHASE and the moment of READY. -/
theorem phaseReady_sameStart {d : Dev} (hactive : d.pwr.state = .active) (hquires : d.pwr.phase = .quires)
    (hheld : d.pwr.startHeld = none) (hrestart : d.pwr.restartC = false) : SameStart d.reachReady (phaseReady d) := by
  have hguard : ¬ (d.pwr.state ≠ .active || d.pwr.phase ≠ .quires || d.pwr.startHeld.isSome) = true := by
    simp [hactive, hquires, hheld]
  have hfirst : ¬ (d.setPhase .ready).pwr.restartC = true := by
    rw [Dev.setPhase_pwr]
    exact Bool.eq_false_iff.1 hrestart
  unfold phaseReady
  rw [if_neg hguard]
  extract_lets d1 d2 d3 d4 d5 d6 d7 d8
  rw [if_neg hfirst]
  -- A stage's device is forgotten once its lemma holds: the proof never carries the whole chain of updates.
  have hready : SameStart d.reachReady d2 := .refl _
  clear_value d2
  have hlatched : SameStart d2 d3 := (d2.startPrevious_sameStart.trans (Dev.faultEntered_sameStart _)).trans (Dev.recordLatched_sameStart _)
  clear_value d3
  have hreset : SameStart d3 d4 := SameStart.foldl Dev.reportReset_sameStart _ (.refl d3)
  clear_value d4
  have hevent := d4.startHeldEvent_sameStart
  have hheldEvent : SameStart d4 d5 := ⟨hevent.time, hevent.phase, hevent.readyAt⟩
  clear_value d5
  have hwoken : SameStart d5 d6 := by
    unfold d6
    split
    · exact (SameStart.refl d5).raiseDev _ _
    · exact .refl d5
  clear_value d6
  have hrestored := d6.restoreLedger_sameStart
  have hledger : SameStart d6 d7 := ⟨hrestored.time, hrestored.phase, hrestored.readyAt⟩
  clear_value d7
  have hparsed := d7.checkWake_sameStart.trans d7.checkWake.parseGnss_sameStart
  have hdriven : SameStart d7 d8 := by
    unfold d8 Dev.renewReserves Dev.driveChg
    exact ⟨hparsed.time, hparsed.phase, hparsed.readyAt⟩
  clear_value d8
  have hsubsys : SameStart d7 (d8.subsys 6 true) := ⟨hdriven.time, hdriven.phase, hdriven.readyAt⟩
  have hdue := (hsubsys.trans (Dev.checkErase_sameStart _)).trans (Dev.allDue_sameStart _)
  exact (((((hready.trans hlatched).trans hreset).trans hheldEvent).trans hwoken).trans hledger).trans hdue

/-- PHASE is READY from the time of the step on. -/
theorem phaseReady_reaches {d : Dev} (hactive : d.pwr.state = .active) (hquires : d.pwr.phase = .quires)
    (hheld : d.pwr.startHeld = none) (hrestart : d.pwr.restartC = false) :
    (phaseReady d).pwr.phase = .ready ∧ (phaseReady d).pwr.readyAt = some d.time ∧ (phaseReady d).time = d.time := by
  have hsame := phaseReady_sameStart hactive hquires hheld hrestart
  obtain ⟨hphase, hready, htime⟩ := d.reachReady_ready
  exact ⟨hsame.phase.trans hphase, hsame.readyAt.trans hready, hsame.time.trans htime⟩

end Sys2Proof.Machine

open Sys2Proof Sys2Proof.Machine

/-- Settles O34, step by step along the timeline of Table PS-3. -/
theorem startUpTimeline : Obligations.StartUpTimeline := by
  unfold Obligations.StartUpTimeline
  refine fun s => ⟨fun vsys sel hoff hv hpin htap hpast => ?_, fun hactive hheld hclosed htransport => ?_,
    fun other hactive hboot hheld => ⟨?_, ?_⟩, fun hactive hquires hheld hrestart => ?_, fun hactive hheld hboot hcal => ?_,
    fun hready honce hdue => ?_, fun h => ?_⟩
  · obtain ⟨hstate, hphase, hrelease, hheld, htkc, hpins⟩ := ((s.dev.sampleHostSel sel).takeVsys vsys).release0_begins
    have hcause := ((s.dev.sampleHostSel sel).takeVsys vsys).release0_resetCause
    have hvsys := ((s.dev.sampleHostSel sel).takeVsys vsys).release0_vsysNow
    rw [Dev.takeVsys_vsysNow] at hvsys
    have hsel : ((s.dev.sampleHostSel sel).takeVsys vsys).release0.pins.hostSel =
        if s.dev.pwr.cause = 1 then sel else s.dev.pins.hostSel := by
      rw [hpins]
      exact s.dev.sampleHostSel_hostSel sel
    refine ⟨_, State.act_of_eq (resetRelease_due sel hoff hv hpin htap hpast), hstate, hphase, ?_⟩
    rw [Dev.sampleHostSel_frame] at hrelease hheld htkc hcause hvsys hsel ⊢
    refine ⟨hrelease, hcause, hvsys, hheld, fun h => ⟨htkc.trans (if_pos h), hsel.trans (if_pos h)⟩,
      fun h => ⟨htkc.trans (if_neg h), hsel.trans (if_neg h)⟩⟩
  · exact State.act_of_eq (hrwReadable_opens hactive hheld hclosed htransport)
  · refine ⟨_, State.act_of_eq (phaseQuires_verified other true hactive hboot hheld), ?_⟩
    have hmoves : (s.dev.quiresUp true).pwr.phase ≠ .quires := by
      show s.dev.pwr.phase ≠ .quires
      rw [hboot]
      decide
    rw [if_pos rfl, Dev.setPhase_moves hmoves]
    exact ⟨rfl, rfl, rfl, rfl⟩
  · refine ⟨_, State.act_of_eq (phaseQuires_verified other false hactive hboot hheld), ?_⟩
    exact Dev.enterFault_enters 5 (by rw [hboot]; decide)
  · exact ⟨_, State.act_of_eq rfl, phaseReady_reaches hactive hquires hheld hrestart⟩
  · exact State.act_of_eq (laneCalibrationComplete_reached hactive hheld hboot hcal)
  · exact State.act_of_eq (startComplete_reports hready honce hdue)
  · exact State.act_unchanged (startComplete_once h)

end

section
/-! PROOF. The completion of MODE_SET: O37 fails as stated. -/

namespace Sys2Proof.Machine

/-! ### A mode change for a slot out of range (O37)

The clause of MODE_SET_COMPLETE holds the slot of the request noted to no bound, where the block has eight (`Instr.wf`). LONG_CMDS_OPEN of
a slot that does not exist lies on MODE (`parKey_modeSlot`), and the completion, which writes it last, puts MODE back to its default. -/

/-- The slot that does not exist whose LONG_CMDS_OPEN has the key of MODE. -/
def modeSlot : Nat := (pMode - pLongCmdsOpen) * 65536

theorem parKey_modeSlot : parKey pLongCmdsOpen modeSlot = parKey pMode 0 := by decide

/-- A MODE_SET of the mode 0, open in that slot. -/
def strayModeSet : LongCmd := { slot := modeSlot, ref := 7, opcode := 0x0101, bound := 300, body := e8 0 ++ zs 3 }

/-- The block with the change to the mode 0 under way. -/
def strayModeChange : State :=
  { dev := { host := { longs := [strayModeSet] }, pwr := { modeSet := some (modeSlot, 7, 0) } } }

/-- The completion leaves the mode 1 in force, not 0. -/
theorem strayModeChange_unsets_mode : (modeSetComplete strayModeChange.dev).get pMode = 1 := by
  decide +kernel

end Sys2Proof.Machine

open Sys2Proof Sys2Proof.Machine

/-- Refutes O37: the statement bounds no slot, and the completion of a MODE_SET of the mode 0 for the slot 16,711,680, which does not
exist, writes its LONG_CMDS_OPEN over MODE, which reads 1 and not 0. -/
theorem not_sleepWatchAndModes : ¬ Obligations.SleepWatchAndModes := by
  unfold Obligations.SleepWatchAndModes
  intro h
  obtain ⟨-, -, -, hcompletes, -⟩ := h strayModeChange default
  obtain ⟨e, he, hmode, -⟩ := hcompletes modeSlot 7 0 rfl (Or.inr rfl)
  have hdev : modeSetComplete strayModeChange.dev = e := State.act_eq_on he
  rw [← hdev, strayModeChange_unsets_mode] at hmode
  exact absurd hmode (by decide)

end

section
/-! SUPPORT. How a host command that opens a long command ends, what the end of a long command leaves, and what several changes leave
of the parameters. -/

namespace Sys2Proof.Machine

/-! ### Long commands opened and ended (R147, R150) -/

/-- A meaning that opens a long command, with nothing barring the NVM write it starts, if it starts one: ACCEPTED is its first response. -/
theorem act_accepts {c : CmdSpec} {r : Request} {s : State} {d : Dev} {bound : Nat} (h : Takes c s r)
    (ha : c.run { s.dev with cause := some (r.slot, r.ref) } r = { dev := d, reply := accepted bound })
    (hbar : c.nvm s.dev r = false ∨ s.dev.nvmBar = none) :
    s.act (hostCmd c r) = .next (s.on (({ d with cause := s.dev.cause } : Dev).accept r c.opcode bound)) := by
  rw [act_takes h]
  obtain hn | hbar := hbar
  · simp [CmdSpec.effect, ha, hn, accepted, Dev.accept, State.on]
  · simp [CmdSpec.effect, ha, hbar, accepted, Dev.accept, State.on]

/-- An open long command is found under its slot. -/
theorem Dev.longIs_slot {d : Dev} {slot ref opcode : Nat} {l : LongCmd} (h : d.longIs slot ref opcode = some l) : l.slot = slot := by
  have hfound := List.find?_some h
  simp only [Bool.and_eq_true, beq_iff_eq] at hfound
  obtain ⟨⟨hslot, -⟩, -⟩ := hfound
  exact hslot

/-- What is completed has ended. -/
theorem Dev.complete_ended (d : Dev) (l : LongCmd) (rep : Reply) : Ended l rep (d.complete l rep) := by
  refine ⟨List.getLast?_concat, List.find?_eq_none.2 fun x hx hmatch => ?_⟩
  obtain ⟨-, hother⟩ := List.mem_filter.1 hx
  rw [hmatch] at hother
  exact absurd hother (by decide)

/-! ### Responses held back (R145) -/

/-- A response held back is the last entry of the journal (R145). -/
theorem Dev.holdBack_last (d : Dev) (r : Request) (op : Nat) (rep : Reply) (shared : Bool) :
    ((d.holdBack r op rep shared).nvm.queue.getLast?).map (fun q => q.act) = some (.respond r.slot r.ref r.tagged op rep) := by
  cases shared <;> simp [Dev.holdBack, Dev.journal]

theorem Dev.holdBack_cour (d : Dev) (r : Request) (op : Nat) (rep : Reply) (shared : Bool) :
    (d.holdBack r op rep shared).cour = d.cour := by
  cases shared <;> rfl

theorem Dev.holdBack_get (d : Dev) (r : Request) (op : Nat) (rep : Reply) (shared : Bool) (id i : Nat) :
    (d.holdBack r op rep shared).get id i = d.get id i := by
  cases shared <;> rfl

theorem Dev.holdBack_getN (d : Dev) (r : Request) (op : Nat) (rep : Reply) (shared : Bool) (id i : Nat) :
    (d.holdBack r op rep shared).getN id i = d.getN id i :=
  congrArg Int.toNat (d.holdBack_get r op rep shared id i)

/-! ### What several changes leave alone -/

/-- A fold keeps what each of its steps keeps. -/
theorem foldl_keeps {α β : Type} {f : Dev → α → Dev} (g : Dev → β) (hf : ∀ e x, g (f e x) = g e) (l : List α) (d : Dev) :
    g (l.foldl f d) = g d := by
  induction l generalizing d with
  | nil => rfl
  | cons x l ih => exact (ih (f d x)).trans (hf d x)

theorem SamePar.refl (ids : List Nat) (d : Dev) : SamePar ids d d := fun _ _ _ _ => rfl

/-- A fold leaves alone what each of its steps leaves alone. -/
theorem SamePar.foldl {α : Type} {ids : List Nat} {f : Dev → α → Dev} {l : List α} (hf : ∀ e, ∀ x ∈ l, SamePar ids e (f e x)) (d : Dev) :
    SamePar ids d (l.foldl f d) := by
  induction l generalizing d with
  | nil => exact .refl ids d
  | cons x l ih =>
    exact (hf d x (List.mem_cons_self ..)).trans (ih (fun e y hy => hf e y (List.mem_cons_of_mem x hy)) (f d x))

theorem Dev.setNv_samePar (d : Dev) (id : Nat) {i : Nat} (v : Int) (hi : i < 65536) : SamePar [id] d (d.setNv id i v) :=
  d.set_samePar id v hi

@[simp] theorem Dev.getN_setNv_same (d : Dev) (id i n : Nat) : (d.setNv id i (n : Nat)).getN id i = n :=
  d.getN_set_same id i n

theorem Dev.courierState_samePar (d : Dev) (st : Nat) (pa : Bool) : SamePar [pCourierState] d (d.courierState st pa) :=
  d.set_samePar pCourierState st (by decide)

theorem Dev.courierState_getN (d : Dev) (st : Nat) (pa : Bool) : (d.courierState st pa).getN pCourierState = st :=
  d.getN_set_same pCourierState 0 st

theorem Dev.complete_samePar (d : Dev) {l : LongCmd} (rep : Reply) (h : l.slot < 65536) :
    SamePar [pLongCmdsOpen] d (d.complete l rep) :=
  Dev.set_samePar _ pLongCmdsOpen _ h

end Sys2Proof.Machine
end

section
/-! PROOF. The courier's commands: O45. -/

namespace Sys2Proof.Machine

/-! ### COURIER_PROFILE_SET (R300, R303) -/

/-- A send is open in some slot. -/
def Dev.sending (d : Dev) : Prop := ∃ l ∈ d.host.longs, l.opcode = 0x0502

theorem Dev.sending_iff (d : Dev) : d.sending ↔ d.host.longs.any (fun l => l.opcode = 0x0502) = true := by
  simp only [Dev.sending, List.any_eq_true, decide_eq_true_eq]

theorem courierProfileSet_run_sending {d : Dev} {r : Request} (h : d.sending) : cmdCourierProfileSet.run d r = refuse d (fail .state) :=
  if_pos (d.sending_iff.1 h)

theorem courierProfileSet_run_unordered {d : Dev} {r : Request} (hidle : ¬ d.sending) (h : powerTableOrdered r.blk = false) :
    cmdCourierProfileSet.run d r = refuse d (fail .badArg) :=
  (if_neg fun hs => hidle (d.sending_iff.2 hs)).trans (if_pos (by rw [h]; rfl))

theorem courierProfileSet_run_ordered {d : Dev} {r : Request} (hidle : ¬ d.sending) (h : powerTableOrdered r.blk = true) :
    cmdCourierProfileSet.run d r = { dev := d, reply := accepted 300 } :=
  (if_neg fun hs => hidle (d.sending_iff.2 hs)).trans (if_neg (by rw [h]; decide))

/-! ### The end of COURIER_PROFILE_SET (R303, R311, R314) -/

/-- The parameters of a COURIER_PROFILE_SET set. -/
def Dev.setProfile (d : Dev) (l : LongCmd) : Dev :=
  (((d.setNv pCourierProfile 0 (fld l.body 0 1)).setNv pCourierRate 0 (fld l.body 1 1)).setNv pCourierNetId 0 (fld l.body 2 2)).setNv
    pCourierSniffInterval 0 (fld l.body 4 4)

/-- The profile and its power table put in force, with what waits discarded and counted (R303). -/
def Dev.takeProfile (d : Dev) (l : LongCmd) : Dev :=
  ((d.setProfile l).updCour (fun c => { c with table := l.blk, queue := [], waiting := none })).countDev
    (fun s => { s with deferrals := sat 4294967295 (s.deferrals + d.cour.queue.length) })

/-- The profile in force on its calibrated channels, with the steps at their start. -/
def Dev.startProfile (d : Dev) (l : LongCmd) (failed : List Nat) : Dev := ((d.takeProfile l).calProfile failed).startSteps

/-- The profile's journal write begun, and the radio in COURIER_RETURN_STATE. -/
def Dev.enterProfile (d : Dev) : Dev :=
  (d.journal 0x0501 0 (entryPages 136) none .none).courierState (d.getN pCourierReturnState) false

/-- The device as the profile's completion finds it. -/
def Dev.profileEnd (d : Dev) (l : LongCmd) (failed : List Nat) : Dev := (d.startProfile l failed).enterProfile

/-- The completion's body, with the channels that `e` has calibrated (R314). -/
def Dev.profileBody (d : Dev) (l : LongCmd) (e : Dev) : List Byte :=
  slice l.body 0 1 ++ e8 (e.cour.cal.filter (fun x => x.isSome)).length ++ zs 2 ++ e32 (durOf (d.since l.since))

theorem courierProfileSetComplete_eq {d : Dev} {slot ref : Nat} {l : LongCmd} (h : d.longIs slot ref 0x0501 = some l)
    (failed : List Nat) : courierProfileSetComplete slot ref failed d =
      (d.profileEnd l failed).complete l (okBody (d.profileBody l (d.profileEnd l failed))) := by
  simp only [courierProfileSetComplete, h]
  rfl

/-- The parameters of a profile. -/
def profileIds : List Nat := [pCourierProfile, pCourierRate, pCourierNetId, pCourierSniffInterval]

theorem Dev.takeProfile_samePar (d : Dev) (l : LongCmd) : SamePar profileIds d (d.takeProfile l) :=
  (((d.setNv_samePar pCourierProfile _ (by decide)).mono (by decide)).trans ((Dev.setNv_samePar _ pCourierRate _ (by decide)).mono (by decide))).trans
    (((Dev.setNv_samePar _ pCourierNetId _ (by decide)).mono (by decide)).trans
      ((Dev.setNv_samePar _ pCourierSniffInterval _ (by decide)).mono (by decide)))

theorem Dev.setProfile_reads (d : Dev) (l : LongCmd) :
    (d.setProfile l).getN pCourierProfile = fld l.body 0 1 ∧ (d.setProfile l).getN pCourierRate = fld l.body 1 1 ∧
      (d.setProfile l).getN pCourierNetId = fld l.body 2 2 ∧ (d.setProfile l).getN pCourierSniffInterval = fld l.body 4 4 := by
  simp (disch := decide) only [Dev.setProfile, Dev.getN, Dev.get_setNv_ne, Dev.get_setNv_same, Int.toNat_natCast, and_self]

@[simp] theorem Dev.takeProfile_getN (d : Dev) (l : LongCmd) (id i : Nat) : (d.takeProfile l).getN id i = (d.setProfile l).getN id i := rfl

/-- The parameters that the calibration of channels moves. -/
def calIds : List Nat := pCourierCalValid :: lossIds

theorem Dev.calChannel_samePar (d : Dev) (c : Nat) (ok : Bool) : SamePar calIds d (d.calChannel c ok) := by
  have hstored (x : Dev) (v : Int) : SamePar calIds x (x.set pCourierCalValid 0 v) :=
    (x.set_samePar pCourierCalValid v (by decide)).mono (by decide)
  cases ok with
  | true => exact hstored (d.updCour _) _
  | false => exact (hstored (d.updCour _) _).trans ((Dev.raiseDev_samePar _ _ _).mono (by decide))

theorem Dev.calProfile_samePar (d : Dev) (failed : List Nat) : SamePar calIds d (d.calProfile failed) :=
  SamePar.foldl (fun _ _ _ => Dev.calChannel_samePar _ _ _) (d.updCour fun x => { x with cal := List.replicate 64 none })

theorem Dev.startSteps_samePar (d : Dev) : SamePar [pCourierStep] d d.startSteps :=
  SamePar.foldl (fun e u hu => e.set_samePar pCourierStep _ (by have := List.mem_range.1 hu; omega)) d

/-- The courier without its calibration. -/
def Courier.uncalibrated (c : Courier) : Courier := { c with cal := [] }

theorem Dev.raiseDev_cour (d : Dev) (code : Nat) (p : List Byte) : (d.raiseDev code p).cour = d.cour := by
  rw [Dev.raiseDev, Dev.raiseAs_frame]

theorem Dev.calChannel_uncalibrated (d : Dev) (c : Nat) (ok : Bool) : (d.calChannel c ok).cour.uncalibrated = d.cour.uncalibrated := by
  cases ok with
  | true => rfl
  | false =>
    simp only [Dev.calChannel, Bool.false_eq_true, if_false, Dev.raiseDev_cour]
    rfl

/-- The calibration of a profile changes nothing else of the courier (R303). -/
theorem Dev.calProfile_uncalibrated (d : Dev) (failed : List Nat) : (d.calProfile failed).cour.uncalibrated = d.cour.uncalibrated :=
  foldl_keeps (fun e => e.cour.uncalibrated) (fun e c => e.calChannel_uncalibrated c _) _ _

theorem Dev.startSteps_cour (d : Dev) : d.startSteps.cour = d.cour := by
  unfold Dev.startSteps
  exact foldl_keeps Dev.cour (fun e u => e.set_cour pCourierStep u _) _ d

/-- The parameters that the end of a COURIER_PROFILE_SET moves beside those of the profile, COURIER_STATE and LONG_CMDS_OPEN. -/
theorem Dev.startProfile_samePar (d : Dev) (l : LongCmd) (failed : List Nat) :
    SamePar (pCourierStep :: calIds) (d.takeProfile l) (d.startProfile l failed) :=
  ((Dev.calProfile_samePar _ failed).mono (by decide)).trans ((Dev.startSteps_samePar _).mono (by decide))

theorem Dev.enterProfile_samePar (d : Dev) : SamePar [pCourierState] d d.enterProfile :=
  Dev.courierState_samePar (d.journal 0x0501 0 (entryPages 136) none .none) _ _

theorem Dev.enterProfile_state (d : Dev) : d.enterProfile.getN pCourierState = d.getN pCourierReturnState :=
  Dev.courierState_getN (d.journal 0x0501 0 (entryPages 136) none .none) _ _

theorem Dev.enterProfile_cour (d : Dev) : d.enterProfile.cour = d.cour := rfl

/-- The radio is in COURIER_RETURN_STATE as it was set before (R302, the model's choice of log entry 31). -/
theorem Dev.profileEnd_state (d : Dev) (l : LongCmd) (failed : List Nat) :
    (d.profileEnd l failed).getN pCourierState = d.getN pCourierReturnState := by
  rw [Dev.profileEnd, Dev.enterProfile_state, (d.startProfile_samePar l failed).getN_eq (by decide) (by decide),
    (d.takeProfile_samePar l).getN_eq (by decide) (by decide)]

/-- The profile's parameters are not moved on the way from their setting to the completion. -/
theorem Dev.profileEnd_keeps (d : Dev) (l : LongCmd) (failed : List Nat) {id : Nat} (hid : id ∈ profileIds) :
    (d.profileEnd l failed).getN id = (d.setProfile l).getN id := by
  have hstate : id ∉ [pCourierState] := by revert id; decide
  have hcal : id ∉ pCourierStep :: calIds := by revert id; decide
  rw [Dev.profileEnd, (Dev.enterProfile_samePar _).getN_eq hstate (by decide),
    (d.startProfile_samePar l failed).getN_eq hcal (by decide), Dev.takeProfile_getN]

theorem Dev.profileEnd_cour (d : Dev) (l : LongCmd) (failed : List Nat) :
    (d.profileEnd l failed).cour.table = l.blk ∧ (d.profileEnd l failed).cour.queue = [] := by
  have hcour : (d.profileEnd l failed).cour = ((d.takeProfile l).calProfile failed).cour := by
    rw [Dev.profileEnd, Dev.enterProfile_cour, Dev.startProfile, Dev.startSteps_cour]
  have hrest := (d.takeProfile l).calProfile_uncalibrated failed
  rw [hcour]
  exact ⟨congrArg Courier.table hrest, congrArg Courier.queue hrest⟩

/-! ### COURIER_SEND (R304, R306, R311) -/

/-- A profile, a key and a destination in the chain: what a send needs. -/
def Dev.sendReady (d : Dev) (r : Request) : Prop :=
  d.get pCourierProfile ≠ 0 ∧ d.courierKey ≠ none ∧ (rq r 0 1 = 255 ∨ d.inChain (rq r 0 1) = true)

/-- A send to the unit itself, or a broadcast that asks for an ACK. -/
def Dev.sendBad (d : Dev) (r : Request) : Prop := rq r 0 1 = d.getN pUnitNumber ∨ (rq r 2 1 = 1 ∧ rq r 0 1 = 255)

/-- What the packets of a send have in common. -/
def sendBase (r : Request) : Packet :=
  { slot := r.slot, ref := r.ref, dest := rq r 0 1 % 8, broadcast := decide (rq r 0 1 = 255), ackReq := decide (rq r 2 1 = 1) }

/-- The packet of a WAKE: device traffic that needs no grant (log entry 61). -/
def wakePacket (r : Request) : Packet := { sendBase r with kind := 2 }

/-- The packet of DATA, which waits for its grant: its slot and length stand before its bytes (R306). -/
def dataPacket (r : Request) : Packet :=
  { sendBase r with device := false, granted := false, payload := e8 r.slot ++ e8 (rq r 3 1) ++ slice r.body 4 (rq r 3 1) }

/-- A packet put behind those that wait. -/
def Dev.queuePacket (d : Dev) (p : Packet) : Dev := { d with cour := { d.cour with queue := d.cour.queue ++ [p] } }

theorem Dev.not_sendReady_iff (d : Dev) (r : Request) : ¬ d.sendReady r ↔
    (d.get pCourierProfile = 0 || d.courierKey.isNone || (rq r 0 1 ≠ 255 && !d.inChain (rq r 0 1))) = true := by
  simp only [Dev.sendReady, Bool.or_eq_true, Bool.and_eq_true, decide_eq_true_eq, Option.isNone_iff_eq_none, Bool.not_eq_true', ne_eq,
    Classical.not_and_iff_not_or_not, not_or, Classical.not_not, Bool.not_eq_true, or_assoc]

theorem Dev.sendBad_iff (d : Dev) (r : Request) : d.sendBad r ↔
    (rq r 0 1 = d.getN pUnitNumber || (rq r 2 1 = 1 && rq r 0 1 = 255)) = true := by
  simp only [Dev.sendBad, Bool.or_eq_true, Bool.and_eq_true, decide_eq_true_eq]

theorem courierSend_run_unready {d : Dev} {r : Request} (h : ¬ d.sendReady r) : cmdCourierSend.run d r = refuse d (fail .state) :=
  if_pos ((d.not_sendReady_iff r).1 h)

theorem courierSend_run_bad {d : Dev} {r : Request} (hready : d.sendReady r) (h : d.sendBad r) :
    cmdCourierSend.run d r = refuse d (fail .badArg) :=
  (if_neg fun hu => (d.not_sendReady_iff r).2 hu hready).trans (if_pos ((d.sendBad_iff r).1 h))

/-- A WAKE that passes the checks waits for its slot, for as long as its train lasts (R311). -/
theorem courierSend_run_wake {d : Dev} {r : Request} (hready : d.sendReady r) (hgood : ¬ d.sendBad r) (hwake : rq r 1 1 = 2) :
    cmdCourierSend.run d r =
      { dev := d.queuePacket (wakePacket r), reply := accepted ((3 * d.getN pCourierSniffInterval + 200999) / 1000) } := by
  refine (if_neg fun h => (d.not_sendReady_iff r).2 h hready).trans ((if_neg fun h => hgood ((d.sendBad_iff r).2 h)).trans ?_)
  simp only [hwake, decide_true, Bool.not_true, Bool.false_and, Bool.false_eq_true, if_false, if_true]
  rfl

/-- DATA that passes the checks waits for its slot's airtime (R304). -/
theorem courierSend_run_data {d : Dev} {r : Request} (hready : d.sendReady r) (hgood : ¬ d.sendBad r) (hdata : rq r 1 1 ≠ 2)
    (hroom : d.eu = true → d.euRoom r.slot (2 + rq r 3 1) = true) : cmdCourierSend.run d r =
      { dev := (d.queuePacket (dataPacket r)).request .courier r.slot r.ref (d.airtimeUs 0 (2 + rq r 3 1)), reply := accepted 10000 } := by
  refine (if_neg fun h => (d.not_sendReady_iff r).2 h hready).trans ((if_neg fun h => hgood ((d.sendBad_iff r).2 h)).trans ?_)
  have hroom' : (d.eu && !d.euRoom r.slot (2 + rq r 3 1)) = false := by
    cases heu : d.eu with
    | false => rfl
    | true => simp [hroom heu]
  simp only [hdata, decide_false, Bool.not_false, Bool.true_and, hroom', Bool.false_eq_true, if_false]
  rfl

/-- DATA of the EU profile without airtime within 10 s is refused (R304). -/
theorem courierSend_run_noRoom {d : Dev} {r : Request} (hready : d.sendReady r) (hgood : ¬ d.sendBad r) (hdata : rq r 1 1 ≠ 2)
    (heu : d.eu = true) (hroom : d.euRoom r.slot (2 + rq r 3 1) = false) : cmdCourierSend.run d r = refuse d (fail .wouldExceed) := by
  refine (if_neg fun h => (d.not_sendReady_iff r).2 h hready).trans ((if_neg fun h => hgood ((d.sendBad_iff r).2 h)).trans (if_pos ?_))
  simp only [hdata, decide_false, heu, hroom, Bool.not_false, Bool.and_self, if_false]

/-! ### The end of a send (R297, R306, R313) -/

/-- A packet is that of a slot's send. -/
def Packet.sentBy (p : Packet) (slot ref : Nat) : Bool := p.slot = slot && p.ref = ref && (p.kind = 2 || !p.device)

/-- A slot's DATA is the packet of its send. -/
theorem Packet.sentBy_data {p : Packet} {slot ref : Nat} (hslot : p.slot = slot) (href : p.ref = ref) (hdata : p.device = false) :
    p.sentBy slot ref = true := by
  simp [Packet.sentBy, hslot, href, hdata]

/-- The device without the packets of a send and its request for airtime. -/
def Dev.dropSend (d : Dev) (slot ref : Nat) : Dev :=
  (d.updCour (fun c => { c with ended := c.ended.filter (fun q => !q.sentBy slot ref), queue := c.queue.filter (fun q => !q.sentBy slot ref),
                                waiting := c.waiting.filter (fun q => !q.sentBy slot ref) })).withdrawRequest .courier slot ref

/-- The bound of a long command has passed. -/
def Dev.late (d : Dev) (l : LongCmd) : Bool := decide (msU l.bound ≤ d.since l.since)

/-- The packet that ends a send: one done with, a WAKE's when it is answered or late; else, once late, the one still under way. -/
def Courier.sendEnd (c : Courier) (slot ref : Nat) (late : Bool) : Option Packet :=
  match c.ended.find? (fun p => p.sentBy slot ref) with
  | some p => if p.kind ≠ 2 || p.acked || late then some p else none
  | none => if late then (c.queue ++ c.waiting.toList ++ c.air.toList).find? (fun p => p.sentBy slot ref) else none

/-- A send stays open while no packet ends it. -/
theorem courierSendComplete_open {d : Dev} {slot ref : Nat} {l : LongCmd} (hl : d.longIs slot ref 0x0502 = some l)
    (h : d.cour.sendEnd slot ref (d.late l) = none) : courierSendComplete slot ref d = d := by
  simp only [courierSendComplete, hl]
  split
  · rfl
  · next p hp => exact absurd (h.symm.trans hp) nofun

/-- A send completes with the packet that ends it. -/
theorem courierSendComplete_ends {d : Dev} {slot ref : Nat} {l : LongCmd} {p : Packet} (hl : d.longIs slot ref 0x0502 = some l)
    (h : d.cour.sendEnd slot ref (d.late l) = some p) :
    courierSendComplete slot ref d = (d.dropSend slot ref).complete l (okBody p.completion) := by
  simp only [courierSendComplete, hl]
  split
  · next hnone => exact absurd (h.symm.trans hnone) nofun
  · next q hq =>
    have hpq : p = q := Option.some.inj (h.symm.trans hq)
    rw [hpq]
    rfl

/-- Nothing of the send is left where its packet was alone. -/
theorem Dev.dropSend_ended {d : Dev} {slot ref : Nat} {p : Packet} (hended : d.cour.ended = [p]) (hp : p.sentBy slot ref = true) :
    (d.dropSend slot ref).cour.ended = [] := by
  simp [Dev.dropSend, Dev.withdrawRequest, hended, hp]

theorem Dev.dropSend_queue {d : Dev} {slot ref : Nat} {p : Packet} (hqueue : d.cour.queue = [p]) (hp : p.sentBy slot ref = true) :
    (d.dropSend slot ref).cour.queue = [] := by
  simp [Dev.dropSend, Dev.withdrawRequest, hqueue, hp]

theorem Courier.sendEnd_done {c : Courier} {slot ref : Nat} {p : Packet} (late : Bool) (hended : c.ended = [p])
    (hp : p.sentBy slot ref = true) (hkind : p.kind ≠ 2) : c.sendEnd slot ref late = some p := by
  simp [Courier.sendEnd, hended, hp, hkind]

theorem Courier.sendEnd_late {c : Courier} {slot ref : Nat} {p : Packet} (hended : c.ended = []) (hqueue : c.queue = [p])
    (hp : p.sentBy slot ref = true) : c.sendEnd slot ref true = some p := by
  simp [Courier.sendEnd, hended, hqueue, hp]

theorem Courier.sendEnd_early {c : Courier} (slot ref : Nat) (hended : c.ended = []) : c.sendEnd slot ref false = none := by
  simp [Courier.sendEnd, hended]

/-! ### COURIER_STATE_SET (R302) -/

/-- The state set takes effect at once; one other than OFF, while a packet is on air, at the packet's end. -/
def Dev.setCourierState (d : Dev) (st ret : Nat) : Dev :=
  let d1 := d.setNv pCourierReturnState 0 ret
  if d.cour.air.isSome && st ≠ 0 then d1 else (d1.updCour (fun c => { c with air := none })).courierState st false

theorem Dev.setCourierState_at_once (d : Dev) {st : Nat} (ret : Nat) (h : d.cour.air = none ∨ st = 0) :
    (d.setCourierState st ret).getN pCourierState = st ∧ (d.setCourierState st ret).cour.air = none := by
  have hnow : d.setCourierState st ret =
      ((d.setNv pCourierReturnState 0 ret).updCour (fun c => { c with air := none })).courierState st false :=
    if_neg (by obtain h | h := h <;> simp [h])
  rw [hnow]
  exact ⟨Dev.courierState_getN _ _ _, rfl⟩

theorem Dev.setCourierState_samePar (d : Dev) (st ret : Nat) : SamePar [pCourierReturnState, pCourierState] d (d.setCourierState st ret) := by
  have hret := (d.setNv_samePar pCourierReturnState (i := 0) ret (by decide)).mono (ids' := [pCourierReturnState, pCourierState]) (by decide)
  unfold Dev.setCourierState
  dsimp only
  split
  · exact hret
  · exact hret.trans ((Dev.courierState_samePar (Dev.updCour _ _) _ _).mono (by decide))

theorem Dev.setCourierState_returns (d : Dev) (st ret : Nat) : (d.setCourierState st ret).getN pCourierReturnState = ret := by
  have hret := d.getN_setNv_same pCourierReturnState 0 ret
  unfold Dev.setCourierState
  dsimp only
  split
  · exact hret
  · exact ((Dev.courierState_samePar (Dev.updCour _ _) _ _).getN_eq (by decide) (by decide)).trans hret

/-- The mark of the request that sets the state is put back with nothing else changed. -/
theorem Dev.setCourierState_unmarked (d : Dev) (mark : Option (Nat × Nat)) (st ret : Nat) :
    ({ ({ d with cause := mark } : Dev).setCourierState st ret with cause := d.cause } : Dev) = d.setCourierState st ret := by
  unfold Dev.setCourierState
  dsimp only
  split <;> rfl

theorem courierStateSet_run_noProfile {d : Dev} {r : Request} (hon : rq r 0 1 ≠ 0) (h : d.get pCourierProfile = 0) :
    cmdCourierStateSet.run d r = refuse d (fail .state) :=
  if_pos (by simp [hon, h])

theorem courierStateSet_run {d : Dev} {r : Request} (h : rq r 0 1 = 0 ∨ d.get pCourierProfile ≠ 0) : cmdCourierStateSet.run d r =
    { dev := d.setCourierState (rq r 0 1) (rq r 1 1), reply := okBody (e8 (rq r 0 1) ++ e8 (rq r 1 1)) } :=
  if_neg (by obtain h | h := h <;> simp [h])

/-- COURIER_STATE_SET is answered from the journal (R145). -/
theorem courierStateSet_sets {s : State} {r : Request} (ht : Takes cmdCourierStateSet s r) (h : rq r 0 1 = 0 ∨ s.dev.get pCourierProfile ≠ 0)
    (hbar : s.dev.nvmBar = none) : exec (.courierStateSet r) s = .next (s.on
      ((s.dev.setCourierState (rq r 0 1) (rq r 1 1)).holdBack r 0x0503 (okBody (e8 (rq r 0 1) ++ e8 (rq r 1 1))) false)) := by
  rw [← s.dev.setCourierState_unmarked (some (r.slot, r.ref))]
  exact act_holdsBack ht rfl hbar (courierStateSet_run h)

end Sys2Proof.Machine

open Sys2Proof Sys2Proof.Machine

/-- Settles O45, command by command: COURIER_PROFILE_SET and its end, COURIER_SEND and its end, COURIER_STATE_SET and the counts. -/
theorem courierCommands : Obligations.CourierCommands := by
  unfold Obligations.CourierCommands
  refine fun s r => ⟨fun ht => ⟨fun hsending => ?_, fun hidle hfalls => ?_, fun hidle hrises hbar => ?_⟩, fun slot ref failed l hslot hl => ?_,
    fun ht => ⟨fun hunready => ?_, fun hready hbad => ?_, fun hready hgood hwake => ?_, fun hready hgood hdata hroom => ?_,
      fun hready hgood hdata heu hroom => ?_⟩,
    fun slot ref l p hl hpslot hpref hpdata => ⟨fun hended hkind => ?_, fun hended hqueue hlate => ?_, fun hended hearly => ?_⟩,
    fun ht => ⟨fun hon hnone => ?_, fun hmay hbar => ?_⟩, fun ht => ?_⟩
  · exact act_refuses ht (courierProfileSet_run_sending hsending) ⟨nofun, nofun⟩ rfl
  · exact act_refuses ht (courierProfileSet_run_unordered hidle hfalls) ⟨nofun, nofun⟩ rfl
  · exact act_accepts (d := { s.dev with cause := some (r.slot, r.ref) }) ht (courierProfileSet_run_ordered hidle hrises) (.inr hbar)
  · obtain ⟨hprofile, hrate, hnet, hsniff⟩ := s.dev.setProfile_reads l
    obtain ⟨htable, hqueue⟩ := s.dev.profileEnd_cour l failed
    have hreads {id : Nat} (hid : id ∉ [pLongCmdsOpen]) (rep : Reply) :=
      ((s.dev.profileEnd l failed).complete_samePar rep (by rw [Dev.longIs_slot hl]; omega)).getN_eq hid (i := 0) (by decide)
    have hkeeps {id : Nat} (hid : id ∈ profileIds) := s.dev.profileEnd_keeps l failed hid
    refine ⟨_, State.act_of_eq (courierProfileSetComplete_eq hl failed), ?_, ?_, ?_, ?_, htable, hqueue, ?_, Dev.complete_ended _ _ _⟩
    · rw [hreads (by decide), hkeeps (by decide), hprofile]
    · rw [hreads (by decide), hkeeps (by decide), hrate]
    · rw [hreads (by decide), hkeeps (by decide), hnet]
    · rw [hreads (by decide), hkeeps (by decide), hsniff]
    · rw [hreads (by decide), Dev.profileEnd_state]
  · exact act_refuses ht (courierSend_run_unready hunready) ⟨nofun, nofun⟩ rfl
  · exact act_refuses ht (courierSend_run_bad hready hbad) ⟨nofun, nofun⟩ rfl
  · exact act_accepts ht (courierSend_run_wake hready hgood hwake) (.inl rfl)
  · exact act_accepts ht (courierSend_run_data hready hgood hdata hroom) (.inl rfl)
  · exact ⟨_, act_refuses ht (courierSend_run_noRoom hready hgood hdata heu hroom) ⟨nofun, nofun⟩ rfl, Dev.respond_outbox _ _ _ _ _, rfl⟩
  · have hmine := Packet.sentBy_data hpslot hpref hpdata
    have hend := Courier.sendEnd_done (s.dev.late l) hended hmine (by rw [hkind]; decide)
    exact ⟨_, State.act_of_eq (courierSendComplete_ends hl hend), Dev.dropSend_ended hended hmine, Dev.complete_ended _ _ _⟩
  · have hmine := Packet.sentBy_data hpslot hpref hpdata
    have hend : s.dev.cour.sendEnd slot ref (s.dev.late l) = some p := by
      rw [Dev.late, decide_eq_true hlate, Courier.sendEnd_late hended hqueue hmine]
    exact ⟨_, State.act_of_eq (courierSendComplete_ends hl hend), Dev.dropSend_queue hqueue hmine, Dev.complete_ended _ _ _⟩
  · have hopen : s.dev.cour.sendEnd slot ref (s.dev.late l) = none := by
      rw [Dev.late, decide_eq_false (Nat.not_le.2 hearly), Courier.sendEnd_early slot ref hended]
    exact State.act_unchanged (courierSendComplete_open hl hopen)
  · exact act_refuses ht (courierStateSet_run_noProfile hon hnone) ⟨nofun, nofun⟩ rfl
  · have hsame := s.dev.setCourierState_samePar (rq r 0 1) (rq r 1 1)
    refine ⟨_, courierStateSet_sets ht hmay hbar, ?_, fun h => ?_, fun id i hid hi => ?_, Dev.holdBack_last _ _ _ _ _⟩
    · rw [Dev.holdBack_getN, Dev.setCourierState_returns]
    · rw [Dev.holdBack_getN, Dev.holdBack_cour]
      exact s.dev.setCourierState_at_once (rq r 1 1) h
    · rw [Dev.holdBack_get]
      exact hsame id i hid hi
  · exact act_onlyAnswers ht rfl rfl nofun rfl

end

section
/-! SUPPORT. What an event of a chain leaves, and how a chain and a parameter beside the one set read after a change. -/

namespace Sys2Proof.Machine

/-- Every event of a chain is one event of some partition (R340). -/
theorem Dev.chainEvent_raises (d : Dev) (c code : Nat) (p : List Byte) :
    ∃ part o agent, d.chainEvent c code p = d.raiseAs part o agent code p := by
  unfold Dev.chainEvent
  dsimp only
  split
  · exact ⟨_, _, _, rfl⟩
  · split
    · exact ⟨_, _, _, rfl⟩
    · split
      · split <;> exact ⟨_, _, _, rfl⟩
      · exact ⟨_, _, _, rfl⟩

theorem Dev.chainEvent_samePar (d : Dev) (c code : Nat) (p : List Byte) : SamePar lossIds d (d.chainEvent c code p) := by
  obtain ⟨part, o, agent, h⟩ := d.chainEvent_raises c code p
  intro id i hid hi
  rw [h, Dev.raiseAs_same _ _ _ _ _ _ _ _ (by simpa [lossIds] using hid) hi]

@[simp] theorem Dev.chainEvent_chains (d : Dev) (c code : Nat) (p : List Byte) : (d.chainEvent c code p).chains = d.chains := by
  obtain ⟨part, o, agent, h⟩ := d.chainEvent_raises c code p
  rw [h, Dev.raiseAs_frame]

@[simp] theorem Dev.chainEvent_chain (d : Dev) (c code : Nat) (p : List Byte) (k : Nat) : (d.chainEvent c code p).chain k = d.chain k :=
  congrArg (fun l => nth l k) (d.chainEvent_chains c code p)

@[simp] theorem Dev.set_chain (d : Dev) (id i : Nat) (v : Int) (k : Nat) : (d.set id i v).chain k = d.chain k := rfl

/-- A chain that was changed reads as changed. -/
theorem Dev.updChain_chain {d : Dev} {c : Nat} (f : Chain → Chain) (h : c < d.chains.length) : (d.updChain c f).chain c = f (d.chain c) :=
  nth_upd_same f h

theorem Dev.getN_set_idx (d : Dev) (id i j : Nat) (v : Int) (h : j ≠ i) : (d.set id i v).getN id j = d.getN id j :=
  congrArg Int.toNat (d.get_set_idx id i j v h)

/-- The codes of Table FC-1 are below 50. -/
theorem isChain_lt {c : Nat} (h : isChain c = true) : c < 50 := by
  simp only [isChain, Bool.or_eq_true, Bool.and_eq_true, decide_eq_true_eq] at h
  omega

end Sys2Proof.Machine
end

section
/-! PROOF. The chains' commands, windows, thresholds, saturation and stuck inputs: O47. -/

namespace Sys2Proof.Machine

/-! ### CHAIN_CONFIG (R336, R341) -/

/-- The lane's chains are held: a band of it bridges or starts, a survey has it, or it is in CAL (R336). -/
def Dev.chainHeld (d : Dev) (l : Nat) : Prop := d.laneBridges l = true ∨ (d.lane l).survey ≠ none ∨ d.laneState l = 7

/-- Where the preset is CUSTOM, a FIR is loaded: in use, or waiting in the shadow bank (R336). -/
def Dev.customReady (d : Dev) (l p : Nat) : Prop := p = 5 → (d.chain l).fir ≠ none ∨ (d.chain l).shadow ≠ none

/-- A receiving lane's window ends with the change (R341). -/
def Dev.endWindow (d : Dev) (l : Nat) : Dev := if receives (d.laneState l) then d.cutWindow l else d

/-- Preset CUSTOM takes the FIR that waits (R337). -/
def Chain.takeFir (p : Nat) (x : Chain) : Chain := if p = 5 then { x with fir := x.shadow.orElse (fun _ => x.fir), shadow := none } else x

/-- The parameters that a CHAIN_CONFIG sets. -/
def Dev.setChainParams (d : Dev) (l : Nat) (r : Request) : Dev :=
  (((d.set pChainPreset l (rq r 4 1 : Nat)).set pChainPreset (8 + l) (rq r 5 1 : Nat)).set pAvgShift l (rq r 10 1 : Nat)).set
    pAvgWindow l (rq r 12 4 : Nat)

/-- A CHAIN_CONFIG that is carried out (R336, R341). -/
def Dev.configChain (d : Dev) (l : Nat) (r : Request) : Dev :=
  ((d.endWindow l).updChain l (Chain.takeFir (rq r 4 1))).setChainParams l r

/-- The response to it, from the device before and after. -/
def chainConfigBody (d e : Dev) (l : Nat) (r : Request) : List Byte :=
  e8 l ++ e8 (rq r 4 1) ++ zs 2 ++ e32 (xPeriod (d.getN pLaneRate l)) ++ e32 (e.laneX l) ++ e32 (e.laneX l + e.laneT l)

theorem Dev.customReady_iff (d : Dev) (l p : Nat) :
    d.customReady l p ↔ ¬ (p = 5 && (d.chain l).fir.isNone && (d.chain l).shadow.isNone) = true := by
  simp only [Dev.customReady, Bool.and_eq_true, decide_eq_true_eq, Option.isNone_iff_eq_none, ne_eq, not_and, and_imp]
  exact ⟨fun h hp hfir hshadow => (h hp).elim (· hfir) (· hshadow), fun h hp => Decidable.or_iff_not_imp_left.2 fun hfir =>
    h hp (Decidable.not_not.1 hfir)⟩

theorem Dev.chainHeld_iff (d : Dev) (l : Nat) :
    d.chainHeld l ↔ (d.laneBridges l || (d.lane l).survey.isSome || d.laneState l = 7) = true := by
  simp [Dev.chainHeld, Option.isSome_iff_ne_none, or_assoc]

theorem chainConfig_run_noFir {d : Dev} {r : Request} (h : ¬ d.customReady (rq r 0 1) (rq r 4 1)) :
    cmdChainConfig.run d r = refuse d (fail .badArg) :=
  if_pos (Decidable.not_not.1 (mt (d.customReady_iff _ _).2 h))

theorem chainConfig_run_held {d : Dev} {r : Request} (hfir : d.customReady (rq r 0 1) (rq r 4 1)) (h : d.chainHeld (rq r 0 1)) :
    cmdChainConfig.run d r = refuse d (fail .state) :=
  (if_neg ((d.customReady_iff _ _).1 hfir)).trans (if_pos ((d.chainHeld_iff _).1 h))

theorem chainConfig_run_rest {d : Dev} {r : Request} (hfir : d.customReady (rq r 0 1) (rq r 4 1)) (h : ¬ d.chainHeld (rq r 0 1)) :
    cmdChainConfig.run d r =
      { dev := d.configChain (rq r 0 1) r, reply := okBody (chainConfigBody d (d.configChain (rq r 0 1) r) (rq r 0 1) r) } :=
  (if_neg ((d.customReady_iff _ _).1 hfir)).trans (if_neg (mt (d.chainHeld_iff _).2 h))

theorem Dev.endWindow_unmarked (d : Dev) (mark : Option (Nat × Nat)) (l : Nat) :
    ({ ({ d with cause := mark } : Dev).endWindow l with cause := d.cause } : Dev) = d.endWindow l := by
  unfold Dev.endWindow
  rw [show ({ d with cause := mark } : Dev).laneState l = d.laneState l from rfl]
  split <;> rfl

/-- A CHAIN_CONFIG raises no event, so the mark of its request makes no difference. -/
theorem Dev.configChain_unmarked (d : Dev) (mark : Option (Nat × Nat)) (l : Nat) (r : Request) :
    ({ ({ d with cause := mark } : Dev).configChain l r with cause := d.cause } : Dev) = d.configChain l r := by
  unfold Dev.configChain
  rw [← d.endWindow_unmarked mark]
  generalize ({ d with cause := mark } : Dev).endWindow l = e
  rfl

theorem chainConfigBody_unmarked (d : Dev) (mark : Option (Nat × Nat)) (l : Nat) (r : Request) :
    chainConfigBody { d with cause := mark } (({ d with cause := mark } : Dev).configChain l r) l r =
      chainConfigBody d (d.configChain l r) l r := by
  rw [← d.configChain_unmarked mark]
  generalize ({ d with cause := mark } : Dev).configChain l r = e
  rfl

/-- A lane at rest takes its configuration, and the response says how it stands then. -/
theorem chainConfig_configures {s : State} {r : Request} (ht : Takes cmdChainConfig s r) (hfir : s.dev.customReady (rq r 0 1) (rq r 4 1))
    (hrest : ¬ s.dev.chainHeld (rq r 0 1)) : exec (.chainConfig r) s = .next (s.on
      ((s.dev.configChain (rq r 0 1) r).respond r 0x0601 (okBody (chainConfigBody s.dev (s.dev.configChain (rq r 0 1) r) (rq r 0 1) r)))) := by
  have hanswers := act_answers ht (chainConfig_run_rest (d := { s.dev with cause := some (r.slot, r.ref) }) hfir hrest) rfl nofun rfl
  rwa [Dev.configChain_unmarked, chainConfigBody_unmarked] at hanswers

theorem Dev.setChainParams_samePar (d : Dev) {l : Nat} (r : Request) (hl : l < 8) :
    SamePar [pChainPreset, pAvgShift, pAvgWindow] d (d.setChainParams l r) :=
  ((((d.set_samePar pChainPreset _ (by omega)).mono (by decide)).trans ((Dev.set_samePar _ pChainPreset _ (by omega)).mono (by decide))).trans
    ((Dev.set_samePar _ pAvgShift _ (by omega)).mono (by decide))).trans ((Dev.set_samePar _ pAvgWindow _ (by omega)).mono (by decide))

theorem Dev.setChainParams_chain (d : Dev) (l : Nat) (r : Request) (k : Nat) : (d.setChainParams l r).chain k = d.chain k := rfl

theorem Dev.setChainParams_host (d : Dev) (l : Nat) (r : Request) : (d.setChainParams l r).host = d.host := rfl

/-- Presets, shift and window read as the request gives them (R336). -/
theorem Dev.setChainParams_reads (d : Dev) {l : Nat} (r : Request) (hl : l < 8) :
    (d.setChainParams l r).getN pChainPreset l = rq r 4 1 ∧ (d.setChainParams l r).getN pChainPreset (8 + l) = rq r 5 1 ∧
      (d.setChainParams l r).getN pAvgShift l = rq r 10 1 ∧ (d.setChainParams l r).getN pAvgWindow l = rq r 12 4 := by
  have hshift (e : Dev) (v : Int) : SamePar [pAvgShift] e (e.set pAvgShift l v) := e.set_samePar _ _ (by omega)
  have hwindow (e : Dev) (v : Int) : SamePar [pAvgWindow] e (e.set pAvgWindow l v) := e.set_samePar _ _ (by omega)
  unfold Dev.setChainParams
  refine ⟨?_, ?_, ?_, Dev.getN_set_same ..⟩
  · rw [(hwindow _ _).getN_eq (by decide) (by omega), (hshift _ _).getN_eq (by decide) (by omega), Dev.getN_set_idx _ _ _ _ _ (by omega),
      Dev.getN_set_same]
  · rw [(hwindow _ _).getN_eq (by decide) (by omega), (hshift _ _).getN_eq (by decide) (by omega), Dev.getN_set_same]
  · rw [(hwindow _ _).getN_eq (by decide) (by omega), Dev.getN_set_same]

/-- A window cut ends INVALID_GAP, with no power (R341). -/
theorem Dev.cutWindow_reads (d : Dev) {l : Nat} (hl : l < 8) :
    (d.cutWindow l).get pAvgStatus l = 3 ∧ (d.cutWindow l).get pAvgPower l = -32768 := by
  unfold Dev.cutWindow
  refine ⟨?_, Dev.get_set_same ..⟩
  rw [Dev.get_set_id _ _ _ _ _ _ (by omega) (by omega) (by decide), Dev.get_set_same]

/-- The end of a window leaves the FIR in use and the one that waits. -/
theorem Dev.endWindow_firs {d : Dev} {l : Nat} (h : l < d.chains.length) :
    ((d.endWindow l).chain l).fir = (d.chain l).fir ∧ ((d.endWindow l).chain l).shadow = (d.chain l).shadow := by
  unfold Dev.endWindow
  split
  · unfold Dev.cutWindow
    dsimp only
    rw [Dev.set_chain, Dev.set_chain, Dev.updChain_chain _ (by exact h)]
    exact ⟨rfl, rfl⟩
  · exact ⟨rfl, rfl⟩

theorem Dev.endWindow_chains_length (d : Dev) (l : Nat) : (d.endWindow l).chains.length = d.chains.length := by
  unfold Dev.endWindow
  split
  · exact List.length_modify ..
  · rfl

theorem Dev.endWindow_host (d : Dev) (l : Nat) : (d.endWindow l).host = d.host := by
  unfold Dev.endWindow
  split <;> rfl

theorem Dev.configChain_host (d : Dev) (l : Nat) (r : Request) : (d.configChain l r).host = d.host := by
  rw [Dev.configChain, Dev.setChainParams_host, Dev.updChain_host, Dev.endWindow_host]

theorem Dev.configChain_reads (d : Dev) {l : Nat} (r : Request) (hl : l < 8) :
    (d.configChain l r).getN pChainPreset l = rq r 4 1 ∧ (d.configChain l r).getN pChainPreset (8 + l) = rq r 5 1 ∧
      (d.configChain l r).getN pAvgShift l = rq r 10 1 ∧ (d.configChain l r).getN pAvgWindow l = rq r 12 4 :=
  Dev.setChainParams_reads _ r hl

/-- Preset CUSTOM uses the FIR that waited, if one did, and none waits any more (R337). -/
theorem Dev.configChain_custom {d : Dev} {l : Nat} {r : Request} (h : l < d.chains.length) (hp : rq r 4 1 = 5) :
    ((d.configChain l r).chain l).shadow = none ∧
      ((d.configChain l r).chain l).fir = (d.chain l).shadow.orElse (fun _ => (d.chain l).fir) := by
  obtain ⟨hfir, hshadow⟩ := Dev.endWindow_firs h
  have hlength : l < (d.endWindow l).chains.length := by rwa [Dev.endWindow_chains_length]
  rw [Dev.configChain, Dev.setChainParams_chain, Dev.updChain_chain _ hlength, Chain.takeFir, if_pos hp, ← hfir, ← hshadow]
  exact ⟨rfl, rfl⟩

/-- A window that runs ends INVALID_GAP with the change (R341). -/
theorem Dev.configChain_gap {d : Dev} {l : Nat} (r : Request) (hl : l < 8) (h : receives (d.laneState l) = true) :
    (d.configChain l r).get pAvgStatus l = 3 ∧ (d.configChain l r).get pAvgPower l = -32768 := by
  have hkeeps {id : Nat} (hid : id ∉ [pChainPreset, pAvgShift, pAvgWindow]) : (d.configChain l r).get id l = (d.cutWindow l).get id l := by
    rw [Dev.configChain, Dev.setChainParams_samePar _ r hl _ _ hid (by omega), Dev.endWindow, if_pos h]
    rfl
  rw [hkeeps (by decide), hkeeps (by decide)]
  exact d.cutWindow_reads hl

/-! ### FIR_LOAD (R321, R322, R337) -/

/-- The coefficients of a FIR_LOAD. -/
def firCoefs (r : Request) : List Int := (List.range (rq r 2 2)).map (firCoef r.blk)

/-- A delay is given where, and only where, the coefficients are not symmetric (R321). -/
def firDelayFits (r : Request) : Prop := firCoefs r = (firCoefs r).reverse ↔ rq r 4 4 = 0

/-- The FIR a FIR_LOAD carries (R321). -/
def loadedFir (r : Request) : Fir :=
  { taps := rq r 2 2, delay := if firCoefs r = (firCoefs r).reverse then (rq r 2 2 - 1) * 128 else rq r 4 4, decim := rq r 8 1,
    coefs := firCoefs r }

def firLoadBody (r : Request) : List Byte :=
  e8 (rq r 0 1) ++ eb (decide (firCoefs r = (firCoefs r).reverse)) ++ e16 (rq r 2 2) ++ e32 (loadedFir r).delay ++
    s32 ((firCoefs r).foldl (· + ·) 0)

/-- The bank that takes a FIR: the shadow of a lane's X chain, or the slot's own of SC (R322, R337). -/
def Dev.bankFir (d : Dev) (r : Request) : Dev :=
  if rq r 0 1 < 8 then d.updChain (rq r 0 1) (fun x => { x with shadow := some (loadedFir r) })
  else { d with scBanks := upd d.scBanks r.slot (fun _ => some (loadedFir r)) }

theorem firLoad_run_badLen {d : Dev} {r : Request} (h : r.blk.length ≠ 3 * rq r 2 2) : cmdFirLoad.run d r = refuse d (fail .badLen) :=
  if_pos h

/-- The delay's check, as FIR_LOAD makes it. -/
theorem firDelayFits_iff (r : Request) : firDelayFits r ↔
    ¬ (decide (firCoefs r = (firCoefs r).reverse) && decide (rq r 4 4 ≠ 0) ||
      !decide (firCoefs r = (firCoefs r).reverse) && decide (rq r 4 4 = 0)) = true := by
  simp only [firDelayFits, Bool.or_eq_true, Bool.and_eq_true, Bool.not_eq_true', decide_eq_true_eq, decide_eq_false_iff_not]
  by_cases hsym : firCoefs r = (firCoefs r).reverse
  · simp only [hsym.symm, true_iff, true_and, not_true_eq_false, false_and, or_false, ne_eq, Decidable.not_not]
  · simp only [hsym, false_iff, false_and, not_false_eq_true, true_and, false_or]

theorem firLoad_run_badDelay {d : Dev} {r : Request} (hlen : r.blk.length = 3 * rq r 2 2) (h : ¬ firDelayFits r) :
    cmdFirLoad.run d r = refuse d (fail .badArg) :=
  (if_neg (Decidable.not_not.2 hlen)).trans (if_pos (Decidable.not_not.1 (mt (firDelayFits_iff r).2 h)))

/-- A FIR that passes its own checks is refused where its lane's band bridges or starts, and stored elsewhere. -/
theorem firLoad_run_fits {d : Dev} {r : Request} (hlen : r.blk.length = 3 * rq r 2 2) (h : firDelayFits r) : cmdFirLoad.run d r =
    if (rq r 0 1 < 8 && d.laneBridges (rq r 0 1)) = true then refuse d (fail .state)
    else { dev := d.bankFir r, reply := okBody (firLoadBody r) } :=
  (if_neg (Decidable.not_not.2 hlen)).trans (if_neg ((firDelayFits_iff r).1 h))

theorem firLoad_run_bridging {d : Dev} {r : Request} (hlen : r.blk.length = 3 * rq r 2 2) (h : firDelayFits r) (hc : rq r 0 1 < 8)
    (hbusy : d.laneBridges (rq r 0 1) = true) : cmdFirLoad.run d r = refuse d (fail .state) :=
  (firLoad_run_fits hlen h).trans (if_pos (by simp [hc, hbusy]))

/-- A FIR goes to its bank, and the response describes it. -/
theorem firLoad_stores {s : State} {r : Request} (ht : Takes cmdFirLoad s r) (hlen : r.blk.length = 3 * rq r 2 2) (h : firDelayFits r)
    (hfree : ¬ (rq r 0 1 < 8 ∧ s.dev.laneBridges (rq r 0 1) = true)) :
    exec (.firLoad r) s = .next (s.on ((s.dev.bankFir r).respond r 0x0602 (okBody (firLoadBody r)))) := by
  have hmark : ({ ({ s.dev with cause := some (r.slot, r.ref) } : Dev).bankFir r with cause := s.dev.cause } : Dev) = s.dev.bankFir r := by
    unfold Dev.bankFir
    split <;> rfl
  have hpasses : ¬ (rq r 0 1 < 8 && s.dev.laneBridges (rq r 0 1)) = true := by simpa using hfree
  have hanswers := act_answers ht ((firLoad_run_fits (d := { s.dev with cause := some (r.slot, r.ref) }) hlen h).trans (if_neg hpasses))
    rfl nofun rfl
  rwa [hmark] at hanswers

/-! ### THRESH_SET and THRESHOLD_CROSSED (R331, R332, R338) -/

/-- The chains that have thresholds: X, P and B (R338). -/
def hasThresholds (c : Nat) : Prop := chainKind c = 0 ∨ chainKind c = 2 ∨ chainKind c = 6

/-- The quantities a chain's thresholds can watch (R338). -/
def quantityFits (c q : Nat) : Prop := q = 0 ∨ (if c < 8 then q ≤ 2 else q = 3)

/-- A threshold put in its place, and THRESH_STATE with it (R331). -/
def Dev.putThreshold (d : Dev) (c k : Nat) (f : Threshold → Threshold) : Dev :=
  (d.updChain c (fun x => { x with thr := upd x.thr k f })).threshState c

/-- The threshold of a THRESH_SET. -/
def newThreshold (r : Request) : Threshold :=
  { qty := rq r 2 1, flags := rq r 3 1, level := rqS r 4 2, hyst := rq r 6 2, dwell := rq r 8 4 }

theorem hasThresholds_iff (c : Nat) : hasThresholds c ↔ ¬ (!(chainKind c = 0 || chainKind c = 2 || chainKind c = 6)) = true := by
  simp only [hasThresholds, Bool.not_eq_true', Bool.not_eq_false, Bool.or_eq_true, decide_eq_true_eq, or_assoc]

theorem quantityFits_iff (c q : Nat) : quantityFits c q ↔ ¬ (!(q = 0 || (if c < 8 then q ≤ 2 else q = 3))) = true := by
  simp only [quantityFits, Bool.not_eq_true', Bool.not_eq_false, Bool.or_eq_true, decide_eq_true_eq]
  split <;> simp only [decide_eq_true_eq]

theorem threshSet_run_noThresholds {d : Dev} {r : Request} (h : ¬ hasThresholds (rq r 0 1)) :
    cmdThreshSet.run d r = refuse d (failAt .badArg 0) :=
  if_pos (Decidable.not_not.1 (mt (hasThresholds_iff _).2 h))

theorem threshSet_run_unfit {d : Dev} {r : Request} (hkind : hasThresholds (rq r 0 1)) (h : ¬ quantityFits (rq r 0 1) (rq r 2 1)) :
    cmdThreshSet.run d r = refuse d (fail .badArg) :=
  (if_neg ((hasThresholds_iff _).1 hkind)).trans (if_pos (Decidable.not_not.1 (mt (quantityFits_iff _ _).2 h)))

theorem threshSet_run_fits {d : Dev} {r : Request} (hkind : hasThresholds (rq r 0 1)) (h : quantityFits (rq r 0 1) (rq r 2 1)) :
    cmdThreshSet.run d r = { dev := d.putThreshold (rq r 0 1) (rq r 1 1) (fun _ => newThreshold r),
                             reply := okBody (e8 (rq r 0 1) ++ e8 (rq r 1 1) ++ e8 0 ++ zs 1) } :=
  (if_neg ((hasThresholds_iff _).1 hkind)).trans (if_neg ((quantityFits_iff _ _).1 h))

/-- A threshold put in its place raises no event, so the mark of the request makes no difference. -/
theorem Dev.putThreshold_unmarked (d : Dev) (mark : Option (Nat × Nat)) (c k : Nat) (f : Threshold → Threshold) :
    ({ ({ d with cause := mark } : Dev).putThreshold c k f with cause := d.cause } : Dev) = d.putThreshold c k f := rfl

/-- A threshold whose chain and quantity fit is set anew (R338). -/
theorem threshSet_sets {s : State} {r : Request} (ht : Takes cmdThreshSet s r) (hkind : hasThresholds (rq r 0 1))
    (hfits : quantityFits (rq r 0 1) (rq r 2 1)) : exec (.threshSet r) s = .next (s.on
      ((s.dev.putThreshold (rq r 0 1) (rq r 1 1) (fun _ => newThreshold r)).respond r 0x0603
        (okBody (e8 (rq r 0 1) ++ e8 (rq r 1 1) ++ e8 0 ++ zs 1)))) := by
  rw [← s.dev.putThreshold_unmarked (some (r.slot, r.ref))]
  exact act_answers ht (threshSet_run_fits hkind hfits) rfl nofun rfl

theorem Dev.putThreshold_host (d : Dev) (c k : Nat) (f : Threshold → Threshold) : (d.putThreshold c k f).host = d.host := rfl

/-- A chain with thresholds has a code below 65,536. -/
theorem hasThresholds_lt {c : Nat} (h : hasThresholds c) : c < 65536 := by
  unfold hasThresholds chainKind at h
  omega

/-- A threshold put in its place reads as put. -/
theorem Dev.putThreshold_thr {d : Dev} {c k : Nat} (f : Threshold → Threshold) (hc : c < d.chains.length) (hk : k < (d.chain c).thr.length) :
    nth ((d.putThreshold c k f).chain c).thr k = f (nth (d.chain c).thr k) := by
  unfold Dev.putThreshold Dev.threshState
  dsimp only
  rw [Dev.set_chain, Dev.updChain_chain _ hc]
  exact nth_upd_same f hk

theorem Dev.putThreshold_samePar (d : Dev) {c : Nat} (k : Nat) (f : Threshold → Threshold) (hc : c < 65536) :
    SamePar [pThreshState] d (d.putThreshold c k f) :=
  Dev.set_samePar _ pThreshState _ hc

/-- The evaluation completes what the threshold waits for, and its dwell of windows where it watches them (R331). -/
def Dev.crosses (d : Dev) (c k : Nat) (v : Int) : Prop :=
  isChain c = true ∧ k < 4 ∧ lacksChain d c = false ∧ (nth (d.chain c).thr k).wants v = true ∧
    ((nth (d.chain c).thr k).qty = 2 → (nth (d.chain c).thr k).dwell ≤ (nth (d.chain c).thr k).count)

/-- The device with a threshold crossed over, before its event. -/
def Dev.crossThreshold (d : Dev) (c k : Nat) : Dev :=
  d.putThreshold c k (fun t => { t with fired := !(nth (d.chain c).thr k).fired, count := 0 })

theorem Dev.crosses_iff (d : Dev) (c k : Nat) (v : Int) : d.crosses c k v ↔
    ¬ (!isChain c || 4 ≤ k || lacksChain d c || !(nth (d.chain c).thr k).wants v ||
      ((nth (d.chain c).thr k).qty = 2 && (nth (d.chain c).thr k).count < (nth (d.chain c).thr k).dwell)) = true := by
  simp [Dev.crosses, and_assoc]

theorem thresholdCrossed_stays {d : Dev} {c k : Nat} {v : Int} (h : ¬ d.crosses c k v) : thresholdCrossed c k v d = d :=
  if_pos (Decidable.not_not.1 (mt (d.crosses_iff c k v).2 h))

/-- A threshold that crosses over raises its event at most: its chain is as the crossing leaves it. -/
theorem thresholdCrossed_chain {d : Dev} {c k : Nat} {v : Int} (h : d.crosses c k v) :
    (thresholdCrossed c k v d).chain c = (d.crossThreshold c k).chain c := by
  unfold thresholdCrossed
  dsimp only
  rw [if_neg ((d.crosses_iff c k v).1 h)]
  split
  · exact Dev.chainEvent_chain ..
  · rfl

/-! ### CHAIN_STATUS_GET (R326, R339) -/

/-- The saturation of a chain cleared where a CHAIN_STATUS_GET asks for it (R326). -/
def Dev.clearSaturation (d : Dev) (c : Nat) (asked : Bool) : Dev :=
  if asked then (d.updChain c (fun x => { x with sat := List.replicate 6 0 })).set pSatFlags c 0 else d

theorem Dev.clearSaturation_unmarked (d : Dev) (mark : Option (Nat × Nat)) (c : Nat) (asked : Bool) :
    ({ ({ d with cause := mark } : Dev).clearSaturation c asked with cause := d.cause } : Dev) = d.clearSaturation c asked := by
  cases asked <;> rfl

/-- A chain's status (Table FC-8), as the device before the clearing has it. -/
def Dev.chainStatus (d : Dev) (c : Nat) : List Byte :=
  e8 c ++ e8 (d.getN pChainPreset c) ++ e8 (d.getN pAvgStatus c) ++ e8 (d.getN pThreshState c) ++ e8 (d.getN pSatFlags c) ++ zs 1 ++
    s16 (if c < 8 then d.get pAvgPower c else -32768) ++ s64 (d.chain c).sum ++ e32 (d.chain c).valid ++ e64 (d.chain c).endTs ++
    ((d.chain c).sat.map e16).flatten

theorem chainStatusGet_reports {s : State} {r : Request} (ht : Takes cmdChainStatusGet s r) :
    exec (.chainStatusGet r) s = .next (s.on ((s.dev.clearSaturation (rq r 0 1) (bit (rq r 1 1) 0)).respond r 0x0604
      (okBody (s.dev.chainStatus (rq r 0 1))))) := by
  rw [← s.dev.clearSaturation_unmarked (some (r.slot, r.ref))]
  exact act_answers (rep := okBody (s.dev.chainStatus (rq r 0 1))) ht rfl rfl nofun rfl

/-! ### AVG_WINDOW_END (R327 to R330) -/

/-- The averager of the chain runs: an X chain that the part has, or SC (R327). -/
def Dev.averages (d : Dev) (c : Nat) : Prop := (c < 8 ∧ lacksChain d c = false) ∨ c = 24

/-- The samples of a whole window: 0 stands for 2^32 (R327). -/
def Dev.windowLength (d : Dev) (c : Nat) : Nat := if d.get pAvgWindow c = 0 then 4294967296 else d.getN pAvgWindow c

/-- How a window is judged: over its sum, short of half its samples, clipped, or good (R330). -/
def Dev.windowVerdict (d : Dev) (c : Nat) (m : Window) : Nat :=
  if 18446744073709551616 ≤ m.sum then 4 else if m.valid * 2 < d.windowLength c then 2 else if m.clipped then 1 else 0

/-- AVG_POWER at the end of a window, −32,768 where the window is invalid or empty (R328, R330). -/
def Dev.windowPower (d : Dev) (c : Nat) (m : Window) : Int :=
  if 2 ≤ d.windowVerdict c m || m.valid = 0 then -32768
  else clampI (-32767) 32767 (Config.dB64 m.sum (m.valid * 2 ^ (22 + d.getN pAvgShift c)))

/-- A sum past 2^64 − 1 is counted and reported (R329). -/
def Dev.reportOverflow (d : Dev) (c : Nat) (m : Window) : Dev :=
  if 18446744073709551616 ≤ m.sum then
    (d.bump pGuardOvfCount c).chainEvent c 0x0681 (e8 c ++ zs 3 ++ e32 m.overAt ++
      e64 (d.ts - d.chainDelay c - (d.windowLength c - 1) * d.chainPeriod c) ++ e32 (d.getN pAvgWindow c))
  else d

/-- The chain with a window stored, and the dwell of its window thresholds moved on by a valid one (R331). -/
def Dev.storeWindow (d : Dev) (c : Nat) (m : Window) (x : Chain) : Chain :=
  { x with sum := (if 18446744073709551616 ≤ m.sum then 18446744073709551615 else m.sum : Nat), valid := m.valid,
           endTs := d.ts - d.chainDelay c,
           thr := if 2 ≤ d.windowVerdict c m then x.thr else x.thr.map (fun t =>
             if t.qty = 2 then { t with count := if t.wants (d.windowPower c m) then t.count + 1 else 0 } else t) }

/-- The device at the end of a window. -/
def Dev.closeAverage (d : Dev) (c : Nat) (m : Window) : Dev :=
  (((d.reportOverflow c m).updChain c (d.storeWindow c m)).set pAvgStatus c (d.windowVerdict c m : Nat)).set pAvgPower c (d.windowPower c m)

theorem Dev.averages_iff (d : Dev) (c : Nat) : d.averages c ↔ ¬ (!((c < 8 && !lacksChain d c) || c = 24)) = true := by
  simp only [Dev.averages, Bool.not_eq_true', Bool.not_eq_false, Bool.or_eq_true, Bool.and_eq_true, decide_eq_true_eq]

theorem avgWindowEnd_idle {d : Dev} {c : Nat} (m : Window) (h : ¬ d.averages c) : avgWindowEnd c m d = d :=
  if_pos (Decidable.not_not.1 (mt (d.averages_iff c).2 h))

theorem avgWindowEnd_runs {d : Dev} {c : Nat} (m : Window) (h : d.averages c) : avgWindowEnd c m d = d.closeAverage c m :=
  if_neg ((d.averages_iff c).1 h)

theorem Dev.averages_lt {d : Dev} {c : Nat} (h : d.averages c) : c < 65536 := by
  unfold Dev.averages at h
  omega

theorem Dev.reportOverflow_chains (d : Dev) (c : Nat) (m : Window) : (d.reportOverflow c m).chains = d.chains := by
  unfold Dev.reportOverflow
  split
  · exact Dev.chainEvent_chains ..
  · rfl

/-- Sum, valid count and time-stamp that the end of a window stores; a sum past 2^64 − 1 is pinned there (R327, R329). -/
theorem Dev.closeAverage_chain {d : Dev} {c : Nat} (m : Window) (hc : c < d.chains.length) :
    ((d.closeAverage c m).chain c).sum = (min 18446744073709551615 m.sum : Nat) ∧ ((d.closeAverage c m).chain c).valid = m.valid ∧
      ((d.closeAverage c m).chain c).endTs = d.ts - d.chainDelay c := by
  have hstored : (d.closeAverage c m).chain c = d.storeWindow c m ((d.reportOverflow c m).chain c) :=
    Dev.updChain_chain _ (by rw [Dev.reportOverflow_chains]; exact hc)
  rw [hstored]
  refine ⟨congrArg Nat.cast (?_ : _ = min 18446744073709551615 m.sum), rfl, rfl⟩
  split <;> omega

/-- INVALID_SATURATED is the verdict on a sum past 2^64 − 1 alone (R330). -/
theorem Dev.windowVerdict_eq_four (d : Dev) (c : Nat) (m : Window) : d.windowVerdict c m = 4 ↔ 18446744073709551616 ≤ m.sum := by
  unfold Dev.windowVerdict
  split
  · exact ⟨fun _ => ‹_›, fun _ => rfl⟩
  · refine ⟨fun h => ?_, fun h => absurd h ‹_›⟩
    split at h
    · omega
    · split at h <;> omega

/-- GUARD_OVF_COUNT counts an INVALID_SATURATED window, and no other (R329). -/
theorem Dev.reportOverflow_count (d : Dev) {c : Nat} (m : Window) (hc : c < 65536) : (d.reportOverflow c m).getN pGuardOvfCount c =
    if d.windowVerdict c m = 4 then inc32 (d.getN pGuardOvfCount c) else d.getN pGuardOvfCount c := by
  unfold Dev.reportOverflow
  by_cases hover : 18446744073709551616 ≤ m.sum
  · rw [if_pos hover, if_pos ((d.windowVerdict_eq_four c m).2 hover), (Dev.chainEvent_samePar _ _ _ _).getN_eq (by decide) hc, Dev.bump,
      Dev.getN_set_same]
  · rw [if_neg hover, if_neg (mt (d.windowVerdict_eq_four c m).1 hover)]

/-- AVG_STATUS, AVG_POWER and GUARD_OVF_COUNT at the end of a window (R329, R330). -/
theorem Dev.closeAverage_reads (d : Dev) {c : Nat} (m : Window) (hc : c < 65536) :
    (d.closeAverage c m).getN pAvgStatus c = d.windowVerdict c m ∧ (d.closeAverage c m).get pAvgPower c = d.windowPower c m ∧
      (d.closeAverage c m).getN pGuardOvfCount c = (d.reportOverflow c m).getN pGuardOvfCount c := by
  have hpower (e : Dev) (v : Int) : SamePar [pAvgPower] e (e.set pAvgPower c v) := e.set_samePar _ _ hc
  unfold Dev.closeAverage
  refine ⟨?_, Dev.get_set_same .., ?_⟩
  · rw [(hpower _ _).getN_eq (by decide) hc, Dev.getN_set_same]
  · rw [(hpower _ _).getN_eq (by decide) hc, (Dev.set_samePar _ pAvgStatus _ hc).getN_eq (by decide) hc]
    rfl

theorem Dev.windowPower_invalid {d : Dev} {c : Nat} {m : Window} (h : 2 ≤ d.windowVerdict c m) : d.windowPower c m = -32768 := by
  have hbad : (2 ≤ d.windowVerdict c m || m.valid = 0) = true := by rw [decide_eq_true h, Bool.true_or]
  exact if_pos hbad

theorem Dev.windowPower_valid {d : Dev} {c : Nat} {m : Window} (h : d.windowVerdict c m < 2) (hm : m.valid ≠ 0) :
    d.windowPower c m = clampI (-32767) 32767 (Config.dB64 m.sum (m.valid * 2 ^ (22 + d.getN pAvgShift c))) := by
  have hgood : ¬ (2 ≤ d.windowVerdict c m || m.valid = 0) = true := by
    simp only [Bool.or_eq_true, decide_eq_true_eq]
    omega
  exact if_neg hgood

/-! ### CHAIN_SATURATED (R326) -/

/-- A stage's counter after some clips: it stops at 65,535. -/
def Dev.clipCount (d : Dev) (c stage clips : Nat) : Nat := min 65535 (nth (d.chain c).sat stage + clips)

/-- The device with the clips counted. -/
def Dev.countClips (d : Dev) (c stage clips : Nat) : Dev :=
  d.updChain c (fun x => { x with sat := upd x.sat stage (fun _ => d.clipCount c stage clips) })

/-- And with the stage's flag set and its event raised, at the first clip since a clear (R340). -/
def Dev.flagSaturation (d : Dev) (c stage clips : Nat) : Dev :=
  ((d.countClips c stage clips).set pSatFlags c (d.getN pSatFlags c + 2 ^ stage : Nat)).chainEvent c 0x0682
    (e8 c ++ e8 stage ++ e16 (d.clipCount c stage clips) ++ e64 (d.countClips c stage clips).ts)

theorem chainSaturated_counts {d : Dev} {c stage clips : Nat} (hc : isChain c = true) (hlacks : lacksChain d c = false)
    (hstage : stage < chainStages c) (hclips : 0 < clips) : chainSaturated c stage clips d =
      if bit (d.getN pSatFlags c) stage then d.countClips c stage clips else d.flagSaturation c stage clips := by
  have hguard : ¬ (!isChain c || lacksChain d c || chainStages c ≤ stage || clips = 0) = true := by
    simp only [hc, hlacks, Bool.not_true, Bool.false_or, Bool.or_eq_true, decide_eq_true_eq]
    omega
  exact if_neg hguard

theorem Dev.countClips_sat {d : Dev} {c stage : Nat} (clips : Nat) (hc : c < d.chains.length) (hstage : stage < (d.chain c).sat.length) :
    nth ((d.countClips c stage clips).chain c).sat stage = min 65535 (nth (d.chain c).sat stage + clips) := by
  rw [Dev.countClips, Dev.updChain_chain _ hc]
  exact nth_upd_same _ hstage

theorem Dev.flagSaturation_chain (d : Dev) (c stage clips : Nat) :
    (d.flagSaturation c stage clips).chain c = (d.countClips c stage clips).chain c :=
  Dev.chainEvent_chain ..

theorem Dev.flagSaturation_flags (d : Dev) {c : Nat} (stage clips : Nat) (hc : c < 65536) :
    (d.flagSaturation c stage clips).getN pSatFlags c = d.getN pSatFlags c + 2 ^ stage := by
  rw [Dev.flagSaturation, (Dev.chainEvent_samePar _ _ _ _).getN_eq (by decide) hc, Dev.getN_set_same]

/-! ### CHAIN_INPUT_STUCK and CHAIN_INPUT_RESUME (R342) -/

section
variable {d : Dev} {c : Nat}

/-- A P or B chain that stops is counted, marked and reported from its last transition on, 1,024 bits ago (log entry 32). -/
theorem chainInputStuck_marks (level : Nat) (hc : isChain c = true) (hlacks : lacksChain d c = false) (hkind : chainKind c = 2 ∨ chainKind c = 6)
    (h : (d.chain c).stuck = false) : chainInputStuck c level d =
      ((d.bump pInputStuckCount c).updChain c (fun x => { x with stuck := true })).chainEvent c 0x0683
        (e8 c ++ e8 level ++ zs 2 ++ e64 (d.ts - 6291456)) := by
  obtain hk | hk := hkind <;> simp [chainInputStuck, hk, hc, hlacks, h]

theorem chainInputStuck_again (level : Nat) (h : (d.chain c).stuck = true) : chainInputStuck c level d = d := by
  simp [chainInputStuck, h]

/-- A transition only takes the mark away, but on a metering chain (R342). -/
theorem chainInputResume_clears (hc : isChain c = true) (hkind : chainKind c = 2 ∨ chainKind c = 6) (h : (d.chain c).stuck = true) :
    chainInputResume c d = d.updChain c (fun x => { x with stuck := false }) := by
  obtain hk | hk := hkind <;> simp [chainInputResume, hk, hc, h]

theorem chainInputResume_running (h : (d.chain c).stuck = false) : chainInputResume c d = d := by
  simp [chainInputResume, h]

end

end Sys2Proof.Machine

open Sys2Proof Sys2Proof.Machine

/-- Settles O47, command by command and event by event. -/
theorem chainCommandsAndWindows : Obligations.ChainCommandsAndWindows := by
  unfold Obligations.ChainCommandsAndWindows
  refine fun s r => ⟨fun ht hc hknown => ⟨fun hfir => ?_, fun hfir hheld => ?_, fun hfir hrest => ?_⟩,
    fun ht => ⟨fun hlen => ?_, fun hlen hdelay => ?_, fun hlen hdelay hc hbusy => ?_, fun hlen hdelay hc hfree => ?_, fun hlen hdelay hc => ?_⟩,
    fun ht hknown => ⟨fun hkind => ?_, fun hkind hfits => ?_, fun hkind hfits hk => ?_⟩, fun ht => ?_, fun ht => ?_,
    fun c m => ⟨fun hidle => ?_, fun hruns hc => ?_⟩, fun c k v => ⟨fun hstays => ?_, fun hcrosses hc hk => ?_⟩,
    fun c stage clips hchain hlacks hstage hclips hc hsat => ?_,
    fun c level hchain hlacks hkind => ⟨fun hstuck => ?_, fun hmoving => ?_, fun hstuck => ?_, fun hmoving => ?_⟩⟩
  · exact act_refuses ht (chainConfig_run_noFir hfir) ⟨nofun, nofun⟩ rfl
  · exact act_refuses ht (chainConfig_run_held hfir hheld) ⟨nofun, nofun⟩ rfl
  · obtain ⟨hpreset, htpreset, hshift, hwindow⟩ := s.dev.configChain_reads r hc
    have hgap := Dev.configChain_gap (d := s.dev) r hc
    have hcustom := Dev.configChain_custom (r := r) hknown
    have hhost := s.dev.configChain_host (rq r 0 1) r
    have hconfigures := chainConfig_configures ht hfir hrest
    generalize s.dev.configChain (rq r 0 1) r = e at *
    exact ⟨_, hconfigures, hpreset, htpreset, hshift, hwindow, hgap, hcustom, by rw [Dev.respond_outbox, hhost]; rfl⟩
  · exact act_refuses ht (firLoad_run_badLen hlen) ⟨nofun, nofun⟩ rfl
  · exact act_refuses ht (firLoad_run_badDelay hlen hdelay) ⟨nofun, nofun⟩ rfl
  · exact act_refuses ht (firLoad_run_bridging hlen hdelay hc hbusy) ⟨nofun, nofun⟩ rfl
  · have hstores := firLoad_stores ht hlen hdelay (fun h => by simp [hfree] at h)
    rwa [Dev.bankFir, if_pos hc] at hstores
  · have hstores := firLoad_stores ht hlen hdelay (fun h => by omega)
    rwa [Dev.bankFir, if_neg (by omega)] at hstores
  · exact act_refuses ht (threshSet_run_noThresholds hkind) ⟨nofun, nofun⟩ rfl
  · exact act_refuses ht (threshSet_run_unfit hkind hfits) ⟨nofun, nofun⟩ rfl
  · have hthr := Dev.putThreshold_thr (d := s.dev) (fun _ => newThreshold r) hknown hk
    have hsame := s.dev.putThreshold_samePar (rq r 1 1) (fun _ => newThreshold r) (hasThresholds_lt hkind)
    have hhost := s.dev.putThreshold_host (rq r 0 1) (rq r 1 1) (fun _ => newThreshold r)
    have hsets := threshSet_sets ht hkind hfits
    generalize s.dev.putThreshold (rq r 0 1) (rq r 1 1) (fun _ => newThreshold r) = e at *
    exact ⟨_, hsets, hthr, hsame, by rw [Dev.respond_outbox, hhost]⟩
  · exact chainStatusGet_reports ht
  · exact act_onlyAnswers ht rfl rfl nofun rfl
  · exact State.act_unchanged (avgWindowEnd_idle m hidle)
  · obtain ⟨hstatus, hpower, hcount⟩ := s.dev.closeAverage_reads m (Dev.averages_lt hruns)
    obtain ⟨hsum, hvalid, hend⟩ := Dev.closeAverage_chain m hc
    refine ⟨_, State.act_of_eq (avgWindowEnd_runs m hruns), hstatus, hsum, hvalid, hend, fun h => ?_, fun h hm => ?_, ?_⟩
    · exact hpower.trans (Dev.windowPower_invalid h)
    · exact hpower.trans (Dev.windowPower_valid h hm)
    · exact hcount.trans (s.dev.reportOverflow_count m (Dev.averages_lt hruns))
  · exact State.act_unchanged (thresholdCrossed_stays hstays)
  · refine ⟨_, State.act_of_eq rfl, ?_⟩
    rw [thresholdCrossed_chain hcrosses]
    exact Dev.putThreshold_thr _ hc hk
  · refine ⟨_, State.act_of_eq (chainSaturated_counts hchain hlacks hstage hclips), ?_, fun h => ?_, fun h => ?_⟩
    · split
      · exact Dev.countClips_sat clips hc hsat
      · rw [Dev.flagSaturation_chain]
        exact Dev.countClips_sat clips hc hsat
    · rw [if_pos h]
      exact ⟨rfl, rfl⟩
    · rw [if_neg (by simp [h])]
      exact s.dev.flagSaturation_flags stage clips (by have := isChain_lt hchain; omega)
  · exact State.act_unchanged (chainInputStuck_again level hstuck)
  · exact State.act_of_eq (chainInputStuck_marks level hchain hlacks hkind hmoving)
  · exact State.act_of_eq (chainInputResume_clears hchain hkind hstuck)
  · exact State.act_unchanged (chainInputResume_running hmoving)

end

section
/-! SUPPORT. What the operations of the reference clock leave and write, and what a request that is carried out has passed. -/

namespace Sys2Proof.Machine

/-! ### Events and parameters -/

@[simp] theorem Dev.raiseDev_clk (d : Dev) (code : Nat) (p : List Byte) : (d.raiseDev code p).clk = d.clk := by
  rw [Dev.raiseDev, Dev.raiseAs_frame]

@[simp] theorem Dev.raiseDev_outbox (d : Dev) (code : Nat) (p : List Byte) : (d.raiseDev code p).host.outbox = d.host.outbox := by
  rw [Dev.raiseDev, Dev.raiseAs_frame]

/-- The bands that exist stand where BAND_STATE does not move. -/
theorem SamePar.bandIds_eq {ids : List Nat} {d e : Dev} (h : SamePar ids d e) (hid : pBandState ∉ ids) : e.bandIds = d.bandIds := by
  refine List.filter_congr fun b hb => ?_
  have hlt := List.mem_range.1 hb
  have hstate : e.bandState b = d.bandState b := h.getN_eq hid (by omega)
  rw [hstate]

/-! ### The selected reference (R97) -/

@[simp] theorem Dev.setSelected_clk (d : Dev) (x : Option Nat) : (d.setSelected x).clk = { d.clk with selected := x } := by
  unfold Dev.setSelected
  split
  next h => simp [← h]
  next => rfl

@[simp] theorem Dev.setSelected_outbox (d : Dev) (x : Option Nat) : (d.setSelected x).host.outbox = d.host.outbox := by
  unfold Dev.setSelected
  split <;> rfl

theorem Dev.setSelected_samePar (d : Dev) (x : Option Nat) : SamePar [pSelectedRef] d (d.setSelected x) := by
  unfold Dev.setSelected
  split
  · exact .refl _ d
  · exact Dev.set_samePar (d.updClk (fun c => { c with selected := x })) pSelectedRef _ (by decide)

/-! ### The clock state (R373, R389) -/

/-- A clock state entered, with its parameters and DEV_IRQ[1], before its event. -/
def Dev.enterClock (d : Dev) (st : ClockState) : Dev :=
  let e := (d.updClk (fun c => { c with state := st, lockedSince := if st = .locked then some d.time else none })).set pClockState 0 st.code
  (e.set pOutputQl 0 e.outputQl).setDevIrq 1

/-- A clock state that is in force already changes nothing; another one is entered, then CLOCK_STATE_CHANGED is raised. -/
theorem Dev.setClock_cases (d : Dev) (st : ClockState) (cause : Nat) :
    (d.clk.state = st ∧ d.setClock st cause = d) ∨ ∃ p, d.setClock st cause = (d.enterClock st).raiseDev 0x0880 p := by
  by_cases h : d.clk.state = st
  · exact .inl ⟨h, if_pos h⟩
  · exact .inr ⟨_, if_neg h⟩

/-- The state and the date of LOCKED are all that it writes of the clock. -/
theorem Dev.setClock_clk (d : Dev) (st : ClockState) (cause : Nat) :
    ∃ t, (d.setClock st cause).clk = { d.clk with state := st, lockedSince := t } := by
  obtain ⟨hst, h⟩ | ⟨p, h⟩ := d.setClock_cases st cause
  · exact ⟨d.clk.lockedSince, by rw [h, ← hst]⟩
  · exact ⟨_, by rw [h, Dev.raiseDev_clk]; rfl⟩

@[simp] theorem Dev.setClock_state (d : Dev) (st : ClockState) (cause : Nat) : (d.setClock st cause).clk.state = st := by
  obtain ⟨t, h⟩ := d.setClock_clk st cause
  rw [h]

@[simp] theorem Dev.setClock_selected (d : Dev) (st : ClockState) (cause : Nat) : (d.setClock st cause).clk.selected = d.clk.selected := by
  obtain ⟨t, h⟩ := d.setClock_clk st cause
  rw [h]

@[simp] theorem Dev.setClock_target (d : Dev) (st : ClockState) (cause : Nat) : (d.setClock st cause).clk.target = d.clk.target := by
  obtain ⟨t, h⟩ := d.setClock_clk st cause
  rw [h]

@[simp] theorem Dev.setClock_forced (d : Dev) (st : ClockState) (cause : Nat) : (d.setClock st cause).clk.forced = d.clk.forced := by
  obtain ⟨t, h⟩ := d.setClock_clk st cause
  rw [h]

@[simp] theorem Dev.setClock_outbox (d : Dev) (st : ClockState) (cause : Nat) : (d.setClock st cause).host.outbox = d.host.outbox := by
  obtain ⟨-, h⟩ | ⟨p, h⟩ := d.setClock_cases st cause
  · rw [h]
  · rw [h, Dev.raiseDev_outbox]
    rfl

/-- The parameters a change of the clock state moves. -/
def clockIds : List Nat := pClockState :: pOutputQl :: lossIds

theorem Dev.enterClock_samePar (d : Dev) (st : ClockState) : SamePar [pClockState, pOutputQl] d (d.enterClock st) := by
  have hstate (e : Dev) := (e.set_samePar pClockState (i := 0) st.code (by decide)).mono (ids' := [pClockState, pOutputQl]) (by decide)
  have hlevel (e : Dev) (v : Int) := (e.set_samePar pOutputQl (i := 0) v (by decide)).mono (ids' := [pClockState, pOutputQl]) (by decide)
  exact (hstate (d.updClk _)).trans (hlevel _ _)

theorem Dev.setClock_samePar (d : Dev) (st : ClockState) (cause : Nat) : SamePar clockIds d (d.setClock st cause) := by
  obtain ⟨-, h⟩ | ⟨p, h⟩ := d.setClock_cases st cause
  · rw [h]
    exact .refl clockIds d
  · rw [h]
    exact ((d.enterClock_samePar st).mono (by decide)).trans ((Dev.raiseDev_samePar _ _ p).mono (by decide))

/-! ### Wall time set (R393, R394) -/

/-- WALL_TIME_SET is all that a set of wall time with the event asked for has more. -/
theorem Dev.setWall_raises (d : Dev) (source flags anchorTkc wall uncUs : Nat) : ∃ p,
    d.setWall source flags anchorTkc wall uncUs true = (d.setWall source flags anchorTkc wall uncUs false).raiseDev 0x0885 p :=
  ⟨_, rfl⟩

/-- Wall time set moves the anchor and the uncertainty, and nothing else of the clock. -/
theorem Dev.setWall_clk (d : Dev) (source flags anchorTkc wall uncUs : Nat) (event : Bool) :
    (d.setWall source flags anchorTkc wall uncUs event).clk =
      { d.clk with wallSet := true, anchorTkc := anchorTkc, anchorWall := wall, unc := uncUs, uncAt := d.time } := by
  cases event
  · rfl
  · obtain ⟨p, h⟩ := d.setWall_raises source flags anchorTkc wall uncUs
    rw [h, Dev.raiseDev_clk]
    rfl

theorem Dev.setWall_source (d : Dev) (source flags anchorTkc wall uncUs : Nat) (event : Bool) :
    (d.setWall source flags anchorTkc wall uncUs event).get pWallSource = source := by
  have hsilent : (d.setWall source flags anchorTkc wall uncUs false).get pWallSource = source := d.get_set_same pWallSource 0 source
  cases event
  · exact hsilent
  · obtain ⟨p, h⟩ := d.setWall_raises source flags anchorTkc wall uncUs
    rw [h, Dev.raiseDev_samePar _ _ _ _ _ (by decide) (by decide), hsilent]

theorem Dev.setWall_samePar (d : Dev) (source flags anchorTkc wall uncUs : Nat) (event : Bool) :
    SamePar (pWallSource :: lossIds) d (d.setWall source flags anchorTkc wall uncUs event) := by
  have hsilent : SamePar [pWallSource] d (d.setWall source flags anchorTkc wall uncUs false) := d.set_samePar pWallSource source (by decide)
  cases event
  · exact hsilent.mono (by decide)
  · obtain ⟨p, h⟩ := d.setWall_raises source flags anchorTkc wall uncUs
    rw [h]
    exact (hsilent.mono (by decide)).trans ((Dev.raiseDev_samePar _ _ p).mono (by decide))

/-! ### Requests carried out (R133) -/

/-- A request that is carried out has passed step 7 of Table CM-4. -/
theorem Takes.bad_none {c : CmdSpec} {s : State} {r : Request} (h : Takes c s r) : c.bad s.dev r = none := by
  obtain ⟨-, hcheck⟩ := h
  cases hb : c.bad s.dev r with
  | none => rfl
  | some o =>
    unfold CmdSpec.check at hcheck
    cases he : c.early s.dev r <;> simp only [hb, he] at hcheck <;> split_ifs at hcheck

/-- Where no field is at fault, the first one is in its range. -/
theorem firstBad_first {b : List Byte} {o : Nat} {ok : Bool} {cs : List Chk} (h : firstBad b (.rg o ok :: cs) = none) : ok = true := by
  cases ok
  · cases h
  · rfl

/-- A response held back leaves the clock. -/
theorem Dev.holdBack_clk (d : Dev) (r : Request) (op : Nat) (rep : Reply) (shared : Bool) : (d.holdBack r op rep shared).clk = d.clk := by
  cases shared <;> rfl

end Sys2Proof.Machine
end

section
/-! PROOF. The commands of the reference clock (O51), and the loss of the clock in SOFTWARE mode, where O52 fails as stated. -/

namespace Sys2Proof.Machine

/-! ### REF_CONFIG (R401) -/

/-- Enable, priority and qualification time of a reference. -/
def Dev.configRanking (d : Dev) (r : Request) : Dev :=
  ((d.setNv pRefEnable (rq r 0 1) (rq r 1 1)).setNv pRefPriority (rq r 0 1) (rq r 2 1)).setNv pRefQualTime (rq r 0 1) (rq r 4 4)

/-- The level of a reference; LINK receives its own (Table RC-2). -/
def Dev.configLevel (d : Dev) (r : Request) : Dev := if rq r 0 1 = 1 then d else d.setNv pRefQl (rq r 0 1) (rq r 3 1)

/-- What EXT and CELL have of their own: the mode, and the lane and carrier. -/
def Dev.configSource (d : Dev) (r : Request) : Dev :=
  if rq r 0 1 = 3 then d.setNv pExtMode 0 (rq r 8 1)
  else if rq r 0 1 = 2 then (d.setNv pCellSource 0 (rq r 8 1)).setNv pCellFreq 0 (rq r 12 8) else d

/-- A REF_CONFIG that is carried out. -/
def Dev.configRef (d : Dev) (r : Request) : Dev := ((d.configRanking r).configLevel r).configSource r

/-- The parameters of what EXT and CELL have of their own. -/
def sourceIds : List Nat := [pExtMode, pCellSource, pCellFreq]

theorem Dev.configRanking_samePar (d : Dev) {r : Request} (hk : rq r 0 1 < 4) :
    SamePar [pRefEnable, pRefPriority, pRefQualTime] d (d.configRanking r) :=
  (((d.setNv_samePar pRefEnable _ (by omega)).mono (by decide)).trans ((Dev.setNv_samePar _ pRefPriority _ (by omega)).mono (by decide))).trans
    ((Dev.setNv_samePar _ pRefQualTime _ (by omega)).mono (by decide))

theorem Dev.configLevel_samePar (d : Dev) {r : Request} (hk : rq r 0 1 < 4) : SamePar [pRefQl] d (d.configLevel r) := by
  unfold Dev.configLevel
  split
  · exact .refl _ d
  · exact d.setNv_samePar pRefQl _ (by omega)

theorem Dev.configSource_samePar (d : Dev) (r : Request) : SamePar sourceIds d (d.configSource r) := by
  unfold Dev.configSource
  split
  · exact (d.setNv_samePar pExtMode _ (by decide)).mono (by decide)
  · split
    · exact ((d.setNv_samePar pCellSource _ (by decide)).mono (by decide)).trans
        ((Dev.setNv_samePar _ pCellFreq _ (by decide)).mono (by decide))
    · exact .refl _ d

theorem Dev.configRanking_reads (d : Dev) {r : Request} (hk : rq r 0 1 < 4) :
    (d.configRanking r).getN pRefEnable (rq r 0 1) = rq r 1 1 ∧ (d.configRanking r).getN pRefPriority (rq r 0 1) = rq r 2 1 ∧
      (d.configRanking r).getN pRefQualTime (rq r 0 1) = rq r 4 4 := by
  have hpriority (e : Dev) (v : Int) := e.setNv_samePar pRefPriority (i := rq r 0 1) v (by omega)
  have hqual (e : Dev) (v : Int) := e.setNv_samePar pRefQualTime (i := rq r 0 1) v (by omega)
  unfold Dev.configRanking
  refine ⟨?_, ?_, Dev.getN_setNv_same ..⟩
  · rw [(hqual _ _).getN_eq (by decide) (by omega), (hpriority _ _).getN_eq (by decide) (by omega), Dev.getN_setNv_same]
  · rw [(hqual _ _).getN_eq (by decide) (by omega), Dev.getN_setNv_same]

theorem Dev.configLevel_reads (d : Dev) {r : Request} (h : rq r 0 1 ≠ 1) : (d.configLevel r).getN pRefQl (rq r 0 1) = rq r 3 1 := by
  rw [Dev.configLevel, if_neg h, Dev.getN_setNv_same]

theorem Dev.configSource_ext (d : Dev) {r : Request} (h : rq r 0 1 = 3) : (d.configSource r).getN pExtMode = rq r 8 1 := by
  rw [Dev.configSource, if_pos h, Dev.getN_setNv_same]

theorem Dev.configSource_cell (d : Dev) {r : Request} (h : rq r 0 1 = 2) :
    (d.configSource r).getN pCellSource = rq r 8 1 ∧ (d.configSource r).getN pCellFreq = rq r 12 8 := by
  rw [Dev.configSource, if_neg (by omega), if_pos h]
  exact ⟨((Dev.setNv_samePar _ pCellFreq _ (by decide)).getN_eq (by decide) (by decide)).trans (Dev.getN_setNv_same ..),
    Dev.getN_setNv_same ..⟩

/-- A REF_CONFIG in force reads as the request gives it, and no other parameter moves. -/
theorem Dev.configRef_reads (d : Dev) {r : Request} (hk : rq r 0 1 < 4) :
    (d.configRef r).getN pRefEnable (rq r 0 1) = rq r 1 1 ∧ (d.configRef r).getN pRefPriority (rq r 0 1) = rq r 2 1 ∧
      (d.configRef r).getN pRefQualTime (rq r 0 1) = rq r 4 4 ∧ (rq r 0 1 ≠ 1 → (d.configRef r).getN pRefQl (rq r 0 1) = rq r 3 1) ∧
      (rq r 0 1 = 3 → (d.configRef r).getN pExtMode = rq r 8 1) ∧
      (rq r 0 1 = 2 → (d.configRef r).getN pCellSource = rq r 8 1 ∧ (d.configRef r).getN pCellFreq = rq r 12 8) ∧
      SamePar [pRefEnable, pRefPriority, pRefQualTime, pRefQl, pExtMode, pCellSource, pCellFreq] d (d.configRef r) := by
  obtain ⟨henable, hpriority, hqual⟩ := d.configRanking_reads hk
  have hlevel := (d.configRanking r).configLevel_samePar hk
  have hsource := ((d.configRanking r).configLevel r).configSource_samePar r
  have hlater {id v : Nat} (h : (d.configRanking r).getN id (rq r 0 1) = v) (hql : id ∉ [pRefQl]) (hid : id ∉ sourceIds) :
      (d.configRef r).getN id (rq r 0 1) = v :=
    (hsource.getN_eq hid (by omega)).trans ((hlevel.getN_eq hql (by omega)).trans h)
  exact ⟨hlater henable (by decide) (by decide), hlater hpriority (by decide) (by decide), hlater hqual (by decide) (by decide),
    fun h => (hsource.getN_eq (by decide) (by omega)).trans (Dev.configLevel_reads _ h), Dev.configSource_ext _, Dev.configSource_cell _,
    (((d.configRanking_samePar hk).mono (by decide)).trans (hlevel.mono (by decide))).trans (hsource.mono (by decide))⟩

/-- A REF_CONFIG leaves the clock itself. -/
theorem Dev.configRef_clk (d : Dev) (r : Request) : (d.configRef r).clk = d.clk := by
  unfold Dev.configRef Dev.configSource Dev.configLevel Dev.configRanking
  split_ifs <;> rfl

/-- A REF_CONFIG raises no event, so the mark of its request makes no difference. -/
theorem Dev.configRef_unmarked (d : Dev) (mark : Option (Nat × Nat)) (r : Request) :
    ({ ({ d with cause := mark } : Dev).configRef r with cause := d.cause } : Dev) = d.configRef r := by
  unfold Dev.configRef Dev.configSource Dev.configLevel Dev.configRanking
  split_ifs <;> rfl

theorem refConfig_run {d : Dev} {r : Request} (hown : rq r 0 1 = 2 → rq r 8 1 < 8 → d.owner (rq r 8 1) = 0) :
    cmdRefConfig.run d r =
      { dev := d.configRef r, reply := okBody (e8 (rq r 0 1) ++ e8 ((d.configRef r).ref (rq r 0 1)).state.code ++ zs 2) } := by
  refine if_neg ?_
  simp only [Bool.and_eq_true, decide_eq_true_eq, not_and, Decidable.not_not]
  exact fun h => hown h.1 h.2

/-- A REF_CONFIG is in force at once, and answered from the journal (R145). -/
theorem refConfig_configures {s : State} {r : Request} (ht : Takes cmdRefConfig s r) (hbar : s.dev.nvmBar = none)
    (hown : rq r 0 1 = 2 → rq r 8 1 < 8 → s.dev.owner (rq r 8 1) = 0) : exec (.refConfig r) s = .next (s.on
      ((s.dev.configRef r).holdBack r 0x0801 (okBody (e8 (rq r 0 1) ++ e8 (s.dev.ref (rq r 0 1)).state.code ++ zs 2)))) := by
  have hholds := act_holdsBack ht rfl hbar (refConfig_run (d := { s.dev with cause := some (r.slot, r.ref) }) hown)
  rw [Dev.configRef_unmarked, Dev.ref, Dev.configRef_clk] at hholds
  exact hholds

/-! ### CLOCK_BW_SET (R382) -/

/-- A CLOCK_BW_SET that is carried out; EXT in 1PPS mode has codes of its own (Table RC-1). -/
def Dev.setCodes (d : Dev) (r : Request) : Dev :=
  if rq r 0 1 = 3 ∧ d.extPps = true then { d with clk := { d.clk with ppsCodes := (rq r 1 1, rq r 2 1) } }
  else { d with clk := { d.clk with codes := upd d.clk.codes (rq r 0 1) (fun _ => (rq r 1 1, rq r 2 1)) } }

theorem Dev.setCodes_unmarked (d : Dev) (mark : Option (Nat × Nat)) (r : Request) :
    ({ ({ d with cause := mark } : Dev).setCodes r with cause := d.cause } : Dev) = d.setCodes r := by
  unfold Dev.setCodes
  rw [show ({ d with cause := mark } : Dev).extPps = d.extPps from rfl]
  split <;> rfl

theorem clockBwSet_run_unfit {d : Dev} {r : Request} (h : d.refTopCode (rq r 0 1) < rq r 2 1 ∨ rq r 2 1 < rq r 1 1) :
    cmdClockBwSet.run d r = refuse d (fail .badArg) := by
  by_cases htop : d.refTopCode (rq r 0 1) < rq r 2 1
  · exact if_pos htop
  · exact (if_neg htop).trans (if_pos (h.resolve_left htop))

theorem clockBwSet_run_fits {d : Dev} {r : Request} (htop : rq r 2 1 ≤ d.refTopCode (rq r 0 1)) (hle : rq r 1 1 ≤ rq r 2 1) :
    cmdClockBwSet.run d r = { dev := d.setCodes r, reply := okBody r.body } := by
  refine (if_neg (Nat.not_lt.2 htop)).trans ((if_neg (Nat.not_lt.2 hle)).trans ?_)
  by_cases hpps : rq r 0 1 = 3 ∧ d.extPps = true <;> simp [Dev.setCodes, Dev.updClk, hpps]

/-- A CLOCK_BW_SET is in force at once, and answered from the journal (R145). -/
theorem clockBwSet_sets {s : State} {r : Request} (ht : Takes cmdClockBwSet s r) (hbar : s.dev.nvmBar = none)
    (htop : rq r 2 1 ≤ s.dev.refTopCode (rq r 0 1)) (hle : rq r 1 1 ≤ rq r 2 1) :
    exec (.clockBwSet r) s = .next (s.on ((s.dev.setCodes r).holdBack r 0x0803 (okBody r.body))) := by
  have hholds := act_holdsBack ht rfl hbar (clockBwSet_run_fits (d := { s.dev with cause := some (r.slot, r.ref) }) htop hle)
  rwa [Dev.setCodes_unmarked] at hholds

/-! ### STEER_SET (R400) -/

/-- SOFTWARE mode entered: no reference is selected or forced, and the word goes to the value; LOST stands. -/
def Dev.steer (d : Dev) (w : Int) : Dev :=
  let e := ((d.set pSteerMode 0 1).setSelected none).updClk
    (fun c => { c with target := w, forced := none, inWindow := none, outWindow := none })
  if e.clk.state = .lost then e else e.setClock .freeRun 5

/-- AUTO mode entered: a word that SOFTWARE mode drove goes to that of FREE_RUN. -/
def Dev.unsteer (d : Dev) : Dev :=
  let e := d.set pSteerMode 0 0
  if d.get pSteerMode = 1 then e.updClk (fun c => { c with target := e.freeWord }) else e

theorem steerSet_run_follower {d : Dev} {r : Request} (h : d.isFollower = true) : cmdSteerSet.run d r = refuse d (fail .state) :=
  if_pos h

theorem steerSet_run_software {d : Dev} {r : Request} (h : d.isFollower = false) (hk : rq r 0 1 = 1) :
    cmdSteerSet.run d r = { dev := d.steer (rqS r 4 4), reply := okBody (e8 1 ++ zs 3 ++ s32 (rqS r 4 4)) } :=
  (if_neg (by simp [h])).trans (if_pos hk)

theorem steerSet_run_auto {d : Dev} {r : Request} (h : d.isFollower = false) (hk : rq r 0 1 = 0) :
    cmdSteerSet.run d r = { dev := d.unsteer, reply := okBody (e8 0 ++ zs 3 ++ s32 d.unsteer.clk.target) } :=
  (if_neg (by simp [h])).trans (if_neg (by omega))

theorem Dev.steer_clk (d : Dev) (w : Int) :
    (d.steer w).clk.target = w ∧ (d.steer w).clk.selected = none ∧ (d.steer w).clk.forced = none ∧
      (d.steer w).clk.state = if d.clk.state = .lost then .lost else .freeRun := by
  unfold Dev.steer
  dsimp only
  split
  next h =>
    have hlost : d.clk.state = .lost := by simpa using h
    simp [hlost]
  next h =>
    have hheld : d.clk.state ≠ .lost := by simpa using h
    simp [hheld]

theorem Dev.steer_mode (d : Dev) (w : Int) : (d.steer w).get pSteerMode = 1 := by
  have hmode (f : Clock → Clock) : (((d.set pSteerMode 0 1).setSelected none).updClk f).get pSteerMode = 1 :=
    (Dev.setSelected_samePar _ _ _ _ (by decide) (by decide)).trans (Dev.get_set_same ..)
  unfold Dev.steer
  dsimp only
  split
  · exact hmode _
  · exact (Dev.setClock_samePar _ _ _ _ _ (by decide) (by decide)).trans (hmode _)

theorem Dev.steer_outbox (d : Dev) (w : Int) : (d.steer w).host.outbox = d.host.outbox := by
  unfold Dev.steer
  dsimp only
  split <;> simp

/-- The word of FREE_RUN does not depend on the mode. -/
theorem Dev.freeWord_setSteerMode (d : Dev) (v : Int) : (d.set pSteerMode 0 v).freeWord = d.freeWord := by
  have hsource : (d.set pSteerMode 0 v).get pXoTempSource = d.get pXoTempSource :=
    d.get_set_id _ _ _ _ _ (by decide) (by decide) (by decide)
  unfold Dev.freeWord Dev.xoTemp
  rw [hsource]
  rfl

theorem Dev.unsteer_eq (d : Dev) : d.unsteer = { d.set pSteerMode 0 0 with clk := { d.clk with
    target := if d.get pSteerMode = 1 then d.freeWord else d.clk.target } } := by
  unfold Dev.unsteer
  dsimp only
  rw [Dev.freeWord_setSteerMode]
  split <;> rfl

/-! ### WALLTIME_SET (R393, R399) -/

/-- GNSS or LINK drives wall time (R393). -/
def Dev.wallDriven (d : Dev) : Prop := d.get pWallSource = 1 ∨ d.get pWallSource = 2

/-- The time asked for lies past the forward limit, and the request does not force it. -/
def Dev.wallPast (d : Dev) (r : Request) : Prop := d.highWater + d.getN pWallFwdLimit < rq r 0 4 ∧ rq r 4 1 = 0

/-- The wall time that a request sets. -/
def Dev.setWallOf (d : Dev) (r : Request) : Dev :=
  d.setWall 3 (rq r 4 1) (if rq r 8 8 = 0 then d.tkc else rq r 8 8) (rq r 0 4) 1000 true

theorem walltimeSet_run_driven {d : Dev} {r : Request} (h : d.wallDriven) : cmdWalltimeSet.run d r = refuse d (fail .state) :=
  if_pos (by simpa [Dev.wallDriven] using h)

theorem walltimeSet_run_past {d : Dev} {r : Request} (h : ¬ d.wallDriven) (hpast : d.wallPast r) :
    cmdWalltimeSet.run d r = refuse d (fail .wouldExceed) :=
  (if_neg (by simpa [Dev.wallDriven] using h)).trans (if_pos (by simpa [Dev.wallPast] using hpast))

theorem walltimeSet_run_sets {d : Dev} {r : Request} (h : ¬ d.wallDriven) (hpast : ¬ d.wallPast r) :
    ∃ body, cmdWalltimeSet.run d r = { dev := d.setWallOf r, reply := okBody body } :=
  ⟨_, (if_neg (by simpa [Dev.wallDriven] using h)).trans (if_neg (by simpa [Dev.wallPast] using hpast))⟩

/-! ### REF_FORCE (R380) -/

theorem refForce_run_noLink {d : Dev} {r : Request} (hk : rq r 0 1 = 1) (h : d.isFollower = false) :
    cmdRefForce.run d r = refuse d (fail .badArg) :=
  if_pos (by simp [hk, h])

section
variable {d : Dev} {r : Request} (hlink : rq r 0 1 = 1 → d.isFollower = true)
include hlink

theorem refForce_run_unqualified (hk : rq r 0 1 < 4) (h : (d.ref (rq r 0 1)).state ≠ .qualified) :
    cmdRefForce.run d r = refuse d (fail .state) :=
  (if_neg (by simpa using hlink)).trans (if_pos (by simp [hk, h]))

theorem refForce_run_forces (h : rq r 0 1 < 4 → (d.ref (rq r 0 1)).state = .qualified) :
    cmdRefForce.run d r =
      { dev := d.updClk (fun c => { c with forced := if rq r 0 1 = 255 then none else some (rq r 0 1) })
        reply := okBody (e8 (d.clk.selected.getD 255) ++ e8 (rq r 0 1)) } :=
  (if_neg (by simpa using hlink)).trans (if_neg (by simpa using h))

end

/-! ### LOST in SOFTWARE mode (O52)

A loss of the clock freezes the word only where a reference or FREE_RUN drives it: in SOFTWARE mode the word goes on to the value of
STEER_SET (R371, R400), and the clause of CLOCK_LOST, which gives the word itself as the target, names no mode. -/

/-- The clock trigger of a unit without bands changes nothing. -/
theorem Dev.clockTrigger_noBands {d : Dev} (h : d.bandIds = []) : d.clockTrigger = d := by
  simp [Dev.clockTrigger, Dev.clearAll, Dev.tripAll, h]

/-- LOST in SOFTWARE mode leaves the word its target. -/
theorem clockLost_target_software {d : Dev} (cause : Nat) (hst : d.clk.state ≠ .lost) (hmode : d.get pSteerMode = 1) :
    (clockLost cause d).clk.target = d.clk.target := by
  have hkept (e : Dev) (p : List Byte) : (e.raiseDev 0x0887 p).get pSteerMode = e.get pSteerMode :=
    Dev.raiseDev_samePar _ _ _ _ _ (by decide) (by decide)
  unfold clockLost
  dsimp only
  rw [if_neg hst, hkept, show (d.updClk (fun c => { c with lostClear := none })).get pSteerMode = 1 from hmode]
  simp

/-- LOST moves no band. -/
theorem clockLost_bandIds (d : Dev) (cause : Nat) : (clockLost cause d).bandIds = d.bandIds := by
  unfold clockLost
  dsimp only
  split
  · rfl
  · have hstate (e : Dev) := (e.setClock_samePar .lost 4).bandIds_eq (by decide)
    have hselected (e : Dev) := (e.setSelected_samePar none).bandIds_eq (by decide)
    have hevent (e : Dev) (p : List Byte) := (e.raiseDev_samePar 0x0887 p).bandIds_eq (by decide)
    exact (hstate _).trans ((hselected _).trans (hevent _ _))

/-- A READY block in SOFTWARE mode whose word, 0, is on its way to the 5 ppt of a STEER_SET. -/
def steering : State :=
  { dev := ({ pwr := { state := .active, phase := .ready }, clk := { target := 5 } } : Dev).set pSteerMode 0 1 }

theorem steering_noBands : steering.dev.bandIds = [] := by
  decide +kernel

theorem steering_lost_target : (clockLost 0 steering.dev).clockTrigger.clk.target = 5 := by
  rw [Dev.clockTrigger_noBands ((clockLost_bandIds _ _).trans steering_noBands)]
  exact clockLost_target_software 0 (by decide) (Dev.get_set_same ..)

end Sys2Proof.Machine

open Sys2Proof Sys2Proof.Machine

/-- Settles O51, command by command. -/
theorem clockCommands : Obligations.ClockCommands := by
  unfold Obligations.ClockCommands
  refine fun s r => ⟨fun ht hbar hown => ?_, fun ht => ?_, fun ht => ⟨fun hunfit => ?_, fun htop hle hbar => ?_⟩,
    fun ht => ⟨fun hfollows => ?_, fun hleads hk => ?_, fun hleads hk => ?_⟩,
    fun ht => ⟨fun hdriven => ?_, fun hfree hpast => ?_, fun hfree hwithin hbar => ?_⟩,
    fun ht => ⟨fun hk hleads => ?_, fun hk hlink hunqualified => ?_, fun hlink hqualified => ?_⟩⟩
  · have hk : rq r 0 1 < 4 := of_decide_eq_true (firstBad_first ht.bad_none)
    obtain ⟨henable, hpriority, hqual, hlevel, hext, hcell, hsame⟩ := s.dev.configRef_reads hk
    have hconfigures := refConfig_configures ht hbar hown
    refine ⟨_, hconfigures, ?_, ?_, ?_, fun h => ?_, fun h => ?_, fun h => ?_, fun id i hid hi => ?_, Dev.holdBack_last ..⟩
    · rwa [Dev.holdBack_getN]
    · rwa [Dev.holdBack_getN]
    · rwa [Dev.holdBack_getN]
    · rw [Dev.holdBack_getN, hlevel h]
    · rw [Dev.holdBack_getN, hext h]
    · rw [Dev.holdBack_getN, Dev.holdBack_getN]
      exact hcell h
    · rw [Dev.holdBack_get, hsame id i hid hi]
  · exact act_onlyAnswers ht rfl rfl nofun rfl
  · exact act_refuses ht (clockBwSet_run_unfit hunfit) ⟨nofun, nofun⟩ rfl
  · exact clockBwSet_sets ht hbar htop hle
  · exact act_refuses ht (steerSet_run_follower hfollows) ⟨nofun, nofun⟩ rfl
  · have hanswers := act_answers ht (steerSet_run_software (d := { s.dev with cause := some (r.slot, r.ref) }) hleads hk) rfl nofun rfl
    obtain ⟨htarget, hselected, hforced, hstate⟩ := ({ s.dev with cause := some (r.slot, r.ref) } : Dev).steer_clk (rqS r 4 4)
    refine ⟨_, hanswers, Dev.steer_mode .., htarget, hselected, hforced, hstate, ?_⟩
    rw [Dev.respond_outbox]
    exact congrArg (· ++ _) (Dev.steer_outbox ..)
  · have hanswers := act_answers ht (steerSet_run_auto (d := { s.dev with cause := some (r.slot, r.ref) }) hleads hk) rfl nofun rfl
    rw [Dev.unsteer_eq] at hanswers
    exact hanswers
  · exact act_refuses ht (walltimeSet_run_driven hdriven) ⟨nofun, nofun⟩ rfl
  · exact act_refuses ht (walltimeSet_run_past hfree hpast) ⟨nofun, nofun⟩ rfl
  · obtain ⟨body, hrun⟩ := walltimeSet_run_sets (d := { s.dev with cause := some (r.slot, r.ref) }) hfree hwithin
    have hclk := ({ s.dev with cause := some (r.slot, r.ref) } : Dev).setWall_clk 3 (rq r 4 1)
      (if rq r 8 8 = 0 then s.dev.tkc else rq r 8 8) (rq r 0 4) 1000 true
    refine ⟨_, act_holdsBack ht rfl hbar hrun, ?_, ?_, ?_, ?_, ?_, fun id i hid hi => ?_⟩
    · rw [Dev.holdBack_get]
      exact Dev.setWall_source ..
    · rw [Dev.holdBack_clk]
      exact congrArg Clock.wallSet hclk
    · rw [Dev.holdBack_clk]
      exact congrArg Clock.anchorWall hclk
    · rw [Dev.holdBack_clk]
      exact congrArg Clock.anchorTkc hclk
    · rw [Dev.holdBack_clk]
      exact congrArg Clock.unc hclk
    · rw [Dev.holdBack_get]
      exact Dev.setWall_samePar _ _ _ _ _ _ _ id i hid hi
  · exact act_refuses ht (refForce_run_noLink hk hleads) ⟨nofun, nofun⟩ rfl
  · exact act_refuses ht (refForce_run_unqualified hlink hk hunqualified) ⟨nofun, nofun⟩ rfl
  · exact act_answers ht (refForce_run_forces (d := { s.dev with cause := some (r.slot, r.ref) }) hlink hqualified) rfl nofun rfl

/-- Refutes O52: the clause of CLOCK_LOST names no steering mode, and a clock lost in SOFTWARE mode while the word, 0, is on its way to a
STEER_SET's 5 keeps the target 5, not the word. -/
theorem not_clockFollowsReferences : ¬ Obligations.ClockFollowsReferences := by
  unfold Obligations.ClockFollowsReferences
  intro h
  obtain ⟨-, -, -, -, -, -, -, -, -, -, -, -, -, -, hlost, -⟩ := h steering
  obtain ⟨e, he, -, -, htarget, -⟩ := hlost 0 steering_noBands (by decide)
  have hdev : (clockLost 0 steering.dev).clockTrigger = e := State.act_eq_on (f := fun d => (clockLost 0 d).clockTrigger) he
  rw [← hdev, steering_lost_target] at htarget
  exact absurd htarget (by decide)

end

section
/-! PROOF. The ring window at reset, and the unit's reports: O3, O38. -/

open Sys2Proof Sys2Proof.Machine

/-- Settles O3: nothing is written at reset, and a window with no cell is canonical. -/
theorem resetHoldsInvariant : Obligations.ResetHoldsInvariant := by
  unfold Obligations.ResetHoldsInvariant
  exact (Memory.wf_iff []).2 ⟨nofun, .nil⟩

/-- Settles O38: each of the six only reads. -/
theorem unitReports : Obligations.UnitReports := by
  unfold Obligations.UnitReports
  refine fun s r => ⟨fun ht => ?_, fun ht => ?_, fun ht => ?_, fun ht => ?_, fun ht => ?_, fun ht => ?_⟩
  · exact act_onlyAnswers ht rfl rfl nofun rfl
  · exact act_onlyAnswers ht rfl rfl nofun rfl
  · exact act_onlyAnswers ht rfl rfl nofun rfl
  · exact act_onlyAnswers ht rfl rfl nofun rfl
  · exact act_onlyAnswers ht rfl rfl nofun rfl
  · exact act_onlyAnswers ht rfl rfl nofun rfl

end

section
/-! SUPPORT. What raising an event leaves of the fields that the last chapters' statements name, and how a collection with one element
changed reads. -/

namespace Sys2Proof.Machine

/-! ### Collections -/

/-- An element other than the one changed reads as before. -/
theorem nth_upd_ne {α : Type} [Inhabited α] (l : List α) {i j : Nat} (f : α → α) (h : j ≠ i) : nth (upd l i f) j = nth l j := by
  simp [nth, upd, List.getD_eq_getElem?_getD, List.getElem?_modify_ne _ _ h.symm]

@[simp] theorem length_upd {α : Type} (l : List α) (i : Nat) (f : α → α) : (upd l i f).length = l.length := by
  simp [upd]

/-- What a projection of the changed element and the change agree on reads as before everywhere. -/
theorem nth_upd_proj {α β : Type} [Inhabited α] (g : α → β) (l : List α) (i j : Nat) {f : α → α} (hf : ∀ x, g (f x) = g x) :
    g (nth (upd l i f) j) = g (nth l j) := by
  by_cases hj : j = i
  · subst hj
    by_cases hlen : j < l.length
    · rw [nth_upd_same f hlen, hf]
    · simp [nth, List.getD_eq_getElem?_getD, hlen]
  · rw [nth_upd_ne l f hj]

/-! ### Events (R130, R195, R534) -/

section Raised
variable (d : Dev) (part : Nat) (o : Bool) (agent code : Nat) (p : List Byte)

@[simp] theorem Dev.raiseAs_time : (d.raiseAs part o agent code p).time = d.time := by rw [Dev.raiseAs_frame]
@[simp] theorem Dev.raiseAs_factory : (d.raiseAs part o agent code p).factory = d.factory := by rw [Dev.raiseAs_frame]
@[simp] theorem Dev.raiseAs_convoys : (d.raiseAs part o agent code p).convoys = d.convoys := by rw [Dev.raiseAs_frame]
@[simp] theorem Dev.raiseAs_pins : (d.raiseAs part o agent code p).pins = d.pins := by rw [Dev.raiseAs_frame]
@[simp] theorem Dev.raiseAs_ao : (d.raiseAs part o agent code p).ao = d.ao := by rw [Dev.raiseAs_frame]
@[simp] theorem Dev.raiseAs_tap : (d.raiseAs part o agent code p).tap = d.tap := by rw [Dev.raiseAs_frame]
@[simp] theorem Dev.raiseAs_dbg : (d.raiseAs part o agent code p).dbg = d.dbg := by rw [Dev.raiseAs_frame]

end Raised

end Sys2Proof.Machine
end

section
/-! PROOF. The test access port and the debug port: O60. -/

namespace Sys2Proof.Machine

/-! ### The instructions of the TAP (R608) -/

/-- The pins may be driven: RESET_N low, or the debug port unlocked (R608). -/
theorem Dev.tapMayDrive_iff (d : Dev) : d.tapMayDrive = true ↔ d.pins.resetN = false ∨ d.dbg.unlocked = true := by
  simp [Dev.tapMayDrive]

theorem Dev.tapMayDrive_eq {d : Dev} (h : d.pins.resetN = false ∨ d.dbg.unlocked = true) : d.tapMayDrive = true := d.tapMayDrive_iff.2 h

theorem Dev.tapMayDrive_not {d : Dev} (h : ¬ (d.pins.resetN = false ∨ d.dbg.unlocked = true)) : d.tapMayDrive = false :=
  Bool.eq_false_iff.2 (h ∘ d.tapMayDrive_iff.1)

/-- An instruction that drives no pin is selected at any time. -/
theorem Dev.tapSelect_reads (d : Dev) (code : Nat) (captured : List Byte) : d.tapSelect code false captured =
    { d with tap := { d.tap with instr := code, driving := false, captured := captured } } := rfl

theorem Dev.tapSelect_drives {d : Dev} (code : Nat) (captured : List Byte) (h : d.tapMayDrive = true) : d.tapSelect code true captured =
    { d with tap := { d.tap with instr := code, driving := true, captured := captured } } := by
  simp [Dev.tapSelect, h]

/-- One that drives pins is BYPASS at any other time. -/
theorem Dev.tapSelect_bypasses {d : Dev} (code : Nat) (captured : List Byte) (h : d.tapMayDrive = false) : d.tapSelect code true captured =
    { d with tap := { d.tap with instr := 0x1F, driving := false, captured := e8 0 } } := by
  simp [Dev.tapSelect, h]

theorem tapBypass_listed {code : Nat} (h : code ∈ tapCodes) (d : Dev) : tapBypass code d = d := if_pos (List.contains_iff_mem.2 h)

theorem tapBypass_unlisted {code : Nat} (h : code ∉ tapCodes) (d : Dev) : tapBypass code d = d.tapSelect 0x1F false (e8 0) :=
  if_neg (h ∘ List.contains_iff_mem.1)

theorem tapSamplePreload_eq (pins preload : List Bool) (d : Dev) : tapSamplePreload pins preload d =
    { d with tap := { instr := 1, driving := false, captured := tapBytes pins, cells := if d.tapMayDrive then preload else d.tap.cells } } := by
  unfold tapSamplePreload
  cases d.tapMayDrive <;> rfl

theorem tapExtest_drives (cells : List Bool) {d : Dev} (h : d.tapMayDrive = true) : tapExtest cells d =
    { d with tap := { instr := 0, driving := true, captured := tapBytes d.tap.cells, cells := cells } } := by
  simp [tapExtest, Dev.tapSelect_drives _ _ h, h]

theorem tapExtest_bypasses (cells : List Bool) {d : Dev} (h : d.tapMayDrive = false) : tapExtest cells d =
    { d with tap := { d.tap with instr := 0x1F, driving := false, captured := e8 0 } } := by
  simp [tapExtest, Dev.tapSelect_bypasses _ _ h, h]

/-! ### The relock (R610, R614) -/

/-- The way a lane leaves MUTE is no matter of its being muted. -/
theorem Dev.muteForRelease_laneMuted (d : Dev) (l k : Nat) : (d.muteForRelease l).laneMuted k = (d.muteConvoy l).laneMuted k :=
  nth_upd_proj Convoy.muted (f := fun x => { x with restart := none }) _ l k fun _ => rfl

/-- A muted lane stays muted when any lane is muted for its release. -/
theorem Dev.muteForRelease_keeps {d : Dev} {k : Nat} (h : d.laneMuted k = true) (l : Nat) : (d.muteForRelease l).laneMuted k = true := by
  rw [Dev.muteForRelease_laneMuted]
  unfold Dev.muteConvoy
  split
  · exact h
  · by_cases hk : k = l
    · subst hk
      by_cases hlen : k < d.convoys.length
      · exact congrArg Convoy.muted (nth_upd_same _ hlen)
      · simpa [Dev.laneMuted, Dev.convoy, Dev.updConvoy, Dev.drivePins, Dev.updLane, nth, List.getD_eq_getElem?_getD, hlen] using h
    · exact (congrArg Convoy.muted (nth_upd_ne _ _ hk)).trans h

/-- A lane's convoy that stands mutes with it (R346). -/
theorem Dev.muteConvoy_mutes {d : Dev} {l : Nat} (hl : l < 8) (hlen : l < d.convoys.length) : (d.muteConvoy l).laneMuted l = true := by
  unfold Dev.muteConvoy
  split
  · next h => simpa [Nat.not_le.2 hl, Dev.laneMuted] using h
  · exact congrArg Convoy.muted (nth_upd_same _ hlen)

theorem Dev.muteForRelease_mutes {d : Dev} {l : Nat} (hl : l < 8) (hlen : l < d.convoys.length) : (d.muteForRelease l).laneMuted l = true :=
  (d.muteForRelease_laneMuted l l).trans (Dev.muteConvoy_mutes hl hlen)

theorem Dev.muteConvoy_length (d : Dev) (l : Nat) : (d.muteConvoy l).convoys.length = d.convoys.length := by
  unfold Dev.muteConvoy
  split
  · rfl
  · exact length_upd _ _ _

theorem Dev.muteForRelease_length (d : Dev) (l : Nat) : (d.muteForRelease l).convoys.length = d.convoys.length :=
  (length_upd _ _ _).trans (d.muteConvoy_length l)

theorem Dev.muteForRelease_dbg (d : Dev) (l : Nat) : (d.muteForRelease l).dbg = d.dbg := by
  unfold Dev.muteForRelease Dev.muteConvoy
  split <;> rfl

/-- Muting every lane of a list mutes each of them. -/
theorem Dev.muteForRelease_all {ls : List Nat} {d : Dev} {k : Nat} (hk : k < 8) (hlen : k < d.convoys.length)
    (h : k ∈ ls ∨ d.laneMuted k = true) : (ls.foldl (fun e l => e.muteForRelease l) d).laneMuted k = true := by
  induction ls generalizing d with
  | nil => simpa using h
  | cons l ls ih =>
    refine ih (by rwa [Dev.muteForRelease_length]) ?_
    rcases h with h | h
    · rcases List.mem_cons.1 h with rfl | h
      · exact .inr (Dev.muteForRelease_mutes hk hlen)
      · exact .inl h
    · exact .inr (Dev.muteForRelease_keeps h l)

theorem Dev.laneIds_lt {d : Dev} {l : Nat} (h : l ∈ d.laneIds) : l < 8 := by
  unfold Dev.laneIds at h
  split at h <;> have := List.mem_range.1 h <;> omega

/-- The port is locked, no overlay stands, and every lane of the part mutes. -/
structure Relocked (d e : Dev) : Prop where
  unlocked : e.dbg.unlocked = false
  ops : e.dbg.ops = 0
  raw : e.dbg.raw = List.replicate 9 {}
  muted : ∀ l ∈ d.laneIds, l < d.convoys.length → e.laneMuted l = true

/-- What an instruction selected changes beside has no part in it. -/
theorem Relocked.withTap {d e : Dev} (h : Relocked d e) (t : Tap) : Relocked d { e with tap := t } :=
  ⟨h.unlocked, h.ops, h.raw, h.muted⟩

/-- The relock of an unlocked port (R614). -/
theorem Dev.relock_unlocked {d : Dev} (h : d.dbg.unlocked = true) : Relocked d d.relock := by
  unfold Dev.relock
  rw [if_neg (by simp [h])]
  have hdbg (e : Dev) (ls : List Nat) : (ls.foldl (fun e l => e.muteForRelease l) e).dbg = e.dbg :=
    foldl_keeps Dev.dbg (fun e l => e.muteForRelease_dbg l) ls e
  refine ⟨congrArg Debug.unlocked (hdbg _ _), congrArg Debug.ops (hdbg _ _), congrArg Debug.raw (hdbg _ _), fun l hl hlen => ?_⟩
  refine Dev.muteForRelease_all (Dev.laneIds_lt hl) ?_ (.inl ?_)
  · simpa [Dev.updDbg, Dev.rawRecord, Dev.raiseDev] using hlen
  · simpa [Dev.laneIds, Dev.updDbg, Dev.rawRecord, Dev.raiseDev] using hl

theorem Dev.relock_locked {d : Dev} (h : d.dbg.unlocked = false) : d.relock = d := if_pos (by simp [h])

/-! ### The challenge and the unlock (R611, R612) -/

theorem dbgChallenge_locked {d : Dev} (h : 0 < d.dbgLockLeft ∨ d.powered = false) : dbgChallenge d = d.tapSelect 0x11 false (zs 32) :=
  if_pos (by simpa using h)

theorem dbgChallenge_free {d : Dev} (hl : d.dbgLockLeft = 0) (hp : d.powered = true) : dbgChallenge d =
    ((d.draw 16).2.updDbg (fun g => { g with nonce := some ((d.draw 16).1, d.time) })).tapSelect 0x11 false
      ((d.draw 16).1 ++ padTo 16 d.factory.serial) :=
  if_neg (by simp [hl, hp])

/-- A right token: a challenge is pending, S0 is ACTIVE, and the expiry lies ahead within a day (R611). -/
def Dev.rightToken (d : Dev) (expiry : Nat) (token : List Byte) : Prop :=
  ∃ nonce, d.dbgPending = some nonce ∧ d.powered = true ∧ d.get pSlotState 0 = 2 ∧ d.wallValid = true ∧ d.effTime < expiry ∧
    expiry ≤ d.effTime + 86400 ∧ token = d.dbgToken nonce expiry

theorem Dev.dbgOpens_iff (d : Dev) (expiry : Nat) (token : List Byte) : d.dbgOpens expiry token = true ↔ d.rightToken expiry token := by
  unfold Dev.dbgOpens Dev.rightToken
  cases d.dbgPending <;> simp [and_assoc]

/-- The debug port as a right token leaves it. -/
def Debug.opened (g : Debug) (expiry : Nat) : Debug :=
  { g with nonce := none, unlocked := true, expiry := expiry, ops := 0, result := 0, raw := List.replicate 9 {} }

/-- The device as a right token leaves it, before RAW_SEQUENCER. -/
def Dev.dbgOpened (d : Dev) (expiry : Nat) : Dev :=
  { d.tapSelect 0x12 false (zs 20) with dbg := d.dbg.opened expiry, ao := { d.ao with dbgFails := 0, dbgLockEnd := none } }

theorem dbgUnlock_right {d : Dev} {expiry : Nat} {token : List Byte} (h : d.rightToken expiry token) :
    dbgUnlock expiry token d = (d.dbgOpened expiry).rawRecord 0 := if_pos ((d.dbgOpens_iff _ _).2 h)

/-- Any other token ends the challenge and counts; the third failure in a row starts the lockout (R612). -/
theorem dbgUnlock_wrong {d : Dev} {expiry : Nat} {token : List Byte} (h : ¬ d.rightToken expiry token) :
    dbgUnlock expiry token d = { (d.updDbg (fun g => { g with nonce := none })).tapSelect 0x12 false (zs 20) with
      ao := { d.ao with
        dbgFails := min 255 (d.ao.dbgFails + 1)
        dbgLockEnd := if 3 ≤ min 255 (d.ao.dbgFails + 1) && d.dbgLockLeft = 0 then some (d.time + secU 600) else d.ao.dbgLockEnd } } :=
  if_neg (h ∘ (d.dbgOpens_iff _ _).1)

/-! ### Raw operations (R613) -/

/-- The index of a raw operation's lane: 8 for the SCAN lane. -/
def rawIx (lane : Nat) : Nat := if lane = 15 then 8 else lane

theorem dbgAccess_locked {d : Dev} (lane op arg : Nat) (h : d.dbg.unlocked = false) :
    dbgAccess lane op arg d = d.tapSelect 0x13 false (zs 2 ++ e64 0 ++ zs 2) := by
  simp [dbgAccess, h]

theorem dbgAccess_absent {d : Dev} {lane : Nat} (op arg : Nat) (h : d.dbg.unlocked = true) (ha : lane ≠ 15 ∧ d.hasLane lane = false) :
    dbgAccess lane op arg d = (d.tapSelect 0x13 false (zs 2 ++ e64 d.dbg.result ++ zs 2)).updDbg
      (fun g => { g with ops := inc32 g.ops, result := 0 }) := by
  simp [dbgAccess, h, ha]

theorem dbgAccess_acts {d : Dev} {lane : Nat} (op arg : Nat) (h : d.dbg.unlocked = true) (ha : ¬ (lane ≠ 15 ∧ d.hasLane lane = false)) :
    dbgAccess lane op arg d = (d.tapSelect 0x13 false (zs 2 ++ e64 d.dbg.result ++ zs 2)).updDbg
      (fun g => { g with ops := inc32 g.ops, result := d.rawResult (rawIx lane) op arg % 18446744073709551616,
                         raw := upd g.raw (rawIx lane) (fun x => x.apply op arg) }) := by
  have hstands : ¬ (decide (lane ≠ 15) && !d.hasLane lane) = true := by simpa using ha
  unfold dbgAccess
  rw [h, if_neg (by decide), if_neg hstands]
  rfl

end Sys2Proof.Machine

open Sys2Proof Sys2Proof.Machine

/-- Settles O60, instruction by instruction, and the debug port's events. -/
theorem testAndDebugPortsAct : Obligations.TestAndDebugPortsAct := by
  unfold Obligations.TestAndDebugPortsAct
  intro s
  refine ⟨⟨_, rfl, rfl, rfl, rfl, rfl⟩, fun code h => ?_, fun code h => ?_, fun pins cells => ?_, fun cells => ?_, ?_, ⟨_, rfl, rfl, rfl, rfl⟩,
    fun h => ?_, fun hl hp => ?_, fun expiry token => ⟨fun h => ?_, fun h => ?_⟩, fun lane op arg => ⟨fun h => ?_, fun h => ?_⟩,
    ?_, ?_, fun h => ?_, fun h he => ?_, fun h => ?_, fun h => ?_, fun h => ?_, fun h => ?_⟩
  · exact State.act_unchanged (tapBypass_listed h _)
  · exact ⟨_, State.act_of_eq (tapBypass_unlisted h _), rfl, rfl, rfl, rfl⟩
  · refine ⟨_, State.act_of_eq (tapSamplePreload_eq pins cells _), rfl, rfl, rfl, fun h => ?_, fun h => ?_⟩
    · exact if_pos (Dev.tapMayDrive_eq h)
    · exact if_neg (by simp [Dev.tapMayDrive_not h])
  · by_cases h : s.dev.pins.resetN = false ∨ s.dev.dbg.unlocked = true
    · exact ⟨_, State.act_of_eq (tapExtest_drives cells (Dev.tapMayDrive_eq h)), rfl, fun _ => ⟨rfl, rfl, rfl, rfl⟩, fun hn => absurd h hn⟩
    · exact ⟨_, State.act_of_eq (tapExtest_bypasses cells (Dev.tapMayDrive_not h)), rfl, fun hp => absurd hp h, fun _ => ⟨rfl, rfl, rfl⟩⟩
  · have hdrives (code : Nat) : ∃ e, s.act (fun d => d.tapSelect code true (e8 0)) = .next (s.on e) ∧ { e with tap := s.dev.tap } = s.dev ∧
        e.tap.cells = s.dev.tap.cells ∧
        (s.dev.pins.resetN = false ∨ s.dev.dbg.unlocked = true → e.tap.instr = code ∧ e.tap.driving = true) ∧
        (¬ (s.dev.pins.resetN = false ∨ s.dev.dbg.unlocked = true) → e.tap.instr = 0x1F ∧ e.tap.driving = false) := by
      by_cases h : s.dev.pins.resetN = false ∨ s.dev.dbg.unlocked = true
      · exact ⟨_, State.act_of_eq (Dev.tapSelect_drives code _ (Dev.tapMayDrive_eq h)), rfl, rfl, fun _ => ⟨rfl, rfl⟩, fun hn => absurd h hn⟩
      · exact ⟨_, State.act_of_eq (Dev.tapSelect_bypasses code _ (Dev.tapMayDrive_not h)), rfl, rfl, fun hp => absurd hp h, fun _ => ⟨rfl, rfl⟩⟩
    simp only [List.forall_mem_cons]
    exact ⟨hdrives 3, hdrives 4, nofun⟩
  · exact ⟨_, State.act_of_eq (dbgChallenge_locked h), rfl, rfl⟩
  · exact ⟨_, State.act_of_eq (dbgChallenge_free hl hp), rfl, rfl, rfl, rfl⟩
  · refine ⟨_, State.act_of_eq (dbgUnlock_right h), ?_, ?_, ?_⟩
    · exact Dev.raiseAs_dbg ..
    · exact Dev.raiseAs_ao ..
    · exact Dev.raiseDev_samePar (s.dev.dbgOpened expiry) _ _
  · refine ⟨_, State.act_of_eq (dbgUnlock_wrong h), rfl, rfl, fun hn hl => if_pos ?_, fun hn => if_neg ?_⟩
    · simp only [Bool.and_eq_true, decide_eq_true_eq]
      omega
    · simp only [Bool.and_eq_true, decide_eq_true_eq]
      omega
  · exact ⟨_, State.act_of_eq (dbgAccess_locked lane op arg h), rfl, rfl⟩
  · by_cases ha : lane ≠ 15 ∧ s.dev.hasLane lane = false
    · exact ⟨_, State.act_of_eq (dbgAccess_absent op arg h ha), rfl, rfl, rfl, fun _ => ⟨rfl, rfl⟩, fun hn => absurd ha hn⟩
    · exact ⟨_, State.act_of_eq (dbgAccess_acts op arg h ha), rfl, rfl, rfl, fun hp => absurd hp ha, fun _ => ⟨rfl, rfl⟩⟩
  · refine ⟨_, rfl, rfl, fun h => ?_, fun h => ?_⟩
    · obtain ⟨hunlocked, hops, hraw, hmuted⟩ := (Dev.relock_unlocked h).withTap (s.dev.relock.tapSelect 0x14 false (e8 0)).tap
      exact ⟨hunlocked, hops, hraw, hmuted⟩
    · rw [dbgRelock, Dev.relock_locked h]
      rfl
  · refine ⟨_, rfl, rfl, rfl, fun h => ?_, fun h => ?_⟩
    · obtain ⟨hunlocked, hops, hraw, hmuted⟩ := (Dev.relock_unlocked h).withTap (trstNLow s.dev).tap
      exact ⟨hunlocked, hops, hraw, hmuted⟩
    · rw [trstNLow, Dev.relock_locked h]
  · exact State.act_unchanged (if_neg (by rcases h with h | h <;> simp [h]))
  · obtain ⟨hunlocked, hops, hraw, hmuted⟩ := Dev.relock_unlocked h
    exact ⟨_, State.act_of_eq (if_pos (by simp [h, he])), hunlocked, hops, hraw, hmuted⟩
  · exact State.act_unchanged (if_pos h)
  · exact State.act_of_eq (if_neg (by simp [h]))
  · exact State.act_unchanged (if_pos h)
  · exact State.act_of_eq (if_neg (by simp [h]))

end

section
/-! PROOF. Records, storage, firmware and shock: O59 fails as stated. -/

namespace Sys2Proof.Machine

/-! ### A LOG_READ that skips 256 records (O59)

The count of skipped records is one byte of the answer ("Read response 3"). The model holds it at 255; the statement lays the count
out with `e8`, which wraps, so the two part at 256 records that fail their check. -/

/-- A block that is ACTIVE and READY, S0's session open, and 256 records of partition 0 stored, every one of which fails its check. -/
def spoiltLog : State :=
  { dev :=
      { host := { readable := true, ringCfg := upd (List.replicate 32 0) 3 (fun _ => 0x8000 + 4 * 4096) }
        pwr := { state := .active, phase := .ready, readyAt := some 0, vioValid := true }
        slots := { session := some {} } :: List.replicate 7 {}
        colo := upd (default : Dev).colo 0 (fun p => { p with next := 2, stored := List.replicate 256 { seq := 1, bad := true } }) } }

/-- S0 reads partition 0 from its first record on. -/
def readSpoilt : Request := { slot := 0, ref := 7, tagged := true, body := e8 0 ++ e8 64 ++ e48 1 }

theorem spoiltLog_takes_read : Takes cmdLogRead spoiltLog readSpoilt := by
  constructor <;> decide +kernel

/-- The byte of the skipped records in the response the model queues is 255. -/
theorem spoiltLog_says_255 :
    (hostCmd cmdLogRead readSpoilt spoiltLog.dev).host.outbox.map (fun o => nth o.reply.body 3) = [255] := by
  decide +kernel

/-- The byte the statement names is 256 taken to eight bits. -/
theorem spoiltLog_skips_256 : e8 (readRun 64 ((spoiltLog.dev.part 0).readable.filter (fun x => 1 ≤ x.seq))).2.1 = [0] := by
  decide +kernel

end Sys2Proof.Machine

open Sys2Proof Sys2Proof.Machine

/-- Refutes O59: a LOG_READ that meets 256 records that fail their check says 255 skipped, and the statement's byte wraps to 0. -/
theorem not_recordsStorageFirmwareAndShock : ¬ Obligations.RecordsStorageFirmwareAndShock := by
  unfold Obligations.RecordsStorageFirmwareAndShock
  rintro ⟨hcommands, -⟩
  obtain ⟨-, -, hread, -⟩ := hcommands spoiltLog readSpoilt
  obtain ⟨e, he, -, -, -, hout⟩ := hread spoiltLog_takes_read
  have hdev : hostCmd cmdLogRead readSpoilt spoiltLog.dev = e := State.act_eq_on he
  have hbytes := congrArg (List.map (fun o : OutEntry => nth o.reply.body 3)) hout
  rw [← hdev, spoiltLog_says_255] at hbytes
  exact absurd hbytes (by decide +kernel)

end

section
/-! PROOF. The Tollbook: O58 fails as stated. -/

namespace Sys2Proof.Machine

/-! ### The record of a METER_CAL_LOAD (O58)

A calibration record takes effect at the start of the next integration interval, so METER_CAL_LOAD keeps it as `calNext`, and
`calRecord`, which the metering uses, stands until then. The statement has the record in `calRecord` at once. The counterexample needs
one genuine record: the metrology key of the block below is P-256's base point, the public key of the private key 1. -/

/-- The base point of P-256, its two coordinates of 32 bytes. -/
def p256Base : List Byte :=
  beBytes 64 0x6b17d1f2e12c4247f8bce6e563a440f277037d812deb33a0f4a13945d898c2964fe342e2fe1a7f9b8ee7eb4a7c0f9e162bce33576b315ececbb6406837bf51f5

/-- A block that is ACTIVE and READY, S0's session open, metering, whose metrology key is the base point of P-256. -/
def calibrating : State :=
  { dev :=
      { time := secU 100, tkc := secU 100
        par := ParStore.set [] pMeterState 0 1
        host := { readable := true, ringCfg := upd (List.replicate 32 0) 3 (fun _ => 0x8000 + 4 * 4096) }
        pwr := { state := .active, phase := .ready, readyAt := some 0, vioValid := true }
        slots := { session := some {} } :: List.replicate 7 {}
        factory := { metrologyKey := p256Base }
        toll := { running := true } } }

/-- Calibration record 3, gains and offsets of which are at their least, signed under that key. -/
def calRecord3 : List Byte :=
  e8 1 ++ zs 19 ++ e32 3 ++ (List.replicate 4 (e32 1)).flatten ++ zs 56 ++ beBytes 64
    0x8e533b6fa0bf7b4625bb30667c01fb607ef9f8b8a80fef5b300628703187b2a316b60d8b5fc6136ca3c6b7ccad799f69364214e20d000db665d806716cf37008

/-- S0 loads the record. -/
def loadCal : Request := { slot := 0, ref := 7, tagged := true, body := zs 4, blkAttached := true, blk := calRecord3 }

theorem calibrating_takes_load : Takes cmdMeterCalLoad calibrating loadCal := by
  constructor <;> decide +kernel

theorem calRecord3_genuine :
    ecdsaCheck calibrating.dev.factory.metrologyKey (calRecord3.take 96) (calRecord3.drop 96) = true := by
  decide +kernel

/-- The model keeps the record for the next interval. -/
theorem calibrating_waits : (hostCmd cmdMeterCalLoad loadCal calibrating.dev).toll.calRecord = none := by
  decide +kernel

end Sys2Proof.Machine

open Sys2Proof Sys2Proof.Machine

/-- Refutes O58: the record of a METER_CAL_LOAD waits for the next interval, and the statement has it in force as it is loaded. -/
theorem not_tollbookMeasuresAndAnswers : ¬ Obligations.TollbookMeasuresAndAnswers := by
  unfold Obligations.TollbookMeasuresAndAnswers
  rintro ⟨hcommands, -⟩
  obtain ⟨-, -, -, -, -, -, hload⟩ := hcommands calibrating loadCal
  obtain ⟨-, -, -, -, hstored⟩ := hload calibrating_takes_load
  obtain ⟨e, he, hrecord, -⟩ := hstored (by decide +kernel) ⟨calRecord3_genuine, by decide +kernel, by decide +kernel⟩ (by decide +kernel)
    (by decide +kernel) (by decide +kernel)
  have hdev : hostCmd cmdMeterCalLoad loadCal calibrating.dev = e := State.act_eq_on he
  rw [← hdev, calibrating_waits] at hrecord
  exact absurd hrecord (by decide)

end

section
/-! PROOF. Modules, training, measurements and reports of the link: O54 fails as stated. -/

namespace Sys2Proof.Machine

/-! ### A sum's back-off out of range (O54)

The clause of SUM_BACKOFF_DECAY bounds its lane by no more than a back-off that is set and a sum that has saturated, where the block has
eight lanes (`Instr.wf`). A lane of 65,536 has the key of the next parameter (`parKey_strayLane`), so its decay moves a parameter that
the statement has standing. -/

/-- The lane that does not exist whose SUM_BACKOFF has the key of the next parameter. -/
def strayLane : Nat := 65536

theorem parKey_strayLane : parKey pSumBackoff strayLane = parKey (pSumBackoff + 1) 0 := by
  decide

/-- The block with a back-off of 3 dB in that lane, whose sum saturated 1 s ago. -/
def strayBackoff : State :=
  { dev := { time := secU 1, par := ParStore.set [] pSumBackoff strayLane 192, link := { sums := List.replicate (strayLane + 1) { satAt := some 0 } } } }

theorem strayBackoff_sum : nth strayBackoff.dev.link.sums strayLane = { satAt := some 0 } := by
  simp [nth, strayBackoff]

/-- A back-off that is due to decay falls by 1 dB. -/
theorem sumBackoffDecay_get {l : Nat} {d : Dev} (hset : d.get pSumBackoff l ≠ 0)
    (hdue : secU 1 ≤ d.since (max ((nth d.link.sums l).satAt.getD 0) ((nth d.link.sums l).decayAt.getD 0))) (id i : Nat) :
    (sumBackoffDecay l d).get id i = (d.set pSumBackoff l (max 0 (d.get pSumBackoff l - 64))).get id i := by
  simp only [sumBackoffDecay, hset, Nat.not_lt.mpr hdue, decide_false, Bool.or_false, Bool.false_eq_true, if_false]
  rfl

end Sys2Proof.Machine

open Sys2Proof Sys2Proof.Machine

/-- Refutes O54: the statement bounds no lane of SUM_BACKOFF_DECAY, and the decay in the lane 65,536, which does not exist, takes the
parameter after SUM_BACKOFF of lane 0 from 192 to 128. -/
theorem not_linkTrainsMeasuresAndReports : ¬ Obligations.LinkTrainsMeasuresAndReports := by
  unfold Obligations.LinkTrainsMeasuresAndReports
  intro h
  obtain ⟨-, -, -, -, -, -, -, -, -, -, -, -, -, -, -, -, -, -, -, -, -, -, -, -, -, -, -, -, -, -, -, -, hdecays, -⟩ :=
    h strayBackoff 0 (by decide) (by decide +kernel)
  have hset : strayBackoff.dev.get pSumBackoff strayLane ≠ 0 := by decide +kernel
  obtain ⟨e, he, -, hsame⟩ := hdecays strayLane 0 hset (by rw [strayBackoff_sum]) (by rw [strayBackoff_sum]) (by decide +kernel)
  have hdev : sumBackoffDecay strayLane strayBackoff.dev = e := State.act_eq_on he
  have hkept : e.get (pSumBackoff + 1) 0 = strayBackoff.dev.get (pSumBackoff + 1) 0 := hsame _ _ (by decide) (by decide)
  rw [← hdev, sumBackoffDecay_get hset (by rw [strayBackoff_sum]; decide +kernel)] at hkept
  exact absurd hkept (by decide +kernel)

end

section
/-! SUPPORT. Long commands that complete as they are opened, the topology of a unit none of whose bands is started, and what sending,
the journal and jobs leave alone. -/

namespace Sys2Proof.Machine

/-! ### Folds and choices that change nothing -/

/-- A fold none of whose steps changes the device leaves it. -/
theorem foldl_stays {α : Type} {f : Dev → α → Dev} {d : Dev} {l : List α} (h : ∀ x ∈ l, f d x = d) : l.foldl f d = d := by
  induction l with
  | nil => rfl
  | cons x l ih =>
    rw [List.foldl_cons, h x (List.mem_cons_self ..)]
    exact ih fun y hy => h y (List.mem_cons_of_mem x hy)

/-- One byte of a request. -/
theorem rq_one_lt (r : Request) (o : Nat) : rq r o 1 < 256 := by
  rcases hb : List.drop o r.body with _ | ⟨x, l⟩
  · simp [rq, fld, slice, hb, leNat]
  · have hx : x.toNat < 256 := x.isLt
    simpa [rq, fld, slice, hb, leNat] using hx

/-! ### Long commands -/

/-- An open long command is found under its slot and its index. -/
theorem Dev.longOf_found {d : Dev} {slot ref : Nat} {l : LongCmd} (h : d.longOf slot ref = some l) : l.slot = slot ∧ l.ref = ref := by
  have hfound := List.find?_some h
  simpa only [Bool.and_eq_true, beq_iff_eq] using hfound

/-- What a command that is ACCEPTED and completes in the same step leaves: `d` with both entries queued. -/
structure CompletedAtOnce (r : Request) (op bound : Nat) (rep : Reply) (d e : Dev) : Prop where
  longs : e.host.longs = d.host.longs
  outbox : (e.host.outbox.drop d.host.outbox.length).map (fun o => (o.kind, o.reply)) = [(.response, accepted bound), (.completion, rep)]
  par : SamePar [pLongCmdsOpen] d e
  link : e.link = d.link
  clk : e.clk = d.clk

theorem Dev.accept_completes {d : Dev} {r : Request} {op bound : Nat} (rep : Reply) (hslot : r.slot < 8) (hfree : d.longOf r.slot r.ref = none) :
    ∃ l, (d.accept r op bound).longOf r.slot r.ref = some l ∧ CompletedAtOnce r op bound rep d ((d.accept r op bound).complete l rep) := by
  set l : LongCmd := LongCmd.mk r.slot r.ref op d.time (leNat (e32 bound)) d.time r.body r.blk
  have hlongs : (d.accept r op bound).host.longs = d.host.longs ++ [l] := rfl
  have hfound : (d.accept r op bound).longOf r.slot r.ref = some l := by
    unfold Dev.longOf at hfree ⊢
    rw [hlongs, List.find?_append, hfree]
    simp [l]
  refine ⟨l, hfound, ?_, ?_, ?_, rfl, rfl⟩
  · have hkept : d.host.longs.filter (fun x => !(x.slot == r.slot && x.ref == r.ref)) = d.host.longs :=
      List.filter_eq_self.2 fun x hx => by simpa [imp_iff_not_or] using List.find?_eq_none.1 hfree x hx
    change (d.host.longs ++ [l]).filter (fun x => !(x.slot == r.slot && x.ref == r.ref)) = d.host.longs
    rw [List.filter_append, hkept]
    simp [l]
  · change ((d.host.outbox ++ [_] ++ [_]).drop d.host.outbox.length).map (fun o : OutEntry => (o.kind, o.reply)) = _
    rw [List.append_assoc, List.drop_left]
    rfl
  · have hopened : SamePar [pLongCmdsOpen] d (d.accept r op bound) := Dev.set_samePar _ pLongCmdsOpen _ (by omega)
    exact hopened.trans (Dev.complete_samePar _ rep (show r.slot < 65536 by omega))

/-- A meaning that answers ACCEPTED with a completion ready, and whose NVM write nothing bars. -/
theorem act_completes {c : CmdSpec} {r : Request} {s : State} {d : Dev} {bound : Nat} {rep : Reply} (h : Takes c s r)
    (ha : c.run { s.dev with cause := some (r.slot, r.ref) } r = { dev := d, reply := accepted bound, completion := some rep })
    (hbar : s.dev.nvmBar = none) (hslot : r.slot < 8) (hfree : d.longOf r.slot r.ref = none) :
    ∃ e, s.act (hostCmd c r) = .next (s.on e) ∧ CompletedAtOnce r c.opcode bound rep d e := by
  obtain ⟨l, hl, hdone⟩ :=
    Dev.accept_completes (d := { d with cause := s.dev.cause }) (op := c.opcode) (bound := bound) rep hslot hfree
  refine ⟨_, ?_, hdone.longs, hdone.outbox, hdone.par, hdone.link, hdone.clk⟩
  have heffect : c.effect s.dev r = ((({ d with cause := s.dev.cause } : Dev).accept r c.opcode bound).complete l rep) := by
    have hl' : (((({ d with cause := s.dev.cause } : Dev).openLong r c.opcode (leNat (e32 bound))).respond r c.opcode (accepted bound)).longOf
        r.slot r.ref) = some l := hl
    simp only [accepted] at hl'
    simp [CmdSpec.effect, ha, hbar, accepted, Dev.accept, hl']
  rw [act_takes h, heffect]
  rfl

/-! ### The journal, messages and jobs -/

@[simp] theorem Dev.raiseDev_link (d : Dev) (code : Nat) (p : List Byte) : (d.raiseDev code p).link = d.link := by
  rw [Dev.raiseDev, Dev.raiseAs_frame]

@[simp] theorem Dev.raiseDev_longs (d : Dev) (code : Nat) (p : List Byte) : (d.raiseDev code p).host.longs = d.host.longs := by
  rw [Dev.raiseDev, Dev.raiseAs_frame]

/-! A version of a record begun that no host asked for leaves everything but the journal's queue. -/

theorem Dev.journal_host (d : Dev) (typ inst pages : Nat) (act : JournalAct) : (d.journal typ inst pages none act).host = d.host := rfl

theorem Dev.journal_link (d : Dev) (typ inst pages : Nat) (act : JournalAct) : (d.journal typ inst pages none act).link = d.link := rfl

theorem Dev.journal_samePar (ids : List Nat) (d : Dev) (typ inst pages : Nat) (act : JournalAct) :
    SamePar ids d (d.journal typ inst pages none act) := fun _ _ _ _ => rfl

theorem Dev.updLink_samePar (ids : List Nat) (d : Dev) (f : Link → Link) : SamePar ids d (d.updLink f) := fun _ _ _ _ => rfl

/-- A message is put in the queue of the link, or nothing happens. -/
theorem Dev.send_frame (d : Dev) (m : WaybillMsg) : d.send m = { d with link := { d.link with out := (d.send m).link.out } } := by
  unfold Dev.send
  split <;> rfl

/-- A message is sent the same whatever request is under way. -/
theorem Dev.send_unmarked (d : Dev) (mark : Option (Nat × Nat)) (m : WaybillMsg) :
    ({ ({ d with cause := mark } : Dev).send m with cause := d.cause } : Dev) = d.send m := by
  unfold Dev.send
  rw [show ({ d with cause := mark } : Dev).portUp m.port = d.portUp m.port from rfl]
  split <;> rfl

theorem Dev.send_samePar (ids : List Nat) (d : Dev) (m : WaybillMsg) : SamePar ids d (d.send m) := fun id i _ _ => by
  rw [Dev.send_frame]
  rfl

theorem Dev.sendUp_frame (d : Dev) (typ : Nat) (b : List Byte) :
    d.sendUp typ b = { d with link := { d.link with out := (d.sendUp typ b).link.out } } := by
  unfold Dev.sendUp
  split
  · rw [Dev.send_frame]
  · rfl

/-- A job is started the same whatever request is under way. -/
theorem Dev.startJob_marked (d : Dev) (mark : Option (Nat × Nat)) (slot handle : Nat) (j : Job) :
    ({ d with cause := mark } : Dev).startJob slot handle j =
      (d.startJob slot handle j).map (fun x => (x.1, ({ x.2 with cause := mark } : Dev))) := by
  unfold Dev.startJob
  rw [show ({ d with cause := mark } : Dev).floorBars slot = d.floorBars slot from rfl,
    show ∀ n, ({ d with cause := mark } : Dev).admitRefusal slot n = d.admitRefusal slot n from fun _ => rfl,
    show ({ d with cause := mark } : Dev).jobAt slot handle = d.jobAt slot handle from rfl]
  dsimp only
  split
  · rfl
  · split
    · split <;> rfl
    · split
      · split <;> rfl
      · rfl

theorem Dev.updJobs_frame (d : Dev) (slot : Nat) (f : List (Option Job) → List (Option Job)) :
    d.updJobs slot f = { d with led := (d.updJobs slot f).led, par := (d.updJobs slot f).par } := rfl

theorem Dev.updJobs_samePar (d : Dev) {slot : Nat} (f : List (Option Job) → List (Option Job)) (h : slot < 65536) :
    SamePar [pJobsOpen] d (d.updJobs slot f) :=
  Dev.set_samePar _ pJobsOpen _ h

/-- A job that starts changes the job table of its slot, with JOBS_OPEN. -/
theorem Dev.startJob_updJobs {d d1 : Dev} {slot handle k : Nat} {j : Job} (h : d.startJob slot handle j = .ok (k, d1)) :
    ∃ f, d1 = d.updJobs slot f := by
  unfold Dev.startJob at h
  dsimp only at h
  split at h
  · cases h
  · split at h
    · split at h
      · cases h
      · cases h
        exact ⟨_, rfl⟩
    · split at h
      · split at h
        · cases h
        · cases h
          exact ⟨_, rfl⟩
      · cases h

/-! ### The topology (R26, R469) -/

/-- Whether a band is started stands where BAND_STATE does not move. -/
theorem SamePar.anyBridging_eq {ids : List Nat} {d e : Dev} (h : SamePar ids d e) (hid : pBandState ∉ ids) :
    e.anyBridging = d.anyBridging := by
  have hbusy : ∀ b ∈ d.bandIds, e.bandBusy b = d.bandBusy b := fun b hb => by
    have hlt := List.mem_range.1 (List.mem_filter.1 hb).1
    rw [Dev.bandBusy, Dev.bandBusy, show e.bandState b = d.bandState b from h.getN_eq hid (by omega)]
  rw [Dev.anyBridging, Dev.anyBridging, h.bandIds_eq hid, Bool.eq_iff_iff]
  simp only [List.any_eq_true]
  exact exists_congr fun b => and_congr_right fun hb => by rw [hbusy b hb]

theorem Dev.anyBridging_noBands {d : Dev} (h : d.bandIds = []) : d.anyBridging = false := by
  rw [Dev.anyBridging, h]
  rfl

/-- With no band started, no permit is held against the topology. -/
theorem Dev.topologyPermits_idle {d : Dev} (h : d.anyBridging = false) : d.topologyPermits = d :=
  foldl_stays fun b hb => if_pos (by simpa using List.any_eq_false.1 h b hb)

/-- TOPOLOGY of a unit in a chain of `count` units. -/
def Dev.topologyOf (d : Dev) (count : Nat) : Nat := if d.get pChainRole = 0 || count ≤ 1 then 0 else if count = 2 then 1 else 2

/-- The topology that a unit's membership gives it. -/
def Dev.topologySet (d : Dev) (number count : Nat) : Dev :=
  ((d.set pTopology 0 (d.topologyOf count : Nat)).set pUnitNumber 0 (number : Nat)).set pUnitCount 0 (count : Nat)

theorem Dev.setTopology_eq (d : Dev) (number count port : Nat) : d.setTopology number count port =
    if d.getN pTopology = d.topologyOf count && d.getN pUnitNumber = number && d.getN pUnitCount = count then d.topologySet number count
    else ((d.topologySet number count).raiseDev 0x0181
      (e8 (d.topologyOf count) ++ e8 number ++ e8 count ++ zs 1 ++ e8 port)).topologyPermits := rfl

/-- The parameters that the topology moves. -/
def topologyIds : List Nat := [pTopology, pUnitNumber, pUnitCount] ++ lossIds

theorem Dev.topologySet_samePar (d : Dev) (number count : Nat) : SamePar topologyIds d (d.topologySet number count) :=
  (((d.set_samePar pTopology _ (by decide)).mono (by decide)).trans ((Dev.set_samePar _ pUnitNumber _ (by decide)).mono (by decide))).trans
    ((Dev.set_samePar _ pUnitCount _ (by decide)).mono (by decide))

/-- The topology is brought to the membership: its parameters move, and at most an event is raised. -/
structure TopologyFollows (number count : Nat) (d e : Dev) : Prop where
  number : e.get pUnitNumber = number
  count : e.get pUnitCount = count
  par : SamePar topologyIds d e
  link : e.link = d.link
  clk : e.clk = d.clk
  outbox : e.host.outbox = d.host.outbox
  longs : e.host.longs = d.host.longs

theorem Dev.topologySet_follows (d : Dev) (number count : Nat) : TopologyFollows number count d (d.topologySet number count) where
  number := (Dev.set_samePar _ pUnitCount _ (by decide) _ 0 (by decide) (by decide)).trans (Dev.get_set_same ..)
  count := Dev.get_set_same ..
  par := d.topologySet_samePar number count
  link := rfl
  clk := rfl
  outbox := rfl
  longs := rfl

theorem TopologyFollows.raiseDev {number count : Nat} {d e : Dev} (h : TopologyFollows number count d e) (code : Nat) (p : List Byte) :
    TopologyFollows number count d (e.raiseDev code p) where
  number := (Dev.raiseDev_samePar e code p _ 0 (by decide) (by decide)).trans h.number
  count := (Dev.raiseDev_samePar e code p _ 0 (by decide) (by decide)).trans h.count
  par := h.par.trans ((Dev.raiseDev_samePar e code p).mono (by decide))
  link := (e.raiseDev_link code p).trans h.link
  clk := (e.raiseDev_clk code p).trans h.clk
  outbox := (e.raiseDev_outbox code p).trans h.outbox
  longs := (e.raiseDev_longs code p).trans h.longs

/-- With no band started, the topology follows the membership and no band is touched. -/
theorem Dev.setTopology_follows {d : Dev} (h : d.anyBridging = false) (number count port : Nat) :
    TopologyFollows number count d (d.setTopology number count port) := by
  have hset := d.topologySet_follows number count
  rw [Dev.setTopology_eq]
  split
  · exact hset
  · have hraised := hset.raiseDev 0x0181 (e8 (d.topologyOf count) ++ e8 number ++ e8 count ++ zs 1 ++ e8 port)
    rw [Dev.topologyPermits_idle ((hraised.par.anyBridging_eq (by decide)).trans h)]
    exact hraised

/-- A topology that is set already stays: no event, and no band is touched. -/
theorem Dev.setTopology_again {d : Dev} {number : Nat} (port : Nat) (htop : d.getN pTopology = 0) (hnumber : d.getN pUnitNumber = number)
    (hcount : d.getN pUnitCount = 1) : TopologyFollows number 1 d (d.setTopology number 1 port) := by
  rw [Dev.setTopology_eq, if_pos (by simp [Dev.topologyOf, htop, hnumber, hcount])]
  exact d.topologySet_follows number 1

end Sys2Proof.Machine
end

section
/-! PROOF. The commands of the link and the membership of a chain: O53. -/

namespace Sys2Proof.Machine

/-! ### LINK_CONFIG and LINK_STATUS_GET (R432, R433) -/

/-- The parameters that LINK_CONFIG gives a port. -/
def linkConfigIds : List Nat := [pLinkRateCfg, pLinkFec, pFibreAsymmetry, pFibrePsPerM]

/-- A port configured as LINK_CONFIG asks. -/
def Dev.configLink (d : Dev) (r : Request) : Dev :=
  (((d.setNv pLinkRateCfg (rq r 0 1) (rq r 1 1 : Nat)).setNv pLinkFec (rq r 0 1) (rq r 2 1 : Nat)).setNv pFibreAsymmetry (rq r 0 1)
    (rqS r 4 4)).setNv pFibrePsPerM (rq r 0 1) (rq r 8 2 : Nat)

theorem Dev.configLink_samePar (d : Dev) (r : Request) : SamePar linkConfigIds d (d.configLink r) := by
  have hp : rq r 0 1 < 65536 := (rq_one_lt r 0).trans (by decide)
  exact ((((Dev.setNv_samePar _ pLinkRateCfg _ hp).mono (by decide)).trans ((Dev.setNv_samePar _ pLinkFec _ hp).mono (by decide))).trans
    ((Dev.setNv_samePar _ pFibreAsymmetry _ hp).mono (by decide))).trans ((Dev.setNv_samePar _ pFibrePsPerM _ hp).mono (by decide))

theorem Dev.configLink_reads (d : Dev) (r : Request) :
    (d.configLink r).getN pLinkRateCfg (rq r 0 1) = rq r 1 1 ∧ (d.configLink r).getN pLinkFec (rq r 0 1) = rq r 2 1 ∧
      (d.configLink r).get pFibreAsymmetry (rq r 0 1) = rqS r 4 4 ∧ (d.configLink r).getN pFibrePsPerM (rq r 0 1) = rq r 8 2 := by
  have hp : rq r 0 1 < 65536 := (rq_one_lt r 0).trans (by decide)
  have hother (e : Dev) (id jd : Nat) (v : Int) (h : jd ≠ id) : (e.setNv id (rq r 0 1) v).get jd (rq r 0 1) = e.get jd (rq r 0 1) :=
    Dev.get_set_id e id _ jd _ v hp hp h
  refine ⟨?_, ?_, ?_, Dev.getN_setNv_same ..⟩
  · simp [Dev.configLink, Dev.getN, hother]
  · simp [Dev.configLink, Dev.getN, hother]
  · simp [Dev.configLink, hother]

theorem linkConfig_run_fec {d : Dev} {r : Request} (hfec : rq r 2 1 = 1) (hrate : rq r 1 1 = 1) :
    cmdLinkConfig.run d r = refuse d (fail .badArg) :=
  if_pos (by simp [hfec, hrate])

theorem linkConfig_run_used {d : Dev} {r : Request} (h : ¬(rq r 2 1 = 1 ∧ rq r 1 1 = 1)) (hused : d.portBridging (rq r 0 1) = true) :
    cmdLinkConfig.run d r = refuse d (fail .state) :=
  (if_neg (by simpa using h)).trans (if_pos hused)

theorem linkConfig_run_sets {d : Dev} {r : Request} (h : ¬(rq r 2 1 = 1 ∧ rq r 1 1 = 1)) (hfree : d.portBridging (rq r 0 1) = false)
    (hmodule : (d.port (rq r 0 1)).accepted = false) : cmdLinkConfig.run d r =
      { dev := d.configLink r
        reply := okBody (e8 (rq r 0 1) ++ e8 (d.getN pPortState (rq r 0 1)) ++ e8 (d.getN pLinkRate (rq r 0 1)) ++ zs 1) } := by
  have hp : rq r 0 1 < 65536 := (rq_one_lt r 0).trans (by decide)
  have happly (old : Nat × Bool) : (d.configLink r).applyLink (rq r 0 1) old = d.configLink r :=
    if_pos (show (!(d.port (rq r 0 1)).accepted) = true by simp [hmodule])
  have hsame := d.configLink_samePar r
  have hstate : (d.configLink r).getN pPortState (rq r 0 1) = d.getN pPortState (rq r 0 1) := hsame.getN_eq (by decide) hp
  have hrate : (d.configLink r).getN pLinkRate (rq r 0 1) = d.getN pLinkRate (rq r 0 1) := hsame.getN_eq (by decide) hp
  refine (if_neg (by simpa using h)).trans ((if_neg (by simp [hfree])).trans ?_)
  change ({ dev := (d.configLink r).applyLink (rq r 0 1) _, reply := okBody (e8 (rq r 0 1) ++
    e8 (((d.configLink r).applyLink (rq r 0 1) _).getN pPortState (rq r 0 1)) ++
    e8 (((d.configLink r).applyLink (rq r 0 1) _).getN pLinkRate (rq r 0 1)) ++ zs 1) } : Answer) = _
  rw [happly, hstate, hrate]

theorem linkConfig_sets {s : State} {r : Request} (ht : Takes cmdLinkConfig s r) (h : ¬(rq r 2 1 = 1 ∧ rq r 1 1 = 1))
    (hfree : s.dev.portBridging (rq r 0 1) = false) (hbar : s.dev.nvmBar = none) (hmodule : (s.dev.port (rq r 0 1)).accepted = false) :
    exec (.linkConfig r) s = .next (s.on ((s.dev.configLink r).holdBack r 0x0901
      (okBody (e8 (rq r 0 1) ++ e8 (s.dev.getN pPortState (rq r 0 1)) ++ e8 (s.dev.getN pLinkRate (rq r 0 1)) ++ zs 1)))) :=
  act_holdsBack ht rfl hbar (linkConfig_run_sets (d := { s.dev with cause := some (r.slot, r.ref) }) h hfree hmodule)

/-- A port's module has diagnostics: LINK_STATUS_GET reads its live figures. -/
def Dev.hasDiag (d : Dev) (p : Nat) : Bool := (d.port p).accepted && bit (fld (d.port p).ident 92 1) 6

/-- A live figure of a port's module, a free value; 0 without diagnostics. -/
def Dev.liveFigure (d : Dev) (p k : Nat) : List Byte := if d.hasDiag p then e16 ((Config.analogue d.free k).natAbs % 65536) else e16 0

/-- The LINK_STATUS_GET response (Table CL-8). -/
def Dev.linkStatus (d : Dev) (p : Nat) : List Byte :=
  let x := d.port p
  let rtt := d.getN pHopRtt p
  e8 p ++ e8 (d.getN pPortState p) ++ e8 (d.getN pLinkRate p) ++ e8 (flags [d.fecOn p, x.module, x.los, d.hasDiag p, x.joined]) ++
    e8 (if x.joined then x.peer.getD 255 else 255) ++ zs 3 ++ e32 rtt ++ e32 (d.getN pHopDelayDown p) ++ e32 (d.getN pHopDelayUp p) ++
    e32 (d.getN pBalesMissed p) ++ d.liveFigure p 0 ++ d.liveFigure p 1 ++ d.liveFigure p 2 ++ d.liveFigure p 3 ++ d.liveFigure p 4 ++ zs 2 ++
    e32 (if rtt = 4294967295 then 4294967295 else d.mediumLength p (d.getN pHopDelayDown p + d.getN pHopDelayUp p))

/-- The figures are drawn where the module has diagnostics, and only there. -/
theorem linkStatusGet_run (d : Dev) (r : Request) : cmdLinkStatusGet.run d r =
    { dev := { d with free := if d.hasDiag (rq r 0 1) then d.free + 1 else d.free }, reply := okBody (d.linkStatus (rq r 0 1)) } := by
  have hdiag : ((d.port (rq r 0 1)).accepted && bit (fld (d.port (rq r 0 1)).ident 92 1) 6) = d.hasDiag (rq r 0 1) := rfl
  simp only [cmdLinkStatusGet, hdiag, Dev.linkStatus, Dev.liveFigure]
  cases d.hasDiag (rq r 0 1) <;> rfl

theorem linkStatusGet_reports {s : State} {r : Request} (ht : Takes cmdLinkStatusGet s r) :
    exec (.linkStatusGet r) s = .next (s.on (({ s.dev with free := if s.dev.hasDiag (rq r 0 1) then s.dev.free + 1 else s.dev.free } : Dev).respond r
      0x0902 (okBody (s.dev.linkStatus (rq r 0 1))))) :=
  act_answers ht (linkStatusGet_run _ r) rfl nofun rfl

/-! ### CHAIN_JOIN and CHAIN_LEAVE (R417 to R420, R433) -/

theorem chainJoin_run_joining {d : Dev} {r : Request} (h : d.link.joining.isSome = true) : cmdChainJoin.run d r = refuse d (fail .state) :=
  if_pos h

theorem chainJoin_run_member {d : Dev} {r : Request} (h : d.link.joining = none) (hhead : rq r 0 1 = 1) (hrole : d.get pChainRole ≠ 0) :
    cmdChainJoin.run d r = refuse d (fail .state) :=
  (if_neg (by simp [h])).trans ((if_pos hhead).trans (if_pos hrole))

/-- The membership of the head of a new chain, and the secret. -/
def Dev.foundChain (d : Dev) (secret : List Byte) : Dev :=
  ((((d.draw 4).2.setNv pChainRole 0 1).setNv pChainId 0 (max 1 (leNat (d.draw 4).1) : Nat)).setNv pChainMembers 0 1).updLink
    (fun k => { k with secret := some secret, format := d.getN pIqFormat })

/-- A chain is founded: the membership journalled and reported, the topology set. -/
def Dev.headChain (d : Dev) (secret : List Byte) : Dev :=
  (((d.foundChain secret).journal 0x0903 0 1 none .none).joinedEvent 0 1 false d.factory.serial).setTopology 0 1 255

theorem chainJoin_run_head {d : Dev} {r : Request} (h : d.link.joining = none) (hhead : rq r 0 1 = 1) (hrole : d.get pChainRole = 0) :
    cmdChainJoin.run d r =
      { dev := d.headChain r.blk, reply := accepted 2500, completion := some (okBody (d.headChain r.blk).joinBody) } :=
  (if_neg (by simp [h])).trans ((if_pos hhead).trans (if_neg (by simp [hrole])))

/-- The parameters of a unit's membership. -/
def memberIds : List Nat := [pChainRole, pChainId, pChainMembers]

theorem Dev.foundChain_samePar (d : Dev) (secret : List Byte) : SamePar memberIds d (d.foundChain secret) := by
  have hdraw : SamePar memberIds d (d.draw 4).2 := fun _ _ _ _ => rfl
  have hrole := (d.draw 4).2.setNv_samePar pChainRole 1 (i := 0) (by decide)
  have hid := ((d.draw 4).2.setNv pChainRole 0 1).setNv_samePar pChainId (max 1 (leNat (d.draw 4).1) : Nat) (i := 0) (by decide)
  have hmembers := (((d.draw 4).2.setNv pChainRole 0 1).setNv pChainId 0 (max 1 (leNat (d.draw 4).1) : Nat)).setNv_samePar pChainMembers 1 (i := 0)
    (by decide)
  exact (((hdraw.trans (hrole.mono (by decide))).trans (hid.mono (by decide))).trans (hmembers.mono (by decide))).trans
    (Dev.updLink_samePar memberIds _ _)

theorem Dev.foundChain_reads (d : Dev) (secret : List Byte) :
    (d.foundChain secret).get pChainRole = 1 ∧ (d.foundChain secret).getN pChainId = max 1 (leNat (d.draw 4).1) ∧
      (d.foundChain secret).get pChainMembers = 1 := by
  have hother (e : Dev) (id jd : Nat) (v : Int) (h : jd ≠ id) : (e.setNv id 0 v).get jd = e.get jd :=
    Dev.get_set_id e id 0 jd 0 v (by decide) (by decide) h
  have hlink (e : Dev) (f : Link → Link) (id : Nat) : (e.updLink f).get id = e.get id := rfl
  refine ⟨?_, ?_, ?_⟩
  · simp [Dev.foundChain, hlink, hother]
  · rw [Dev.getN, Dev.foundChain, hlink, hother _ _ _ _ (by decide)]
    exact Dev.getN_setNv_same ..
  · simp [Dev.foundChain, hlink]

/-- The head of a new chain of one unit: everything follows from the membership. -/
theorem Dev.headChain_follows {d : Dev} (secret : List Byte) (htop : d.get pTopology = 0) (hnumber : d.get pUnitNumber = 0)
    (hcount : d.get pUnitCount = 1) :
    TopologyFollows 0 1 (((d.foundChain secret).journal 0x0903 0 1 none .none).joinedEvent 0 1 false d.factory.serial) (d.headChain secret) := by
  have hsame : SamePar (memberIds ++ lossIds) d
      (((d.foundChain secret).journal 0x0903 0 1 none .none).joinedEvent 0 1 false d.factory.serial) :=
    (((d.foundChain_samePar secret).mono (by decide)).trans (Dev.journal_samePar _ _ _ _ _ _)).trans ((Dev.raiseDev_samePar _ _ _).mono (by decide))
  refine Dev.setTopology_again 255 ?_ ?_ ?_
  · rw [hsame.getN_eq (by decide) (by decide), Dev.getN, htop]
    rfl
  · rw [hsame.getN_eq (by decide) (by decide), Dev.getN, hnumber]
    rfl
  · rw [hsame.getN_eq (by decide) (by decide), Dev.getN, hcount]
    rfl

/-- The unit that founds a chain is its head and its only member. -/
theorem Dev.headChain_reads {d : Dev} (secret : List Byte) (htop : d.get pTopology = 0) (hnumber : d.get pUnitNumber = 0)
    (hcount : d.get pUnitCount = 1) :
    (d.headChain secret).get pChainRole = 1 ∧ (d.headChain secret).getN pChainId = max 1 (leNat (d.draw 4).1) ∧
      (d.headChain secret).get pChainMembers = 1 ∧ (d.headChain secret).link = { d.link with secret := some secret, format := d.getN pIqFormat } ∧
      (d.headChain secret).host.longs = d.host.longs ∧ (d.headChain secret).host.outbox = d.host.outbox ∧
      (d.headChain secret).getN pUnitNumber = 0 ∧ (d.headChain secret).getN pUnitCount = 1 := by
  have hfollows := d.headChain_follows secret htop hnumber hcount
  obtain ⟨hrole, hid, hmembers⟩ := d.foundChain_reads secret
  have hsame : SamePar topologyIds (d.foundChain secret) (d.headChain secret) :=
    ((Dev.journal_samePar topologyIds (d.foundChain secret) 0x0903 0 1 .none).trans ((Dev.raiseDev_samePar _ _ _).mono (by decide))).trans hfollows.par
  refine ⟨?_, ?_, ?_, ?_, ?_, ?_, congrArg Int.toNat hfollows.number, congrArg Int.toNat hfollows.count⟩
  · rw [hsame _ 0 (by decide) (by decide), hrole]
  · rw [hsame.getN_eq (by decide) (by decide), hid]
  · rw [hsame _ 0 (by decide) (by decide), hmembers]
  · rw [hfollows.link, Dev.joinedEvent, Dev.raiseDev_link]
    rfl
  · rw [hfollows.longs, Dev.joinedEvent, Dev.raiseDev_longs]
    rfl
  · rw [hfollows.outbox, Dev.joinedEvent, Dev.raiseDev_outbox]
    rfl

theorem chainJoin_founds {s : State} {r : Request} (ht : Takes cmdChainJoin s r) (hidle : s.dev.link.joining = none) (hhead : rq r 0 1 = 1)
    (hrole : s.dev.get pChainRole = 0) (htop : s.dev.get pTopology = 0) (hnumber : s.dev.get pUnitNumber = 0) (hcount : s.dev.get pUnitCount = 1)
    (hbar : s.dev.nvmBar = none) (hfree : s.dev.longOf r.slot r.ref = none) (hslot : r.slot < 8) :
    ∃ e, exec (.chainJoin r) s = .next (s.on e) ∧ e.get pChainRole = 1 ∧ e.getN pChainId = max 1 (leNat (s.dev.draw 4).1) ∧
      e.get pChainMembers = 1 ∧ e.link.secret = some r.blk ∧ e.link.format = s.dev.getN pIqFormat ∧ e.host.longs = s.dev.host.longs ∧
      (e.host.outbox.drop s.dev.host.outbox.length).map (fun o => (o.kind, o.reply)) =
        [(.response, accepted 2500),
         (.completion, okBody (e8 0 ++ e8 1 ++ e8 1 ++ e8 (s.dev.getN pIqFormat) ++ e32 (max 1 (leNat (s.dev.draw 4).1))))] := by
  set d : Dev := { s.dev with cause := some (r.slot, r.ref) } with hd
  obtain ⟨hrole', hid, hmembers, hlink, hlongs, hout, hnumber', hcount'⟩ := Dev.headChain_reads (d := d) r.blk htop hnumber hcount
  have hopen : (d.headChain r.blk).longOf r.slot r.ref = none := by
    rw [Dev.longOf, hlongs]
    exact hfree
  have hbody : (d.headChain r.blk).joinBody =
      e8 0 ++ e8 1 ++ e8 1 ++ e8 (s.dev.getN pIqFormat) ++ e32 (max 1 (leNat (s.dev.draw 4).1)) := by
    rw [Dev.joinBody, hnumber', hcount', hid, hlink, Dev.getN, hrole']
    rfl
  obtain ⟨e, he, hdone⟩ := act_completes ht (chainJoin_run_head hidle hhead hrole) hbar hslot hopen
  refine ⟨e, he, ?_, ?_, ?_, ?_, ?_, hdone.longs.trans hlongs, ?_⟩
  · rw [hdone.par _ 0 (by decide) (by decide), hrole']
  · rw [hdone.par.getN_eq (by decide) (by decide), hid]
    rfl
  · rw [hdone.par _ 0 (by decide) (by decide), hmembers]
  · rw [hdone.link, hlink]
  · rw [hdone.link, hlink]
    rfl
  · have houtbox := hdone.outbox
    rwa [hout, hbody] at houtbox

theorem chainJoin_run_unfit {d : Dev} {r : Request} (h : d.link.joining = none) (hjoin : rq r 0 1 = 2)
    (hbars : d.get pChainRole = 1 ∨ (d.isFollower = true ∧ (d.port 0).joined = true) ∨ d.portUp 0 = false) :
    cmdChainJoin.run d r = refuse d (fail .state) :=
  (if_neg (by simp [h])).trans ((if_neg (by simp [hjoin])).trans (if_pos (by simpa [or_assoc] using hbars)))

theorem chainJoin_run_asks {d : Dev} {r : Request} (h : d.link.joining = none) (hjoin : rq r 0 1 = 2) (hrole : d.get pChainRole ≠ 1)
    (hout : d.isFollower = true → (d.port 0).joined = false) (hup : d.portUp 0 = true) : cmdChainJoin.run d r =
      { dev := d.sendJoin (some (r.slot, r.ref)) r.blk (if d.isFollower then d.getN pUnitNumber else 255), reply := accepted 2500 } :=
  (if_neg (by simp [h])).trans ((if_neg (by simp [hjoin])).trans (if_neg (by simpa [hrole, hup] using hout)))

/-- A JOIN_REQ is the same whatever request is under way. -/
theorem Dev.sendJoin_unmarked (d : Dev) (mark host : Option (Nat × Nat)) (secret : List Byte) (number : Nat) :
    ({ ({ d with cause := mark } : Dev).sendJoin host secret number with cause := d.cause } : Dev) = d.sendJoin host secret number :=
  Dev.send_unmarked ((d.draw 8).2.updLink (fun k =>
    { k with joining := some { host := host, since := d.time, secret := secret, nonce := (d.draw 8).1, number := number } })) mark _

theorem chainJoin_asks {s : State} {r : Request} (ht : Takes cmdChainJoin s r) (h : s.dev.link.joining = none) (hjoin : rq r 0 1 = 2)
    (hrole : s.dev.get pChainRole ≠ 1) (hout : s.dev.isFollower = true → (s.dev.port 0).joined = false) (hup : s.dev.portUp 0 = true)
    (hbar : s.dev.nvmBar = none) : exec (.chainJoin r) s = .next (s.on ((s.dev.sendJoin (some (r.slot, r.ref)) r.blk
      (if s.dev.isFollower then s.dev.getN pUnitNumber else 255)).accept r 0x0903 2500)) := by
  have haccepts := act_accepts ht (chainJoin_run_asks (d := { s.dev with cause := some (r.slot, r.ref) }) h hjoin hrole hout hup) (.inr hbar)
  rw [Dev.sendJoin_unmarked] at haccepts
  exact haccepts

/-- The unit may not leave its chain: it is in none, a band is started, or a unit below is joined. -/
def Dev.staysInChain (d : Dev) : Prop := d.get pChainRole = 0 ∨ d.anyBridging = true ∨ d.belowJoined = true

theorem chainLeave_run_stays {d : Dev} {r : Request} (h : d.staysInChain) : cmdChainLeave.run d r = refuse d (fail .state) :=
  if_pos (by simpa [Dev.staysInChain, or_assoc] using h)

theorem chainLeave_run_leaves {d : Dev} {r : Request} (h : ¬ d.staysInChain) : cmdChainLeave.run d r =
    { dev := d.leaveChain, reply := accepted 100, completion := some (okBody (e8 (d.getN pUnitNumber))) } :=
  if_neg (by simpa [Dev.staysInChain, or_assoc] using h)

/-- The LEAVE sent, and the membership given up: role, chain, members and secret. -/
def Dev.clearMembership (d : Dev) : Dev :=
  ((((d.sendUp 13 (e8 (d.getN pUnitNumber) ++ zs 3 ++ e32 (d.getN pChainId))).setNv pChainRole 0 0).setNv pChainId 0 0).setNv pChainMembers 0
    0).updLink (fun k =>
      { k with secret := none, format := 0, joining := none, pathLost := false, breakDue := none, members := List.replicate 8 none
               ports := k.ports.map (fun p => { p with joined := false, peer := none }) })

/-- The membership given up is journalled and reported, and the unit aligns no more. -/
def Dev.reportLeave (d : Dev) : Dev :=
  ((d.clearMembership.journal 0x0903 0 1 none .none).raiseDev 0x0983 (e8 (d.getN pUnitNumber) ++ e8 (d.getN pUnitCount - 1))).updClk
    (fun c => { c with aligned := false })

theorem Dev.leaveChain_eq (d : Dev) : d.leaveChain = d.reportLeave.setTopology 0 1 255 := rfl

theorem Dev.sendUp_samePar (ids : List Nat) (d : Dev) (typ : Nat) (b : List Byte) : SamePar ids d (d.sendUp typ b) := fun id i _ _ => by
  rw [Dev.sendUp_frame]
  rfl

theorem Dev.clearMembership_samePar (d : Dev) : SamePar memberIds d d.clearMembership := by
  have hsent := Dev.sendUp_samePar memberIds d 13 (e8 (d.getN pUnitNumber) ++ zs 3 ++ e32 (d.getN pChainId))
  have hset (e : Dev) (id : Nat) (hid : id ∈ memberIds) : SamePar memberIds e (e.setNv id 0 0) :=
    (e.setNv_samePar id 0 (by decide)).mono (by simpa using hid)
  exact (((hsent.trans (hset _ pChainRole (by decide))).trans (hset _ pChainId (by decide))).trans (hset _ pChainMembers (by decide))).trans
    (Dev.updLink_samePar memberIds _ _)

theorem Dev.clearMembership_reads (d : Dev) :
    d.clearMembership.get pChainRole = 0 ∧ d.clearMembership.get pChainId = 0 ∧ d.clearMembership.get pChainMembers = 0 := by
  have hother (e : Dev) (id jd : Nat) (v : Int) (h : jd ≠ id) : (e.setNv id 0 v).get jd = e.get jd :=
    Dev.get_set_id e id 0 jd 0 v (by decide) (by decide) h
  have hlink (e : Dev) (f : Link → Link) (id : Nat) : (e.updLink f).get id = e.get id := rfl
  simp [Dev.clearMembership, hlink, hother]

theorem Dev.reportLeave_samePar (d : Dev) : SamePar lossIds d.clearMembership d.reportLeave :=
  (Dev.journal_samePar lossIds d.clearMembership 0x0903 0 1 .none).trans (Dev.raiseDev_samePar _ _ _)

/-- A unit that leaves is in no chain, alone and unaligned. -/
theorem Dev.leaveChain_reads {d : Dev} (h : ¬ d.staysInChain) :
    d.leaveChain.get pChainRole = 0 ∧ d.leaveChain.get pChainId = 0 ∧ d.leaveChain.get pChainMembers = 0 ∧ d.leaveChain.get pUnitNumber = 0 ∧
      d.leaveChain.get pUnitCount = 1 ∧ d.leaveChain.link.secret = none ∧ d.leaveChain.clk.aligned = false ∧
      d.leaveChain.host.longs = d.host.longs ∧ d.leaveChain.host.outbox = d.host.outbox := by
  have hidle : d.anyBridging = false := by
    obtain ⟨-, hidle, -⟩ := not_or.1 h |>.imp id not_or.1
    exact Bool.not_eq_true _ ▸ hidle
  have hreported : SamePar (memberIds ++ lossIds) d d.reportLeave :=
    (d.clearMembership_samePar.mono (by decide)).trans (d.reportLeave_samePar.mono (by decide))
  have hfollows := Dev.setTopology_follows ((hreported.anyBridging_eq (by decide)).trans hidle) 0 1 255
  obtain ⟨hrole, hid, hmembers⟩ := d.clearMembership_reads
  rw [← Dev.leaveChain_eq] at hfollows
  have hkept : SamePar topologyIds d.clearMembership d.leaveChain := (d.reportLeave_samePar.mono (by decide)).trans hfollows.par
  have hhost : d.reportLeave.host.longs = d.host.longs ∧ d.reportLeave.host.outbox = d.host.outbox := by
    simp only [Dev.reportLeave, Dev.updClk_host, Dev.raiseDev_longs, Dev.raiseDev_outbox, Dev.journal_host, Dev.clearMembership, Dev.updLink_host,
      Dev.setNv_host]
    rw [Dev.sendUp_frame]
    exact ⟨rfl, rfl⟩
  refine ⟨?_, ?_, ?_, ?_, ?_, ?_, ?_, hfollows.longs.trans hhost.1, hfollows.outbox.trans hhost.2⟩
  · rw [hkept _ 0 (by decide) (by decide), hrole]
  · rw [hkept _ 0 (by decide) (by decide), hid]
  · rw [hkept _ 0 (by decide) (by decide), hmembers]
  · exact hfollows.number
  · exact hfollows.count
  · rw [hfollows.link, Dev.reportLeave, Dev.updClk_link, Dev.raiseDev_link]
    rfl
  · rw [hfollows.clk]
    rfl

theorem chainLeave_leaves {s : State} {r : Request} (ht : Takes cmdChainLeave s r) (h : ¬ s.dev.staysInChain) (hbar : s.dev.nvmBar = none)
    (hfree : s.dev.longOf r.slot r.ref = none) (hslot : r.slot < 8) : ∃ e, exec (.chainLeave r) s = .next (s.on e) ∧ e.get pChainRole = 0 ∧
      e.get pChainId = 0 ∧ e.get pChainMembers = 0 ∧ e.get pUnitNumber = 0 ∧ e.get pUnitCount = 1 ∧ e.link.secret = none ∧ e.clk.aligned = false ∧
      (e.host.outbox.drop s.dev.host.outbox.length).map (fun o => (o.kind, o.reply)) =
        [(.response, accepted 100), (.completion, okBody (e8 (s.dev.getN pUnitNumber)))] := by
  set d : Dev := { s.dev with cause := some (r.slot, r.ref) } with hd
  obtain ⟨hrole, hid, hmembers, hnumber, hcount, hsecret, haligned, hlongs, hout⟩ := Dev.leaveChain_reads (d := d) h
  have hopen : d.leaveChain.longOf r.slot r.ref = none := by
    rw [Dev.longOf, hlongs]
    exact hfree
  obtain ⟨e, he, hdone⟩ := act_completes ht (chainLeave_run_leaves (d := d) h) hbar hslot hopen
  have hkept {id : Nat} (h : id ∉ [pLongCmdsOpen]) : e.get id = d.leaveChain.get id := hdone.par id 0 h (by decide)
  refine ⟨e, he, (hkept (by decide)).trans hrole, (hkept (by decide)).trans hid, (hkept (by decide)).trans hmembers,
    (hkept (by decide)).trans hnumber, (hkept (by decide)).trans hcount, ?_, ?_, ?_⟩
  · rw [hdone.link, hsecret]
  · rw [hdone.clk, haligned]
  · have houtbox := hdone.outbox
    rwa [hout] at houtbox

/-! ### The medium test (R428 to R430) -/

/-- A port that can start no medium test. -/
def Dev.testBarred (d : Dev) (p : Nat) : Prop := d.portBridging p = true ∨ d.portUp p = false ∨ (d.port p).test.isSome = true

theorem linkTestStart_run_barred {d : Dev} {r : Request} (h : d.testBarred (rq r 0 1)) : cmdLinkTestStart.run d r = refuse d (fail .state) :=
  if_pos (by simpa [Dev.testBarred, or_assoc] using h)

/-- A test as LINK_TEST_START puts it on a port. -/
def linkTestOf (r : Request) (j since : Nat) : LinkTest :=
  { slot := r.slot, ref := r.ref, job := j, mode := rq r 1 1, duration := rq r 4 4, since := since }

/-- The test of a port begins: in LOOPBACK the pattern runs at once, else the peer is asked. -/
def Dev.beginTest (d : Dev) (r : Request) (j since : Nat) : Dev :=
  let d2 := d.updPort (rq r 0 1) (fun x => { x with test := some (linkTestOf r j since) })
  if rq r 1 1 = 1 then d2.runTest (rq r 0 1) else d2.send { port := rq r 0 1, typ := 14, body := e8 0 ++ e8 0 ++ zs 2 ++ e32 (rq r 4 4) }

theorem linkTestStart_run_refused {d : Dev} {r : Request} {rep : Reply} (h : ¬ d.testBarred (rq r 0 1))
    (hjob : d.startJob r.slot (rq r 2 2) (d.linkTestJob r.body) = .error rep) : cmdLinkTestStart.run d r = refuse d rep := by
  refine (if_neg (by simpa [Dev.testBarred, or_assoc] using h)).trans ?_
  rw [hjob]

theorem linkTestStart_run_begins {d d1 : Dev} {r : Request} {j : Nat} (h : ¬ d.testBarred (rq r 0 1))
    (hjob : d.startJob r.slot (rq r 2 2) (d.linkTestJob r.body) = .ok (j, d1)) :
    cmdLinkTestStart.run d r = { dev := d1.beginTest r j d.time, reply := accepted (rq r 4 4 + 500) } := by
  refine (if_neg (by simpa [Dev.testBarred, or_assoc] using h)).trans ?_
  rw [hjob]
  rfl

theorem linkTestStart_refused {s : State} {r : Request} {rep : Reply} (ht : Takes cmdLinkTestStart s r) (h : ¬ s.dev.testBarred (rq r 0 1))
    (hjob : s.dev.startJob r.slot (rq r 2 2) (s.dev.linkTestJob r.body) = .error rep) (hblk : rep.blk = []) (hok : rep.status ≠ .ok)
    (hacc : rep.status ≠ .accepted) : exec (.linkTestStart r) s = .next (s.on (s.dev.respond r 0x0905 rep)) := by
  refine act_refuses ht (linkTestStart_run_refused h ?_) ⟨hok, hacc⟩ hblk
  rw [Dev.startJob_marked]
  exact congrArg (Except.map _) hjob

theorem Dev.beginTest_outbox (d : Dev) (r : Request) (j since : Nat) : (d.beginTest r j since).host.outbox = d.host.outbox := by
  unfold Dev.beginTest
  dsimp only
  split
  · rfl
  · rw [Dev.send_frame]
    rfl

theorem Dev.updPort_port {d : Dev} {p : Nat} (f : LinkPort → LinkPort) (h : p < d.link.ports.length) : (d.updPort p f).port p = f (d.port p) :=
  nth_upd_same f h

theorem Dev.send_port (d : Dev) (m : WaybillMsg) (p : Nat) : (d.send m).port p = d.port p := by
  rw [Dev.send_frame]
  rfl

theorem Dev.runTest_port {d : Dev} {p : Nat} (h : p < d.link.ports.length) :
    (d.runTest p).port p = { d.port p with test := (d.port p).test.map (fun t => { t with running := true, since := d.time }) } :=
  d.updPort_port _ h

theorem Dev.runTest_state (d : Dev) (p : Nat) : (d.runTest p).get pPortState p = 4 := Dev.get_set_same ..

theorem Dev.beginTest_test {d : Dev} {r : Request} (j : Nat) (h : rq r 0 1 < d.link.ports.length) :
    ((d.beginTest r j d.time).port (rq r 0 1)).test = some { linkTestOf r j d.time with running := decide (rq r 1 1 = 1) } := by
  unfold Dev.beginTest
  dsimp only
  split
  · next hloop =>
    rw [Dev.runTest_port (by simpa [Dev.updPort] using h), Dev.updPort_port _ h]
    simp [hloop, Dev.updPort, linkTestOf]
  · next hpeer =>
    rw [Dev.send_port, Dev.updPort_port _ h]
    simp [hpeer, linkTestOf]

theorem Dev.beginTest_state {d : Dev} {r : Request} (j since : Nat) (h : rq r 1 1 = 1) : (d.beginTest r j since).get pPortState (rq r 0 1) = 4 := by
  unfold Dev.beginTest
  dsimp only
  rw [if_pos h]
  exact Dev.runTest_state _ _

theorem linkTestStart_begins {s : State} {r : Request} {j : Nat} {d1 : Dev} (ht : Takes cmdLinkTestStart s r) (h : ¬ s.dev.testBarred (rq r 0 1))
    (hjob : s.dev.startJob r.slot (rq r 2 2) (s.dev.linkTestJob r.body) = .ok (j, d1)) (hslot : r.slot < 8)
    (hport : rq r 0 1 < s.dev.link.ports.length) : ∃ e, exec (.linkTestStart r) s = .next (s.on e) ∧
      e.host.outbox = s.dev.host.outbox ++ [answer r 0x0905 (accepted (rq r 4 4 + 500))] ∧
      (e.port (rq r 0 1)).test = some { linkTestOf r j s.dev.time with running := decide (rq r 1 1 = 1) } ∧
      (rq r 1 1 = 1 → e.get pPortState (rq r 0 1) = 4) := by
  obtain ⟨f, hd1⟩ := Dev.startJob_updJobs hjob
  set e1 : Dev := ({ d1 with cause := some (r.slot, r.ref) } : Dev)
  have hmarked : ({ s.dev with cause := some (r.slot, r.ref) } : Dev).startJob r.slot (rq r 2 2) (s.dev.linkTestJob r.body) = .ok (j, e1) := by
    rw [Dev.startJob_marked, hjob]
    rfl
  have htime : e1.time = s.dev.time := by
    subst hd1
    rfl
  have hout : e1.host.outbox = s.dev.host.outbox := by
    subst hd1
    rfl
  have hports : rq r 0 1 < e1.link.ports.length := by
    subst hd1
    exact hport
  refine ⟨_, act_accepts ht (linkTestStart_run_begins (d := { s.dev with cause := some (r.slot, r.ref) }) h hmarked) (.inl rfl), ?_, ?_, fun hloop => ?_⟩
  · change (e1.beginTest r j s.dev.time).host.outbox ++ _ = _
    rw [Dev.beginTest_outbox, hout]
    rfl
  · change ((e1.beginTest r j s.dev.time).port _).test = _
    rw [← htime]
    exact e1.beginTest_test j hports
  · rw [Dev.accept, Dev.respond_get, Dev.openLong, Dev.get_set_id _ _ _ _ _ _ (by omega) ((rq_one_lt r 0).trans (by decide)) (by decide)]
    exact e1.beginTest_state j s.dev.time hloop

theorem linkTestResult_reads {s : State} {r : Request} (ht : Takes cmdLinkTestResult s r) :
    exec (.linkTestResult r) s = .next (s.on (s.dev.respond r 0x0906 (match (s.dev.port (rq r 0 1)).result with
      | some b => okBody b
      | none => fail .state))) := by
  cases hres : (s.dev.port (rq r 0 1)).result with
  | some b =>
    refine act_onlyAnswers ht ?_ rfl nofun rfl
    change (match (s.dev.port (rq r 0 1)).result with
      | some b => _
      | none => _) = _
    rw [hres]
  | none =>
    refine act_refuses ht ?_ (by decide) rfl
    change (match (s.dev.port (rq r 0 1)).result with
      | some b => _
      | none => _) = _
    rw [hres]

/-! ### The messages of a join (R417, R418, R437) -/

theorem joinReq_relayed {d : Dev} (port : Nat) (body : List Byte) (h : d.isFollower = true) :
    joinReq port body d = if (d.port 0).joined then d.sendUp 11 body else d :=
  if_pos h

theorem Dev.isFollower_head {d : Dev} (h : d.get pChainRole = 1) : d.isFollower = false := by
  simp [Dev.isFollower, h]

/-- The JOIN_ACK by which the head answers a JOIN_REQ. -/
def Dev.answerJoin (d : Dev) (port : Nat) (secret body : List Byte) (result number : Nat) : Dev :=
  let serial := slice body 0 16
  d.send { port := port, typ := 12
           body := serial ++ e8 result ++ e8 number ++ e8 d.memberCount ++ e8 d.link.format ++ e32 (d.getN pChainId) ++
             joinAckProof secret serial (slice body 20 8) result number (d.getN pChainId) }

theorem joinReq_unproven {d : Dev} {port : Nat} {secret body : List Byte} (hrole : d.get pChainRole = 1) (hsecret : d.link.secret = some secret)
    (hlen : body.length = 36) (hproof : joinReqProof secret (slice body 0 16) (slice body 20 8) (fld body 18 1) ≠ slice body 28 8) :
    joinReq port body d =
      (d.raiseDev 0x0984 (e8 1 ++ e8 port ++ zs 2 ++ (slice body 0 16).take 8)).answerJoin port secret body 1 0 := by
  simp [joinReq, Dev.isFollower_head hrole, hsecret, hrole, hlen, hproof, Dev.answerJoin]

/-- A new member of the chain, in the head's list and on its port. -/
def Dev.enterMember (d : Dev) (u port : Nat) (serial : List Byte) : Dev :=
  ((d.updLink (fun k => { k with members := upd k.members u (fun _ => some { serial := serial, port := port, heard := d.time }) })).setNv
    pChainMembers 0 (d.getN pChainMembers ||| 2 ^ u : Nat)).updPort port
      (fun x => { x with joined := true, peer := if x.joined then x.peer else some u })

/-- The head takes a member: its number journalled and reported, the topology following. -/
def Dev.takeMember (d : Dev) (u port : Nat) (serial : List Byte) : Dev :=
  let e := (d.enterMember u port serial).journal 0x0903 0 1 none .none
  (e.joinedEvent u e.memberCount false serial).setTopology 0 e.memberCount port

/-- The lowest number that is free goes to a unit that is new to the chain. -/
theorem joinReq_takes {d : Dev} {port u : Nat} {secret body : List Byte} (hrole : d.get pChainRole = 1) (hsecret : d.link.secret = some secret)
    (hlen : body.length = 36) (hproof : joinReqProof secret (slice body 0 16) (slice body 20 8) 255 = slice body 28 8)
    (hnew : fld body 18 1 = 255) (hu : 1 ≤ u) (hu7 : u ≤ 7) (hfree : d.member u = none) (hlow : ∀ k, 1 ≤ k → k < u → d.member k ≠ none)
    (hother : ∀ k m, 1 ≤ k → k ≤ 7 → d.member k = some m → m.serial ≠ slice body 0 16) :
    joinReq port body d = (d.takeMember u port (slice body 0 16)).answerJoin port secret body 0 u := by
  have hfound : ([1, 2, 3, 4, 5, 6, 7] : List Nat).find? (fun u => (d.member u).isNone) = some u := by
    refine (List.find?_range'_eq_some (s := 1) (n := 7)).2 ⟨by simp [hfree], List.mem_range'_1.2 ⟨hu, by omega⟩, fun k hk hku => ?_⟩
    simpa [Option.isSome_iff_ne_none] using hlow k hk hku
  simp only [joinReq, Dev.isFollower_head hrole, hsecret, hrole, hlen, hnew, hproof, hfound]
  generalize hheld : List.find? _ [1, 2, 3, 4, 5, 6, 7] = held
  have hnone : held = none := by
    rw [← hheld]
    refine List.find?_eq_none.2 fun k hk => ?_
    have hrange : 1 ≤ k ∧ k ≤ 7 := by
      simp only [List.mem_cons, List.not_mem_nil, or_false] at hk
      omega
    cases hm : d.member k with
    | none => simp
    | some m => simpa using hother k m hrange.1 hrange.2 hm
  subst hnone
  simp [Dev.takeMember, Dev.enterMember, Dev.answerJoin]

theorem Dev.enterMember_samePar (d : Dev) (u port : Nat) (serial : List Byte) : SamePar [pChainMembers] d (d.enterMember u port serial) :=
  ((Dev.updLink_samePar _ d _).trans (Dev.setNv_samePar _ pChainMembers _ (by decide))).trans (Dev.updLink_samePar _ _ _)

/-- What the head holds once it has taken a member, where no band of its own exists. -/
theorem Dev.takeMember_follows {d : Dev} (u port : Nat) (serial : List Byte) (h : d.bandIds = []) :
    (d.takeMember u port serial).link = (d.enterMember u port serial).link ∧
      SamePar topologyIds (d.enterMember u port serial) (d.takeMember u port serial) := by
  set e := (d.enterMember u port serial).journal 0x0903 0 1 none .none
  have hraised : SamePar lossIds (d.enterMember u port serial) (e.joinedEvent u e.memberCount false serial) :=
    (Dev.journal_samePar lossIds (d.enterMember u port serial) 0x0903 0 1 .none).trans (Dev.raiseDev_samePar _ _ _)
  have hidle : (e.joinedEvent u e.memberCount false serial).anyBridging = false := by
    rw [hraised.anyBridging_eq (by decide), (d.enterMember_samePar u port serial).anyBridging_eq (by decide)]
    exact Dev.anyBridging_noBands h
  have hfollows := Dev.setTopology_follows hidle 0 e.memberCount port
  refine ⟨?_, (hraised.mono (by decide)).trans hfollows.par⟩
  exact hfollows.link.trans (Dev.raiseDev_link _ _ _)

/-- A unit that the head takes is its member, in its list of members and on the port it came from. -/
theorem joinReq_member {d : Dev} {port u : Nat} {secret body : List Byte} (h : d.bandIds = []) (hlist : u < d.link.members.length) :
    let e := (d.takeMember u port (slice body 0 16)).answerJoin port secret body 0 u
    e.member u = some { serial := slice body 0 16, port := port, heard := d.time } ∧ e.getN pChainMembers = d.getN pChainMembers ||| 2 ^ u ∧
      (port < d.link.ports.length → (e.port port).joined = true) := by
  intro e
  obtain ⟨hlink, hpar⟩ := d.takeMember_follows u port (slice body 0 16) h
  refine ⟨?_, ?_, fun hp => ?_⟩
  · have hmembers : e.link.members = (d.enterMember u port (slice body 0 16)).link.members := by
      rw [show e = _ from Dev.send_frame _ _, ← hlink]
    rw [Dev.member, hmembers]
    exact nth_upd_same _ hlist
  · rw [show e.getN pChainMembers = _ from (Dev.send_samePar [] _ _).getN_eq (by decide) (by decide), hpar.getN_eq (by decide) (by decide)]
    exact Dev.getN_setNv_same ..
  · have hports : e.link.ports = (d.enterMember u port (slice body 0 16)).link.ports := by
      rw [show e = _ from Dev.send_frame _ _, ← hlink]
    rw [Dev.port, hports]
    exact congrArg LinkPort.joined (nth_upd_same _ hp)

/-! ### The joiner (R417, R420, R437, Table CL-9) -/

theorem joinAck_strange {body : List Byte} {d : Dev}
    (h : body.length ≠ 32 ∨ (slice body 0 16 = d.factory.serial ∧ d.link.joining = none)) : joinAck body d = d := by
  rcases h with hlen | ⟨hserial, hidle⟩
  · exact if_pos hlen
  · simp [joinAck, hserial, hidle]

section Joiner
variable {d : Dev} {j : Joining} {body : List Byte}

/-- The head's proof of its answer holds. -/
def joinProven (d : Dev) (j : Joining) (body : List Byte) : Prop :=
  joinAckProof j.secret d.factory.serial j.nonce (fld body 16 1) (fld body 17 1) (fld body 20 4) = slice body 24 8

/-- The answer to a join in progress, by its proof, its result and its number. -/
theorem joinAck_answered (hlen : body.length = 32) (hserial : slice body 0 16 = d.factory.serial) (hj : d.link.joining = some j) :
    (¬ joinProven d j body → joinAck body d = d.endJoining .denied) ∧
    (joinProven d j body → fld body 16 1 = 2 → joinAck body d = d.endJoining .wouldExceed) ∧
    (joinProven d j body → fld body 16 1 ≠ 0 → fld body 16 1 ≠ 2 → joinAck body d = d.endJoining .denied) ∧
    (joinProven d j body → fld body 16 1 = 0 → 1 ≤ fld body 17 1 → fld body 17 1 ≤ 7 → joinAck body d =
      if (d.port 0).hopAt.isSome then d.joinDone j body else d.updLink (fun k => { k with joining := some { j with ack := some body } })) := by
  simp only [joinProven]
  refine ⟨fun hproof => ?_, fun hproof hres => ?_, fun hproof hres hres2 => ?_, fun hproof hres hnum hnum7 => ?_⟩
  · simp [joinAck, hlen, hserial, hj, hproof]
  · rw [hres] at hproof
    simp [joinAck, hlen, hserial, hj, hproof, hres]
  · simp [joinAck, hlen, hserial, hj, hproof, hres, hres2]
  · rw [hres] at hproof
    have hnum0 : fld body 17 1 ≠ 0 := by omega
    simp [joinAck, hlen, hserial, hj, hproof, hres, hnum0, hnum7]

/-- The membership that an accepted join gives, journalled. -/
def Dev.acceptJoin (d : Dev) (j : Joining) (ack : List Byte) : Dev :=
  (((((d.setNv pChainRole 0 2).setNv pChainId 0 (fld ack 20 4 : Nat)).setNv pChainMembers 0
    (d.getN pChainMembers ||| 1 ||| 2 ^ (fld ack 17 1 % 8) : Nat)).updLink (fun k =>
      { k with secret := some j.secret, format := fld ack 19 1, joining := none, pathLost := false, breakDue := none })).updPort 0
        (fun x => { x with joined := true })).journal 0x0903 0 1 none .none

/-- TKC aligned to the head's: a step where the offset asks for one. -/
def Dev.alignTkc (d : Dev) (rejoin : Bool) : Dev :=
  let off := (d.link.offset.map (·.1)).getD 0
  let e := if 2000 < off.natAbs then (d.stepTkc off rejoin.toNat).updRef 1 (fun r => { r with phase := 0 }) else d
  e.updClk (fun c => { c with aligned := true })

/-- A join that no host command waits for. -/
theorem Dev.joinDone_own (hhost : j.host = none) (ack : List Byte) : d.joinDone j ack =
    (((d.acceptJoin j ack).alignTkc (j.number != 255)).joinedEvent (fld ack 17 1) (fld ack 18 1) (j.number != 255)
      ((d.acceptJoin j ack).alignTkc (j.number != 255)).factory.serial).setTopology (fld ack 17 1) (max 1 (min 8 (fld ack 18 1))) 0 := by
  unfold Dev.joinDone
  simp only [hhost]
  rfl

theorem Dev.acceptJoin_samePar (ack : List Byte) : SamePar memberIds d (d.acceptJoin j ack) := by
  have hset (e : Dev) (id : Nat) (v : Int) (hid : id ∈ memberIds) : SamePar memberIds e (e.setNv id 0 v) :=
    (e.setNv_samePar id v (by decide)).mono (by simpa using hid)
  exact ((((hset d pChainRole 2 (by decide)).trans (hset _ pChainId _ (by decide))).trans (hset _ pChainMembers _ (by decide))).trans
    (Dev.updLink_samePar _ _ _)).trans ((Dev.updLink_samePar _ _ _).trans (Dev.journal_samePar _ _ _ _ _ _))

theorem Dev.acceptJoin_reads (ack : List Byte) :
    (d.acceptJoin j ack).get pChainRole = 2 ∧ (d.acceptJoin j ack).getN pChainId = fld ack 20 4 := by
  have hother (e : Dev) (id jd : Nat) (v : Int) (h : jd ≠ id) : (e.setNv id 0 v).get jd = e.get jd :=
    Dev.get_set_id e id 0 jd 0 v (by decide) (by decide) h
  have hport (e : Dev) (f : LinkPort → LinkPort) (g : Link → Link) (id : Nat) :
      (((e.updLink g).updPort 0 f).journal 0x0903 0 1 none .none).get id = e.get id := rfl
  refine ⟨?_, ?_⟩
  · rw [Dev.acceptJoin, hport, hother _ _ _ _ (by decide), hother _ _ _ _ (by decide)]
    exact Dev.get_setNv_same ..
  · rw [Dev.getN, Dev.acceptJoin, hport, hother _ _ _ _ (by decide)]
    exact Dev.getN_setNv_same ..

theorem Dev.alignTkc_samePar (d : Dev) (rejoin : Bool) : SamePar lossIds d (d.alignTkc rejoin) := by
  unfold Dev.alignTkc
  dsimp only
  split
  · exact Dev.raiseDev_samePar _ _ _
  · exact .refl _ d

theorem Dev.alignTkc_aligned (d : Dev) (rejoin : Bool) : (d.alignTkc rejoin).clk.aligned = true := rfl

/-- A TKC step ends a step that was still due, and touches nothing else of the link. -/
theorem Dev.alignTkc_link (d : Dev) (rejoin : Bool) :
    (d.alignTkc rejoin).link = { d.link with stepDue := (d.alignTkc rejoin).link.stepDue } := by
  unfold Dev.alignTkc
  dsimp only
  split
  · rw [Dev.updClk_link, show ∀ (e : Dev) f, (e.updRef 1 f).link = e.link from fun _ _ => rfl, Dev.stepTkc, Dev.raiseDev_link]
    rfl
  · rfl

/-- A follower whose join has taken effect, where no band of its own exists. -/
theorem Dev.joinDone_reads (hbands : d.bandIds = []) (hhost : j.host = none) (hports : 0 < d.link.ports.length) (ack : List Byte) :
    (d.joinDone j ack).get pChainRole = 2 ∧ (d.joinDone j ack).getN pChainId = fld ack 20 4 ∧
      (d.joinDone j ack).getN pUnitNumber = fld ack 17 1 ∧ (d.joinDone j ack).link.secret = some j.secret ∧
      (d.joinDone j ack).link.format = fld ack 19 1 ∧ (d.joinDone j ack).link.joining = none ∧ (d.joinDone j ack).clk.aligned = true ∧
      ((d.joinDone j ack).port 0).joined = true := by
  set e := (d.acceptJoin j ack).alignTkc (j.number != 255) with he
  set f := e.joinedEvent (fld ack 17 1) (fld ack 18 1) (j.number != 255) e.factory.serial with hf
  have haccepted : SamePar memberIds d (d.acceptJoin j ack) := Dev.acceptJoin_samePar ack
  have hraised : SamePar lossIds (d.acceptJoin j ack) f := (Dev.alignTkc_samePar _ _).trans (Dev.raiseDev_samePar e _ _)
  have hidle : f.anyBridging = false := by
    rw [hraised.anyBridging_eq (by decide), haccepted.anyBridging_eq (by decide)]
    exact Dev.anyBridging_noBands hbands
  have hfollows := Dev.setTopology_follows hidle (fld ack 17 1) (max 1 (min 8 (fld ack 18 1))) 0
  rw [hf, he, ← Dev.joinDone_own hhost ack] at hfollows
  have hpar : SamePar topologyIds (d.acceptJoin j ack) (d.joinDone j ack) := (hraised.mono (by decide)).trans hfollows.par
  have hlink : (d.joinDone j ack).link = { (d.acceptJoin j ack).link with stepDue := (d.joinDone j ack).link.stepDue } := by
    rw [hfollows.link, Dev.joinedEvent, Dev.raiseDev_link, Dev.alignTkc_link]
  obtain ⟨hrole, hid⟩ := Dev.acceptJoin_reads (d := d) (j := j) ack
  refine ⟨?_, ?_, congrArg Int.toNat hfollows.number, ?_, ?_, ?_, ?_, ?_⟩
  · rw [hpar _ 0 (by decide) (by decide), hrole]
  · rw [hpar.getN_eq (by decide) (by decide), hid]
  · rw [hlink]
    rfl
  · rw [hlink]
    rfl
  · rw [hlink]
    rfl
  · rw [hfollows.clk]
    exact Dev.raiseDev_clk e _ _ ▸ rfl
  · rw [Dev.port, hlink]
    exact congrArg LinkPort.joined (nth_upd_same _ hports)

end Joiner

/-! ### The time a join may take, and a member that leaves (R415, R418, Table CL-9) -/

theorem joinAckTimeout_idle {d : Dev} (h : d.link.joining = none) : joinAckTimeout d = d := by
  simp [joinAckTimeout, h]

theorem joinAckTimeout_judges {d : Dev} {j : Joining} (h : d.link.joining = some j) :
    joinAckTimeout d = if d.since j.since < msU 2000 then d else d.endJoining .state := by
  simp [joinAckTimeout, h]

theorem leaveMessage_strange {d : Dev} {body : List Byte} (h : d.get pChainRole = 0 ∨ fld body 4 4 ≠ d.getN pChainId) :
    leaveMessage body d = d :=
  if_pos (by rcases h with h | h <;> simp [h])

/-- The number of a member that left is released, in the head's list and on its ports. -/
def Dev.dropMember (d : Dev) (u : Nat) : Dev :=
  ((d.setNv pChainMembers 0 (d.getN pChainMembers - 2 ^ u : Nat)).updLink (fun k =>
    { k with members := upd k.members u (fun _ => none)
             ports := k.ports.map (fun x => if x.peer = some u then { x with joined := false, peer := none } else x) })).journal 0x0903 0 1 none .none

theorem leaveMessage_releases {d : Dev} {body : List Byte} (hrole : d.get pChainRole = 1) (hu : 1 ≤ fld body 0 1) (hu7 : fld body 0 1 ≤ 7)
    (hchain : fld body 4 4 = d.getN pChainId) (hmember : bit (d.getN pChainMembers) (fld body 0 1) = true) :
    leaveMessage body d = ((d.dropMember (fld body 0 1)).raiseDev 0x0983
      (e8 (fld body 0 1) ++ e8 (d.dropMember (fld body 0 1)).memberCount)).setTopology 0 (d.dropMember (fld body 0 1)).memberCount
        (((d.member (fld body 0 1)).map (·.port)).getD 255) := by
  have hu0 : fld body 0 1 ≠ 0 := by omega
  exact (if_neg (by simp [hu0, hu7, hchain, hrole, hmember])).trans (if_neg (by simp [Dev.isFollower_head hrole]))

theorem leaveMessage_reads {d : Dev} {body : List Byte} (hrole : d.get pChainRole = 1) (hu : 1 ≤ fld body 0 1) (hu7 : fld body 0 1 ≤ 7)
    (hchain : fld body 4 4 = d.getN pChainId) (hmember : bit (d.getN pChainMembers) (fld body 0 1) = true) (hbands : d.bandIds = []) :
    (leaveMessage body d).member (fld body 0 1) = none ∧
      (leaveMessage body d).getN pChainMembers = d.getN pChainMembers - 2 ^ fld body 0 1 := by
  have hdropped : SamePar [pChainMembers] d (d.dropMember (fld body 0 1)) :=
    (d.setNv_samePar pChainMembers _ (by decide)).trans ((Dev.updLink_samePar _ _ _).trans (Dev.journal_samePar _ _ _ _ _ _))
  set f := (d.dropMember (fld body 0 1)).raiseDev 0x0983 (e8 (fld body 0 1) ++ e8 (d.dropMember (fld body 0 1)).memberCount) with hf
  have hraised : SamePar lossIds (d.dropMember (fld body 0 1)) f := Dev.raiseDev_samePar _ _ _
  have hidle : f.anyBridging = false := by
    rw [hraised.anyBridging_eq (by decide), hdropped.anyBridging_eq (by decide)]
    exact Dev.anyBridging_noBands hbands
  have hfollows := Dev.setTopology_follows hidle 0 (d.dropMember (fld body 0 1)).memberCount (((d.member (fld body 0 1)).map (·.port)).getD 255)
  rw [leaveMessage_releases hrole hu hu7 hchain hmember, ← hf]
  refine ⟨?_, ?_⟩
  · rw [Dev.member, hfollows.link, hf, Dev.raiseDev_link]
    by_cases hlist : fld body 0 1 < d.link.members.length
    · exact nth_upd_same _ hlist
    · simp [Dev.dropMember, Dev.journal_link, nth, List.getD_eq_getElem?_getD, hlist]
      rfl
  · rw [hfollows.par.getN_eq (by decide) (by decide), hraised.getN_eq (by decide) (by decide)]
    exact Dev.getN_setNv_same ..

/-! ### The peer's side of a medium test, and its end (R428, R429) -/

theorem testMessage_down {d : Dev} {p : Nat} (body : List Byte) (h : d.portUp p = false) : testMessage p body d = d :=
  if_pos (by simp [h])

/-- A peer that can run the test accepts it, and its pattern replaces the bales. -/
theorem testMessage_accepts {d : Dev} {p : Nat} {body : List Byte} (hup : d.portUp p = true) (hreq : fld body 0 1 = 0)
    (hfree : d.portBridging p = false) (hnone : (d.port p).test = none) : testMessage p body d =
      (((d.updPort p (fun x => { x with test := some { duration := fld body 4 4, since := d.time } })).send
        { port := p, typ := 14, body := e8 1 ++ e8 0 ++ zs 2 ++ e32 (fld body 4 4) }).runTest p) := by
  simp [testMessage, hup, hreq, hfree, hnone]

theorem testMessage_runs {d : Dev} {p : Nat} {body : List Byte} (hup : d.portUp p = true) (hreq : fld body 0 1 = 0)
    (hfree : d.portBridging p = false) (hnone : (d.port p).test = none) (hp : p < d.link.ports.length) :
    (testMessage p body d).get pPortState p = 4 ∧
      ((testMessage p body d).port p).test = some { duration := fld body 4 4, since := d.time, running := true } := by
  rw [testMessage_accepts hup hreq hfree hnone]
  refine ⟨Dev.runTest_state _ _, ?_⟩
  rw [Dev.runTest_port (by rw [Dev.send_frame]; simpa [Dev.updPort] using hp), Dev.send_port, Dev.updPort_port _ hp]
  rw [Dev.send_frame]
  rfl

theorem linkTestEnd_early {d : Dev} {p : Nat} {t : LinkTest} (bits errors rtt : Nat) (locked : Bool) (ht : (d.port p).test = some t)
    (h : t.running = false ∨ d.since t.since < msU t.duration) : linkTestEnd p bits errors rtt locked d = d := by
  rcases h with h | h <;> simp [linkTestEnd, ht, h]

/-- A test that no command of this unit opened: its result is kept, and no job and no command end. -/
theorem Dev.endTest_peer {d : Dev} {p : Nat} {t : LinkTest} (ht : (d.port p).test = some t) (hjob : t.job = 65535)
    (outcome bits errors rtt mean2 : Nat) : d.endTest p outcome bits errors rtt mean2 =
      ((d.testResult p t outcome bits errors rtt mean2).2.updPort p (fun x =>
        { x with test := none, result := some (d.testResult p t outcome bits errors rtt mean2).1 })).raiseDev 0x0987
          (e8 p ++ e8 outcome ++ zs 2 ++ e32 (min 4294967295 errors)) := by
  simp [Dev.endTest, ht, hjob]

theorem linkTestEnd_ends {d : Dev} {p : Nat} {t : LinkTest} (bits errors rtt : Nat) (locked : Bool) (ht : (d.port p).test = some t)
    (hrun : t.running = true) (hdue : msU t.duration ≤ d.since t.since) (hjob : t.job = 65535) (hp2 : p < 2) (hp : p < d.link.ports.length) :
    (linkTestEnd p bits errors rtt locked d).get pPortState p = 3 ∧ ((linkTestEnd p bits errors rtt locked d).port p).test = none ∧
      ((linkTestEnd p bits errors rtt locked d).port p).result.isSome = true := by
  set e := (d.set pPortState p 3).updPort p (fun x => { x with baleCount := none }) with he
  have hlen : p < e.link.ports.length := by simpa [he, Dev.updPort] using hp
  have htest : (e.port p).test = some t := (congrArg LinkPort.test (Dev.updPort_port (d := d.set pPortState p 3) _ hp)).trans ht
  obtain ⟨outcome, r, mean, hend⟩ : ∃ outcome r mean, linkTestEnd p bits errors rtt locked d = e.endTest p outcome bits errors r mean :=
    ⟨_, _, _, by simp only [linkTestEnd, ht, hrun, Nat.not_lt.2 hdue]; rfl⟩
  rw [hend, Dev.endTest_peer htest hjob]
  refine ⟨?_, ?_, ?_⟩
  · rw [(Dev.raiseDev_samePar _ _ _) _ p (by decide) (by omega)]
    change (d.set pPortState p 3).get pPortState p = 3
    exact d.get_set_same pPortState p 3
  · rw [Dev.port, Dev.raiseDev_link]
    exact congrArg LinkPort.test (nth_upd_same _ hlen)
  · rw [Dev.port, Dev.raiseDev_link]
    exact congrArg (fun x : LinkPort => x.result.isSome) (nth_upd_same _ hlen)

end Sys2Proof.Machine

open Sys2Proof Sys2Proof.Machine

/-- Settles O53, command by command, then the messages of a join and a leave, and the medium test. -/
theorem linkCommandsAndMembership : Obligations.LinkCommandsAndMembership := by
  unfold Obligations.LinkCommandsAndMembership
  refine ⟨fun s r => ⟨fun ht => ⟨fun hfec hrate => ?_, fun h hused => ?_, fun h hfree hbar hmodule => ?_⟩, fun ht => ?_,
    fun ht => ⟨fun h => ?_, fun h hhead hrole => ?_, fun h hhead hrole htop hnumber hcount hbar hfree hslot => ?_, fun h hjoin hbars => ?_,
      fun h hjoin hrole hout hup hbar => ?_⟩,
    fun ht => ⟨fun h => ?_, fun h hbar hfree hslot => ?_⟩,
    fun ht => ⟨fun h => ?_, fun rep h hjob hblk hok hacc => ?_, fun j d1 h hjob hslot hp => ?_⟩, fun ht => ?_⟩,
    fun s port body => ⟨fun h => ?_, fun secret hrole hsecret hlen => ⟨fun hproof => ?_, fun u hproof hnew hbands hu hu7 hlist hfree hlow hother => ?_⟩,
      fun h => ?_, fun j hlen hserial hj => ?_, fun h => ?_, fun j hj => ?_, fun h => ?_, fun hrole hu hu7 hchain hmember hbands => ?_, fun h => ?_,
      fun hup hreq hfree hnone hp => ?_⟩,
    fun s p bits errors rtt locked t ht hp2 hp => ⟨fun h => ?_, fun hrun hdue hjob => ?_⟩⟩
  · exact act_refuses ht (linkConfig_run_fec hfec hrate) (by decide) rfl
  · exact act_refuses ht (linkConfig_run_used h hused) (by decide) rfl
  · obtain ⟨hrate, hfec, hasym, hps⟩ := s.dev.configLink_reads r
    refine ⟨_, linkConfig_sets ht h hfree hbar hmodule, ?_, ?_, ?_, ?_, fun id i hid hi => ?_, Dev.holdBack_last ..⟩
    · rwa [Dev.holdBack_getN]
    · rwa [Dev.holdBack_getN]
    · rwa [Dev.holdBack_get]
    · rwa [Dev.holdBack_getN]
    · rw [Dev.holdBack_get]
      exact s.dev.configLink_samePar r id i hid hi
  · exact linkStatusGet_reports ht
  · exact act_refuses ht (chainJoin_run_joining h) (by decide) rfl
  · exact act_refuses ht (chainJoin_run_member h hhead hrole) (by decide) rfl
  · exact chainJoin_founds ht h hhead hrole htop hnumber hcount hbar hfree hslot
  · exact act_refuses ht (chainJoin_run_unfit h hjoin hbars) (by decide) rfl
  · exact chainJoin_asks ht h hjoin hrole hout hup hbar
  · exact act_refuses ht (chainLeave_run_stays h) (by decide) rfl
  · exact chainLeave_leaves ht h hbar hfree hslot
  · exact act_refuses ht (linkTestStart_run_barred h) (by decide) rfl
  · exact linkTestStart_refused ht h hjob hblk hok hacc
  · exact linkTestStart_begins ht h hjob hslot hp
  · exact linkTestResult_reads ht
  · exact State.act_of_eq (joinReq_relayed port body h)
  · exact State.act_of_eq (joinReq_unproven hrole hsecret hlen hproof)
  · exact ⟨_, State.act_of_eq (joinReq_takes hrole hsecret hlen hproof hnew hu hu7 hfree hlow hother), joinReq_member hbands hlist⟩
  · exact State.act_unchanged (joinAck_strange h)
  · obtain ⟨hdenied, hfull, hother, hgood⟩ := joinAck_answered hlen hserial hj
    refine ⟨fun hproof => State.act_of_eq (hdenied hproof), fun hproof hres => State.act_of_eq (hfull hproof hres),
      fun hproof hres hres2 => State.act_of_eq (hother hproof hres hres2), fun hproof hres hnum hnum7 hhop => ?_,
      fun hproof hres hnum hnum7 hhop hbands hhost hports => ?_⟩
    · exact State.act_of_eq ((hgood hproof hres hnum hnum7).trans (if_neg (by simp [hhop])))
    · have hdone := (hgood hproof hres hnum hnum7).trans (if_pos (Option.isSome_iff_ne_none.2 hhop))
      exact ⟨_, State.act_of_eq hdone, Dev.joinDone_reads hbands hhost hports body⟩
  · exact State.act_unchanged (joinAckTimeout_idle h)
  · exact State.act_of_eq (joinAckTimeout_judges hj)
  · exact State.act_unchanged (leaveMessage_strange h)
  · exact ⟨_, rfl, leaveMessage_reads hrole hu hu7 hchain hmember hbands⟩
  · exact State.act_unchanged (testMessage_down body h)
  · exact ⟨_, rfl, testMessage_runs hup hreq hfree hnone hp⟩
  · exact State.act_unchanged (linkTestEnd_early bits errors rtt locked ht h)
  · exact ⟨_, rfl, linkTestEnd_ends bits errors rtt locked ht hrun hdue hjob hp2 hp⟩

end

section
/-! SUPPORT. What the work on lanes, convoys and jobs leaves alone: everything but the lanes, the convoys, the ledger, the Tollbook, the
records and the parameters of the lane worked on. -/

namespace Sys2Proof.Machine

/-! ### Work beside the rest of the device -/

/-- `e` with the lanes, convoys, ledger, Tollbook, records, parameters and draws of `d`. -/
def Dev.laneSideOf (e d : Dev) : Dev :=
  { e with free := d.free, par := d.par, latched := d.latched, colo := d.colo, nvm := d.nvm, led := d.led, lanes := d.lanes, convoys := d.convoys,
           toll := d.toll, host := { e.host with events := d.host.events } }

/-- The device moves in nothing but its lane side, and no parameter that `keep` names moves. -/
structure Beside (keep : Nat → Nat → Prop) (d e : Dev) : Prop where
  par : ∀ id i, keep id i → e.get id i = d.get id i
  rest : e.laneSideOf d = d

section Beside
variable {keep : Nat → Nat → Prop} {d e f : Dev}

theorem Beside.refl (keep : Nat → Nat → Prop) (d : Dev) : Beside keep d d := ⟨fun _ _ _ => rfl, rfl⟩

theorem Beside.trans (h : Beside keep d e) (h' : Beside keep e f) : Beside keep d f where
  par id i hk := (h'.par id i hk).trans (h.par id i hk)
  rest := (congrArg (fun g : Dev => g.laneSideOf d) h'.rest).trans h.rest

theorem Beside.mono {keep' : Nat → Nat → Prop} (h : Beside keep d e) (hsub : ∀ id i, keep' id i → keep id i) : Beside keep' d e :=
  ⟨fun id i hk => h.par id i (hsub id i hk), h.rest⟩

theorem Beside.foldl {α : Type} {g : Dev → α → Dev} {l : List α} (hg : ∀ e, ∀ x ∈ l, Beside keep e (g e x)) (d : Dev) :
    Beside keep d (l.foldl g d) := by
  induction l generalizing d with
  | nil => exact .refl keep d
  | cons x l ih =>
    exact (hg d x (List.mem_cons_self ..)).trans (ih (fun e y hy => hg e y (List.mem_cons_of_mem x hy)) (g d x))

theorem Beside.ite {c : Prop} [Decidable c] (h : Beside keep d e) (h' : Beside keep d f) : Beside keep d (if c then e else f) := by
  split
  · exact h
  · exact h'

theorem Beside.getN (h : Beside keep d e) {id i : Nat} (hk : keep id i) : e.getN id i = d.getN id i := congrArg Int.toNat (h.par id i hk)

theorem Beside.time (h : Beside keep d e) : e.time = d.time := (congrArg Dev.time h.rest :)
theorem Beside.outbox (h : Beside keep d e) : e.host.outbox = d.host.outbox := (congrArg (fun g : Dev => g.host.outbox) h.rest :)
theorem Beside.longs (h : Beside keep d e) : e.host.longs = d.host.longs := (congrArg (fun g : Dev => g.host.longs) h.rest :)
theorem Beside.bands (h : Beside keep d e) : e.bands = d.bands := (congrArg Dev.bands h.rest :)
theorem Beside.link (h : Beside keep d e) : e.link = d.link := (congrArg Dev.link h.rest :)
theorem Beside.sv (h : Beside keep d e) : e.sv = d.sv := (congrArg Dev.sv h.rest :)
theorem Beside.sc (h : Beside keep d e) : e.sc = d.sc := (congrArg Dev.sc h.rest :)
theorem Beside.sched (h : Beside keep d e) : e.sched = d.sched := (congrArg Dev.sched h.rest :)
theorem Beside.cause (h : Beside keep d e) : e.cause = d.cause := (congrArg Dev.cause h.rest :)

theorem Beside.longOf (h : Beside keep d e) (slot ref : Nat) : e.longOf slot ref = d.longOf slot ref := by
  rw [Dev.longOf, Dev.longOf, h.longs]

theorem Beside.band (h : Beside keep d e) (b : Nat) : e.band b = d.band b := by
  rw [Dev.band, Dev.band, h.bands]

theorem Beside.survey (h : Beside keep d e) (slot ref : Nat) : e.survey slot ref = d.survey slot ref := by
  rw [Dev.survey, Dev.survey, h.sv]

end Beside

/-! ### Which parameters stand -/

/-- Every parameter but those of `ids`. -/
def Off (ids : List Nat) (id i : Nat) : Prop := i < 65536 ∧ id ∉ ids

/-- The parameters that work on a lane or its convoy moves. -/
def laneParIds : List Nat :=
  [pLaneState, pLaneFreq, pLaneRate, pRxEntry, pTxEntry, pDigitalGain, pCalStoreUsed, pIsoState, pIsoEstimate, pIsoIEff, pOscRung, pConvoyOutput,
   pConvoyWinner, pEirpLimit, pUlNoiseEst, pActiveFollowers]

/-- Every parameter but the loss counters and, at one index of the store's range, those of `ids`. -/
def OffAt (ids : List Nat) (l id i : Nat) : Prop := (l < 65536 ∧ i < 65536) ∧ id ∉ lossIds ∧ (id ∈ ids → i ≠ l)

/-- Every parameter but the loss counters and those of one lane's work. -/
abbrev OffLane (l : Nat) : Nat → Nat → Prop := OffAt laneParIds l

theorem Beside.widen {ids ids' : List Nat} {l : Nat} {d e : Dev} (h : Beside (OffAt ids l) d e) (hsub : ids ⊆ ids') :
    Beside (OffAt ids' l) d e :=
  h.mono fun _ _ ⟨hi, hloss, hoff⟩ => ⟨hi, hloss, fun hid => hoff (hsub hid)⟩

theorem Off.offLane {l id i : Nat} (hl : l < 8) (h : Off (laneParIds ++ lossIds) id i) : OffLane l id i := by
  obtain ⟨hi, hid⟩ := h
  rw [List.mem_append, not_or] at hid
  exact ⟨⟨by omega, hi⟩, hid.2, fun hlane => absurd hlane hid.1⟩

theorem Beside.samePar {ids : List Nat} {d e : Dev} (h : Beside (Off ids) d e) : SamePar ids d e := fun id i hid hi => h.par id i ⟨hi, hid⟩

/-- The parameters of the work on lanes, and of the records it leaves. -/
def laneWorkIds : List Nat := laneParIds ++ lossIds

theorem Beside.offLanes {l : Nat} {d e : Dev} (h : Beside (OffLane l) d e) (hl : l < 8) : Beside (Off laneWorkIds) d e :=
  h.mono fun _ _ hk => hk.offLane hl

/-! ### The steps of which the work is made -/

section Steps
variable (d : Dev) {keep : Nat → Nat → Prop}

theorem Dev.set_beside {id j : Nat} (v : Int) (h : ∀ jd i, keep jd i → parKey jd i ≠ parKey id j) : Beside keep d (d.set id j v) :=
  ⟨fun jd i hk => d.get_set_ne id j jd i v (h jd i hk), rfl⟩

theorem Dev.setAt_beside {ids : List Nat} {id l : Nat} (v : Int) (hid : id ∈ ids) : Beside (OffAt ids l) d (d.set id l v) :=
  d.set_beside v fun jd i ⟨⟨hl, hi⟩, _, hoff⟩ hkey => by
    obtain ⟨rfl, rfl⟩ := parKey_inj hi hl hkey
    exact hoff hid rfl

theorem Dev.setOff_beside {id i : Nat} (ids : List Nat) (v : Int) (hid : id ∈ ids) (hi : i < 65536) : Beside (Off ids) d (d.set id i v) :=
  d.set_beside v fun jd j ⟨hj, hoff⟩ hkey => by
    obtain ⟨rfl, rfl⟩ := parKey_inj hj hi hkey
    exact hoff hid

theorem Dev.updLane_beside (l : Nat) (f : Lane → Lane) : Beside keep d (d.updLane l f) := ⟨fun _ _ _ => rfl, rfl⟩
theorem Dev.updConvoy_beside (l : Nat) (f : Convoy → Convoy) : Beside keep d (d.updConvoy l f) := ⟨fun _ _ _ => rfl, rfl⟩
theorem Dev.measure_beside (n : Nat) : Beside keep d (d.measure n).2 := ⟨fun _ _ _ => rfl, rfl⟩
theorem Dev.drivePins_beside (l : Nat) : Beside keep d (d.drivePins l) := d.updLane_beside l _
theorem Dev.updToll_beside (f : Toll → Toll) : Beside keep d (d.updToll f) := ⟨fun _ _ _ => rfl, rfl⟩

theorem Dev.raiseAs_beside (part : Nat) (o : Bool) (agent code : Nat) (p : List Byte) (h : ∀ id i, keep id i → i < 65536 ∧ id ∉ lossIds) :
    Beside keep d (d.raiseAs part o agent code p) where
  par id i hk := by
    obtain ⟨hi, hid⟩ := h id i hk
    simp only [lossIds, List.mem_cons, List.not_mem_nil, or_false, not_or] at hid
    exact d.raiseAs_same part o agent code p id i hid hi
  rest := by
    rw [Dev.raiseAs_frame]
    rfl

theorem OffAt.loss {ids : List Nat} {l id i : Nat} (h : OffAt ids l id i) : i < 65536 ∧ id ∉ lossIds := ⟨h.1.2, h.2.1⟩

theorem Off.loss {ids : List Nat} {id i : Nat} (hsub : lossIds ⊆ ids) (h : Off ids id i) : i < 65536 ∧ id ∉ lossIds :=
  ⟨h.1, fun hloss => h.2 (hsub hloss)⟩

theorem Dev.raiseLane_beside (ids : List Nat) (l k code : Nat) (p : List Byte) : Beside (OffAt ids l) d (d.raiseLane k code p) :=
  d.raiseAs_beside _ _ _ _ _ fun _ _ h => h.loss

theorem Dev.raiseSlot_beside {ids : List Nat} (hsub : lossIds ⊆ ids) (slot code : Nat) (p : List Byte) :
    Beside (Off ids) d (d.raiseSlot slot code p) :=
  d.raiseAs_beside _ _ _ _ _ fun _ _ h => h.loss hsub

end Steps

/-! ### Lanes and convoys (R249 to R252, R346, R358) -/

section LaneWork
variable (d : Dev) {l : Nat}

/-- The RX entry of a lane that receives, settled to its input power (R265). -/
def Dev.settleRx (d : Dev) (l : Nat) (t : PaTable) (p : Int) : Dev :=
  if receives (d.laneState l) then
    d.set pRxEntry l (rxSettle t.rx p t.rx.length (if d.get pRxEntry l = 255 then 0 else d.getN pRxEntry l) : Nat)
  else d

/-- TX entry and D of a lane in state `st`, chosen for its convoy's output (R266, R267). -/
def Dev.chooseTx (d : Dev) (l st : Nat) (t : PaTable) (p : Int) : Dev :=
  if transmits st && !d.laneMuted l then
    match txChoose (d.get pConvoyOutput l) (d.gRxNow l t) (p + d.get pConvoyOutput l) (t.tx.zip (d.lane l).comp) 0 with
    | some (k, x) => (d.set pTxEntry l (k : Nat)).set pDigitalGain l x
    | none => d
  else d

/-- The gain is split where the lane has a table and an input power, and stands elsewhere. -/
theorem Dev.split_cases : d.split l = d ∨ ∃ t p, d.split l = (d.settleRx l t p).chooseTx l (d.laneState l) t p := by
  unfold Dev.split
  split
  · exact .inr ⟨_, _, rfl⟩
  · exact .inl rfl

/-- The parameters of the split of a lane's gain. -/
def splitIds : List Nat := [pRxEntry, pTxEntry, pDigitalGain]

theorem Dev.settleRx_beside (t : PaTable) (p : Int) : Beside (OffAt splitIds l) d (d.settleRx l t p) :=
  (d.setAt_beside _ (by decide)).ite (.refl _ d)

theorem Dev.chooseTx_beside (st : Nat) (t : PaTable) (p : Int) : Beside (OffAt splitIds l) d (d.chooseTx l st t p) := by
  unfold Dev.chooseTx
  split
  · split
    · exact (d.setAt_beside (id := pTxEntry) _ (by decide)).trans (Dev.setAt_beside _ (id := pDigitalGain) _ (by decide))
    · exact .refl _ d
  · exact .refl _ d

theorem Dev.split_beside : Beside (OffAt splitIds l) d (d.split l) := by
  obtain hsplit | ⟨t, p, hsplit⟩ := d.split_cases (l := l)
  · rw [hsplit]
    exact .refl _ d
  · rw [hsplit]
    exact (d.settleRx_beside t p).trans (Dev.chooseTx_beside _ _ t p)

theorem Dev.emptyStore_beside : Beside (OffAt [pCalStoreUsed] l) d (d.emptyStore l) :=
  (d.updLane_beside l _).trans (Dev.setAt_beside _ _ (by decide))

/-- What a lane's state brings with it: its store, the split, the pins and the event. -/
def followIds : List Nat := pCalStoreUsed :: splitIds

/-- Past LANE_STATE itself, a lane moved to a state moves what follows from the state. -/
theorem Dev.setLaneState_follows (new : Nat) (cause : Option Nat) :
    Beside (OffAt followIds l) (d.set pLaneState l new) (d.setLaneState l new cause) := by
  have hstored : Beside (OffAt followIds l) (d.set pLaneState l new)
      (if new = 0 then (d.set pLaneState l new).emptyStore l else d.set pLaneState l new) :=
    ((Dev.emptyStore_beside _).widen (by decide)).ite (.refl _ _)
  have hdriven := (hstored.trans ((Dev.split_beside _).widen (by decide))).trans (Dev.drivePins_beside _ l)
  unfold Dev.setLaneState
  dsimp only
  split
  · split
    · exact hdriven
    · exact hdriven.trans (Dev.raiseLane_beside _ _ l l _ _)
  · exact hdriven

theorem Dev.setLaneState_beside (new : Nat) (cause : Option Nat) :
    Beside (OffAt (pLaneState :: followIds) l) d (d.setLaneState l new cause) :=
  (d.setAt_beside _ (by decide)).trans ((d.setLaneState_follows new cause).widen (List.subset_cons_self ..))

/-- A lane moved to a state is in it. -/
theorem Dev.setLaneState_state (hl : l < 8) (new : Nat) (cause : Option Nat) : (d.setLaneState l new cause).laneState l = new := by
  have hkept := (d.setLaneState_follows new cause).getN (id := pLaneState) (i := l)
    ⟨⟨hl.trans (by decide), hl.trans (by decide)⟩, by decide, fun h => absurd h (by decide)⟩
  exact hkept.trans (Dev.getN_set_same ..)

theorem Dev.fullCal_beside (fc rate : Nat) (pin : Option Nat) : Beside (OffAt [pCalStoreUsed] l) d (d.fullCal l fc rate pin).1 :=
  ((d.measure_beside 10).trans (Dev.updLane_beside _ l _)).trans (Dev.setAt_beside _ _ (by decide))

theorem Dev.passLock_beside (force : Bool) : Beside (OffAt [pCalStoreUsed] l) d (d.passLock l force).1 := by
  unfold Dev.passLock
  dsimp only
  split
  · exact d.updLane_beside l _
  · exact d.fullCal_beside _ _ none

theorem Dev.staleIso_beside (cause : Nat) : Beside (OffAt [pIsoState, pIsoIEff] l) d (d.staleIso l cause) := by
  unfold Dev.staleIso
  dsimp only
  split
  · exact .refl _ d
  · split
    · exact d.updConvoy_beside l _
    · exact (((d.updConvoy_beside l _).trans (Dev.setAt_beside _ _ (by decide))).trans (Dev.setAt_beside _ _ (by decide))).trans
        (Dev.raiseLane_beside _ _ l l _ _)

end LaneWork

/-! ### Jobs (R235) -/

theorem Dev.endJob_beside (d : Dev) {slot : Nat} (hslot : slot < 8) (handle reason : Nat) :
    Beside (Off (pJobsOpen :: lossIds)) d (d.endJob slot handle reason) := by
  have hjobs (f : List (Option Job) → List (Option Job)) : Beside (Off (pJobsOpen :: lossIds)) d (d.updJobs slot f) :=
    ⟨fun id i hk => (d.updJobs_samePar f (by omega)) id i (fun h => hk.2 (List.mem_cons.2 (.inl (List.mem_singleton.1 h)))) hk.1, rfl⟩
  unfold Dev.endJob
  split
  · exact .refl _ d
  · exact (hjobs _).trans (Dev.raiseSlot_beside _ (by decide) _ _ _)

end Sys2Proof.Machine
end

section
/-! SUPPORT. The open jobs of chapter 15: how one is found, changed, opened and ended, and the lanes a job takes and returns. -/

namespace Sys2Proof.Machine

/-! ### The jobs of a slot (R474, R475) -/

/-- An open job is found under its slot and its index. -/
theorem Dev.survey_found {d : Dev} {slot ref : Nat} {x : Survey} (h : d.survey slot ref = some x) : x.slot = slot ∧ x.ref = ref := by
  have hfound := List.find?_some h
  simpa only [Bool.and_eq_true, decide_eq_true_eq] using hfound

theorem Dev.survey_of_sv {d e : Dev} (h : e.sv = d.sv) (slot ref : Nat) : e.survey slot ref = d.survey slot ref := by
  rw [Dev.survey, Dev.survey, h]

/-- A change of one job that keeps the names of its slot and its index is read where the job is. -/
theorem Dev.survey_updSurvey (d : Dev) (slot ref : Nat) {f : Survey → Survey} (hf : ∀ x, (f x).slot = x.slot ∧ (f x).ref = x.ref) :
    (d.updSurvey slot ref f).survey slot ref = (d.survey slot ref).map f := by
  have hkeys : ((fun x : Survey => decide (x.slot = slot) && decide (x.ref = ref)) ∘
      fun x => if (decide (x.slot = slot) && decide (x.ref = ref)) = true then f x else x) =
        fun x => decide (x.slot = slot) && decide (x.ref = ref) := by
    funext x
    dsimp only [Function.comp]
    split
    · rw [(hf x).1, (hf x).2]
    · rfl
  change (d.sv.jobs.map _).find? _ = _
  rw [List.find?_map, hkeys]
  change (d.survey slot ref).map _ = (d.survey slot ref).map f
  cases hx : d.survey slot ref with
  | none => rfl
  | some x => simp [Dev.survey_found hx]

/-- A job opened under a free index is found there, with its survey_id and its time. -/
theorem Dev.survey_openSurvey {d : Dev} {x : Survey} (h : d.survey x.slot x.ref = none) :
    (d.openSurvey x).survey x.slot x.ref = some { x with id := nth d.sv.next x.slot, since := d.time } := by
  change (d.sv.jobs ++ [_]).find? _ = _
  rw [List.find?_append, show d.sv.jobs.find? _ = none from h]
  simp

/-- Nothing of a job is lost on the way to its end: the results stand, the long commands and what is queued stand, and the job is still
open, with its survey_id and its kind. -/
structure JobStands (slot ref : Nat) (d e : Dev) : Prop where
  outbox : e.host.outbox = d.host.outbox
  longs : e.host.longs = d.host.longs
  results : e.sv.results = d.sv.results
  job : ∀ x, d.survey slot ref = some x → ∃ y, e.survey slot ref = some y ∧ y.id = x.id ∧ y.kind = x.kind ∧ y.withdrawn = x.withdrawn

section JobStands
variable {slot ref : Nat} {d e f : Dev}

theorem JobStands.trans (h : JobStands slot ref d e) (h' : JobStands slot ref e f) : JobStands slot ref d f where
  outbox := h'.outbox.trans h.outbox
  longs := h'.longs.trans h.longs
  results := h'.results.trans h.results
  job x hx := by
    obtain ⟨y, hy, hid, hkind, hwith⟩ := h.job x hx
    obtain ⟨z, hz, hid', hkind', hwith'⟩ := h'.job y hy
    exact ⟨z, hz, hid'.trans hid, hkind'.trans hkind, hwith'.trans hwith⟩

/-- What leaves the open jobs and what is queued leaves the job. -/
theorem JobStands.of_eq (houtbox : e.host.outbox = d.host.outbox) (hlongs : e.host.longs = d.host.longs) (hsv : e.sv = d.sv) :
    JobStands slot ref d e :=
  ⟨houtbox, hlongs, by rw [hsv], fun x hx => ⟨x, (Dev.survey_of_sv hsv slot ref).trans hx, rfl, rfl, rfl⟩⟩

theorem Beside.jobStands {keep : Nat → Nat → Prop} (h : Beside keep d e) : JobStands slot ref d e :=
  .of_eq h.outbox h.longs h.sv

variable (d)

theorem Dev.updSurvey_stands {g : Survey → Survey}
    (hg : ∀ x, (g x).slot = x.slot ∧ (g x).ref = x.ref ∧ (g x).id = x.id ∧ (g x).kind = x.kind ∧ (g x).withdrawn = x.withdrawn) :
    JobStands slot ref d (d.updSurvey slot ref g) := by
  refine ⟨rfl, rfl, rfl, fun x hx => ⟨g x, ?_, (hg x).2.2⟩⟩
  rw [Dev.survey_updSurvey d slot ref fun x => ⟨(hg x).1, (hg x).2.1⟩, hx]
  rfl

theorem Dev.withdrawRequest_stands (res : Resource) (slot' ref' : Nat) : JobStands slot ref d (d.withdrawRequest res slot' ref') :=
  .of_eq rfl rfl rfl

theorem Dev.endCapture_stands (x : Survey) : JobStands x.slot x.ref d (d.endCapture x) := by
  have hended : JobStands x.slot x.ref d ((d.updSurvey x.slot x.ref (fun y => { y with start := none })).withdrawRequest .scan x.slot x.ref) :=
    (d.updSurvey_stands (g := fun y => { y with start := none }) fun _ => ⟨rfl, rfl, rfl, rfl, rfl⟩).trans (Dev.withdrawRequest_stands _ _ _ _)
  unfold Dev.endCapture
  dsimp only
  split
  · exact hended.trans (.of_eq rfl rfl rfl)
  · exact hended

end JobStands

/-! ### The end of a probe (R485, R491) -/

/-- A probe's job marked as ended, and its request taken back. -/
def Dev.closeProbe (d : Dev) (x : Survey) : Dev :=
  (d.updSurvey x.slot x.ref (fun y => { y with ended := true, start := none })).withdrawRequest .probe x.slot x.ref

/-- The transmitter of a probe leaves the air. -/
def Dev.silenceProbe (d : Dev) (l : Nat) : Dev := (d.updLane l (fun y => { y with probing := false })).drivePins l

/-- The bytes of PROBE_TRANSMITTED. -/
def Dev.probeReport (d : Dev) (x : Survey) (t code : Nat) : List Byte :=
  e8 x.tx ++ slice x.body 13 1 ++ slice x.body 16 2 ++ slice x.body 4 8 ++
    e32 (if code = 0 then 100000 else min 100000 (toUs (d.since t))) ++ slice x.body 12 1 ++ e8 code

theorem Dev.endProbe_other {d : Dev} {x : Survey} (code : Nat) (h : x.kind ≠ 3 ∨ x.ended = true) : d.endProbe x code = d :=
  if_pos (by simpa using h)

theorem Dev.endProbe_waiting {d : Dev} {x : Survey} (code : Nat) (hkind : x.kind = 3) (hended : x.ended = false) (hstart : x.start = none) :
    d.endProbe x code = d.closeProbe x := by
  rw [Dev.endProbe, if_neg (by simp [hkind, hended]), hstart]
  rfl

theorem Dev.endProbe_onAir {d : Dev} {x : Survey} {t : Nat} (code : Nat) (hkind : x.kind = 3) (hended : x.ended = false)
    (hstart : x.start = some t) :
    d.endProbe x code = ((d.closeProbe x).silenceProbe x.tx).raiseSlot x.slot 0x0B80 (d.probeReport x t code) := by
  rw [Dev.endProbe, if_neg (by simp [hkind, hended]), hstart]
  rfl

theorem Dev.closeProbe_stands (d : Dev) (x : Survey) : JobStands x.slot x.ref d (d.closeProbe x) :=
  (d.updSurvey_stands (g := fun y => { y with ended := true, start := none }) fun _ => ⟨rfl, rfl, rfl, rfl, rfl⟩).trans
    (Dev.withdrawRequest_stands _ _ _ _)

theorem Dev.silenceProbe_beside {keep : Nat → Nat → Prop} (d : Dev) (l : Nat) : Beside keep d (d.silenceProbe l) :=
  (d.updLane_beside l _).trans (Dev.drivePins_beside _ l)

theorem Dev.silenceProbe_lane {d : Dev} {l : Nat} (h : l < d.lanes.length) : ((d.silenceProbe l).lane l).probing = false := by
  have hsilent : ((d.updLane l (fun y => { y with probing := false })).lane l).probing = false :=
    congrArg Lane.probing (nth_upd_same (fun y : Lane => { y with probing := false }) h)
  exact (nth_upd_proj Lane.probing _ l l (f := fun y => { y with pins := Dev.lanePinsOf _ l }) fun _ => rfl).trans hsilent

theorem Dev.endProbe_stands (d : Dev) (x : Survey) (code : Nat) : JobStands x.slot x.ref d (d.endProbe x code) := by
  by_cases hother : x.kind ≠ 3 ∨ x.ended = true
  · rw [Dev.endProbe_other code hother]
    exact .of_eq rfl rfl rfl
  · simp only [not_or, ne_eq, not_not, Bool.not_eq_true] at hother
    cases hstart : x.start with
    | none =>
      rw [Dev.endProbe_waiting code hother.1 hother.2 hstart]
      exact d.closeProbe_stands x
    | some t =>
      rw [Dev.endProbe_onAir code hother.1 hother.2 hstart]
      exact ((d.closeProbe_stands x).trans (Dev.silenceProbe_beside (keep := Off lossIds) _ _).jobStands).trans
        (Dev.raiseSlot_beside _ (List.Subset.refl lossIds) _ _ _).jobStands

/-! ### The lanes of a job (R470) -/

theorem Dev.takeLane_beside (d : Dev) (l slot ref fc rate st : Nat) (role : Bool × Bool) :
    Beside (OffLane l) d (d.takeLane l slot ref fc rate st role) :=
  ((((d.setAt_beside _ (by decide)).trans (Dev.setAt_beside _ _ (by decide))).trans (Dev.updLane_beside _ l _)).trans
    ((Dev.passLock_beside _ false).widen (by decide))).trans
    (((Dev.staleIso_beside _ 1).widen (by decide)).trans ((Dev.setLaneState_beside _ st (some 1)).widen (by decide)))

theorem Dev.takeLane_state (d : Dev) {l : Nat} (hl : l < 8) (slot ref fc rate st : Nat) (role : Bool × Bool) :
    (d.takeLane l slot ref fc rate st role).laneState l = st :=
  Dev.setLaneState_state _ hl st (some 1)

/-- The work on one lane leaves the state of another. -/
theorem Beside.laneState_ne {d e : Dev} {l k : Nat} (h : Beside (OffLane l) d e) (hl : l < 8) (hk : k < 8) (hne : k ≠ l) :
    e.laneState k = d.laneState k :=
  h.getN ⟨⟨by omega, by omega⟩, by decide, fun _ => hne⟩

theorem Dev.returnLane_beside (d : Dev) (x : Nat × Nat × Nat × Nat) : Beside (OffLane x.1) d (d.returnLane x) := by
  have htuned : Beside (OffLane x.1) d (((d.updLane x.1 (fun y => { y with survey := none, probing := false, role := (false, true) })).set
      pLaneFreq x.1 x.2.2.1).set pLaneRate x.1 x.2.2.2) :=
    ((d.updLane_beside x.1 _).trans (Dev.setAt_beside _ _ (by decide))).trans (Dev.setAt_beside _ _ (by decide))
  unfold Dev.returnLane
  dsimp only
  split
  · exact htuned
  · split
    · exact htuned.trans (((Dev.passLock_beside _ false).widen (by decide)).trans ((Dev.setLaneState_beside _ 4 (some 1)).widen (by decide)))
    · exact htuned.trans ((Dev.setLaneState_beside _ _ (some 1)).widen (by decide))

/-! ### The end of a job (R472, R475, R490) -/

/-- A job's probe, requests and capture ended and its lanes returned. -/
def Dev.haltSurvey (d : Dev) (x : Survey) (probeEnd : Nat) : Dev :=
  x.held.foldl Dev.returnLane (((d.endProbe x probeEnd).endCapture x).withdrawRequest .probe x.slot x.ref)

/-- A job taken from the open ones, and its result kept. -/
def Dev.closeSurvey (d : Dev) (x y : Survey) : Dev :=
  let d1 : Dev := { d with sv := { d.sv with jobs := d.sv.jobs.filter (fun z => !(z.slot = x.slot && z.ref = x.ref)) } }
  (d1.set pSurveyOpen x.slot (d1.surveyCount x.slot : Nat)).keepResult x.slot { id := y.id, kind := y.kind, data := y.data }

/-- A job's long command, where it is open, completed. -/
def Dev.completeSurvey (d : Dev) (x : Survey) (rep : Reply) : Dev :=
  match d.longOf x.slot x.ref with
  | some l => d.complete l rep
  | none => d

theorem Dev.endSurvey_eq (d : Dev) (x : Survey) (st : Status) (aborted : Bool) (probeEnd reason : Nat) :
    d.endSurvey x st aborted probeEnd reason =
      (((d.haltSurvey x probeEnd).closeSurvey x (((d.haltSurvey x probeEnd).survey x.slot x.ref).getD x)).completeSurvey x
        (if st = .ok then okBody (d.surveyBody (((d.haltSurvey x probeEnd).survey x.slot x.ref).getD x) aborted) else fail st)).endJob
        x.slot x.job reason := rfl

theorem Dev.haltSurvey_stands (d : Dev) (x : Survey) (probeEnd : Nat) : JobStands x.slot x.ref d (d.haltSurvey x probeEnd) := by
  have hreturned (e : Dev) : Beside (fun _ _ => False) e (x.held.foldl Dev.returnLane e) :=
    .foldl (fun e y _ => (e.returnLane_beside y).mono fun _ _ h => h.elim) e
  exact (((d.endProbe_stands x probeEnd).trans (Dev.endCapture_stands _ x)).trans (Dev.withdrawRequest_stands _ _ _ _)).trans
    (hreturned _).jobStands

theorem Dev.closeSurvey_survey (d : Dev) (x y : Survey) : (d.closeSurvey x y).survey x.slot x.ref = none := by
  change (d.sv.jobs.filter _).find? _ = none
  refine List.find?_eq_none.2 fun z hz hmatch => ?_
  obtain ⟨-, hother⟩ := List.mem_filter.1 hz
  rw [hmatch] at hother
  exact absurd hother (by decide)

theorem Dev.closeSurvey_results {d : Dev} {x : Survey} (y : Survey) (h : x.slot < d.sv.results.length) :
    (nth (d.closeSurvey x y).sv.results x.slot).getLast? = some { id := y.id, kind := y.kind, data := y.data } := by
  change (nth (upd d.sv.results x.slot _) x.slot).getLast? = _
  rw [nth_upd_same _ h]
  exact List.getLast?_concat

theorem Dev.completeSurvey_sv (d : Dev) (x : Survey) (rep : Reply) : (d.completeSurvey x rep).sv = d.sv := by
  unfold Dev.completeSurvey
  split <;> rfl

/-- What the end of a job leaves: the job open no more, its completion the last entry queued, its result the last one kept. -/
structure JobEnded (slot ref : Nat) (x : Survey) (st : Status) (d e : Dev) : Prop where
  survey : e.survey slot ref = none
  refused : st ≠ .ok → ∀ c, d.longOf slot ref = some c → Ended c (fail st) e
  done : st = .ok → ∀ c, d.longOf slot ref = some c → ∃ body, Ended c (okBody body) e ∧ body.take 4 = e32 x.id
  result : slot < d.sv.results.length → (nth e.sv.results slot).getLast?.map (fun y => (y.id, y.kind)) = some (x.id, x.kind)

/-- The first field of every completion body is the survey_id (Table SV-5). -/
theorem Dev.surveyBody_id (d : Dev) (x : Survey) (aborted : Bool) : (d.surveyBody x aborted).take 4 = e32 x.id := by
  have hid (l : List Byte) : (e32 x.id ++ l).take 4 = e32 x.id := List.take_left' rfl
  unfold Dev.surveyBody
  dsimp only
  split
  · simp only [List.append_assoc, hid]
  · split <;> simp only [List.append_assoc, hid]

theorem Ended.beside {keep : Nat → Nat → Prop} {l : LongCmd} {rep : Reply} {d e : Dev} (h : Ended l rep d) (hb : Beside keep d e) :
    Ended l rep e :=
  ⟨by rw [hb.outbox]; exact h.1, (hb.longOf _ _).trans h.2⟩

theorem Dev.endSurvey_ends {d : Dev} {slot ref : Nat} {x : Survey} (hslot : slot < 8) (hx : d.survey slot ref = some x) (st : Status)
    (aborted : Bool) (probeEnd reason : Nat) : JobEnded slot ref x st d (d.endSurvey x st aborted probeEnd reason) := by
  obtain ⟨rfl, rfl⟩ := Dev.survey_found hx
  have hstands := d.haltSurvey_stands x probeEnd
  obtain ⟨y, hy, hid, hkind, -⟩ := hstands.job x hx
  rw [Dev.endSurvey_eq, hy, Option.getD_some]
  set closed := (d.haltSurvey x probeEnd).closeSurvey x y
  set rep : Reply := if st = .ok then okBody (d.surveyBody y aborted) else fail st
  have hended := (closed.completeSurvey x rep).endJob_beside hslot x.job reason
  have hsv := hended.sv.trans (closed.completeSurvey_sv x rep)
  have hlong (c : LongCmd) (hc : d.longOf x.slot x.ref = some c) :
      Ended c rep ((closed.completeSurvey x rep).endJob x.slot x.job reason) := by
    have hopen : closed.longOf x.slot x.ref = some c := by
      rw [← hc, Dev.longOf, Dev.longOf, ← hstands.longs]
      rfl
    refine Ended.beside ?_ hended
    rw [Dev.completeSurvey, hopen]
    exact closed.complete_ended c rep
  refine ⟨(Dev.survey_of_sv hsv _ _).trans (Dev.closeSurvey_survey _ x y), fun hst c hc => ?_, fun hst c hc => ?_, fun hlen => ?_⟩
  · simpa [rep, hst] using hlong c hc
  · exact ⟨d.surveyBody y aborted, by simpa [rep, hst] using hlong c hc, by rw [Dev.surveyBody_id, hid]⟩
  · rw [hsv, Dev.closeSurvey_results y (by rw [hstands.results]; exact hlen), Option.map_some, hid, hkind]

end Sys2Proof.Machine
end

section
/-! PROOF. Surveys, their reports and their ends: O57. -/

namespace Sys2Proof.Machine

/-! ### The refusals every survey command shares (Table SV-6) -/

/-- What a survey command answers before its own reasons: BUSY at four open jobs, STATE for a lane that cannot serve, THERMAL, BAD_ARG. -/
def Dev.surveyRefusal (d : Dev) (slot : Nat) (serve args : Bool) : Option Status :=
  if 4 ≤ d.surveyCount slot then some .busy
  else if serve = false then some .state
  else if d.get pThermalState = 2 then some .thermal
  else if args = false then some .badArg
  else none

/-- A survey command whose own part is `go`. -/
def Dev.surveyRun (d : Dev) (slot : Nat) (serve args : Bool) (go : Answer) : Answer :=
  match d.surveyRefusal slot serve args with
  | some st => refuse d (fail st)
  | none => go

theorem Dev.surveyRun_eq (d : Dev) (slot : Nat) {serve args : Bool} (go : Answer) {unserved : Bool} (h : unserved = !serve) :
    (if 4 ≤ d.surveyCount slot then refuse d (fail .busy)
      else if unserved then refuse d (fail .state)
      else if d.get pThermalState = 2 then refuse d (fail .thermal)
      else if !args then refuse d (fail .badArg)
      else go) = d.surveyRun slot serve args go := by
  subst h
  unfold Dev.surveyRun Dev.surveyRefusal
  by_cases hbusy : 4 ≤ d.surveyCount slot
  · simp [hbusy]
  · cases serve
    · simp [hbusy]
    · by_cases hhot : d.get pThermalState = 2
      · simp [hbusy, hhot]
      · cases args <;> simp [hbusy, hhot]

theorem Dev.surveyRun_go {d : Dev} {slot : Nat} {serve args : Bool} {go : Answer} (hopen : d.surveyCount slot < 4)
    (hcool : d.get pThermalState ≠ 2) (hserve : serve = true) (hargs : args = true) : d.surveyRun slot serve args go = go := by
  simp [Dev.surveyRun, Dev.surveyRefusal, Nat.not_le.2 hopen, hcool, hserve, hargs]

/-- The four refusals, in their order. -/
theorem surveyRun_refuses {c : CmdSpec} {r : Request} {s : State} {serve args : Bool} {go : Answer} (ht : Takes c s r)
    (hrun : c.run { s.dev with cause := some (r.slot, r.ref) } r =
      ({ s.dev with cause := some (r.slot, r.ref) } : Dev).surveyRun r.slot serve args go) :
    (4 ≤ s.dev.surveyCount r.slot → s.act (hostCmd c r) = .next (s.on (s.dev.respond r c.opcode (fail .busy)))) ∧
    (s.dev.surveyCount r.slot < 4 → serve = false → s.act (hostCmd c r) = .next (s.on (s.dev.respond r c.opcode (fail .state)))) ∧
    (s.dev.surveyCount r.slot < 4 → serve = true → s.dev.get pThermalState = 2 →
      s.act (hostCmd c r) = .next (s.on (s.dev.respond r c.opcode (fail .thermal)))) ∧
    (s.dev.surveyCount r.slot < 4 ∧ s.dev.get pThermalState ≠ 2 → serve = true → args = false →
      s.act (hostCmd c r) = .next (s.on (s.dev.respond r c.opcode (fail .badArg)))) := by
  have hsays (st : Status) (hst : st ≠ .ok ∧ st ≠ .accepted) (href : s.dev.surveyRefusal r.slot serve args = some st) :
      s.act (hostCmd c r) = .next (s.on (s.dev.respond r c.opcode (fail st))) := by
    refine act_refuses ht (hrun.trans ?_) hst rfl
    rw [Dev.surveyRun, show ({ s.dev with cause := some (r.slot, r.ref) } : Dev).surveyRefusal r.slot serve args = some st from href]
  refine ⟨fun h => hsays _ (by decide) ?_, fun h hserve => hsays _ (by decide) ?_, fun h hserve hhot => hsays _ (by decide) ?_,
    fun ⟨h, hcool⟩ hserve hargs => hsays _ (by decide) ?_⟩
  · simp [Dev.surveyRefusal, h]
  · simp [Dev.surveyRefusal, Nat.not_le.2 h, hserve]
  · simp [Dev.surveyRefusal, Nat.not_le.2 h, hserve, hhot]
  · simp [Dev.surveyRefusal, Nat.not_le.2 h, hserve, hcool, hargs]

/-! ### Jobs opened (R472 to R475) -/

/-- A job that does not start is a refusal of the command. -/
theorem Dev.startJob_error {d : Dev} {slot handle : Nat} {j : Job} {rep : Reply} (h : d.startJob slot handle j = .error rep) :
    rep.status ≠ .ok := by
  unfold Dev.startJob at h
  dsimp only at h
  split at h
  · cases h
    decide
  · split at h
    · split at h
      · next hrefused =>
        cases h
        unfold Dev.admitRefusal at hrefused
        split at hrefused
        · cases hrefused
          exact (nofun : Status.notYet ≠ .ok)
        · split_ifs at hrefused <;> cases hrefused <;> exact nofun
      · cases h
    · split at h
      · split at h <;> cases h
        decide
      · cases h
        decide

/-- What a survey command that is ACCEPTED leaves: its job open under the slot's next survey_id, and nothing queued yet. -/
structure JobOpened (r : Request) (kind job bound : Nat) (d e : Dev) : Prop where
  outbox : e.host.outbox = d.host.outbox
  survey : ∃ x, e.survey r.slot r.ref = some x ∧ x.id = nth d.sv.next r.slot ∧ x.kind = kind ∧ x.job = job ∧ x.bound = bound ∧
    x.since = d.time ∧ x.body = r.body ∧ (x.kind ≠ 3 → x.rx ≠ 255 → x.start = some d.time)

/-- ACCEPTED is queued with the job open. -/
theorem JobOpened.accepts {r : Request} {op kind job bound : Nat} {d e : Dev} (h : JobOpened r kind job bound d e) :
    (e.accept r op bound).host.outbox = d.host.outbox ++ [answer r op (accepted bound)] ∧ ∃ x, (e.accept r op bound).survey r.slot r.ref = some x ∧
      x.id = nth d.sv.next r.slot ∧ x.kind = kind ∧ x.job = job ∧ x.bound = bound ∧ x.since = d.time ∧ x.body = r.body ∧
      (x.kind ≠ 3 → x.rx ≠ 255 → x.start = some d.time) :=
  ⟨congrArg (· ++ [answer r op (accepted bound)]) h.outbox, h.survey⟩

theorem Dev.accept_laneState (d : Dev) {r : Request} (op bound : Nat) (hslot : r.slot < 8) {l : Nat} (hl : l < 65536) :
    (d.accept r op bound).laneState l = d.laneState l :=
  (Dev.set_samePar _ pLongCmdsOpen _ (by omega)).getN_eq (by decide) hl

/-- The job of a SCAN_START or CELL_SEARCH. -/
def Dev.receiverSurvey (d : Dev) (r : Request) (kind job bound need segs total : Nat) : Survey :=
  { slot := r.slot, ref := r.ref, kind := kind, job := job, bound := bound, rx := rq r 0 1, body := r.body, need := need, total := total
    segments := segs, held := if rq r 0 1 = 255 then [] else [d.laneHeld (rq r 0 1)] }

/-- The own part of SCAN_START and CELL_SEARCH: WOULD_EXCEED, the ledger's job, and the survey job on its receiver. -/
def Dev.startSurvey (d : Dev) (r : Request) (kind bound : Nat) (service : Bool) (q : Job × Nat × Nat × Nat) : Answer :=
  if rq r 0 1 = 255 && d.get pMode = 0 && shareUnits .scan (d.share r.slot 1) < q.2.2.1 then refuse d (fail .wouldExceed)
  else match d.startJob r.slot (rq r 2 2) q.1 with
  | .error rep => refuse d rep
  | .ok (h, d1) =>
    { dev := (d1.openSurvey (d1.receiverSurvey r kind h bound q.2.2.1 q.2.1 q.2.2.2)).launch r.slot r.ref service, reply := accepted bound }

theorem scanStart_run (d : Dev) (r : Request) : cmdScanStart.run d r =
    d.surveyRun r.slot (rq r 0 1 = 255 || d.laneServes (rq r 0 1)) (d.scanArgs r.body)
      (d.startSurvey r 1 (if rq r 0 1 = 255 then scanBound (d.scanJob r.body).2.2.2 (shareUnits .scan (d.share r.slot 1)) else 1050)
        (bit (rq r 28 1) 0) (d.scanJob r.body)) :=
  d.surveyRun_eq r.slot _ (by simp)

/-- The ticks that a cell search needs of the SCAN lane. -/
def cellTicks (r : Request) : Nat := if rq r 0 1 = 255 then 4 * rq r 12 4 else 0

theorem cellSearch_run (d : Dev) (r : Request) : cmdCellSearch.run d r =
    d.surveyRun r.slot (rq r 0 1 = 255 || d.laneServes (rq r 0 1)) (d.cellArgs r.body)
      (d.startSurvey r 2 (if rq r 0 1 = 255 then scanBound (cellTicks r) (shareUnits .scan (d.share r.slot 1)) else 1050)
        (bit (rq r 17 1) 0) (cellJob r.body, 1, 4 * rq r 12 4, cellTicks r)) := by
  have hbound : (if rq r 0 1 = 255 then scanBound (cellTicks r) (shareUnits .scan (d.share r.slot 1)) else 1050) =
      if rq r 0 1 = 255 then scanBound (4 * rq r 12 4) (shareUnits .scan (d.share r.slot 1)) else 1050 := by
    unfold cellTicks
    split <;> rfl
  rw [hbound]
  exact d.surveyRun_eq r.slot _ (by simp)

/-- A job as its opening leaves it: its survey_id and its time. -/
def Survey.opened (x : Survey) (d : Dev) : Survey := { x with id := nth d.sv.next x.slot, since := d.time }

/-- A job whose capture begins: its start, and the clock as R480 reports it. -/
def Survey.began (x : Survey) (d : Dev) : Survey :=
  { x with
    start := some d.time, firstStart := some (x.firstStart.getD d.ts)
    clock := if x.firstStart.isSome then x.clock else (d.clk.state.code, (d.clk.selected).getD 255, d.clk.word)
    absolute := d.clk.state = .locked && (d.clk.selected = some 0 || d.clk.selected = some 3) }

theorem Dev.launch_scan {d : Dev} {slot ref : Nat} {x : Survey} (service : Bool) (hx : d.survey slot ref = some x) (hrx : x.rx = 255) :
    d.launch slot ref service = d.request .scan slot ref x.need := by
  rw [Dev.launch, hx]
  exact if_pos hrx

/-- A job's lane in LISTEN on its antenna. -/
def Dev.listenLane (d : Dev) (slot ref l : Nat) (service : Bool) : Dev :=
  d.takeLane l slot ref (d.getN pLaneFreq l) (d.getN pLaneRate l) 4 (service, true)

theorem Dev.launch_lane {d : Dev} {slot ref : Nat} {x : Survey} (service : Bool) (hx : d.survey slot ref = some x) (hrx : x.rx ≠ 255) :
    d.launch slot ref service = (d.listenLane slot ref x.rx service).beginCapture x := by
  rw [Dev.launch, hx]
  exact if_neg hrx

/-- A capture on a lane that has begun changes its job alone. -/
theorem Dev.beginCapture_lane {d : Dev} {x : Survey} (hkind : x.kind ≠ 3) (hrx : x.rx ≠ 255) :
    d.beginCapture x = d.updSurvey x.slot x.ref (fun y => y.began d) := by
  rw [Dev.beginCapture, if_neg hkind, if_neg hrx]
  rfl

/-- A job on the SCAN lane asks for its ticks; one on a lane has the lane in LISTEN and its capture begun (R470, R471). -/
theorem Dev.launch_opened {d d1 : Dev} {r : Request} {kind h bound need segs total : Nat} (service : Bool) (hkind : kind ≠ 3)
    (hfree : d1.survey r.slot r.ref = none) (hhost : d1.host.outbox = d.host.outbox) (hsv : d1.sv = d.sv) (htime : d1.time = d.time)
    (hrx : isReceiver (rq r 0 1) = true) :
    let e := (d1.openSurvey (d1.receiverSurvey r kind h bound need segs total)).launch r.slot r.ref service
    JobOpened r kind h bound d e ∧
      (rq r 0 1 = 255 → ∃ q ∈ e.sched.fresh, q.res = .scan ∧ q.slot = r.slot ∧ q.ref = r.ref ∧ q.need = need) ∧
      (rq r 0 1 ≠ 255 → e.laneState (rq r 0 1) = 4) := by
  set x := d1.receiverSurvey r kind h bound need segs total
  have hopen : (d1.openSurvey x).survey r.slot r.ref = some (x.opened d1) := Dev.survey_openSurvey (x := x) hfree
  have hid : nth d1.sv.next r.slot = nth d.sv.next r.slot := by rw [hsv]
  intro e
  by_cases hscan : rq r 0 1 = 255
  · have he : e = (d1.openSurvey x).request .scan r.slot r.ref need := Dev.launch_scan service hopen hscan
    rw [he]
    exact ⟨⟨hhost, x.opened d1, hopen, hid, rfl, rfl, rfl, htime, rfl, fun _ hne => absurd hscan hne⟩,
      fun _ => ⟨_, List.mem_append_right _ (List.mem_singleton_self _), rfl, rfl, rfl, rfl⟩, fun hne => absurd hscan hne⟩
  · have hl : rq r 0 1 < 8 := by simpa [isReceiver, hscan] using hrx
    obtain ⟨placed, hdef⟩ : ∃ placed, placed = (d1.openSurvey x).listenLane r.slot r.ref (rq r 0 1) service := ⟨_, rfl⟩
    have hplaced : Beside (OffLane (rq r 0 1)) (d1.openSurvey x) placed := hdef ▸ Dev.takeLane_beside _ _ _ _ _ _ _ _
    have hstate : placed.laneState (rq r 0 1) = 4 := hdef ▸ Dev.takeLane_state _ hl _ _ _ _ _ _
    have he : e = placed.updSurvey r.slot r.ref (fun y => y.began placed) := by
      rw [hdef]
      exact (Dev.launch_lane service hopen hscan).trans (Dev.beginCapture_lane hkind hscan)
    have hbegan : e.survey r.slot r.ref = some ((x.opened d1).began placed) := by
      rw [he, Dev.survey_updSurvey (f := fun y => y.began placed) _ _ _ fun _ => ⟨rfl, rfl⟩, hplaced.survey, hopen]
      rfl
    refine ⟨⟨?_, _, hbegan, hid, rfl, rfl, rfl, htime, rfl, fun _ _ => ?_⟩, fun hne => absurd hne hscan, fun _ => ?_⟩
    · rw [he]
      exact hplaced.outbox.trans hhost
    · exact congrArg some (hplaced.time.trans htime)
    · rw [he]
      exact hstate

section StartSurvey
variable {d : Dev} {r : Request} {kind bound : Nat} {service : Bool} {q : Job × Nat × Nat × Nat}

/-- In BRIDGE mode the slot's reservation of the SCAN lane holds less than one request of the job (R471). -/
def Dev.beyondShare (d : Dev) (r : Request) (need : Nat) : Prop :=
  rq r 0 1 = 255 ∧ d.get pMode = 0 ∧ shareUnits .scan (d.share r.slot 1) < need

theorem Dev.startSurvey_beyond (h : d.beyondShare r q.2.2.1) : d.startSurvey r kind bound service q = refuse d (fail .wouldExceed) :=
  if_pos (by simpa [Dev.beyondShare, and_assoc] using h)

theorem Dev.startSurvey_error {rep : Reply} (h : ¬d.beyondShare r q.2.2.1) (herr : d.startJob r.slot (rq r 2 2) q.1 = .error rep) :
    d.startSurvey r kind bound service q = refuse d rep := by
  rw [Dev.startSurvey, if_neg (by simpa [Dev.beyondShare, and_assoc] using h), herr]

theorem Dev.startSurvey_ok {n : Nat} {d1 : Dev} (h : ¬d.beyondShare r q.2.2.1) (hok : d.startJob r.slot (rq r 2 2) q.1 = .ok (n, d1)) :
    d.startSurvey r kind bound service q =
      { dev := (d1.openSurvey (d1.receiverSurvey r kind n bound q.2.2.1 q.2.1 q.2.2.2)).launch r.slot r.ref service
        reply := accepted bound } := by
  rw [Dev.startSurvey, if_neg (by simpa [Dev.beyondShare, and_assoc] using h), hok]

end StartSurvey

/-- SCAN_START and CELL_SEARCH past the refusals they share. -/
theorem startSurvey_takes {c : CmdSpec} {r : Request} {s : State} {serve args service : Bool} {kind bound : Nat} {q : Job × Nat × Nat × Nat}
    (ht : Takes c s r) (hslot : r.slot < 8) (hnvm : c.nvm s.dev r = false) (hkind : kind ≠ 3) (hrx : isReceiver (rq r 0 1) = true)
    (hrun : c.run { s.dev with cause := some (r.slot, r.ref) } r =
      ({ s.dev with cause := some (r.slot, r.ref) } : Dev).surveyRun r.slot serve args
        (({ s.dev with cause := some (r.slot, r.ref) } : Dev).startSurvey r kind bound service q))
    (hclear : s.dev.surveyCount r.slot < 4 ∧ s.dev.get pThermalState ≠ 2) (hserve : serve = true) (hargs : args = true) :
    (s.dev.beyondShare r q.2.2.1 → s.act (hostCmd c r) = .next (s.on (s.dev.respond r c.opcode (fail .wouldExceed)))) ∧
    (∀ rep, ¬s.dev.beyondShare r q.2.2.1 → s.dev.startJob r.slot (rq r 2 2) q.1 = .error rep → rep.blk = [] → rep.status ≠ .accepted →
      s.act (hostCmd c r) = .next (s.on (s.dev.respond r c.opcode rep))) ∧
    (∀ h d1, ¬s.dev.beyondShare r q.2.2.1 → s.dev.startJob r.slot (rq r 2 2) q.1 = .ok (h, d1) → s.dev.survey r.slot r.ref = none →
      ∃ e, s.act (hostCmd c r) = .next (s.on e) ∧
        (e.host.outbox = s.dev.host.outbox ++ [answer r c.opcode (accepted bound)] ∧ ∃ x, e.survey r.slot r.ref = some x ∧
          x.id = nth s.dev.sv.next r.slot ∧ x.kind = kind ∧ x.job = h ∧ x.bound = bound ∧ x.since = s.dev.time ∧ x.body = r.body ∧
          (x.kind ≠ 3 → x.rx ≠ 255 → x.start = some s.dev.time)) ∧
        (rq r 0 1 = 255 → ∃ p ∈ e.sched.fresh, p.res = .scan ∧ p.slot = r.slot ∧ p.ref = r.ref ∧ p.need = q.2.2.1) ∧
        (rq r 0 1 ≠ 255 → e.laneState (rq r 0 1) = 4)) := by
  have hmarked := s.dev.startJob_marked (some (r.slot, r.ref)) r.slot (rq r 2 2) q.1
  replace hrun := hrun.trans (Dev.surveyRun_go (d := { s.dev with cause := some (r.slot, r.ref) }) hclear.1 hclear.2 hserve hargs)
  refine ⟨fun hb => act_refuses ht (hrun.trans (Dev.startSurvey_beyond hb)) (by decide) rfl,
    fun rep hb herr hblk hst => act_refuses ht (hrun.trans (Dev.startSurvey_error hb ?_)) ⟨Dev.startJob_error herr, hst⟩ hblk,
    fun h d1 hb hok hfree => ?_⟩
  · rw [hmarked, herr]
    rfl
  · obtain ⟨g, rfl⟩ := Dev.startJob_updJobs hok
    rw [hok] at hmarked
    obtain ⟨hopened, hasks, hlane⟩ := Dev.launch_opened (d := s.dev) (d1 := { s.dev.updJobs r.slot g with cause := some (r.slot, r.ref) })
      (h := h) (bound := bound) (need := q.2.2.1) (segs := q.2.1) (total := q.2.2.2) service hkind hfree rfl rfl rfl hrx
    exact ⟨_, act_accepts ht (hrun.trans (Dev.startSurvey_ok hb hmarked)) (.inl hnvm), JobOpened.accepts ⟨hopened.outbox, hopened.survey⟩, hasks,
      fun hne => (Dev.accept_laneState _ _ _ hslot ((rq_one_lt r 0).trans (by decide))).trans (hlane hne)⟩


/-! ### ISOLATION_PROBE (R483 to R485) -/

/-- The probe's channel lies in a range that the transmitter's lane was assigned. -/
def Dev.probeOwned (d : Dev) (r : Request) : Bool :=
  (nth d.ranges (rq r 0 1)).any (fun o => match o with
    | some (a, b) => decide (a + halfBand (rq r 12 1) ≤ rq r 4 8 ∧ rq r 4 8 + halfBand (rq r 12 1) ≤ b)
    | none => false)

/-- A permit that has lapsed covers the probe's channel. -/
def Dev.probeLapsed (d : Dev) (r : Request) : Bool :=
  (d.probeEntry r.slot (rq r 4 8) (rq r 12 1) .expired).isSome || (d.probeEntry r.slot (rq r 4 8) (rq r 12 1) .revoked).isSome

/-- The gain of the antenna a probe transmits on. -/
def Dev.probeAntenna (d : Dev) (r : Request) : Int :=
  match (d.lane (rq r 0 1)).table with
  | some t => if rq r 13 1 = 1 then t.antService else t.antDonor
  | none => 0

/-- The level a permit's entry leaves a probe. -/
def Dev.probeTop (d : Dev) (r : Request) (band : PermitBand) : Int := min (d.get pProbeMaxLevel) (band.maxEirp - d.probeAntenna r)

/-- The bound of a probe. -/
def Dev.probeBound (d : Dev) (slot : Nat) : Nat := if 400 ≤ d.sched.left .probe slot then 1050 else 600000

/-- The job of an ISOLATION_PROBE. -/
def Dev.probeSurvey (d : Dev) (r : Request) (job permit entry : Nat) : Survey :=
  { slot := r.slot, ref := r.ref, kind := 3, job := job, bound := d.probeBound r.slot, rx := rq r 1 1, tx := rq r 0 1, body := r.body
    need := 400, permit := permit, entry := entry
    held := if rq r 0 1 = rq r 1 1 then [d.laneHeld (rq r 0 1)] else [d.laneHeld (rq r 0 1), d.laneHeld (rq r 1 1)] }

/-- The lanes of a probe in their states: one lane in BRIDGE, or a transmitter and a receiver. -/
def Dev.placeProbe (d : Dev) (r : Request) : Dev :=
  if rq r 0 1 = rq r 1 1 then
    d.takeLane (rq r 0 1) r.slot r.ref (rq r 4 8) (rq r 12 1) 6 (rq r 14 1 = 1, rq r 13 1 = 1)
  else
    (d.takeLane (rq r 0 1) r.slot r.ref (rq r 4 8) (rq r 12 1) 5 (false, rq r 13 1 = 1)).takeLane (rq r 1 1) r.slot r.ref (rq r 4 8) (rq r 12 1) 4
      (rq r 14 1 = 1, true)

/-- The transmitter's TX entry and D for the probe's level. -/
def Dev.setProbeLevel (d : Dev) (r : Request) : Dev :=
  ((d.measure 1).2.set pTxEntry (rq r 0 1) ((d.measure 1).2.probeTx (rq r 0 1) (rqS r 16 2) : Nat)).set pDigitalGain (rq r 0 1)
    (clampI (-5120) 1536 (nth (d.measure 1).1 0))

/-- The probe on its way: its job open, its lanes placed and its time asked for. -/
def Dev.launchProbe (d : Dev) (r : Request) (x : Survey) : Dev :=
  (((d.openSurvey x).placeProbe r).setProbeLevel r).request .probe r.slot r.ref 400

/-- The own part of ISOLATION_PROBE: its permit, its level, the ledger's job, and the probe on its way. -/
def Dev.startProbe (d : Dev) (r : Request) : Answer :=
  match (if d.probeOwned r then d.probeEntry r.slot (rq r 4 8) (rq r 12 1) .active else none) with
  | none => refuse d (fail (if d.probeOwned r && d.probeLapsed r then .permitExpired else .noPermit))
  | some (h, k, band) =>
    if d.probeTop r band < rqS r 16 2 then refuse d (fail .badArg)
    else match d.startJob r.slot (rq r 2 2) (d.probeJob r.body) with
    | .error rep => refuse d rep
    | .ok (j, d1) => { dev := d1.launchProbe r (d1.probeSurvey r j h k), reply := accepted (d1.probeBound r.slot) }

/-- The lanes and the state of the block let a probe start. -/
def Dev.probeServes (d : Dev) (r : Request) : Bool :=
  d.laneServes (rq r 0 1) && d.laneServes (rq r 1 1) && (d.lane (rq r 0 1)).table.isSome && (d.lane (rq r 1 1)).table.isSome &&
    d.pwr.modeSet.isNone && d.pwr.sequence.isNone

theorem isolationProbe_run (d : Dev) (r : Request) : cmdIsolationProbe.run d r =
    d.surveyRun r.slot (d.probeServes r) (inTuningRange (rq r 4 8) (rq r 12 1)) (d.startProbe r) :=
  d.surveyRun_eq r.slot _ (by
    simp only [Dev.probeServes, Bool.not_and, Option.not_isSome, Option.not_isNone])

section StartProbe
variable {d : Dev} {r : Request}

theorem Dev.startProbe_unowned (h : d.probeOwned r = false) : d.startProbe r = refuse d (fail .noPermit) := by
  simp [Dev.startProbe, h]

theorem Dev.startProbe_uncovered (h : d.probeOwned r = true) (hnone : d.probeEntry r.slot (rq r 4 8) (rq r 12 1) .active = none) :
    d.startProbe r = refuse d (fail (if d.probeLapsed r then .permitExpired else .noPermit)) := by
  simp [Dev.startProbe, h, hnone]

variable {h k : Nat} {band : PermitBand}

theorem Dev.startProbe_high (howned : d.probeOwned r = true)
    (hentry : d.probeEntry r.slot (rq r 4 8) (rq r 12 1) .active = some (h, k, band)) (hlevel : d.probeTop r band < rqS r 16 2) :
    d.startProbe r = refuse d (fail .badArg) := by
  simp [Dev.startProbe, howned, hentry, hlevel]

theorem Dev.startProbe_error {rep : Reply} (howned : d.probeOwned r = true)
    (hentry : d.probeEntry r.slot (rq r 4 8) (rq r 12 1) .active = some (h, k, band)) (hlevel : rqS r 16 2 ≤ d.probeTop r band)
    (herr : d.startJob r.slot (rq r 2 2) (d.probeJob r.body) = .error rep) : d.startProbe r = refuse d rep := by
  simp [Dev.startProbe, howned, hentry, Int.not_lt.2 hlevel, herr]

theorem Dev.startProbe_ok {j : Nat} {d1 : Dev} (howned : d.probeOwned r = true)
    (hentry : d.probeEntry r.slot (rq r 4 8) (rq r 12 1) .active = some (h, k, band)) (hlevel : rqS r 16 2 ≤ d.probeTop r band)
    (hok : d.startJob r.slot (rq r 2 2) (d.probeJob r.body) = .ok (j, d1)) :
    d.startProbe r = { dev := d1.launchProbe r (d1.probeSurvey r j h k), reply := accepted (d1.probeBound r.slot) } := by
  simp [Dev.startProbe, howned, hentry, Int.not_lt.2 hlevel, hok]

end StartProbe

/-- Both lanes of a probe stand in their states, and the rest of the device as it was. -/
theorem Dev.placeProbe_states (d : Dev) {r : Request} (htx : rq r 0 1 < 8) (hrx : rq r 1 1 < 8) :
    Beside (Off laneWorkIds) d (d.placeProbe r) ∧ (d.placeProbe r).laneState (rq r 0 1) = (if rq r 0 1 = rq r 1 1 then 6 else 5) ∧
      (rq r 0 1 ≠ rq r 1 1 → (d.placeProbe r).laneState (rq r 1 1) = 4) := by
  unfold Dev.placeProbe
  by_cases hone : rq r 0 1 = rq r 1 1
  · rw [if_pos hone, if_pos hone]
    exact ⟨(Dev.takeLane_beside ..).offLanes htx, Dev.takeLane_state _ htx _ _ _ _ _ _, fun hne => absurd hone hne⟩
  · rw [if_neg hone, if_neg hone]
    have hreceiver := (d.takeLane (rq r 0 1) r.slot r.ref (rq r 4 8) (rq r 12 1) 5 (false, rq r 13 1 = 1)).takeLane_beside (rq r 1 1) r.slot r.ref
      (rq r 4 8) (rq r 12 1) 4 (rq r 14 1 = 1, true)
    refine ⟨((Dev.takeLane_beside ..).offLanes htx).trans (hreceiver.offLanes hrx), ?_, fun _ => Dev.takeLane_state _ hrx _ _ _ _ _ _⟩
    rw [hreceiver.laneState_ne hrx htx hone]
    exact Dev.takeLane_state _ htx _ _ _ _ _ _

theorem Dev.setProbeLevel_beside (d : Dev) {r : Request} (htx : rq r 0 1 < 8) : Beside (Off [pTxEntry, pDigitalGain]) d (d.setProbeLevel r) :=
  ((d.measure_beside 1).trans (Dev.setOff_beside _ _ _ (by decide) (by omega))).trans (Dev.setOff_beside _ _ _ (by decide) (by omega))

/-- A probe on its way is open, has asked for its time, and has its lanes in their states. -/
theorem Dev.launchProbe_opened {d d1 : Dev} {r : Request} {j h k : Nat} (hfree : d1.survey r.slot r.ref = none)
    (hhost : d1.host.outbox = d.host.outbox) (hsv : d1.sv = d.sv) (htime : d1.time = d.time) (htx : rq r 0 1 < 8) (hrx : rq r 1 1 < 8) :
    let e := d1.launchProbe r (d1.probeSurvey r j h k)
    JobOpened r 3 j (d1.probeBound r.slot) d e ∧
      (∃ q ∈ e.sched.fresh, q.res = .probe ∧ q.slot = r.slot ∧ q.ref = r.ref ∧ q.need = 400) ∧
      e.laneState (rq r 0 1) = (if rq r 0 1 = rq r 1 1 then 6 else 5) ∧ (rq r 0 1 ≠ rq r 1 1 → e.laneState (rq r 1 1) = 4) := by
  intro e
  have hopen : (d1.openSurvey (d1.probeSurvey r j h k)).survey r.slot r.ref = some ((d1.probeSurvey r j h k).opened d1) :=
    Dev.survey_openSurvey (x := d1.probeSurvey r j h k) hfree
  obtain ⟨hplaced, htransmits, hreceives⟩ := (d1.openSurvey (d1.probeSurvey r j h k)).placeProbe_states htx hrx
  have hlevelled := ((d1.openSurvey (d1.probeSurvey r j h k)).placeProbe r).setProbeLevel_beside htx
  have hstate (l : Nat) (hl : l < 8) : e.laneState l = ((d1.openSurvey (d1.probeSurvey r j h k)).placeProbe r).laneState l :=
    hlevelled.getN ⟨by omega, by decide⟩
  refine ⟨⟨hlevelled.outbox.trans (hplaced.outbox.trans hhost), _, (hlevelled.survey _ _).trans ((hplaced.survey _ _).trans hopen), ?_, rfl, rfl,
    rfl, htime, rfl, fun hne => absurd rfl hne⟩, ⟨_, List.mem_append_right _ (List.mem_singleton_self _), rfl, rfl, rfl, rfl⟩,
    (hstate _ htx).trans htransmits, fun hne => (hstate _ hrx).trans (hreceives hne)⟩
  rw [Survey.opened, hsv]
  rfl

/-- Where the first item of step 7 is in its range, the rest are judged. -/
theorem firstBad_rest {b : List Byte} {o : Nat} {ok : Bool} {cs : List Chk} (h : firstBad b (.rg o ok :: cs) = none) : firstBad b cs = none := by
  cases ok
  · cases h
  · exact h

/-- The lanes of a probe that is carried out. -/
theorem isolationProbe_lanes {s : State} {r : Request} (ht : Takes cmdIsolationProbe s r) : rq r 0 1 < 8 ∧ rq r 1 1 < 8 :=
  ⟨of_decide_eq_true (firstBad_first ht.bad_none), of_decide_eq_true (firstBad_first (firstBad_rest ht.bad_none))⟩

/-- ISOLATION_PROBE past the refusals it shares with the other survey commands. -/
theorem isolationProbe_own {s : State} {r : Request}
    (hclear : s.dev.surveyCount r.slot < 4 ∧ s.dev.get pThermalState ≠ 2) (hserve : s.dev.probeServes r = true)
    (hrange : inTuningRange (rq r 4 8) (rq r 12 1) = true) :
    cmdIsolationProbe.run { s.dev with cause := some (r.slot, r.ref) } r =
      ({ s.dev with cause := some (r.slot, r.ref) } : Dev).startProbe r :=
  (isolationProbe_run _ r).trans (Dev.surveyRun_go (d := { s.dev with cause := some (r.slot, r.ref) }) hclear.1 hclear.2 hserve hrange)

section IsolationProbe
variable {s : State} {r : Request} {h k : Nat} {band : PermitBand} (ht : Takes cmdIsolationProbe s r)
  (hown : cmdIsolationProbe.run { s.dev with cause := some (r.slot, r.ref) } r =
      ({ s.dev with cause := some (r.slot, r.ref) } : Dev).startProbe r)
  (howned : s.dev.probeOwned r = true) (hentry : s.dev.probeEntry r.slot (rq r 4 8) (rq r 12 1) .active = some (h, k, band))
  (hlevel : rqS r 16 2 ≤ s.dev.probeTop r band)
include ht hown howned hentry hlevel

theorem isolationProbe_error {rep : Reply} (herr : s.dev.startJob r.slot (rq r 2 2) (s.dev.probeJob r.body) = .error rep) (hblk : rep.blk = [])
    (hst : rep.status ≠ .accepted) : exec (.isolationProbe r) s = .next (s.on (s.dev.respond r 0x0B03 rep)) := by
  refine act_refuses ht (hown.trans (Dev.startProbe_error howned hentry hlevel ?_)) ⟨Dev.startJob_error herr, hst⟩ hblk
  exact (s.dev.startJob_marked (some (r.slot, r.ref)) r.slot (rq r 2 2) (s.dev.probeJob r.body)).trans (by rw [herr]; rfl)

theorem isolationProbe_ok {j : Nat} {d1 : Dev} (hslot : r.slot < 8) (hok : s.dev.startJob r.slot (rq r 2 2) (s.dev.probeJob r.body) = .ok (j, d1))
    (hfree : s.dev.survey r.slot r.ref = none) :
    ∃ e, exec (.isolationProbe r) s = .next (s.on e) ∧
      (e.host.outbox = s.dev.host.outbox ++ [answer r 0x0B03 (accepted (s.dev.probeBound r.slot))] ∧ ∃ x, e.survey r.slot r.ref = some x ∧
        x.id = nth s.dev.sv.next r.slot ∧ x.kind = 3 ∧ x.job = j ∧ x.bound = s.dev.probeBound r.slot ∧ x.since = s.dev.time ∧ x.body = r.body ∧
        (x.kind ≠ 3 → x.rx ≠ 255 → x.start = some s.dev.time)) ∧
      (∃ q ∈ e.sched.fresh, q.res = .probe ∧ q.slot = r.slot ∧ q.ref = r.ref ∧ q.need = 400) ∧
      e.laneState (rq r 0 1) = (if rq r 0 1 = rq r 1 1 then 6 else 5) ∧ (rq r 0 1 ≠ rq r 1 1 → e.laneState (rq r 1 1) = 4) := by
  obtain ⟨g, rfl⟩ := Dev.startJob_updJobs hok
  have hmarked : ({ s.dev with cause := some (r.slot, r.ref) } : Dev).startJob r.slot (rq r 2 2) (s.dev.probeJob r.body) =
      .ok (j, { s.dev.updJobs r.slot g with cause := some (r.slot, r.ref) }) := by
    rw [Dev.startJob_marked, hok]
    rfl
  obtain ⟨htx, hrx⟩ := isolationProbe_lanes ht
  obtain ⟨hopened, hasks, htransmits, hreceives⟩ := Dev.launchProbe_opened (d := s.dev)
    (d1 := { s.dev.updJobs r.slot g with cause := some (r.slot, r.ref) }) (j := j) (h := h) (k := k) hfree rfl rfl rfl htx hrx
  have hrun := hown.trans (Dev.startProbe_ok (d := { s.dev with cause := some (r.slot, r.ref) })
    (d1 := { s.dev.updJobs r.slot g with cause := some (r.slot, r.ref) }) howned hentry hlevel hmarked)
  exact ⟨_, act_accepts ht hrun (.inl rfl), JobOpened.accepts ⟨hopened.outbox, hopened.survey⟩, hasks,
    (Dev.accept_laneState _ _ _ hslot (by omega)).trans htransmits, fun hne => (Dev.accept_laneState _ _ _ hslot (by omega)).trans (hreceives hne)⟩

end IsolationProbe


/-! ### The segments of a scan (R47, R477, R478) -/

/-- An open job ends; where it is not open, nothing happens. -/
def Dev.endOpen (d : Dev) (slot ref : Nat) (st : Status) (probeEnd reason : Nat) : Dev :=
  match d.survey slot ref with
  | some y => d.endSurvey y st false probeEnd reason
  | none => d

/-- The points of the segment that a scan has come to. -/
def Dev.segmentPoints (d : Dev) (x : Survey) : Nat :=
  ((List.range (fld x.body 26 2)).filter (fun i => pointSegment (fld x.body 4 8) (fld x.body 12 8) (fld x.body 26 2)
    (160000000 * d.scanRate x.rx (fld x.body 20 4) / 245760000) x.segments i = x.done)).length

/-- The levels of a segment's points: measured, or −32,768 where the capture is invalid. -/
def Dev.segmentLevels (d : Dev) (x : Survey) (m : ScanCapture) : List Int :=
  (List.range (d.segmentPoints x)).map (fun i => if m.invalid.isSome then -32768
    else clampI (-32767) 32767 ((m.levels[i]?).getD (nth (d.measure (d.segmentPoints x)).1 i)))

/-- A scan with the points of one more segment. -/
def Survey.withSegment (x : Survey) (points : Nat) (levels : List Int) (m : ScanCapture) : Survey :=
  { x with
    done := x.done + 1, points := x.points + points, data := x.data ++ (levels.map s16).flatten
    used := x.used + (if x.rx = 255 then x.need else 0), flags := x.flags ||| m.clipped.toNat ||| (2 * m.invalid.isSome.toNat) }

/-- The segment's capture ended, and its points added. -/
def Dev.addSegment (d : Dev) (x : Survey) (m : ScanCapture) : Dev :=
  ((d.measure (d.segmentPoints x)).2.endCapture x).updSurvey x.slot x.ref
    (fun y => y.withSegment (d.segmentPoints x) (d.segmentLevels x m) m)

/-- An invalid segment is reported with the frequency of its centre. -/
def Dev.reportSegment (d : Dev) (x : Survey) (m : ScanCapture) (centre : Nat) : Dev :=
  match m.invalid with
  | some c => d.raiseSlot x.slot 0x0B81 (e32 x.id ++ e64 centre ++ e8 c)
  | none => d

/-- The centre of the segment that a scan has come to. -/
def Dev.segmentCentre (d : Dev) (x : Survey) : Nat :=
  min (fld x.body 12 8) (fld x.body 4 8 + x.done * (160000000 * d.scanRate x.rx (fld x.body 20 4) / 245760000) +
    160000000 * d.scanRate x.rx (fld x.body 20 4) / 245760000 / 2)

/-- The device once a segment's points are formed. -/
def Dev.formSegment (d : Dev) (x : Survey) (m : ScanCapture) : Dev := (d.addSegment x m).reportSegment x m (d.segmentCentre x)

/-- What follows a segment: the scan ends, or asks for its next one, or waits for its completion. -/
def Dev.followSegment (d : Dev) (x : Survey) : Dev :=
  if x.withdrawn then d.endOpen x.slot x.ref .denied 1 4
  else if x.done + 1 < x.segments then
    if d.get pMode = 0 && shareUnits .scan (d.share x.slot 1) < x.need then d.endOpen x.slot x.ref .wouldExceed 1 4
    else d.request .scan x.slot x.ref x.need
  else d

theorem scanSegmentDone_none {d : Dev} {slot ref : Nat} (m : ScanCapture) (hx : d.survey slot ref = none) : scanSegmentDone slot ref m d = d := by
  rw [scanSegmentDone, hx]

theorem scanSegmentDone_idle {d : Dev} {slot ref : Nat} {x : Survey} (m : ScanCapture) (hx : d.survey slot ref = some x)
    (h : ¬(x.kind = 1 ∧ x.start.isSome = true)) : scanSegmentDone slot ref m d = d := by
  rw [scanSegmentDone, hx]
  refine if_pos ?_
  by_cases hkind : x.kind = 1
  · simpa [hkind] using h
  · simp [hkind]

theorem scanSegmentDone_runs {d : Dev} {x : Survey} (m : ScanCapture) (hx : d.survey x.slot x.ref = some x) (hkind : x.kind = 1)
    (hstart : x.start.isSome = true) : scanSegmentDone x.slot x.ref m d = (d.formSegment x m).followSegment x := by
  rw [scanSegmentDone, hx]
  refine (if_neg (by simp [hkind, Option.isSome_iff_ne_none.1 hstart])).trans ?_
  rfl

theorem Dev.survey_endCapture {d : Dev} {x : Survey} (hx : d.survey x.slot x.ref = some x) :
    (d.endCapture x).survey x.slot x.ref = some { x with start := none } := by
  have hended : (d.updSurvey x.slot x.ref (fun y => { y with start := none })).survey x.slot x.ref = some { x with start := none } := by
    rw [Dev.survey_updSurvey (f := fun y => { y with start := none }) _ _ _ fun _ => ⟨rfl, rfl⟩, hx]
    rfl
  unfold Dev.endCapture
  dsimp only
  split <;> exact hended

theorem Dev.addSegment_survey {d : Dev} {x : Survey} (m : ScanCapture) (hx : d.survey x.slot x.ref = some x) :
    (d.addSegment x m).survey x.slot x.ref =
      some (({ x with start := none } : Survey).withSegment (d.segmentPoints x) (d.segmentLevels x m) m) := by
  have hended : ((d.measure (d.segmentPoints x)).2.endCapture x).survey x.slot x.ref = some { x with start := none } := Dev.survey_endCapture hx
  rw [Dev.addSegment, Dev.survey_updSurvey (f := fun y => y.withSegment (d.segmentPoints x) (d.segmentLevels x m) m) _ _ _ fun _ => ⟨rfl, rfl⟩, hended]
  rfl

theorem Dev.reportSegment_beside (d : Dev) (x : Survey) (m : ScanCapture) (centre : Nat) :
    Beside (Off lossIds) d (d.reportSegment x m centre) := by
  unfold Dev.reportSegment
  split
  · exact d.raiseSlot_beside (List.Subset.refl _) _ _ _
  · exact .refl _ d

theorem Dev.formSegment_survey {d : Dev} {x : Survey} (m : ScanCapture) (hx : d.survey x.slot x.ref = some x) :
    (d.formSegment x m).survey x.slot x.ref =
      some (({ x with start := none } : Survey).withSegment (d.segmentPoints x) (d.segmentLevels x m) m) :=
  (((d.addSegment x m).reportSegment_beside x m _).survey _ _).trans (Dev.addSegment_survey m hx)

theorem Dev.addSegment_stands (d : Dev) (x : Survey) (m : ScanCapture) : JobStands x.slot x.ref d (d.addSegment x m) :=
  (((d.measure_beside (keep := Off lossIds) (d.segmentPoints x)).jobStands).trans (Dev.endCapture_stands _ x)).trans
    (Dev.updSurvey_stands (g := fun y => y.withSegment (d.segmentPoints x) (d.segmentLevels x m) m) _ fun _ => ⟨rfl, rfl, rfl, rfl, rfl⟩)

theorem Dev.formSegment_stands (d : Dev) (x : Survey) (m : ScanCapture) : JobStands x.slot x.ref d (d.formSegment x m) :=
  (d.addSegment_stands x m).trans ((d.addSegment x m).reportSegment_beside x m _).jobStands

theorem Dev.endCapture_par (d : Dev) (x : Survey) : (d.endCapture x).par = d.par := by
  unfold Dev.endCapture
  dsimp only
  split <;> rfl

theorem Dev.formSegment_samePar (d : Dev) (x : Survey) (m : ScanCapture) : SamePar lossIds d (d.formSegment x m) := fun id i hid hi => by
  rw [Dev.formSegment, ((d.addSegment x m).reportSegment_beside x m _).par id i ⟨hi, hid⟩]
  exact congrArg (fun p => ({ d with par := p } : Dev).get id i) (Dev.endCapture_par _ x)

theorem Dev.formSegment_sc {d : Dev} {x : Survey} (m : ScanCapture) (hrx : x.rx = 255) (hstart : x.start.isSome = true) :
    (d.formSegment x m).sc.job = none := by
  rw [Dev.formSegment, ((d.addSegment x m).reportSegment_beside x m _).sc, Dev.addSegment]
  change (Dev.endCapture _ x).sc.job = none
  rw [Dev.endCapture, if_pos (by simp [hrx, hstart])]

/-- The scan's SCAN time is judged by a mode and a share that the segment leaves. -/
theorem Dev.formSegment_share {d : Dev} {x : Survey} (m : ScanCapture) (hslot : x.slot < 8) :
    (d.formSegment x m).get pMode = d.get pMode ∧ (d.formSegment x m).share x.slot 1 = d.share x.slot 1 :=
  ⟨d.formSegment_samePar x m _ 0 (by decide) (by decide), (d.formSegment_samePar x m).getN_eq (by decide) (by omega)⟩

/-- The two bytes of every point. -/
theorem s16_flatten_length (l : List Int) : (l.map s16).flatten.length = 2 * l.length := by
  induction l with
  | nil => rfl
  | cons v l ih =>
    rw [List.map_cons, List.flatten_cons, List.length_append, ih, List.length_cons]
    change 2 + _ = _
    omega

theorem Dev.segmentLevels_length (d : Dev) (x : Survey) (m : ScanCapture) : (d.segmentLevels x m).length = d.segmentPoints x := by
  simp [Dev.segmentLevels]

theorem Dev.segmentLevels_invalid {d : Dev} {x : Survey} {m : ScanCapture} (h : m.invalid.isSome = true) :
    (d.segmentLevels x m).map s16 = List.replicate (d.segmentPoints x) (s16 (-32768)) := by
  simp [Dev.segmentLevels, h, List.map_const']

/-! ### The ends of the jobs -/

/-- A job that has ended with a refusal: it is open no more, and its long command has its completion. -/
def JobRefused (slot ref : Nat) (st : Status) (d e : Dev) : Prop :=
  e.survey slot ref = none ∧ ∀ c, d.longOf slot ref = some c → Ended c (fail st) e

theorem JobEnded.gone {slot ref : Nat} {x : Survey} {st : Status} {d e f : Dev} (h : JobEnded slot ref x st e f) (hst : st ≠ .ok)
    (hlongs : e.host.longs = d.host.longs) : JobRefused slot ref st d f :=
  ⟨h.survey, fun c hc => h.refused hst c (by rwa [Dev.longOf, hlongs])⟩

theorem Dev.endOpen_refused {d e : Dev} {slot ref : Nat} {y : Survey} {st : Status} (hslot : slot < 8) (hy : e.survey slot ref = some y)
    (hst : st ≠ .ok) (hlongs : e.host.longs = d.host.longs) (probeEnd reason : Nat) :
    JobRefused slot ref st d (e.endOpen slot ref st probeEnd reason) := by
  rw [Dev.endOpen, hy]
  exact (Dev.endSurvey_ends hslot hy st false probeEnd reason).gone hst hlongs

/-- What a finished segment of a scan that goes on leaves. -/
theorem Dev.formSegment_reads {d : Dev} {x : Survey} (m : ScanCapture) (hx : d.survey x.slot x.ref = some x) (hstart : x.start.isSome = true) :
    ∃ y n, (d.formSegment x m).survey x.slot x.ref = some y ∧ y.done = x.done + 1 ∧ y.points = x.points + n ∧ y.start = none ∧
      y.data.length = x.data.length + 2 * n ∧ y.used = x.used + (if x.rx = 255 then x.need else 0) ∧
      (m.invalid.isSome = true → y.data = x.data ++ (List.replicate n (s16 (-32768))).flatten) ∧
      (x.rx = 255 → (d.formSegment x m).sc.job = none) := by
  refine ⟨_, d.segmentPoints x, Dev.formSegment_survey m hx, rfl, rfl, rfl, ?_, rfl, fun h => ?_, fun hrx => Dev.formSegment_sc m hrx hstart⟩
  · change (x.data ++ _).length = _
    rw [List.length_append, s16_flatten_length, d.segmentLevels_length x m]
  · change x.data ++ _ = _
    rw [Dev.segmentLevels_invalid h]

section Segment
variable {d : Dev} {x : Survey} (hslot : x.slot < 8) (hx : d.survey x.slot x.ref = some x) (m : ScanCapture)
include hslot hx

/-- The reservation of the slot holds no request of the scan that still has segments to come, in BRIDGE mode (R47). -/
def Dev.squeezes (d : Dev) (x : Survey) : Prop :=
  x.done + 1 < x.segments ∧ d.get pMode = 0 ∧ shareUnits .scan (d.share x.slot 1) < x.need

theorem formSegment_withdrawn (hwith : x.withdrawn = true) : JobRefused x.slot x.ref .denied d ((d.formSegment x m).followSegment x) := by
  rw [Dev.followSegment, if_pos hwith]
  exact Dev.endOpen_refused (st := .denied) hslot (Dev.formSegment_survey m hx) nofun (d.formSegment_stands x m).longs 1 4

theorem formSegment_squeezed (hwith : x.withdrawn = false) (h : d.squeezes x) :
    JobRefused x.slot x.ref .wouldExceed d ((d.formSegment x m).followSegment x) := by
  obtain ⟨hmore, hmode, hshare⟩ := h
  obtain ⟨hmode', hshare'⟩ := Dev.formSegment_share (d := d) m hslot
  rw [Dev.followSegment, if_neg (by simp [hwith]), if_pos hmore, if_pos (by simp [hmode', hshare', hmode, hshare])]
  exact Dev.endOpen_refused (st := .wouldExceed) hslot (Dev.formSegment_survey m hx) nofun (d.formSegment_stands x m).longs 1 4

theorem formSegment_goesOn (hstart : x.start.isSome = true) (hwith : x.withdrawn = false) (h : ¬d.squeezes x) :
    ∃ y n, ((d.formSegment x m).followSegment x).survey x.slot x.ref = some y ∧ y.done = x.done + 1 ∧ y.points = x.points + n ∧ y.start = none ∧
      y.data.length = x.data.length + 2 * n ∧ y.used = x.used + (if x.rx = 255 then x.need else 0) ∧
      (m.invalid.isSome = true → y.data = x.data ++ (List.replicate n (s16 (-32768))).flatten) ∧
      (x.rx = 255 → ((d.formSegment x m).followSegment x).sc.job = none) ∧
      (x.done + 1 < x.segments → ∃ q ∈ ((d.formSegment x m).followSegment x).sched.fresh,
        q.res = .scan ∧ q.slot = x.slot ∧ q.ref = x.ref ∧ q.need = x.need) := by
  obtain ⟨y, n, hy, hdone, hpoints, hidle, hlen, hused, hinvalid, hsc⟩ := Dev.formSegment_reads m hx hstart
  obtain ⟨hmode, hshare⟩ := Dev.formSegment_share (d := d) m hslot
  by_cases hmore : x.done + 1 < x.segments
  · have hasks : (d.formSegment x m).followSegment x = (d.formSegment x m).request .scan x.slot x.ref x.need := by
      rw [Dev.followSegment, if_neg (by simp [hwith]), if_pos hmore, if_neg]
      simpa [Dev.squeezes, hmore, hmode, hshare] using h
    rw [hasks]
    exact ⟨y, n, hy, hdone, hpoints, hidle, hlen, hused, hinvalid, hsc,
      fun _ => ⟨_, List.mem_append_right _ (List.mem_singleton_self _), rfl, rfl, rfl, rfl⟩⟩
  · have hrests : (d.formSegment x m).followSegment x = d.formSegment x m := by
      rw [Dev.followSegment, if_neg (by simp [hwith]), if_neg hmore]
    rw [hrests]
    exact ⟨y, n, hy, hdone, hpoints, hidle, hlen, hused, hinvalid, hsc, fun h => absurd h hmore⟩

end Segment

/-! ### The end of a probe, and the completion of a job -/

theorem probeEnd_none {d : Dev} {slot ref : Nat} (m : ProbeCapture) (hx : d.survey slot ref = none) : probeEnd slot ref m d = d := by
  rw [probeEnd, hx]

theorem probeEnd_idle {d : Dev} {slot ref : Nat} {x : Survey} (m : ProbeCapture) (hx : d.survey slot ref = some x)
    (h : ¬(x.kind = 3 ∧ x.start.isSome = true ∧ x.ended = false)) : probeEnd slot ref m d = d := by
  rw [probeEnd, hx]
  refine if_pos ?_
  by_cases hkind : x.kind = 3
  · cases hstart : x.start with
    | none => simp
    | some t => simpa [hkind, hstart] using h
  · simp [hkind]

theorem probeEnd_onAir {d : Dev} {x : Survey} (m : ProbeCapture) (hx : d.survey x.slot x.ref = some x) (hkind : x.kind = 3)
    (hstart : x.start.isSome = true) (hended : x.ended = false) :
    ∃ y, (probeEnd x.slot x.ref m d).survey x.slot x.ref = some y ∧ y.ended = true ∧ y.start = none ∧ y.result = (d.probeFigures x m).1 ∧
      y.data = (d.probeFigures x m).2 ∧ (x.tx < d.lanes.length → ((probeEnd x.slot x.ref m d).lane x.tx).probing = false) := by
  obtain ⟨t, ht⟩ := Option.isSome_iff_exists.1 hstart
  have hruns : probeEnd x.slot x.ref m d = (d.endProbe x 0).updSurvey x.slot x.ref
      (fun y => { y with result := (d.probeFigures x m).1, data := (d.probeFigures x m).2 }) := by
    rw [probeEnd, hx]
    exact if_neg (by simp [hkind, ht, hended])
  rw [hruns, Dev.endProbe_onAir 0 hkind hended ht]
  have hclosed : (d.closeProbe x).survey x.slot x.ref = some { x with ended := true, start := none } := by
    change (d.updSurvey x.slot x.ref (fun y => { y with ended := true, start := none })).survey x.slot x.ref = _
    rw [Dev.survey_updSurvey (f := fun y => { y with ended := true, start := none }) _ _ _ fun _ => ⟨rfl, rfl⟩, hx]
    rfl
  have hsilent := (((d.closeProbe x).silenceProbe_beside (keep := Off lossIds) x.tx).trans
    (Dev.raiseSlot_beside _ (List.Subset.refl lossIds) x.slot 0x0B80 (d.probeReport x t 0))).survey x.slot x.ref
  refine ⟨{ x with ended := true, start := none, result := (d.probeFigures x m).1, data := (d.probeFigures x m).2 }, ?_, rfl, rfl, rfl, rfl,
    fun hlen => ?_⟩
  · rw [Dev.survey_updSurvey (f := fun y => { y with result := (d.probeFigures x m).1, data := (d.probeFigures x m).2 }) _ _ _ fun _ => ⟨rfl, rfl⟩,
      hsilent, hclosed]
    rfl
  · change ((Dev.raiseAs _ _ _ _ _ _).lane x.tx).probing = false
    rw [Dev.lane, Dev.raiseAs_frame]
    exact Dev.silenceProbe_lane (d := d.closeProbe x) hlen

/-- The captures of a job are done. -/
def Survey.finished (x : Survey) : Prop :=
  (x.kind = 1 ∧ x.segments ≤ x.done) ∨ (x.kind = 2 ∧ x.start.isSome = true) ∨ (x.kind ≠ 1 ∧ x.kind ≠ 2 ∧ x.ended = true)

/-- A finished job ends: OK, or DENIED where its lane was moved away. -/
def Dev.finishSurvey (d : Dev) (slot ref : Nat) : Dev :=
  match d.survey slot ref with
  | some y => d.endSurvey y (if y.withdrawn then .denied else .ok) false 0 (if y.withdrawn then 4 else 0)
  | none => d

theorem surveyJobComplete_none {d : Dev} {slot ref : Nat} (m : CellCapture) (hx : d.survey slot ref = none) :
    surveyJobComplete slot ref m d = d := by
  rw [surveyJobComplete, hx]

theorem surveyJobComplete_eq {d : Dev} {slot ref : Nat} {x : Survey} (m : CellCapture) (hx : d.survey slot ref = some x) :
    surveyJobComplete slot ref m d =
      if x.kind = 1 then (if x.segments ≤ x.done then d.finishSurvey slot ref else d)
      else if x.kind = 2 then (if x.start.isSome then (d.takeCells x m).finishSurvey slot ref else d)
      else if x.ended then d.finishSurvey slot ref else d := by
  rw [surveyJobComplete, hx]
  rfl

theorem surveyJobComplete_unfinished {d : Dev} {slot ref : Nat} {x : Survey} (m : CellCapture) (hx : d.survey slot ref = some x)
    (h : ¬x.finished) : surveyJobComplete slot ref m d = d := by
  rw [surveyJobComplete_eq m hx]
  by_cases hscan : x.kind = 1
  · rw [if_pos hscan, if_neg fun hdone => h (.inl ⟨hscan, hdone⟩)]
  · rw [if_neg hscan]
    by_cases hcell : x.kind = 2
    · rw [if_pos hcell, if_neg fun hstart => h (.inr (.inl ⟨hcell, hstart⟩))]
    · rw [if_neg hcell, if_neg fun hended => h (.inr (.inr ⟨hscan, hcell, hended⟩))]

theorem Dev.takeCells_stands (d : Dev) (x : Survey) (m : CellCapture) : JobStands x.slot x.ref d (d.takeCells x m) := by
  unfold Dev.takeCells
  exact d.updSurvey_stands fun _ => ⟨rfl, rfl, rfl, rfl, rfl⟩

/-- The end of a finished job. -/
theorem surveyJobComplete_finishes {d : Dev} {x : Survey} (m : CellCapture) (hx : d.survey x.slot x.ref = some x) (h : x.finished) :
    ∃ e, JobStands x.slot x.ref d e ∧ surveyJobComplete x.slot x.ref m d = e.finishSurvey x.slot x.ref := by
  have hstays : JobStands x.slot x.ref d d := .of_eq rfl rfl rfl
  rw [surveyJobComplete_eq m hx]
  obtain ⟨hkind, hdone⟩ | ⟨hkind, hstart⟩ | ⟨hscan, hcell, hended⟩ := h
  · exact ⟨d, hstays, by rw [if_pos hkind, if_pos hdone]⟩
  · exact ⟨d.takeCells x m, d.takeCells_stands x m, by rw [if_neg (by simp [hkind]), if_pos hkind, if_pos hstart]⟩
  · exact ⟨d, hstays, by rw [if_neg hscan, if_neg hcell, if_pos hended]⟩

theorem Dev.finishSurvey_ends {d e : Dev} {x : Survey} (hslot : x.slot < 8) (hx : d.survey x.slot x.ref = some x)
    (h : JobStands x.slot x.ref d e) :
    JobEnded x.slot x.ref x (if x.withdrawn then .denied else .ok) d (e.finishSurvey x.slot x.ref) := by
  obtain ⟨y, hy, hid, hkind, hwith⟩ := h.job x hx
  rw [Dev.finishSurvey, hy, ← hwith]
  have hended := Dev.endSurvey_ends hslot hy (if y.withdrawn then .denied else .ok) false 0 (if y.withdrawn then 4 else 0)
  have hlong (c : LongCmd) (hc : d.longOf x.slot x.ref = some c) : e.longOf x.slot x.ref = some c := by rwa [Dev.longOf, h.longs]
  exact ⟨hended.survey, fun hst c hc => hended.refused hst c (hlong c hc), fun hst c hc => hid ▸ hended.done hst c (hlong c hc),
    fun hlen => hid ▸ hkind ▸ hended.result (by rw [h.results]; exact hlen)⟩

theorem surveyBoundExpiry_none {d : Dev} {slot ref : Nat} (hx : d.survey slot ref = none) : surveyBoundExpiry slot ref d = d := by
  rw [surveyBoundExpiry, hx]

theorem surveyBoundExpiry_early {d : Dev} {slot ref : Nat} {x : Survey} (hx : d.survey slot ref = some x) (h : d.since x.since < msU x.bound) :
    surveyBoundExpiry slot ref d = d := by
  rw [surveyBoundExpiry, hx]
  exact if_neg (by omega)

theorem surveyBoundExpiry_late {d : Dev} {slot ref : Nat} {x : Survey} (hx : d.survey slot ref = some x) (h : msU x.bound ≤ d.since x.since) :
    surveyBoundExpiry slot ref d = d.endSurvey x .busy false 1 4 := by
  rw [surveyBoundExpiry, hx]
  exact if_pos h

/-! ### SURVEY_ABORT and RESULT_FETCH (R472, R475, R490) -/

theorem surveyAbort_unknown {s : State} {r : Request} (ht : Takes cmdSurveyAbort s r) (hx : s.dev.survey r.slot (rq r 0 2) = none) :
    exec (.surveyAbort r) s = .next (s.on (s.dev.respond r 0x0B04 (fail .badArg))) := by
  refine act_refuses ht ?_ (by decide) rfl
  change (match s.dev.survey r.slot (rq r 0 2) with | none => _ | some x => _) = _
  rw [hx]

theorem surveyAbort_ends {s : State} {r : Request} {x : Survey} (ht : Takes cmdSurveyAbort s r) (hslot : r.slot < 8)
    (hx : s.dev.survey r.slot (rq r 0 2) = some x) :
    ∃ e, exec (.surveyAbort r) s = .next (s.on e) ∧ e.survey r.slot (rq r 0 2) = none ∧
      e.host.outbox.getLast? = some (answer r 0x0B04 (okBody (e16 x.ref ++ eb (x.start.isSome || x.done ≠ 0)))) := by
  have hrun : cmdSurveyAbort.run { s.dev with cause := some (r.slot, r.ref) } r =
      { dev := ({ s.dev with cause := some (r.slot, r.ref) } : Dev).endSurvey x .ok true 1 4
        reply := okBody (e16 x.ref ++ eb (x.start.isSome || x.done ≠ 0)) } := by
    change (match s.dev.survey r.slot (rq r 0 2) with | none => _ | some x => _) = _
    rw [hx]
  have hended := Dev.endSurvey_ends (d := { s.dev with cause := some (r.slot, r.ref) }) hslot hx .ok true 1 4
  exact ⟨_, act_answers ht hrun rfl nofun rfl, hended.survey, List.getLast?_concat⟩

/-- The response to a RESULT_FETCH that reads `part` of a result (Table SV-5). -/
def fetchReply (r : Request) (x : Result) : Reply :=
  { status := .ok, blk := slice x.data (rq r 4 4) (rq r 8 2)
    body := e32 (rq r 0 4) ++ e8 x.kind ++ zs 3 ++ e32 x.data.length ++ e32 (rq r 4 4) ++ e16 (slice x.data (rq r 4 4) (rq r 8 2)).length }

/-- What RESULT_FETCH does with what it finds under a survey_id. -/
def Dev.fetchRun (d : Dev) (r : Request) (found : Option Result) : Answer :=
  match found with
  | none => refuse d (fail .badArg)
  | some x => if x.data.length ≤ rq r 4 4 then refuse d (fail .badArg) else if 40 * d.halfDepth r.slot < rq r 8 2 then refuse d (fail .badArg)
    else { dev := d, reply := fetchReply r x }

theorem resultFetch_run_open {d : Dev} {r : Request} (h : ∃ x ∈ d.sv.jobs, x.slot = r.slot ∧ x.id = rq r 0 4) :
    cmdResultFetch.run d r = refuse d (fail .state) :=
  if_pos (by simpa using h)

theorem resultFetch_run_done {d : Dev} {r : Request} (h : ∀ x ∈ d.sv.jobs, ¬(x.slot = r.slot ∧ x.id = rq r 0 4)) :
    cmdResultFetch.run d r = d.fetchRun r ((nth d.sv.results r.slot).find? (fun x => x.id = rq r 0 4)) := by
  refine (if_neg (by simpa using h)).trans ?_
  rfl

section ResultFetch
variable {s : State} {r : Request} (ht : Takes cmdResultFetch s r) (hdone : ∀ x ∈ s.dev.sv.jobs, ¬(x.slot = r.slot ∧ x.id = rq r 0 4))
include ht hdone

theorem resultFetch_none (hnone : (nth s.dev.sv.results r.slot).find? (fun x => x.id = rq r 0 4) = none) :
    exec (.resultFetch r) s = .next (s.on (s.dev.respond r 0x0B05 (fail .badArg))) :=
  act_refuses ht ((resultFetch_run_done (d := { s.dev with cause := some (r.slot, r.ref) }) hdone).trans
    (congrArg (Dev.fetchRun { s.dev with cause := some (r.slot, r.ref) } r) hnone)) (by decide) rfl

variable {x : Result} (hx : (nth s.dev.sv.results r.slot).find? (fun x => x.id = rq r 0 4) = some x)
include hx

theorem resultFetch_beyond (h : x.data.length ≤ rq r 4 4 ∨ 40 * s.dev.halfDepth r.slot < rq r 8 2) :
    exec (.resultFetch r) s = .next (s.on (s.dev.respond r 0x0B05 (fail .badArg))) := by
  refine act_refuses ht ((resultFetch_run_done (d := { s.dev with cause := some (r.slot, r.ref) }) hdone).trans
    ((congrArg (Dev.fetchRun { s.dev with cause := some (r.slot, r.ref) } r) hx).trans ?_)) (by decide) rfl
  obtain hend | hlong := h
  · exact if_pos hend
  · exact ite_eq_left_iff.2 fun _ => if_pos hlong

theorem resultFetch_reads (hin : rq r 4 4 < x.data.length) (hfits : rq r 8 2 ≤ 40 * s.dev.halfDepth r.slot) :
    exec (.resultFetch r) s = .next (s.on (s.dev.respond r 0x0B05 (fetchReply r x))) := by
  have hlen : (slice x.data (rq r 4 4) (rq r 8 2)).length ≤ 40 * s.dev.halfDepth r.slot := (List.length_take_le ..).trans hfits
  refine act_reads ht ((resultFetch_run_done (d := { s.dev with cause := some (r.slot, r.ref) }) hdone).trans
    ((congrArg (Dev.fetchRun { s.dev with cause := some (r.slot, r.ref) } r) hx).trans ?_)) rfl nofun hlen
  exact (if_neg (Nat.not_le.2 hin)).trans (if_neg (Nat.not_lt.2 hfits))

end ResultFetch

/-! ### The CELL reference (R481) -/

/-- A capture taken into the reference filter, where the detector had one. -/
def Dev.takeCapture (d : Dev) (offset : Option Int) (phase : Int) : Dev :=
  match offset with
  | some o => d.refUpdate 2 o phase
  | none => d

/-- The SCAN capture of the CELL reference has been asked for. -/
def Dev.cellRefAsked (d : Dev) : Prop := ∃ q ∈ d.sched.fresh ++ d.sched.queue, q.res = .scan ∧ q.slot = 0 ∧ q.ref = cellRef

/-- The S0 lane that CELL_SOURCE names listens at CELL_FREQ. -/
def Dev.cellHears (d : Dev) : Prop :=
  d.owner (d.getN pCellSource) = 0 ∧ d.laneState (d.getN pCellSource) = 4 ∧ d.get pLaneFreq (d.getN pCellSource) = d.get pCellFreq

section CellCapture
variable {d : Dev} (offset : Option Int) (phase : Int)

theorem cellRefCapture_off (h : d.get pCellFreq = 0) : cellRefCapture offset phase d = d.withdrawRequest .scan 0 cellRef := if_pos h

theorem cellRefCapture_lane (h : d.get pCellFreq ≠ 0) (hsource : d.get pCellSource ≠ 255) (hhears : d.cellHears) :
    cellRefCapture offset phase d = d.takeCapture offset phase :=
  (if_neg h).trans ((if_pos hsource).trans (if_pos (by simpa [Dev.cellHears, and_assoc] using hhears)))

theorem cellRefCapture_deaf (h : d.get pCellFreq ≠ 0) (hsource : d.get pCellSource ≠ 255) (hdeaf : ¬d.cellHears) :
    cellRefCapture offset phase d = d :=
  (if_neg h).trans ((if_pos hsource).trans (if_neg (by simpa [Dev.cellHears, and_assoc] using hdeaf)))

/-- On the SCAN lane, the capture that was granted is taken; one that was asked for and not granted is missed. -/
theorem cellRefCapture_scan (h : d.get pCellFreq ≠ 0) (hsource : d.get pCellSource = 255) :
    cellRefCapture offset phase d = (match d.grantOf .scan 0 cellRef with
      | some _ => (d.withdrawRequest .scan 0 cellRef).takeCapture offset phase
      | none => if (d.sched.fresh ++ d.sched.queue).any (fun q => q.res = .scan && q.slot = 0 && q.ref = cellRef) then d.cellMissed
        else d : Dev).request .scan 0 cellRef 20 :=
  (if_neg h).trans (if_neg (not_not.2 hsource))

theorem Dev.cellRefAsked_iff : d.cellRefAsked ↔
    (d.sched.fresh ++ d.sched.queue).any (fun q => q.res = .scan && q.slot = 0 && q.ref = cellRef) = true := by
  simp only [Dev.cellRefAsked, List.any_eq_true, Bool.and_eq_true, decide_eq_true_eq, and_assoc]

/-- A capture that was granted had been asked for. -/
theorem Dev.grantOf_none (h : ¬d.cellRefAsked) : d.grantOf .scan 0 cellRef = none := by
  refine List.find?_eq_none.2 fun q hq hmatch => h ⟨q, List.mem_append_right _ hq, ?_⟩
  simp only [Bool.and_eq_true, decide_eq_true_eq] at hmatch
  obtain ⟨⟨⟨hres, hslot⟩, href⟩, -⟩ := hmatch
  exact ⟨hres, hslot, href⟩

theorem cellRefCapture_asks (h : d.get pCellFreq ≠ 0) (hsource : d.get pCellSource = 255) (hasked : ¬d.cellRefAsked) :
    cellRefCapture offset phase d = d.request .scan 0 cellRef 20 := by
  rw [cellRefCapture_scan offset phase h hsource, Dev.grantOf_none hasked]
  exact congrArg (fun e => Dev.request e .scan 0 cellRef 20) (if_neg fun hany => hasked (Dev.cellRefAsked_iff.2 hany))

theorem cellRefCapture_granted {q : SchedReq} (h : d.get pCellFreq ≠ 0) (hsource : d.get pCellSource = 255)
    (hgrant : d.grantOf .scan 0 cellRef = some q) :
    cellRefCapture offset phase d = ((d.withdrawRequest .scan 0 cellRef).takeCapture offset phase).request .scan 0 cellRef 20 := by
  rw [cellRefCapture_scan offset phase h hsource, hgrant]

theorem cellRefCapture_missed (h : d.get pCellFreq ≠ 0) (hsource : d.get pCellSource = 255) (hasked : d.cellRefAsked)
    (hgrant : d.grantOf .scan 0 cellRef = none) : cellRefCapture offset phase d = d.cellMissed.request .scan 0 cellRef 20 := by
  rw [cellRefCapture_scan offset phase h hsource, hgrant]
  exact congrArg (fun e => Dev.request e .scan 0 cellRef 20) (if_pos (Dev.cellRefAsked_iff.1 hasked))

end CellCapture

/-- The captures missed in the last 10 s, with the one missed now. -/
def Dev.lateMisses (d : Dev) : List Nat := d.sv.misses.filter (fun t => d.since t < secU 10) ++ [d.time]

/-- A missed capture, counted and remembered. -/
def Dev.countMiss (d : Dev) : Dev :=
  (({ d with sv := { d.sv with misses := d.lateMisses } }).bump pCellRefMisses 0).withdrawRequest .scan 0 cellRef

/-- The misses of the last 10 s reported. -/
def Dev.reportMisses (d : Dev) (count : Nat) : Dev :=
  ({ d with sv := { d.sv with missedAt := some d.time } }).raiseDev 0x0B82 (e32 count ++ e64 d.ts)

theorem Dev.cellMissed_cases (d : Dev) : d.cellMissed = d.countMiss ∨ d.cellMissed = d.countMiss.reportMisses d.lateMisses.length := by
  unfold Dev.cellMissed
  dsimp only
  split
  · split
    · exact .inl rfl
    · exact .inr rfl
  · exact .inr rfl

theorem Dev.countMiss_reads (d : Dev) : d.countMiss.getN pCellRefMisses = inc32 (d.getN pCellRefMisses) ∧
    SamePar [pCellRefMisses] d d.countMiss :=
  ⟨Dev.getN_set_same _ pCellRefMisses 0 _, Dev.set_samePar _ pCellRefMisses _ (by decide)⟩

theorem Dev.reportMisses_sv (d : Dev) (count : Nat) : (d.reportMisses count).sv = { d.sv with missedAt := some d.time } := by
  rw [Dev.reportMisses, Dev.raiseDev, Dev.raiseAs_frame]

/-- A missed capture is counted, and nothing but its count and the counters of the records it leaves moves. -/
theorem Dev.cellMissed_reads (d : Dev) : d.cellMissed.getN pCellRefMisses = inc32 (d.getN pCellRefMisses) ∧
    d.cellMissed.sv.misses = d.lateMisses ∧ SamePar (pCellRefMisses :: lossIds) d d.cellMissed := by
  obtain ⟨hcount, hsame⟩ := d.countMiss_reads
  have hcounted : SamePar (pCellRefMisses :: lossIds) d d.countMiss := hsame.mono (by decide)
  obtain hmissed | hmissed := d.cellMissed_cases
  · rw [hmissed]
    exact ⟨hcount, rfl, hcounted⟩
  · have hraised : SamePar lossIds d.countMiss (d.countMiss.reportMisses d.lateMisses.length) :=
      Dev.raiseDev_samePar { d.countMiss with sv := { d.countMiss.sv with missedAt := some d.countMiss.time } } 0x0B82 _
    rw [hmissed]
    exact ⟨(hraised.getN_eq (by decide) (by decide)).trans hcount, by rw [Dev.reportMisses_sv]; rfl, hcounted.trans (hraised.mono (by decide))⟩

end Sys2Proof.Machine

open Sys2Proof Sys2Proof.Machine

/-- Settles O57, command by command and job by job. -/
theorem surveysRunReportAndEnd : Obligations.SurveysRunReportAndEnd := by
  unfold Obligations.SurveysRunReportAndEnd
  refine ⟨fun s r hslot => ?_, fun s slot ref hslot => ?_, fun s offset phase => ?_⟩
  · intro d rx res serve probes rows clear opened asks
    refine ⟨?_, ?_, ?_, ?_, ?_⟩
    · intro q hq ht
      simp only [rows, List.mem_cons, List.not_mem_nil, or_false] at hq
      obtain rfl | rfl | rfl := hq
      · exact surveyRun_refuses ht (scanStart_run _ r)
      · exact surveyRun_refuses ht (cellSearch_run _ r)
      · exact surveyRun_refuses ht (isolationProbe_run _ r)
    · intro q hq ht hclear hserve hargs
      simp only [List.mem_cons, List.not_mem_nil, or_false] at hq
      obtain rfl | rfl := hq
      · exact startSurvey_takes ht hslot rfl (show 1 ≠ 3 by decide) (firstBad_first ht.bad_none) (scanStart_run _ r) hclear hserve hargs
      · exact startSurvey_takes (q := (cellJob r.body, 1, 4 * rq r 12 4, cellTicks r)) ht hslot rfl (show 2 ≠ 3 by decide)
          (firstBad_first ht.bad_none) (cellSearch_run _ r) hclear hserve hargs
    · intro ht hclear hserve hrange tx fc rate say owned lapsed
      have hown := isolationProbe_own hclear hserve hrange
      refine ⟨fun hno => act_refuses ht (hown.trans (Dev.startProbe_unowned (Bool.not_eq_true _ ▸ hno))) (by decide) rfl,
        fun howned hnone => ?_, fun h k band t howned hentry htable => ?_⟩
      · have huncovered := hown.trans (Dev.startProbe_uncovered (d := { s.dev with cause := some (r.slot, r.ref) }) howned hnone)
        have hlapsed : lapsed ↔ s.dev.probeLapsed r = true := (Bool.or_eq_true_iff ..).symm
        exact ⟨fun h => act_refuses ht (huncovered.trans (congrArg (fun st => refuse _ (fail st)) (if_pos (hlapsed.1 h)))) (by decide) rfl,
          fun h => act_refuses ht (huncovered.trans (congrArg (fun st => refuse _ (fail st)) (if_neg (mt hlapsed.2 h)))) (by decide) rfl⟩
      · have htop : d.probeTop r band = min (d.get pProbeMaxLevel) (band.maxEirp - (if rq r 13 1 = 1 then t.antService else t.antDonor)) := by
          rw [Dev.probeTop, Dev.probeAntenna, htable]
        intro top
        refine ⟨fun hhigh => ?_, fun rep hlevel herr hblk hst => ?_, fun j d1 hlevel hok hfree => ?_⟩
        · exact act_refuses ht (hown.trans (Dev.startProbe_high howned hentry (htop ▸ hhigh))) (by decide) rfl
        · exact isolationProbe_error ht hown howned hentry (htop ▸ hlevel) herr hblk hst
        · exact isolationProbe_ok ht hown howned hentry (htop ▸ hlevel) hslot hok hfree
    · exact fun ht => ⟨surveyAbort_unknown ht, fun x hx => surveyAbort_ends ht hslot hx⟩
    · exact fun ht => ⟨fun h => act_refuses ht (resultFetch_run_open h) (by decide) rfl, resultFetch_none ht,
        fun x hdone hx => ⟨resultFetch_beyond ht hdone hx, resultFetch_reads ht hdone hx⟩⟩
  · intro gone
    refine ⟨fun hx => ⟨State.act_unchanged (surveyBoundExpiry_none hx), fun m n k => ⟨State.act_unchanged (scanSegmentDone_none m hx),
      State.act_unchanged (probeEnd_none n hx), State.act_unchanged (surveyJobComplete_none k hx)⟩⟩, fun x hx => ?_⟩
    obtain ⟨rfl, rfl⟩ := Dev.survey_found hx
    intro busy onAir done squeezed
    refine ⟨fun m h => State.act_unchanged (scanSegmentDone_idle m hx h), fun m hbusy hwith hroom => ?_, fun m hbusy hwith => ?_,
      fun m hbusy hwith hsqueezed => ?_, fun m h => State.act_unchanged (probeEnd_idle m hx h), fun m ⟨hkind, hstart, hended⟩ => ?_,
      fun m h => State.act_unchanged (surveyJobComplete_unfinished m hx h), fun m h => ?_,
      fun h => State.act_unchanged (surveyBoundExpiry_early hx h), fun h => ?_⟩
    · obtain ⟨y, n, hgoes⟩ := formSegment_goesOn hslot hx m hbusy.2 hwith hroom
      exact ⟨_, y, n, State.act_of_eq (scanSegmentDone_runs m hx hbusy.1 hbusy.2), hgoes⟩
    · exact ⟨_, State.act_of_eq (scanSegmentDone_runs m hx hbusy.1 hbusy.2), formSegment_withdrawn hslot hx m hwith⟩
    · exact ⟨_, State.act_of_eq (scanSegmentDone_runs m hx hbusy.1 hbusy.2), formSegment_squeezed hslot hx m hwith hsqueezed⟩
    · obtain ⟨y, hy⟩ := probeEnd_onAir m hx hkind hstart hended
      exact ⟨_, y, State.act_of_eq rfl, hy⟩
    · obtain ⟨e, hstands, he⟩ := surveyJobComplete_finishes m hx h
      have hends := Dev.finishSurvey_ends hslot hx hstands
      refine ⟨_, State.act_of_eq he, hends.survey, fun hwith => ?_, fun hwith => ?_, hends.result⟩
      · rw [if_pos hwith] at hends
        exact hends.gone nofun rfl
      · rw [if_neg (by simp [hwith])] at hends
        exact hends.done rfl
    · exact ⟨_, State.act_of_eq (surveyBoundExpiry_late hx h), (Dev.endSurvey_ends hslot hx .busy false 1 4).gone nofun rfl⟩
  · intro d taken l hears asked
    refine ⟨fun hoff => State.act_of_eq (cellRefCapture_off offset phase hoff), fun hfreq hsource => ⟨fun h => ?_, fun h => ?_⟩,
      fun hfreq hsource => ⟨fun h => ?_, fun q hq => ?_, fun h hnone => ?_⟩⟩
    · exact State.act_of_eq (cellRefCapture_lane offset phase hfreq hsource h)
    · exact State.act_unchanged (cellRefCapture_deaf offset phase hfreq hsource h)
    · exact State.act_of_eq (cellRefCapture_asks offset phase hfreq hsource h)
    · exact State.act_of_eq (cellRefCapture_granted offset phase hfreq hsource hq)
    · obtain ⟨hcount, hmisses, hsame⟩ := d.cellMissed_reads
      exact ⟨_, State.act_of_eq (cellRefCapture_missed offset phase hfreq hsource h hnone), hcount, hmisses, hsame, _,
        List.mem_append_right _ (List.mem_singleton_self _), rfl, rfl, rfl, rfl⟩

end

section
/-! SUPPORT. The work on a band: its convoys held and let go, its lanes placed and rested, its state, its messages and the end of its
start. -/

namespace Sys2Proof.Machine

/-! ### Convoys (R343, R346, R358) -/

/-- The parameters of a convoy that mutes. -/
def muteIds : List Nat := [pConvoyOutput, pConvoyWinner]

section ConvoyWork
variable (d : Dev) {l : Nat}

theorem Dev.muteConvoy_beside : Beside (OffAt muteIds l) d (d.muteConvoy l) := by
  unfold Dev.muteConvoy
  split
  · exact .refl _ d
  · exact (((d.updConvoy_beside l _).trans (Dev.setAt_beside _ _ (by decide))).trans (Dev.setAt_beside _ _ (by decide))).trans
      (Dev.drivePins_beside _ l)

theorem Dev.hold_beside (k : Nat) : Beside (OffAt muteIds l) d (d.hold l k) := (d.updConvoy_beside l _).trans (Dev.muteConvoy_beside _)

theorem Dev.unhold_beside {keep : Nat → Nat → Prop} (l k : Nat) : Beside keep d (d.unhold l k) := d.updConvoy_beside l _

theorem Dev.startPath_beside (running : Bool) : Beside (OffLane l) d (d.startPath l running) :=
  ((((d.updConvoy_beside l _).trans (Dev.setAt_beside _ _ (by decide))).trans (Dev.setAt_beside _ _ (by decide))).trans
    (Dev.setAt_beside _ _ (by decide))).trans (Dev.setAt_beside _ _ (by decide))

theorem Dev.liftEscalation_beside {keep : Nat → Nat → Prop} (l : Nat) : Beside keep d (d.liftEscalation l) :=
  (d.updLane_beside l _).trans (Dev.unhold_beside _ l 3)

theorem Dev.serviceGap_beside : Beside (OffLane l) d (d.serviceGap l) := by
  unfold Dev.serviceGap
  split
  · exact .refl _ d
  · exact ((d.updToll_beside _).trans (Dev.updToll_beside _ _)).trans (Dev.raiseAs_beside _ _ _ _ _ _ fun _ _ h => h.loss)

end ConvoyWork

/-- Work on each lane of a list is work on lanes. -/
theorem Beside.foldLanes {f : Dev → Nat → Dev} {ls : List Nat} (hls : ∀ l ∈ ls, l < 8) (hf : ∀ e l, Beside (OffLane l) e (f e l)) (d : Dev) :
    Beside (Off laneWorkIds) d (ls.foldl f d) :=
  .foldl (fun e l hl => (hf e l).offLanes (hls l hl)) d

/-! ### What stays muted (R346) -/

/-- Every muted lane stays muted, and no convoy is added or taken away. -/
structure StaysMuted (d e : Dev) : Prop where
  length : e.convoys.length = d.convoys.length
  muted : ∀ l, d.laneMuted l = true → e.laneMuted l = true

section StaysMuted
variable {d e f : Dev}

theorem StaysMuted.of_eq (h : e.convoys = d.convoys) : StaysMuted d e :=
  ⟨by rw [h], fun l hl => by rwa [Dev.laneMuted, Dev.convoy, h]⟩

theorem StaysMuted.trans (h : StaysMuted d e) (h' : StaysMuted e f) : StaysMuted d f :=
  ⟨h'.length.trans h.length, fun l hl => h'.muted l (h.muted l hl)⟩

theorem StaysMuted.foldl {α : Type} {g : Dev → α → Dev} {xs : List α} (hg : ∀ e x, StaysMuted e (g e x)) (d : Dev) :
    StaysMuted d (xs.foldl g d) := by
  induction xs generalizing d with
  | nil => exact .of_eq rfl
  | cons x xs ih => exact (hg d x).trans (ih (g d x))

variable (d)

/-- A change of a convoy that leaves its MUTE alone. -/
theorem Dev.updConvoy_staysMuted (l : Nat) {g : Convoy → Convoy} (hg : ∀ x, (g x).muted = x.muted) : StaysMuted d (d.updConvoy l g) :=
  ⟨length_upd _ _ _, fun k hk => (nth_upd_proj Convoy.muted _ l k hg).trans hk⟩

theorem Dev.muteConvoy_staysMuted (l : Nat) : StaysMuted d (d.muteConvoy l) :=
  ⟨d.muteConvoy_length l, fun k hk => (d.muteForRelease_laneMuted l k).symm.trans (Dev.muteForRelease_keeps hk l)⟩

theorem Dev.hold_staysMuted (l k : Nat) : StaysMuted d (d.hold l k) :=
  (d.updConvoy_staysMuted l (g := fun x => { x with hold := x.hold ||| 2 ^ k }) fun _ => rfl).trans (Dev.muteConvoy_staysMuted _ l)

theorem Dev.unhold_staysMuted (l k : Nat) : StaysMuted d (d.unhold l k) :=
  d.updConvoy_staysMuted l (g := fun x => { x with hold := if bit x.hold k then x.hold - 2 ^ k else x.hold }) fun _ => rfl

theorem Dev.startPath_staysMuted (l : Nat) (running : Bool) : StaysMuted d (d.startPath l running) :=
  (d.updConvoy_staysMuted l (g := fun x =>
    { x with iso := { running := running }, exhausted := false, backoffEnd := none, ladder := none, oscAt := none, lastOut := none
             restart := none, aged := false }) fun _ => rfl).trans (.of_eq rfl)

theorem Dev.serviceGap_convoys (l : Nat) : (d.serviceGap l).convoys = d.convoys := by
  unfold Dev.serviceGap
  split
  · rfl
  · exact Dev.raiseAs_convoys _ _ _ _ _ _

theorem Dev.split_convoys (l : Nat) : (d.split l).convoys = d.convoys := by
  obtain hsplit | ⟨t, p, hsplit⟩ := d.split_cases (l := l)
  · rw [hsplit]
  · have hsettled : (d.settleRx l t p).convoys = d.convoys := by
      unfold Dev.settleRx
      split <;> rfl
    rw [hsplit, ← hsettled]
    unfold Dev.chooseTx
    split
    · split <;> rfl
    · rfl

theorem Dev.setLaneState_convoys (l new : Nat) (cause : Option Nat) : (d.setLaneState l new cause).convoys = d.convoys := by
  have hstored : (if new = 0 then (d.set pLaneState l new).emptyStore l else d.set pLaneState l new).convoys = d.convoys := by
    split <;> rfl
  have hdriven := (Dev.split_convoys (if new = 0 then (d.set pLaneState l new).emptyStore l else d.set pLaneState l new) l).trans hstored
  unfold Dev.setLaneState
  dsimp only
  split
  · split
    · exact hdriven
    · exact (Dev.raiseAs_convoys _ _ _ _ _ _).trans hdriven
  · exact hdriven

theorem Dev.endJob_convoys (slot handle reason : Nat) : (d.endJob slot handle reason).convoys = d.convoys := by
  unfold Dev.endJob
  split
  · rfl
  · exact Dev.raiseAs_convoys _ _ _ _ _ _

end StaysMuted

/-! ### The state of a band (R438) -/

section BandState
variable (d : Dev) {b : Nat} (hb : b < 64) (new cause : Nat)

/-- A band that is in the state already stays; another moves to it and reports. -/
theorem Dev.setBandState_cases : (d.bandState b = new ∧ d.setBandState b new cause = d) ∨
    ∃ p, d.setBandState b new cause = (d.set pBandState b new).raiseSlot (b / 8) 0x0A80 p := by
  unfold Dev.setBandState
  dsimp only
  split
  · next h => exact .inl ⟨h, rfl⟩
  · exact .inr ⟨_, rfl⟩

theorem Dev.setBandState_convoys : (d.setBandState b new cause).convoys = d.convoys := by
  obtain ⟨-, hstays⟩ | ⟨p, hmoves⟩ := d.setBandState_cases (b := b) new cause
  · rw [hstays]
  · rw [hmoves]
    exact Dev.raiseAs_convoys _ _ _ _ _ _

include hb

theorem Dev.setBandState_beside : Beside (Off (pBandState :: lossIds)) d (d.setBandState b new cause) := by
  obtain ⟨-, hstays⟩ | ⟨p, hmoves⟩ := d.setBandState_cases (b := b) new cause
  · rw [hstays]
    exact .refl _ d
  · rw [hmoves]
    exact (d.setOff_beside _ _ (by decide) (by omega)).trans (Dev.raiseSlot_beside _ (by decide) _ _ _)

theorem Dev.setBandState_state : (d.setBandState b new cause).bandState b = new := by
  obtain ⟨hold, hstays⟩ | ⟨p, hmoves⟩ := d.setBandState_cases (b := b) new cause
  · rw [hstays, hold]
  · rw [hmoves]
    have hraised := (d.set pBandState b new).raiseSlot_beside (List.Subset.refl lossIds) (b / 8) 0x0A80 p
    exact (hraised.getN ⟨by omega, by decide⟩).trans (Dev.getN_set_same ..)

end BandState

theorem Dev.band_updBand {d : Dev} {b : Nat} (f : Band → Band) (h : b < d.bands.length) : (d.updBand b f).band b = f (d.band b) :=
  nth_upd_same f h

theorem Beside.off {ids ids' : List Nat} {d e : Dev} (h : Beside (Off ids) d e) (hsub : ids ⊆ ids') : Beside (Off ids') d e :=
  h.mono fun _ _ ⟨hi, hid⟩ => ⟨hi, fun hmem => hid (hsub hmem)⟩

/-! ### Roles and ceilings (R29, R447) -/

/-- The lanes of a band's channels are its lanes. -/
theorem BandCfg.channel_lane {c : BandCfg} {x : Channel} (h : x ∈ c.channels) : x.lane ∈ c.lanes := by
  unfold BandCfg.channels at h
  unfold BandCfg.lanes
  split at h
  · next htdd =>
    rw [if_pos htdd]
    rw [List.mem_singleton.1 h]
    exact List.mem_singleton_self _
  · next hfdd =>
    rw [if_neg hfdd]
    obtain rfl | hx := List.mem_cons.1 h
    · exact List.mem_cons_self ..
    · rw [List.mem_singleton.1 hx]
      exact List.mem_cons_of_mem _ (List.mem_singleton_self _)

/-- A lane of a band placed in the state and on the antennas of its role. -/
def Dev.placeRole (d : Dev) (c : BandCfg) (l : Nat) : Dev :=
  if c.tdd then
    (d.updLane l (fun x => { x with tdd := true, burst := false, role := (false, true) })).setLaneState l (d.getN pRestState l) (some 1)
  else
    (d.updLane l (fun x => { x with tdd := false, role := ((fddRole d.position (l = c.ulLane)).2.1, (fddRole d.position (l = c.ulLane)).2.2) })).setLaneState
      l (fddRole d.position (l = c.ulLane)).1 (some 1)

theorem Dev.placeRoles_eq (d : Dev) (b : Nat) : d.placeRoles b = (d.band b).cfg.lanes.foldl (fun e l => e.placeRole (d.band b).cfg l) d := rfl

theorem Dev.placeRole_beside (d : Dev) (c : BandCfg) (l : Nat) : Beside (OffLane l) d (d.placeRole c l) :=
  Beside.ite ((d.updLane_beside l _).trans ((Dev.setLaneState_beside _ _ _).widen (by decide)))
    ((d.updLane_beside l _).trans ((Dev.setLaneState_beside _ _ _).widen (by decide)))

theorem Dev.placeRoles_beside {d : Dev} {b : Nat} (h : ∀ l ∈ (d.band b).cfg.lanes, l < 8) : Beside (Off laneWorkIds) d (d.placeRoles b) := by
  rw [Dev.placeRoles_eq]
  exact Beside.foldLanes h (fun e l => e.placeRole_beside _ l) d

theorem Dev.setEirp_beside {d : Dev} {b : Nat} (h : ∀ l ∈ (d.band b).cfg.lanes, l < 8) (p : Permit) :
    Beside (Off laneWorkIds) d (d.setEirp b p) :=
  .foldl (fun e x hx => by
    have hl := h _ (BandCfg.channel_lane hx)
    split
    · exact (e.setOff_beside _ _ (by decide) (by omega)).ite (.refl _ e)
    · exact .refl _ e) d

/-! ### The link budget of a slot (R50) -/

/-- The parameters that the check of a slot's link budget moves. -/
def budgetIds : List Nat := muteIds ++ lossIds

theorem Beside.offMute {d e : Dev} {l : Nat} (h : Beside (OffAt muteIds l) d e) (hl : l < 8) : Beside (Off budgetIds) d e :=
  h.mono fun id i ⟨hi, hid⟩ => by
    rw [budgetIds, List.mem_append, not_or] at hid
    exact ⟨⟨by omega, hi⟩, hid.2, fun hmute => absurd hmute hid.1⟩

theorem Dev.holds_beside (d : Dev) (ls : List Nat) (k : Nat) : Beside (Off budgetIds) d (ls.foldl (fun e l => e.hold l k) d) :=
  .foldl (fun e l _ => by
    by_cases hl : l < 8
    · exact (e.hold_beside k).offMute hl
    · have hstays : e.hold l k = e.updConvoy l (fun x => { x with hold := x.hold ||| 2 ^ k }) := by
        rw [Dev.hold, Dev.muteConvoy, if_pos (by simp [Nat.not_lt.1 hl])]
      rw [hstays]
      exact e.updConvoy_beside l _) d

theorem Dev.budgetCheck_beside (d : Dev) (slot : Nat) : Beside (Off budgetIds) d (d.budgetCheck slot) :=
  .foldl (fun e b _ => by
    dsimp only
    split
    · exact (Beside.refl _ e).ite ((e.holds_beside _ 6).trans (Dev.raiseSlot_beside _ (by decide) _ _ _))
    · exact (Beside.foldl (fun e l _ => e.unhold_beside l 6) e).ite (.refl _ e)) d

/-! ### Messages (R441, R451) -/

theorem Dev.sendDown_frame (d : Dev) (typ : Nat) (body : List Byte) : ∃ n, d.sendDown typ body = { d with link := n } := by
  unfold Dev.sendDown
  induction d.downPorts generalizing d with
  | nil => exact ⟨d.link, rfl⟩
  | cons p ps ih =>
    obtain ⟨n, hn⟩ := ih (d.send { port := p, typ := typ, body := body })
    rw [List.foldl_cons, hn, Dev.send_frame]
    exact ⟨n, rfl⟩

theorem Dev.bandDown_frame (d : Dev) (b op : Nat) : ∃ n, d.bandDown b op = { d with link := n } := by
  unfold Dev.bandDown
  split
  · exact d.sendDown_frame _ _
  · exact ⟨d.link, rfl⟩

/-- A band that has numbered its TDD message. -/
def Band.numbered (q a : Band → Nat) (x : Band) : Band := { x with tddSeq := q x, anchorSent := a x }

/-- A TDD message numbers itself in its band. -/
theorem Dev.tddSend_frame (d : Dev) (b : Nat) (valid : Bool) : ∃ (n : Link) (q a : Band → Nat),
    d.tddSend b valid = ({ d with link := n } : Dev).updBand b (Band.numbered q a) := by
  unfold Dev.tddSend
  split
  · refine ⟨d.link, Band.tddSeq, Band.anchorSent, ?_⟩
    change d = { d with bands := upd d.bands b id }
    rw [show upd d.bands b id = d.bands from List.modify_id ..]
  · obtain ⟨n, hn⟩ := (d.updBand b (fun x => { x with tddSeq := (x.tddSeq + 1) % 65536, anchorSent := x.anchor.getD 0 })).sendDown_frame 6
      (Dev.tddBody _ b valid)
    exact ⟨n, fun x => (x.tddSeq + 1) % 65536, fun x => x.anchor.getD 0, hn⟩

/-! ### The completion of a start (R444, R445) -/

/-- A band whose start is over. -/
def Band.started (x : Band) : Band := { x with start := none }

section FinishStart
variable (d : Dev) (b : Nat) (st : Status) (reason : Nat)

theorem Dev.finishStart_none (h : (d.band b).start = none) : d.finishStart b st reason = d := by
  rw [Dev.finishStart, h]

theorem Dev.finishStart_closed {slot ref : Nat} (h : (d.band b).start = some (slot, ref)) (hlong : d.longOf slot ref = none) :
    d.finishStart b st reason = d.updBand b Band.started := by
  rw [Dev.finishStart, h]
  change (match d.longOf slot ref with | some l => _ | none => _) = _
  rw [hlong]
  rfl

theorem Dev.finishStart_open {slot ref : Nat} {c : LongCmd} (h : (d.band b).start = some (slot, ref)) (hlong : d.longOf slot ref = some c) :
    d.finishStart b st reason = (d.updBand b Band.started).complete c { status := st, body := d.startBody b reason } := by
  rw [Dev.finishStart, h]
  change (match d.longOf slot ref with | some l => _ | none => _) = _
  rw [hlong]
  rfl

theorem Dev.finishStart_cases : d.finishStart b st reason = d ∨ d.finishStart b st reason = d.updBand b Band.started ∨
    ∃ slot ref c, (d.band b).start = some (slot, ref) ∧ d.longOf slot ref = some c ∧
      d.finishStart b st reason = (d.updBand b Band.started).complete c { status := st, body := d.startBody b reason } := by
  cases hstart : (d.band b).start with
  | none => exact .inl (d.finishStart_none b st reason hstart)
  | some at' =>
    obtain ⟨slot, ref⟩ := at'
    cases hlong : d.longOf slot ref with
    | none => exact .inr (.inl (d.finishStart_closed b st reason hstart hlong))
    | some c => exact .inr (.inr ⟨slot, ref, c, rfl, hlong, d.finishStart_open b st reason hstart hlong⟩)

theorem Dev.finishStart_convoys : (d.finishStart b st reason).convoys = d.convoys := by
  obtain h | h | ⟨_, _, _, -, -, h⟩ := d.finishStart_cases b st reason <;> rw [h] <;> rfl

/-- The start of the band is over. -/
theorem Dev.finishStart_bands (h : b < d.bands.length) : (d.finishStart b st reason).bands.length = d.bands.length ∧
    (d.finishStart b st reason).band b = (d.band b).started := by
  have hstarted : (d.updBand b Band.started).bands.length = d.bands.length ∧ (d.updBand b Band.started).band b = (d.band b).started :=
    ⟨length_upd _ _ _, Dev.band_updBand _ h⟩
  cases hstart : (d.band b).start with
  | none =>
    rw [d.finishStart_none b st reason hstart]
    refine ⟨rfl, ?_⟩
    rw [Band.started, ← hstart]
  | some at' =>
    obtain ⟨slot, ref⟩ := at'
    cases hlong : d.longOf slot ref with
    | none =>
      rw [d.finishStart_closed b st reason hstart hlong]
      exact hstarted
    | some c =>
      rw [d.finishStart_open b st reason hstart hlong]
      exact hstarted

theorem Dev.finishStart_samePar (hslot : ∀ slot ref, (d.band b).start = some (slot, ref) → slot < 8) :
    SamePar [pLongCmdsOpen] d (d.finishStart b st reason) := by
  obtain h | h | ⟨slot, ref, c, hstart, hlong, h⟩ := d.finishStart_cases b st reason
  · rw [h]
    exact fun _ _ _ _ => rfl
  · rw [h]
    exact fun _ _ _ _ => rfl
  · rw [h]
    have hc := (Dev.longOf_found hlong).1
    have := hslot slot ref hstart
    exact (show SamePar [pLongCmdsOpen] d (d.updBand b Band.started) from fun _ _ _ _ => rfl).trans
      (Dev.complete_samePar _ _ (by omega))

theorem Dev.finishStart_ended {slot ref : Nat} {c : LongCmd} (h : (d.band b).start = some (slot, ref)) (hlong : d.longOf slot ref = some c) :
    Ended c { status := st, body := d.startBody b reason } (d.finishStart b st reason) := by
  rw [d.finishStart_open b st reason h hlong]
  exact Dev.complete_ended _ _ _

end FinishStart

end Sys2Proof.Machine
end

section
/-! PROOF. The commands of bridging: O55. -/

namespace Sys2Proof.Machine

/-! ### The end of a band (R445, R446, R459) -/

/-- A lane of a band that ends mutes: held for want of a bridging band, no more by its triggers, its path and its gap over. -/
def Dev.stopLane (d : Dev) (l : Nat) : Dev := (((d.hold l 0).unhold l 1).startPath l false).serviceGap l

/-- A band of which nothing is left but its permit: no triggers, no units, IDLE. -/
def Dev.idleBand (d : Dev) (b cause : Nat) : Dev := ((d.set pBandTriggers b 0).set pBandUnits b 0).setBandState b 1 cause

/-- A lane of a band that has ended comes to rest. -/
def Dev.restLane (d : Dev) (target l : Nat) : Dev :=
  let e := (d.updLane l (fun y => { y with tdd := false, burst := false })).set pEirpLimit l (-32768)
  if 2 ≤ e.laneState l then e.setLaneState l target (some 1) else e

/-- What is measured of a lane for its band is forgotten. -/
def Dev.forgetLane (d : Dev) (l : Nat) : Dev := (d.set pUlNoiseEst l (-32768)).set pActiveFollowers l 0

/-- A band that has ended: no job, no schedule, no triggers. -/
def Band.cleared (y : Band) : Band :=
  { y with
    job := 65535, trig := [], ladder := false, mutedAt := [], backoffEnd := none, waitCell := false, sched := false, learning := none
    learnAgainAt := none, ulSuspended := false, mustLearn := false, setFixed := false, resume := 0, setUnits := 0 }

/-- The device as a band's lanes and its job have ended, its start not yet. -/
def Dev.haltBand (d : Dev) (b jobReason target cause : Nat) : Dev :=
  ((d.band b).cfg.lanes.foldl (fun e l => e.restLane target l) (((d.band b).cfg.lanes.foldl Dev.stopLane d).idleBand b cause)).endJob (b / 8)
    (d.band b).job jobReason

theorem Dev.endBand_eq {d : Dev} {b : Nat} (h : 2 ≤ d.bandState b) (jobReason target cause : Nat) (st : Status) (why : Nat) :
    d.endBand b jobReason target cause st why =
      (((d.band b).cfg.lanes.foldl Dev.forgetLane ((d.haltBand b jobReason target cause).finishStart b st why)).set pBandPermit b 255).updBand b
        Band.cleared :=
  if_neg (by omega)

theorem Dev.stopLane_beside (d : Dev) (l : Nat) : Beside (OffLane l) d (d.stopLane l) :=
  ((((d.hold_beside 0).widen (by decide)).trans (Dev.unhold_beside _ l 1)).trans (Dev.startPath_beside _ false)).trans (Dev.serviceGap_beside _)

theorem Dev.stopLane_staysMuted (d : Dev) (l : Nat) : StaysMuted d (d.stopLane l) :=
  (((d.hold_staysMuted l 0).trans (Dev.unhold_staysMuted _ l 1)).trans (Dev.startPath_staysMuted _ l false)).trans
    (.of_eq (Dev.serviceGap_convoys _ l))

/-- A lane that is stopped is muted. -/
theorem Dev.stopLane_mutes {d : Dev} {l : Nat} (hl : l < 8) (hlen : l < d.convoys.length) : (d.stopLane l).laneMuted l = true := by
  have hheld : (d.hold l 0).laneMuted l = true := Dev.muteConvoy_mutes hl (by rwa [Dev.updConvoy, length_upd])
  exact ((((Dev.unhold_staysMuted _ l 1).trans (Dev.startPath_staysMuted _ l false)).trans (.of_eq (Dev.serviceGap_convoys _ l))).muted l hheld)

/-- Every lane of a list that is stopped is muted. -/
theorem Dev.stopLanes_mute {ls : List Nat} (hls : ∀ l ∈ ls, l < 8) (d : Dev) :
    ∀ l ∈ ls, l < d.convoys.length → (ls.foldl Dev.stopLane d).laneMuted l = true := by
  induction ls generalizing d with
  | nil => exact fun l hl => absurd hl List.not_mem_nil
  | cons k ls ih =>
    intro l hl hlen
    obtain rfl | hrest := List.mem_cons.1 hl
    · exact (StaysMuted.foldl Dev.stopLane_staysMuted (d.stopLane l)).muted l (Dev.stopLane_mutes (hls l hl) hlen)
    · exact ih (fun l hl => hls l (List.mem_cons_of_mem k hl)) (d.stopLane k) l hrest (by rwa [(d.stopLane_staysMuted k).length])

theorem Dev.restLane_beside (d : Dev) (target l : Nat) : Beside (OffLane l) d (d.restLane target l) := by
  have hquiet := (d.updLane_beside (keep := OffLane l) l (fun y => { y with tdd := false, burst := false })).trans
    (Dev.setAt_beside (id := pEirpLimit) _ (-32768) (by decide))
  exact (hquiet.trans ((Dev.setLaneState_beside _ target (some 1)).widen (by decide))).ite hquiet

theorem Dev.restLane_convoys (d : Dev) (target l : Nat) : (d.restLane target l).convoys = d.convoys := by
  unfold Dev.restLane
  dsimp only
  split
  · exact Dev.setLaneState_convoys _ _ _ _
  · rfl

theorem Dev.forgetLane_beside (d : Dev) (l : Nat) : Beside (OffLane l) d (d.forgetLane l) :=
  (d.setAt_beside _ (by decide)).trans (Dev.setAt_beside _ _ (by decide))

/-- The parameters of a band that its end moves. -/
def bandEndIds : List Nat := [pBandTriggers, pBandUnits, pBandState, pJobsOpen] ++ laneWorkIds

section EndBand
variable {d : Dev} {b : Nat} (hb : b < 64)
include hb

theorem Dev.idleBand_beside (cause : Nat) : Beside (Off ([pBandTriggers, pBandUnits, pBandState] ++ lossIds)) d (d.idleBand b cause) :=
  (((d.setOff_beside _ _ (by decide) (by omega)).trans (Dev.setOff_beside _ _ _ (by decide) (by omega))).trans
    ((Dev.setBandState_beside _ hb 1 cause).off (by decide)))

theorem Dev.idleBand_reads (cause : Nat) : (d.idleBand b cause).bandState b = 1 ∧ (d.idleBand b cause).getN pBandUnits b = 0 := by
  refine ⟨Dev.setBandState_state _ hb 1 cause, ?_⟩
  exact ((Dev.setBandState_beside _ hb 1 cause).getN ⟨by omega, by decide⟩).trans (Dev.getN_set_same ..)

variable (hlanes : ∀ l ∈ (d.band b).cfg.lanes, l < 8) (jobReason target cause : Nat)
include hlanes

theorem Dev.haltBand_beside : Beside (Off bandEndIds) d (d.haltBand b jobReason target cause) := by
  have hstopped : Beside (Off bandEndIds) d ((d.band b).cfg.lanes.foldl Dev.stopLane d) :=
    (Beside.foldLanes hlanes Dev.stopLane_beside d).off (by decide)
  have hidle := hstopped.trans ((Dev.idleBand_beside hb cause).off (by decide))
  have hrested := hidle.trans ((Beside.foldLanes hlanes (fun e l => e.restLane_beside target l) _).off (by decide))
  exact hrested.trans ((Dev.endJob_beside _ (by omega) _ _).off (by decide))

/-- The band is IDLE and no unit repeats it. -/
theorem Dev.haltBand_reads : (d.haltBand b jobReason target cause).bandState b = 1 ∧
    (d.haltBand b jobReason target cause).getN pBandUnits b = 0 := by
  obtain ⟨hstate, hunits⟩ := Dev.idleBand_reads (d := (d.band b).cfg.lanes.foldl Dev.stopLane d) hb cause
  have hrested := (Beside.foldLanes hlanes (fun e l => e.restLane_beside target l)
    (((d.band b).cfg.lanes.foldl Dev.stopLane d).idleBand b cause)).off (ids' := pJobsOpen :: laneWorkIds) (by decide)
  have hended := hrested.trans ((Dev.endJob_beside _ (show b / 8 < 8 by omega) (d.band b).job jobReason).off (by decide))
  exact ⟨(hended.getN ⟨by omega, by decide⟩).trans hstate, (hended.getN ⟨by omega, by decide⟩).trans hunits⟩

end EndBand

/-- The lanes of the band are muted. -/
theorem Dev.haltBand_mutes {d : Dev} {b : Nat} (hlanes : ∀ l ∈ (d.band b).cfg.lanes, l < 8) (jobReason target cause : Nat) :
    ∀ l ∈ (d.band b).cfg.lanes, l < d.convoys.length → (d.haltBand b jobReason target cause).laneMuted l = true := by
  intro l hl hlen
  have hstopped := Dev.stopLanes_mute hlanes d l hl hlen
  have hidle : (((d.band b).cfg.lanes.foldl Dev.stopLane d).idleBand b cause).convoys = ((d.band b).cfg.lanes.foldl Dev.stopLane d).convoys :=
    Dev.setBandState_convoys _ _ _
  have hstays := ((StaysMuted.of_eq hidle).trans (StaysMuted.foldl (xs := (d.band b).cfg.lanes)
    (fun e k => StaysMuted.of_eq (e.restLane_convoys target k)) _)).trans (.of_eq (Dev.endJob_convoys _ (b / 8) (d.band b).job jobReason))
  exact hstays.muted l hstopped

/-- The completion body of a start that ended without a band (Table BP-8). -/
def Dev.idleBody (d : Dev) (b why : Nat) : List Byte :=
  e8 (b % 8) ++ e8 1 ++ e8 0 ++ e8 why ++ e32 (d.band b).delay ++ e16 65535 ++ e8 255 ++ zs 1 ++ e32 (durOf (d.since (d.band b).startAt))

/-- What the end of a band leaves: the band IDLE and bound to nothing, its lanes muted, and its start, where one was in progress, completed. -/
structure BandEnded (b : Nat) (st : Status) (why : Nat) (d e : Dev) : Prop where
  state : e.bandState b = 1
  permit : e.getN pBandPermit b = 255
  units : e.getN pBandUnits b = 0
  trig : (e.band b).trig = []
  start : (e.band b).start = none
  muted : ∀ l ∈ (d.band b).cfg.lanes, l < d.convoys.length → e.laneMuted l = true
  ended : ∀ slot ref c, (d.band b).start = some (slot, ref) → d.longOf slot ref = some c →
    Ended c { status := st, body := d.idleBody b why } e

/-- What the end of a band leaves of its start. -/
theorem BandEnded.completes {b why : Nat} {d e : Dev} (h : BandEnded b .state why d e) : e.bandState b = 1 ∧ e.getN pBandPermit b = 255 ∧
    (e.band b).start = none ∧ ∀ slot ref c, (d.band b).start = some (slot, ref) → d.longOf slot ref = some c →
      Ended c { status := .state, body := d.idleBody b why } e :=
  ⟨h.state, h.permit, h.start, h.ended⟩

theorem Dev.startBody_idle {d e : Dev} {b why : Nat} (hstate : e.bandState b = 1) (hband : e.band b = d.band b) (htime : e.time = d.time)
    (hwhy : why ≠ 0) : e.startBody b why = d.idleBody b why := by
  rw [Dev.startBody, hstate, hband, Dev.since, htime]
  simp [Dev.idleBody, hwhy, Dev.since]

theorem Dev.endBand_ended {d : Dev} {b : Nat} (hb : b < 64) (hlen : b < d.bands.length) (hlanes : ∀ l ∈ (d.band b).cfg.lanes, l < 8)
    (hslot : ∀ slot ref, (d.band b).start = some (slot, ref) → slot < 8) (hbusy : 2 ≤ d.bandState b) (jobReason target cause : Nat) (st : Status)
    {why : Nat} (hwhy : why ≠ 0) : BandEnded b st why d (d.endBand b jobReason target cause st why) := by
  rw [Dev.endBand_eq hbusy]
  have hhalted := Dev.haltBand_beside hb hlanes jobReason target cause
  obtain ⟨hstate, hunits⟩ := Dev.haltBand_reads hb hlanes jobReason target cause
  have hmuted := Dev.haltBand_mutes hlanes jobReason target cause
  set halted := d.haltBand b jobReason target cause
  have hband := hhalted.band b
  have hpar := halted.finishStart_samePar b st why (by rwa [hband])
  obtain ⟨hlength, hstarted⟩ := halted.finishStart_bands b st why (by rwa [hhalted.bands])
  set started := halted.finishStart b st why
  have hforgot := (Beside.foldLanes hlanes Dev.forgetLane_beside started).off (ids' := pBandPermit :: laneWorkIds) (by decide)
  have hunbound := hforgot.trans (Dev.setOff_beside (id := pBandPermit) (i := b) _ _ 255 (by decide) (by omega))
  set unbound := ((d.band b).cfg.lanes.foldl Dev.forgetLane started).set pBandPermit b 255
  have hcleared : (unbound.updBand b Band.cleared).band b = (d.band b).started.cleared := by
    rw [Dev.band_updBand _ (by rw [hunbound.bands, hlength, hhalted.bands]; exact hlen), hunbound.band, hstarted, hband]
  have hread {id : Nat} (hid : id ∉ pBandPermit :: laneWorkIds) (hlong : id ∉ [pLongCmdsOpen]) :
      (unbound.updBand b Band.cleared).getN id b = halted.getN id b :=
    (hunbound.getN ⟨by omega, hid⟩).trans (hpar.getN_eq hlong (by omega))
  have hconvoys : StaysMuted halted (unbound.updBand b Band.cleared) :=
    (StaysMuted.of_eq (halted.finishStart_convoys b st why)).trans
      ((StaysMuted.foldl (xs := (d.band b).cfg.lanes) (g := Dev.forgetLane) (fun _ _ => .of_eq rfl) started).trans (.of_eq rfl))
  refine ⟨(hread (by decide) (by decide)).trans hstate, ?_, (hread (by decide) (by decide)).trans hunits, ?_, ?_,
    fun l hl hlt => hconvoys.muted l (hmuted l hl hlt), fun slot ref c hstart hlong => ?_⟩
  · exact congrArg Int.toNat (Dev.get_set_same ((d.band b).cfg.lanes.foldl Dev.forgetLane started) pBandPermit b 255)
  · rw [hcleared]
    rfl
  · rw [hcleared]
    rfl
  · have hended := halted.finishStart_ended b st why (by rwa [hband]) ((hhalted.longOf slot ref).trans hlong)
    rw [Dev.startBody_idle hstate hband hhalted.time hwhy] at hended
    exact ⟨by rw [← hended.1]; exact congrArg List.getLast? hunbound.outbox, (hunbound.longOf _ _).trans hended.2⟩

/-! ### Starts that end, complete, or go on (R443 to R445) -/

section Start
variable {d : Dev} {b : Nat}

/-- The ends of a band leave the device with its messages sent or not. -/
theorem BandEnded.of_sent {st : Status} {why : Nat} {n : Link} {e : Dev} (h : BandEnded b st why { d with link := n } e) :
    BandEnded b st why d e :=
  ⟨h.state, h.permit, h.units, h.trig, h.start, h.muted, h.ended⟩

theorem Dev.starting_iff : d.starting b = true ↔ d.bandState b = 2 ∧ (d.band b).start.isSome = true := by
  simp [Dev.starting]

/-- A start fails: the band ends, and STOP goes down. -/
theorem Dev.failStart_ended (hb : b < 64) (hlen : b < d.bands.length) (hlanes : ∀ l ∈ (d.band b).cfg.lanes, l < 8)
    (hslot : ∀ slot ref, (d.band b).start = some (slot, ref) → slot < 8) (hstarting : d.starting b = true) {why : Nat} (hwhy : why ≠ 0) :
    BandEnded b .state why d (d.failStart b why) := by
  obtain ⟨n, hn⟩ := d.bandDown_frame b 2
  rw [Dev.failStart, hn]
  refine BandEnded.of_sent (Dev.endBand_ended (d := { d with link := n }) hb hlen hlanes hslot ?_ 4 4 0 .state hwhy)
  exact (Dev.starting_iff.1 hstarting).1.ge

/-- A start still waits for its followers past its 500 ms. -/
def Dev.answersLate (d : Dev) (b : Nat) : Prop :=
  d.starting b = true ∧ (d.band b).setFixed = false ∧ msU 500 ≤ d.since (d.band b).startAt

/-- The followers of a band that have answered that they are ready. -/
def Dev.unitsReady (d : Dev) (b : Nat) : List Nat := (maskUnits (d.band b).cfg.unitMask).filter (fun u => (d.band b).answers.contains (u, 0))

/-- The set of a band fixed, and its delay over the set. -/
def Dev.fixSet (d : Dev) (b : Nat) (units : List Nat) : Dev :=
  d.updBand b (fun y =>
    { y with
      setFixed := true, setUnits := units.foldl (fun a u => a + 2 ^ u) 1
      delay := match d.bandDelay (d.band b).cfg units with
        | some v => min 4294967295 (delayNs v)
        | none => y.delay })

theorem followerAnswerTimeout_early (h : ¬d.answersLate b) : followerAnswerTimeout b d = d := by
  refine if_pos ?_
  simp only [Dev.answersLate, not_and] at h
  cases hstarting : d.starting b
  · rfl
  · cases hfixed : (d.band b).setFixed
    · simpa using h hstarting hfixed
    · simp

theorem followerAnswerTimeout_late (h : d.answersLate b) :
    followerAnswerTimeout b d = if d.unitsReady b = [] then d.failStart b 3 else d.fixSet b (d.unitsReady b) := by
  obtain ⟨hstarting, hfixed, hlate⟩ := h
  exact if_neg (by simp [hstarting, hfixed, hlate])

theorem Dev.fixSet_reads (hlen : b < d.bands.length) (units : List Nat) : ((d.fixSet b units).band b).setFixed = true ∧
    ((d.fixSet b units).band b).setUnits = units.foldl (fun a u => a + 2 ^ u) 1 ∧
    ∀ v, d.bandDelay (d.band b).cfg units = some v → ((d.fixSet b units).band b).delay = min 4294967295 (delayNs v) := by
  rw [Dev.fixSet, Dev.band_updBand _ hlen]
  exact ⟨rfl, rfl, fun v hv => by simp [hv]⟩

/-- A start has found no cell in its 2,000 ms. -/
def Dev.cellLate (d : Dev) (b : Nat) : Prop :=
  d.starting b = true ∧ (d.band b).detectedAt = none ∧ msU 2000 ≤ d.since (d.band b).startAt

theorem startNoCellTimeout_early (h : ¬d.cellLate b) : startNoCellTimeout b d = d := by
  refine if_pos ?_
  simp only [Dev.cellLate, not_and] at h
  cases hstarting : d.starting b
  · rfl
  · cases hcell : (d.band b).detectedAt
    · simpa using h hstarting hcell
    · simp

theorem startNoCellTimeout_late (h : d.cellLate b) : startNoCellTimeout b d = d.failStart b 1 := by
  obtain ⟨hstarting, hcell, hlate⟩ := h
  exact if_neg (by simp [hstarting, hcell, hlate])

/-- A start has all it waits for: its set, its cell and, for TDD, its pattern. -/
def Dev.startReady (d : Dev) (b : Nat) : Prop :=
  d.starting b = true ∧ (d.band b).setFixed = true ∧ (d.band b).detectedAt.isSome = true ∧
    ((d.band b).cfg.tdd = true → (d.band b).verdict = 2)

/-- A band that begins to repeat. -/
def Band.repeats (y : Band) (t : Nat) : Band := { y with sched := y.cfg.tdd, verifyAt := t, restored := t }

/-- A band BRIDGING with the units of its set. -/
def Dev.bridgeBand (d : Dev) (b : Nat) : Dev :=
  ((d.updBand b (fun y => y.repeats d.time)).set pBandUnits b ((d.band b).setUnits : Nat)).setBandState b 3 0

theorem bridgeStartComplete_waits (h : ¬d.startReady b) : bridgeStartComplete b d = d := by
  refine if_pos ?_
  simp only [Dev.startReady, not_and] at h
  cases hstarting : d.starting b
  · rfl
  · cases hfixed : (d.band b).setFixed
    · rfl
    · cases hcell : (d.band b).detectedAt
      · simp
      · simpa [hcell] using h hstarting hfixed

theorem bridgeStartComplete_ready (h : d.startReady b) : bridgeStartComplete b d =
    ((d.band b).cfg.lanes.foldl (fun e l => e.unhold l 0) ((d.bridgeBand b).tddSend b true)).finishStart b .ok 0 := by
  obtain ⟨hstarting, hfixed, hcell, hverdict⟩ := h
  refine if_neg ?_
  simpa [hstarting, hfixed, Option.isSome_iff_ne_none.1 hcell] using hverdict

theorem Dev.bridgeBand_reads (hb : b < 64) : (d.bridgeBand b).bandState b = 3 ∧ (d.bridgeBand b).getN pBandUnits b = (d.band b).setUnits ∧
    Beside (Off (pBandUnits :: pBandState :: lossIds)) (d.updBand b (fun y => y.repeats d.time)) (d.bridgeBand b) := by
  have hmoved := ((d.updBand b (fun y => y.repeats d.time)).set pBandUnits b ((d.band b).setUnits : Nat)).setBandState_beside hb 3 0
  exact ⟨Dev.setBandState_state _ hb 3 0, (hmoved.getN ⟨by omega, by decide⟩).trans (Dev.getN_set_same ..),
    (Dev.setOff_beside _ _ _ (by decide) (by omega)).trans (hmoved.off (by decide))⟩

/-- The completion body of a start that bridges (Table BP-8). -/
def Dev.bridgeBody (d : Dev) (b : Nat) : List Byte :=
  e8 (b % 8) ++ e8 3 ++ e8 (d.band b).setUnits ++ e8 0 ++ e32 (d.band b).delay ++ e16 (d.band b).job ++ e8 (d.getN pBandPermit b) ++ zs 1 ++
    e32 (durOf (d.since (d.band b).startAt))

/-- The band is BRIDGING with its set, and its start completes with OK. -/
theorem bridgeStartComplete_bridges (hb : b < 64) (hlen : b < d.bands.length)
    (hslot : ∀ slot ref, (d.band b).start = some (slot, ref) → slot < 8) (h : d.startReady b) :
    (bridgeStartComplete b d).bandState b = 3 ∧ (bridgeStartComplete b d).getN pBandUnits b = (d.band b).setUnits ∧
      ((bridgeStartComplete b d).band b).start = none ∧ ∀ slot ref c, (d.band b).start = some (slot, ref) → d.longOf slot ref = some c →
        Ended c (okBody (d.bridgeBody b)) (bridgeStartComplete b d) := by
  rw [bridgeStartComplete_ready h]
  obtain ⟨hstate, hunits, hbridged⟩ := Dev.bridgeBand_reads (d := d) hb
  obtain ⟨n, q, a, hsent⟩ := (d.bridgeBand b).tddSend_frame b true
  have hlet := Beside.foldl (keep := fun _ _ => True) (g := fun e l => Dev.unhold e l 0) (l := (d.band b).cfg.lanes)
    (fun e l _ => e.unhold_beside l 0) ((d.bridgeBand b).tddSend b true)
  set released := (d.band b).cfg.lanes.foldl (fun e l => e.unhold l 0) ((d.bridgeBand b).tddSend b true)
  have hbands : (d.bridgeBand b).bands = upd d.bands b (fun y => y.repeats d.time) := hbridged.bands
  have hrepeats : (d.bridgeBand b).band b = (d.band b).repeats d.time :=
    (hbridged.band b).trans (Dev.band_updBand (fun y => y.repeats d.time) hlen)
  have hband : released.band b = ((d.band b).repeats d.time).numbered q a := by
    rw [hlet.band, hsent]
    exact (Dev.band_updBand (d := { d.bridgeBand b with link := n }) _ (by rwa [hbands, length_upd])).trans (congrArg (Band.numbered q a) hrepeats)
  have hget (id : Nat) : released.getN id b = (d.bridgeBand b).getN id b := by
    rw [hlet.getN trivial, hsent]
    rfl
  have hlongs : released.host.longs = d.host.longs := by
    rw [hlet.longs, hsent]
    exact hbridged.longs
  have htime : released.time = d.time := by
    rw [hlet.time, hsent]
    exact hbridged.time
  have hpar := released.finishStart_samePar b .ok 0 (by rw [hband]; exact hslot)
  obtain ⟨-, hstarted⟩ := released.finishStart_bands b .ok 0 (by
    rw [hlet.bands, hsent]
    change _ < (upd (d.bridgeBand b).bands b _).length
    rwa [length_upd, hbands, length_upd])
  have hreleased : released.bandState b = 3 := (hget pBandState).trans hstate
  refine ⟨(hpar.getN_eq (by decide) (by omega)).trans hreleased, (hpar.getN_eq (by decide) (by omega)).trans ((hget pBandUnits).trans hunits),
    by rw [hstarted]; rfl, fun slot ref c hstart hlong => ?_⟩
  have hbody : released.startBody b 0 = d.bridgeBody b := by
    have hpermit : released.getN pBandPermit b = d.getN pBandPermit b :=
      (hget pBandPermit).trans (hbridged.getN ⟨by omega, by decide⟩)
    rw [Dev.startBody, hreleased, hband, hpermit, Dev.since, htime]
    rfl
  have hended := released.finishStart_ended b .ok 0 (by rw [hband]; exact hstart) (c := c) (by rwa [Dev.longOf, hlongs])
  rwa [hbody] at hended

end Start

/-! ### BRIDGE_STOP (R446) -/

theorem bandIx_lt {slot id : Nat} (hslot : slot < 8) (hid : id ≤ 7) : bandIx slot id < 64 := by
  unfold bandIx
  omega

theorem bandIx_slot {slot id : Nat} (hid : id ≤ 7) : bandIx slot id / 8 = slot := by
  unfold bandIx
  omega

/-- A band stopped by its host: its end, the STOP to the followers, and a follower's answer to the head. -/
def Dev.stopBand (d : Dev) (b : Nat) : Dev :=
  let e := (d.bandDown b 2).endBand b 4 4 0 .state 4
  if e.isFollower then e.bandAnswer b 0 else e

theorem Dev.stopBand_ended {d : Dev} {b : Nat} (hb : b < 64) (hlen : b < d.bands.length) (hlanes : ∀ l ∈ (d.band b).cfg.lanes, l < 8)
    (hslot : ∀ slot ref, (d.band b).start = some (slot, ref) → slot < 8) (hbusy : 2 ≤ d.bandState b) :
    BandEnded b .state 4 d (d.stopBand b) := by
  obtain ⟨n, hn⟩ := d.bandDown_frame b 2
  have hended := BandEnded.of_sent (Dev.endBand_ended (d := { d with link := n }) hb hlen hlanes hslot hbusy 4 4 0 .state (why := 4) (by decide))
  unfold Dev.stopBand
  dsimp only
  rw [hn]
  split
  · rw [Dev.bandAnswer, Dev.sendUp_frame]
    exact ⟨hended.state, hended.permit, hended.units, hended.trig, hended.start, hended.muted, hended.ended⟩
  · exact hended

/-- The mark of a request has no part in the end of a band. -/
theorem BandEnded.unmarked {b why : Nat} {st : Status} {d e : Dev} {mark mark' : Option (Nat × Nat)}
    (h : BandEnded b st why { d with cause := mark } e) : BandEnded b st why d { e with cause := mark' } :=
  ⟨h.state, h.permit, h.units, h.trig, h.start, h.muted, h.ended⟩

theorem bridgeStop_run_idle {d : Dev} {r : Request} (h : d.bandBusy (bandIx r.slot (rq r 0 1)) = false) :
    cmdBridgeStop.run d r = refuse d (fail .state) :=
  if_pos (by simp [h])

theorem bridgeStop_run_busy {d : Dev} {r : Request} (h : d.bandBusy (bandIx r.slot (rq r 0 1)) = true) :
    cmdBridgeStop.run d r = { dev := d.stopBand (bandIx r.slot (rq r 0 1))
                              reply := okBody (e8 (bandIx r.slot (rq r 0 1) % 8) ++
                                e8 ((d.stopBand (bandIx r.slot (rq r 0 1))).bandState (bandIx r.slot (rq r 0 1)))) } :=
  if_neg (by simp [h])

theorem bridgeStop_stops {s : State} {r : Request} (ht : Takes cmdBridgeStop s r) (hslot : r.slot < 8)
    (hbusy : s.dev.bandBusy (bandIx r.slot (rq r 0 1)) = true) (hlen : bandIx r.slot (rq r 0 1) < s.dev.bands.length)
    (hlanes : ∀ l ∈ (s.dev.band (bandIx r.slot (rq r 0 1))).cfg.lanes, l < 8)
    (hstart : ∀ slot ref, (s.dev.band (bandIx r.slot (rq r 0 1))).start = some (slot, ref) → slot < 8) :
    ∃ e, exec (.bridgeStop r) s = .next (s.on (e.respond r 0x0A03 (okBody (e8 (bandIx r.slot (rq r 0 1) % 8) ++ e8 1)))) ∧
      BandEnded (bandIx r.slot (rq r 0 1)) .state 4 s.dev e := by
  have hid : rq r 0 1 ≤ 7 := of_decide_eq_true (firstBad_first ht.bad_none)
  have hended := Dev.stopBand_ended (d := { s.dev with cause := some (r.slot, r.ref) }) (bandIx_lt hslot hid) hlen hlanes hstart
    (of_decide_eq_true hbusy)
  have hrun := bridgeStop_run_busy (d := { s.dev with cause := some (r.slot, r.ref) }) (r := r) hbusy
  rw [hended.state] at hrun
  exact ⟨_, act_answers ht hrun rfl nofun rfl, hended.unmarked⟩

/-! ### The reports (R463) -/

/-- The band has no TDD pattern to report. -/
def Dev.patternless (d : Dev) (b : Nat) : Prop := d.bandState b = 0 ∨ (d.band b).cfg.tdd = false

/-- The entry of the permit that a slot's band would bind to. -/
def Dev.patternEntry (d : Dev) (slot b : Nat) : Option PermitBand :=
  (d.bindable slot (d.band b).cfg.channels).bind (fun q => (d.band b).cfg.entry q.2 (d.band b).cfg.dlLane)

/-- A figure of the pattern: the band's own, or its permit entry's before a start. -/
def Dev.patternFigure (d : Dev) (slot b own : Nat) (f : PermitBand → Nat) : Nat :=
  if (d.band b).slots ≠ 0 then own else ((d.patternEntry slot b).map f).getD 0

/-- The TDD_PATTERN_GET response with a pattern, its slots and its period (Table BP-8). -/
def Dev.patternReply (d : Dev) (b : Nat) (p : Nat × Nat × Nat) : Reply :=
  let x := d.band b
  okBody (e8 (b % 8) ++ e8 (if x.learning.isSome then 1 else x.verdict) ++ e8 p.2.1 ++ e8 (learnPeriods p.2.2) ++ e32 p.2.2 ++ e64 p.1 ++
    e32 x.misSlots ++ e64 (x.anchor.getD 0) ++ s16 x.pDl ++ s16 x.worstUl ++ e32 (match x.windowEnd with
      | some t => min 4294967295 (toMs (d.since t))
      | none => (Config.analogue d.free 0).natAbs % 4294967296))

/-- The pattern of a band, its slots and its period. -/
def Dev.patternOf (d : Dev) (slot b : Nat) : Nat × Nat × Nat :=
  (d.patternFigure slot b (d.band b).pattern (·.pattern), d.patternFigure slot b (d.band b).slots (·.slots),
    d.patternFigure slot b (d.band b).period (·.period))

/-- The three figures are the band's own or the entry's together. -/
theorem Dev.patternOf_eq (d : Dev) (slot b : Nat) : d.patternOf slot b =
    if (d.band b).slots ≠ 0 then ((d.band b).pattern, (d.band b).slots, (d.band b).period)
    else (((d.patternEntry slot b).map (·.pattern)).getD 0, ((d.patternEntry slot b).map (·.slots)).getD 0,
      ((d.patternEntry slot b).map (·.period)).getD 0) := by
  unfold Dev.patternOf Dev.patternFigure
  split <;> rfl

theorem tddPatternGet_run_none {d : Dev} {r : Request} (h : d.patternless (bandIx r.slot (rq r 0 1))) :
    cmdTddPatternGet.run d r = refuse d (fail .state) :=
  if_pos (by simpa [Dev.patternless] using h)

theorem tddPatternGet_run_reads {d : Dev} {r : Request} (h : ¬d.patternless (bandIx r.slot (rq r 0 1))) : cmdTddPatternGet.run d r =
    { dev := { d with free := d.free + 1 }
      reply := d.patternReply (bandIx r.slot (rq r 0 1)) (d.patternOf r.slot (bandIx r.slot (rq r 0 1))) } := by
  rw [Dev.patternOf_eq]
  exact if_neg (by simpa [Dev.patternless] using h)

/-- What PROTECTION_STATUS_GET says of the remaining time of a back-off. -/
def Dev.waitLeft (d : Dev) (o : Option Nat) : Nat :=
  match o with
  | some t => toMsUp (t - d.time)
  | none => 0

/-- The figures of a lane that PROTECTION_STATUS_GET gives with or without a band. -/
def Dev.laneTail (d : Dev) (l : Nat) : List Byte :=
  s16 (d.get pUlNoiseEst l) ++ s16 ((d.lane l).pIn.getD (-32768)) ++ s16 (d.get pEirpLimit l) ++
    s16 (if d.isFollower then (d.convoy l).remote.getD (-32768) else -32768)

/-- The PROTECTION_STATUS_GET response of a lane (Table BP-8). -/
def Dev.protectionBody (d : Dev) (l : Nat) (o : Option Nat) : List Byte :=
  match o with
  | some b =>
    e8 l ++ e8 (b % 8) ++ e8 (d.bandState b) ++ e8 (d.getN pBandRung b) ++ e32 (d.getN pBandTriggers b) ++ e32 (d.band b).trips ++
      e64 (d.band b).lastTrip ++ e8 (d.band b).lastTrigger ++ zs 3 ++ d.laneTail l ++
      e32 (max (d.waitLeft (d.band b).backoffEnd) (d.waitLeft (d.convoy l).backoffEnd))
  | none => e8 l ++ e8 255 ++ zs 22 ++ d.laneTail l ++ e32 (d.waitLeft (d.convoy l).backoffEnd)

theorem protectionStatusGet_reads {s : State} {r : Request} (ht : Takes cmdProtectionStatusGet s r) {o : Option Nat}
    (ho : s.dev.laneBand (rq r 0 1) = o) :
    exec (.protectionStatusGet r) s = .next (s.on (s.dev.respond r 0x0A05 (okBody (s.dev.protectionBody (rq r 0 1) o)))) := by
  subst ho
  exact act_reads ht rfl rfl nofun (Nat.zero_le _)

/-! ### BRIDGE_START (R440, R442, R443, R447) -/

/-- A permit's refusal is never OK. -/
theorem Dev.permitStatus_refuses {d : Dev} {slot : Nat} {cs : List Channel} {st : Status} (h : d.permitStatus slot cs = some st) :
    st ≠ .ok ∧ st ≠ .accepted := by
  unfold Dev.permitStatus at h
  dsimp only at h
  split_ifs at h <;> cases h <;> exact ⟨nofun, nofun⟩

/-- A permit that does not bind is a refusal. -/
theorem Dev.bindPermit_refuses {d : Dev} {slot : Nat} {c : BandCfg} {st : Status} (h : d.bindPermit slot c = .error st) : st ≠ .ok := by
  unfold Dev.bindPermit at h
  split at h
  · cases h
    exact nofun
  · split at h
    · cases h
    · cases hst : d.permitStatus slot c.channels <;> rw [hst] at h <;> cases h
      · exact nofun
      · exact (Dev.permitStatus_refuses hst).1

/-- A start that fails a step of Table BP-2 is refused. -/
theorem Dev.startChecks_refuses {d : Dev} {b k : Nat} {st : Status} {given : Option Nat} (h : d.startChecks b given = .error (k, st)) :
    st ≠ .ok := by
  unfold Dev.startChecks at h
  dsimp only at h
  obtain ⟨-, ⟨⟩⟩ | ⟨-, h⟩ := ite_eq_iff.1 h
  · nofun
  obtain ⟨-, ⟨⟩⟩ | ⟨-, h⟩ := ite_eq_iff.1 h
  · nofun
  obtain ⟨-, ⟨⟩⟩ | ⟨-, h⟩ := ite_eq_iff.1 h
  · nofun
  obtain ⟨-, ⟨⟩⟩ | ⟨-, h⟩ := ite_eq_iff.1 h
  · nofun
  cases hbind : d.bindPermit (b / 8) (d.band b).cfg with
  | error refusal =>
    rw [hbind] at h
    cases h
    exact Dev.bindPermit_refuses hbind
  | ok p =>
    rw [hbind] at h
    dsimp only at h
    obtain ⟨-, ⟨⟩⟩ | ⟨-, h⟩ := ite_eq_iff.1 h
    · nofun
    obtain ⟨-, ⟨⟩⟩ | ⟨-, h⟩ := ite_eq_iff.1 h
    · nofun
    cases hdelay : d.bandDelay (d.band b).cfg (maskUnits (d.band b).cfg.unitMask) with
    | none =>
      rw [hdelay] at h
      cases h
      nofun
    | some own =>
      rw [hdelay] at h
      dsimp only at h
      obtain ⟨-, ⟨⟩⟩ | ⟨-, h⟩ := ite_eq_iff.1 h
      · nofun
      obtain ⟨-, ⟨⟩⟩ | ⟨-, h⟩ := ite_eq_iff.1 h
      · nofun
      · cases h

/-- A band that may start is IDLE. -/
theorem Dev.startChecks_idle {d : Dev} {b : Nat} {given : Option Nat} {x : Nat × Permit × Nat} (h : d.startChecks b given = .ok x) :
    d.bandState b = 1 := by
  by_contra hstate
  rw [Dev.startChecks, if_pos hstate] at h
  cases h

/-- The refusal of a start that fails a step of Table BP-2. -/
def startRefusal (k : Nat) (st : Status) : Reply :=
  if st = .notYet then notYet 10 else if k = 10 then failWhy st 0xFFFF 2 else fail st

theorem startRefusal_status {k : Nat} {st : Status} (hok : st ≠ .ok) (hacc : st ≠ .accepted) :
    (startRefusal k st).status ≠ .ok ∧ (startRefusal k st).status ≠ .accepted ∧ (startRefusal k st).blk = [] := by
  unfold startRefusal
  split_ifs
  · exact ⟨nofun, nofun, rfl⟩
  · exact ⟨hok, hacc, rfl⟩
  · exact ⟨hok, hacc, rfl⟩

theorem bridgeStart_run_follower {d : Dev} {r : Request} (h : d.isFollower = true) : cmdBridgeStart.run d r = refuse d (fail .state) :=
  if_pos h

theorem bridgeStart_run_fails {d : Dev} {r : Request} {k : Nat} {st : Status} (h : d.isFollower = false)
    (hchecks : d.startChecks (bandIx r.slot (rq r 0 1)) none = .error (k, st)) : cmdBridgeStart.run d r = refuse d (startRefusal k st) := by
  refine (if_neg (by simp [h])).trans ?_
  rw [hchecks]
  unfold startRefusal
  split
  · next heq =>
    cases heq
    rfl
  · next hne heq =>
    cases heq
    rw [if_neg fun hst => hne (by rw [hst]), if_pos rfl]
  · next hne hten heq =>
    cases heq
    rw [if_neg fun hst => hne (by rw [hst]), if_neg fun hk => hten (by rw [hk])]
  · next heq => cases heq

/-! ### A band that starts (R440, R447, R460) -/

/-- A band as its start leaves it: bound to its job, with the pattern of its permit's entry. -/
def Band.begun (x : Band) (job delay : Nat) (start : Option (Nat × Nat)) (at' : Nat) (e : Option PermitBand) : Band :=
  { cfg := x.cfg, job := job, delay := delay, start := start, startAt := at', lastTrip := x.lastTrip, lastTrigger := x.lastTrigger
    pattern := (e.map (·.pattern)).getD 0, slots := (e.map (·.slots)).getD 0, period := (e.map (·.period)).getD 0 }

/-- A band bound to its permit, at rung 0 and with no triggers. -/
def Dev.bindBand (d : Dev) (b h : Nat) (f : Band → Band) : Dev :=
  ((((d.updBand b f).set pBandPermit b (h : Nat)).set pBandRung b 0).set pBandTriggers b 0).set pBandUnits b
    (2 ^ (d.updBand b f).getN pUnitNumber : Nat)

/-- A lane whose band starts: its escalation lifted, its path begun, its convoy afresh. -/
def Dev.startLane (d : Dev) (c : BandCfg) (l : Nat) : Dev :=
  ((d.liftEscalation l).startPath l (d.estimates c l)).updConvoy l (fun x =>
    { x with d4 := none, d4d := none, gRef := none, remote := none, starveSince := some d.time, starveReported := false
             restart := some (outMin l, 6) })

/-- The lanes of a band that starts: begun, muted in their roles, under their ceilings. -/
def Dev.startLanes (d : Dev) (b : Nat) (c : BandCfg) (p : Permit) : Dev :=
  (((c.lanes.foldl (fun e l => e.startLane c l) d).setBandState b 2 0).placeRoles b).setEirp b p

theorem Dev.activateBand_eq (d : Dev) (b h job delay : Nat) (p : Permit) (start : Option (Nat × Nat)) : d.activateBand b h job delay p start =
    (d.bindBand b h (fun x => x.begun job delay start d.time ((d.band b).cfg.entry p (d.band b).cfg.dlLane))).startLanes b (d.band b).cfg p := rfl

theorem Dev.startLane_beside (d : Dev) (c : BandCfg) (l : Nat) : Beside (OffLane l) d (d.startLane c l) :=
  ((d.liftEscalation_beside l).trans (Dev.startPath_beside _ _)).trans (Dev.updConvoy_beside _ l _)

/-- The parameters of a band that its start binds. -/
def bandBindIds : List Nat := [pBandPermit, pBandRung, pBandTriggers, pBandUnits]

theorem Dev.bindBand_samePar (d : Dev) {b : Nat} (h : Nat) (f : Band → Band) (hb : b < 64) : SamePar bandBindIds d (d.bindBand b h f) := by
  have hset (e : Dev) (id : Nat) (v : Int) (hid : id ∈ bandBindIds) : SamePar bandBindIds e (e.set id b v) :=
    (e.set_samePar id v (by omega)).mono (by simpa using hid)
  have hband : SamePar bandBindIds d (d.updBand b f) := fun _ _ _ _ => rfl
  exact (((hband.trans (hset _ pBandPermit _ (by decide))).trans (hset _ pBandRung _ (by decide))).trans
    (hset _ pBandTriggers _ (by decide))).trans (hset _ pBandUnits _ (by decide))

theorem Dev.bindBand_reads (d : Dev) {b : Nat} (h : Nat) (f : Band → Band) (hb : b < 64) : (d.bindBand b h f).getN pBandPermit b = h ∧
    (d.bindBand b h f).getN pBandRung b = 0 ∧ (d.bindBand b h f).getN pBandTriggers b = 0 := by
  have hother (e : Dev) (id jd : Nat) (v : Int) (hne : jd ≠ id) : (e.set id b v).get jd b = e.get jd b :=
    e.get_set_id id b jd b v (by omega) (by omega) hne
  refine ⟨?_, ?_, ?_⟩ <;> simp [Dev.bindBand, Dev.getN, hother]

section StartLanes
variable {d : Dev} {b : Nat} (hb : b < 64) (hlanes : ∀ l ∈ (d.band b).cfg.lanes, l < 8) (p : Permit)
include hb hlanes

theorem Dev.startLanes_beside : Beside (Off (pBandState :: laneWorkIds)) d (d.startLanes b (d.band b).cfg p) ∧
    (d.startLanes b (d.band b).cfg p).bandState b = 2 := by
  have hbegun := Beside.foldLanes hlanes (fun e l => e.startLane_beside (d.band b).cfg l) d
  set begun := (d.band b).cfg.lanes.foldl (fun e l => e.startLane (d.band b).cfg l) d
  have hmoved := begun.setBandState_beside hb 2 0
  have hplaced : Beside (Off laneWorkIds) (begun.setBandState b 2 0) ((begun.setBandState b 2 0).placeRoles b) :=
    Dev.placeRoles_beside (by rwa [hmoved.band, hbegun.band])
  have hceiled : Beside (Off laneWorkIds) (begun.setBandState b 2 0) (d.startLanes b (d.band b).cfg p) :=
    hplaced.trans (Dev.setEirp_beside (by rwa [hplaced.band, hmoved.band, hbegun.band]) p)
  exact ⟨(((hbegun.off (by decide)).trans (hmoved.off (by decide))).trans (hceiled.off (by decide))),
    (hceiled.getN ⟨by omega, by decide⟩).trans (Dev.setBandState_state _ hb 2 0)⟩

end StartLanes

/-- A set that is the unit alone. -/
def Band.alone (y : Band) : Band := { y with setFixed := true, setUnits := 1 }

/-- A STANDALONE unit's band has its set at once. -/
def Dev.fixAlone (d : Dev) (b : Nat) : Dev := if d.position = 0 then d.updBand b Band.alone else d

/-- A band on its start: active, its set fixed where the unit stands alone, and START sent down. -/
def Dev.startBand (d : Dev) (b h job delay : Nat) (p : Permit) (start : Option (Nat × Nat)) : Dev :=
  ((d.activateBand b h job delay p start).fixAlone b).bandDown b 1

theorem SamePar.position_eq {ids : List Nat} {d e : Dev} (h : SamePar ids d e) (htop : pTopology ∉ ids) (hrole : pChainRole ∉ ids) :
    e.position = d.position := by
  rw [Dev.position, Dev.position, Dev.isFollower, Dev.isFollower, h pTopology 0 htop (by decide), h pChainRole 0 hrole (by decide)]

/-- What a band that has been started reads as. -/
structure BandStarts (b h job delay : Nat) (start : Option (Nat × Nat)) (d e : Dev) : Prop where
  state : e.bandState b = 2
  permit : e.getN pBandPermit b = h
  rung : e.getN pBandRung b = 0
  triggers : e.getN pBandTriggers b = 0
  job : (e.band b).job = job
  delay : (e.band b).delay = delay
  start : (e.band b).start = start
  startAt : (e.band b).startAt = d.time
  setFixed : (e.band b).setFixed = true ↔ d.position = 0
  outbox : e.host.outbox = d.host.outbox

/-- What a band's activation leaves, past the band itself. -/
theorem Dev.activateBand_reads {d : Dev} {b : Nat} (hb : b < 64) (hlen : b < d.bands.length) (hlanes : ∀ l ∈ (d.band b).cfg.lanes, l < 8)
    (h job delay : Nat) (p : Permit) (start : Option (Nat × Nat)) :
    let e := d.activateBand b h job delay p start
    (e.bandState b = 2 ∧ e.getN pBandPermit b = h ∧ e.getN pBandRung b = 0 ∧ e.getN pBandTriggers b = 0) ∧
      e.band b = (d.band b).begun job delay start d.time ((d.band b).cfg.entry p (d.band b).cfg.dlLane) ∧ b < e.bands.length ∧
      e.position = d.position ∧ e.host.outbox = d.host.outbox := by
  rw [Dev.activateBand_eq]
  set entry := (d.band b).cfg.entry p (d.band b).cfg.dlLane
  set bound := d.bindBand b h (fun x => x.begun job delay start d.time entry)
  have hband : bound.band b = (d.band b).begun job delay start d.time entry := Dev.band_updBand (fun x => x.begun job delay start d.time entry) hlen
  have hcfg : (bound.band b).cfg = (d.band b).cfg := by rw [hband]; rfl
  obtain ⟨hpermit, hrung, htriggers⟩ := d.bindBand_reads h (fun x => x.begun job delay start d.time entry) hb
  obtain ⟨hactive, hstate⟩ := Dev.startLanes_beside (d := bound) hb (by rwa [hcfg]) p
  rw [hcfg] at hactive hstate
  have hread {id : Nat} (hid : id ∉ pBandState :: laneWorkIds) : (bound.startLanes b (d.band b).cfg p).getN id b = bound.getN id b :=
    hactive.getN ⟨by omega, hid⟩
  have hlength : bound.bands.length = d.bands.length := length_upd _ _ _
  exact ⟨⟨hstate, (hread (by decide)).trans hpermit, (hread (by decide)).trans hrung, (hread (by decide)).trans htriggers⟩,
    (hactive.band b).trans hband, by rwa [hactive.bands, hlength],
    (hactive.samePar.position_eq (by decide) (by decide)).trans ((d.bindBand_samePar h _ hb).position_eq (by decide) (by decide)), hactive.outbox⟩

theorem Dev.startBand_starts {d : Dev} {b : Nat} (hb : b < 64) (hlen : b < d.bands.length) (hlanes : ∀ l ∈ (d.band b).cfg.lanes, l < 8)
    (h job delay : Nat) (p : Permit) (start : Option (Nat × Nat)) :
    BandStarts b h job delay start d (d.startBand b h job delay p start) := by
  obtain ⟨n, hn⟩ := ((d.activateBand b h job delay p start).fixAlone b).bandDown_frame b 1
  obtain ⟨⟨hstate, hpermit, hrung, htriggers⟩, hband, hlength, hposition, houtbox⟩ := Dev.activateBand_reads hb hlen hlanes h job delay p start
  rw [Dev.startBand, hn]
  clear hn
  generalize d.activateBand b h job delay p start = active at *
  by_cases halone : d.position = 0
  · have hfixed : (active.updBand b Band.alone).band b = Band.alone _ := (Dev.band_updBand _ hlength).trans (congrArg Band.alone hband)
    rw [Dev.fixAlone, if_pos (hposition.trans halone)]
    exact ⟨hstate, hpermit, hrung, htriggers, congrArg Band.job hfixed, congrArg Band.delay hfixed, congrArg Band.start hfixed,
      congrArg Band.startAt hfixed, iff_of_true (congrArg Band.setFixed hfixed) halone, houtbox⟩
  · rw [Dev.fixAlone, if_neg (by rwa [hposition])]
    exact ⟨hstate, hpermit, hrung, htriggers, congrArg Band.job hband, congrArg Band.delay hband, congrArg Band.start hband,
      congrArg Band.startAt hband, iff_of_false (fun hfixed => nomatch (congrArg Band.setFixed hband).symm.trans hfixed) halone, houtbox⟩

/-- The mark of a request has no part in the start of a band. -/
theorem BandStarts.unmarked {b h job delay : Nat} {start mark : Option (Nat × Nat)} {d d' e : Dev} (hs : BandStarts b h job delay start d e)
    (hposition : d.position = d'.position) (htime : d.time = d'.time) (houtbox : d.host.outbox = d'.host.outbox) :
    BandStarts b h job delay start d' { e with cause := mark } :=
  ⟨hs.state, hs.permit, hs.rung, hs.triggers, hs.job, hs.delay, hs.start, hs.startAt.trans htime, hposition ▸ hs.setFixed,
    hs.outbox.trans houtbox⟩

/-- The standing job of a band. -/
def Dev.bandJob (d : Dev) (b : Nat) (p : Permit) : Job :=
  { opcode := 0x0A02, standing := true, rate := d.standingRate b p, lanes := (d.band b).cfg.lanes }

section StartRun
variable {d : Dev} {r : Request} {h y : Nat} {p : Permit} (hhead : d.isFollower = false)
  (hchecks : d.startChecks (bandIx r.slot (rq r 0 1)) none = .ok (h, p, y))
include hhead hchecks

theorem bridgeStart_run_error {rep : Reply} (herr : d.startJob r.slot (rq r 2 2) (d.bandJob (bandIx r.slot (rq r 0 1)) p) = .error rep) :
    cmdBridgeStart.run d r = refuse d rep := by
  refine (if_neg (by simp [hhead])).trans ?_
  rw [hchecks]
  change (match d.startJob r.slot (rq r 2 2) (d.bandJob (bandIx r.slot (rq r 0 1)) p) with | .error rep => _ | .ok (j, d1) => _) = _
  rw [herr]

theorem bridgeStart_run_starts {j : Nat} {d1 : Dev}
    (hok : d.startJob r.slot (rq r 2 2) (d.bandJob (bandIx r.slot (rq r 0 1)) p) = .ok (j, d1)) : cmdBridgeStart.run d r =
      { dev := d1.startBand (bandIx r.slot (rq r 0 1)) h j (min 4294967295 (delayNs y)) p (some (r.slot, r.ref)), reply := accepted 2200 } := by
  refine (if_neg (by simp [hhead])).trans ?_
  rw [hchecks]
  change (match d.startJob r.slot (rq r 2 2) (d.bandJob (bandIx r.slot (rq r 0 1)) p) with | .error rep => _ | .ok (j, d1) => _) = _
  rw [hok]
  rfl

end StartRun

section BridgeStart
variable {s : State} {r : Request} {h y : Nat} {p : Permit} (ht : Takes cmdBridgeStart s r) (hhead : s.dev.isFollower = false)
  (hchecks : s.dev.startChecks (bandIx r.slot (rq r 0 1)) none = .ok (h, p, y))
include ht hhead hchecks

theorem bridgeStart_error {rep : Reply} (herr : s.dev.startJob r.slot (rq r 2 2) (s.dev.bandJob (bandIx r.slot (rq r 0 1)) p) = .error rep)
    (hblk : rep.blk = []) (hst : rep.status ≠ .accepted) : exec (.bridgeStart r) s = .next (s.on (s.dev.respond r 0x0A02 rep)) := by
  refine act_refuses ht (bridgeStart_run_error (d := { s.dev with cause := some (r.slot, r.ref) }) hhead hchecks ?_)
    ⟨Dev.startJob_error herr, hst⟩ hblk
  have hmarked := s.dev.startJob_marked (some (r.slot, r.ref)) r.slot (rq r 2 2) (s.dev.bandJob (bandIx r.slot (rq r 0 1)) p)
  rw [herr] at hmarked
  exact hmarked

theorem bridgeStart_starts (hslot : r.slot < 8) {j : Nat} {d1 : Dev}
    (hok : s.dev.startJob r.slot (rq r 2 2) (s.dev.bandJob (bandIx r.slot (rq r 0 1)) p) = .ok (j, d1))
    (hlen : bandIx r.slot (rq r 0 1) < s.dev.bands.length) (hlanes : ∀ l ∈ (s.dev.band (bandIx r.slot (rq r 0 1))).cfg.lanes, l < 8) :
    ∃ e, exec (.bridgeStart r) s = .next (s.on (e.accept r 0x0A02 2200)) ∧
      BandStarts (bandIx r.slot (rq r 0 1)) h j (min 4294967295 (delayNs y)) (some (r.slot, r.ref)) s.dev e := by
  have hid : rq r 0 1 ≤ 7 := of_decide_eq_true (firstBad_first ht.bad_none)
  obtain ⟨g, rfl⟩ := Dev.startJob_updJobs hok
  have hmarked : ({ s.dev with cause := some (r.slot, r.ref) } : Dev).startJob r.slot (rq r 2 2)
      (s.dev.bandJob (bandIx r.slot (rq r 0 1)) p) = .ok (j, { s.dev.updJobs r.slot g with cause := some (r.slot, r.ref) }) := by
    rw [Dev.startJob_marked, hok]
    rfl
  have hstarts := Dev.startBand_starts (d := { s.dev.updJobs r.slot g with cause := some (r.slot, r.ref) }) (bandIx_lt hslot hid) hlen hlanes
    h j (min 4294967295 (delayNs y)) p (some (r.slot, r.ref))
  have hposition : (s.dev.updJobs r.slot g).position = s.dev.position :=
    (s.dev.updJobs_samePar g (show r.slot < 65536 by omega)).position_eq (by decide) (by decide)
  have hrun := bridgeStart_run_starts (d := { s.dev with cause := some (r.slot, r.ref) })
    (d1 := { s.dev.updJobs r.slot g with cause := some (r.slot, r.ref) }) hhead hchecks hmarked
  exact ⟨_, act_accepts ht hrun (.inl rfl), hstarts.unmarked hposition rfl rfl⟩

end BridgeStart

/-- ACCEPTED moves no parameter of the band, and none of its fields. -/
theorem BandStarts.accepts {b h job delay : Nat} {start : Option (Nat × Nat)} {d e : Dev} (hs : BandStarts b h job delay start d e) {r : Request}
    (hslot : r.slot < 8) (hb : b < 64) (op bound : Nat) :
    (e.accept r op bound).bandState b = 2 ∧ (e.accept r op bound).getN pBandPermit b = h ∧ (e.accept r op bound).getN pBandRung b = 0 ∧
      (e.accept r op bound).getN pBandTriggers b = 0 ∧ (e.accept r op bound).host.outbox = d.host.outbox ++ [answer r op (accepted bound)] := by
  have hpar : SamePar [pLongCmdsOpen] e (e.accept r op bound) := Dev.set_samePar _ pLongCmdsOpen _ (by omega)
  have hread {id : Nat} (hid : id ∉ [pLongCmdsOpen]) : (e.accept r op bound).getN id b = e.getN id b := hpar.getN_eq hid (by omega)
  exact ⟨(hread (by decide)).trans hs.state, (hread (by decide)).trans hs.permit, (hread (by decide)).trans hs.rung,
    (hread (by decide)).trans hs.triggers, congrArg (· ++ [answer r op (accepted bound)]) hs.outbox⟩

/-! ### BAND_CONFIG (R439, R441, Table BP-1) -/

/-- A lane of a band being configured: tuned through LOCK, and in LISTEN. -/
def Dev.tuneLane (d : Dev) (x : Channel) : Dev :=
  ((((d.set pLaneFreq x.lane (x.fc : Nat)).set pLaneRate x.lane (x.rate : Nat)).passLock x.lane false).1.staleIso x.lane 1).setLaneState x.lane 4
    (some 0)

/-- What passing LOCK and entering a state moves of a lane. -/
def lockIds : List Nat := [pLaneState, pCalStoreUsed, pRxEntry, pTxEntry, pDigitalGain, pIsoState, pIsoIEff]

theorem Dev.tuneLane_locks (d : Dev) (x : Channel) :
    Beside (OffAt lockIds x.lane) ((d.set pLaneFreq x.lane (x.fc : Nat)).set pLaneRate x.lane (x.rate : Nat)) (d.tuneLane x) :=
  (((Dev.passLock_beside _ false).widen (by decide)).trans ((Dev.staleIso_beside _ 1).widen (by decide))).trans
    ((Dev.setLaneState_beside _ 4 (some 0)).widen (by decide))

theorem Dev.tuneLane_beside (d : Dev) (x : Channel) : Beside (OffLane x.lane) d (d.tuneLane x) :=
  ((d.setAt_beside _ (by decide)).trans (Dev.setAt_beside _ _ (by decide))).trans ((d.tuneLane_locks x).widen (by decide))

/-- The channel is tuned and its lane listens. -/
def Dev.tuned (d : Dev) (x : Channel) : Prop := d.getN pLaneFreq x.lane = x.fc ∧ d.getN pLaneRate x.lane = x.rate ∧ d.laneState x.lane = 4

theorem Dev.tuneLane_tuned (d : Dev) {x : Channel} (hl : x.lane < 8) : (d.tuneLane x).tuned x := by
  have hread {id : Nat} (hid : id ∉ lossIds ++ lockIds) :
      (d.tuneLane x).getN id x.lane = ((d.set pLaneFreq x.lane (x.fc : Nat)).set pLaneRate x.lane (x.rate : Nat)).getN id x.lane := by
    rw [List.mem_append, not_or] at hid
    exact (d.tuneLane_locks x).getN ⟨⟨by omega, by omega⟩, hid.1, fun h => absurd h hid.2⟩
  refine ⟨(hread (by decide)).trans ?_, (hread (by decide)).trans (Dev.getN_set_same ..), Dev.setLaneState_state _ hl 4 (some 0)⟩
  rw [Dev.getN, Dev.get_set_id _ _ _ _ _ _ (by omega) (by omega) (by decide)]
  exact Dev.getN_set_same d pLaneFreq x.lane x.fc

/-- The parameters that say what one lane is tuned to. -/
def AtLane (l id i : Nat) : Prop := id ∈ [pLaneFreq, pLaneRate, pLaneState] ∧ i = l

theorem Dev.tuned_same {d e : Dev} {x : Channel} (h : Beside (AtLane x.lane) d e) (ht : d.tuned x) : e.tuned x := by
  obtain ⟨hfreq, hrate, hstate⟩ := ht
  exact ⟨(h.getN ⟨by decide, rfl⟩).trans hfreq, (h.getN ⟨by decide, rfl⟩).trans hrate, (h.getN ⟨by decide, rfl⟩).trans hstate⟩

/-- The work on one lane leaves what another is tuned to. -/
theorem Beside.atLane_ne {d e : Dev} {l k : Nat} (h : Beside (OffLane l) d e) (hl : l < 8) (hk : k < 8) (hne : k ≠ l) : Beside (AtLane k) d e :=
  h.mono fun id i ⟨hid, hi⟩ => by
    subst hi
    have hoff : ∀ id ∈ [pLaneFreq, pLaneRate, pLaneState], id ∉ lossIds := by decide
    exact ⟨⟨by omega, by omega⟩, hoff id hid, fun _ => hne⟩

/-- Channels tuned one after another on lanes of their own are all tuned. -/
theorem Dev.tuneLanes_tuned {cs : List Channel} (hcs : ∀ x ∈ cs, x.lane < 8) (hdist : cs.Pairwise (fun x y => y.lane ≠ x.lane)) (d : Dev) :
    ∀ x ∈ cs, (cs.foldl Dev.tuneLane d).tuned x := by
  induction cs generalizing d with
  | nil => exact fun x hx => absurd hx List.not_mem_nil
  | cons c cs ih =>
    intro x hx
    obtain ⟨hfirst, hrest⟩ := List.pairwise_cons.1 hdist
    obtain rfl | hx := List.mem_cons.1 hx
    · have hothers : Beside (AtLane x.lane) (d.tuneLane x) (cs.foldl Dev.tuneLane (d.tuneLane x)) :=
        .foldl (fun e y hy => (e.tuneLane_beside y).atLane_ne (hcs y (List.mem_cons_of_mem _ hy)) (hcs x (List.mem_cons_self ..))
          (hfirst y hy).symm) _
      exact Dev.tuned_same hothers (d.tuneLane_tuned (hcs x (List.mem_cons_self ..)))
    · exact ih (fun y hy => hcs y (List.mem_cons_of_mem _ hy)) hrest (d.tuneLane c) x hx

/-- The band or a lane of its configuration is in use. -/
def Dev.bandHeld (d : Dev) (b : Nat) (c : BandCfg) : Prop :=
  d.bandBusy b = true ∨ ∃ l ∈ c.lanes, (d.laneState l ≠ 2 ∧ d.laneState l ≠ 4) ∨ (d.lane l).survey.isSome = true ∨
    ∃ o, d.laneBand l = some o ∧ o ≠ b

/-- The same as BAND_CONFIG tests it. -/
def Dev.bandClash (d : Dev) (b : Nat) (c : BandCfg) : Bool :=
  d.bandBusy b || c.lanes.any (fun l => (d.laneState l ≠ 2 && d.laneState l ≠ 4) || (d.lane l).survey.isSome ||
    (match d.laneBand l with
      | some o => o ≠ b
      | none => false))

theorem Dev.bandClash_iff (d : Dev) (b : Nat) (c : BandCfg) : d.bandClash b c = true ↔ d.bandHeld b c := by
  have hother (l : Nat) : (match d.laneBand l with
      | some o => decide (o ≠ b)
      | none => false) = true ↔ ∃ o, d.laneBand l = some o ∧ o ≠ b := by
    cases d.laneBand l <;> simp
  simp only [Dev.bandClash, Dev.bandHeld, Bool.or_eq_true, List.any_eq_true, Bool.and_eq_true, decide_eq_true_eq, hother, or_assoc]

/-- An IDLE band taken away. -/
def Dev.dropBand (d : Dev) (b : Nat) : Dev := (d.setBandState b 0 0).updBand b (fun _ => {})

/-- A band configured, IDLE. -/
def Dev.newBand (d : Dev) (b : Nat) (c : BandCfg) : Dev := (d.updBand b (fun _ => { cfg := c })).setBandState b 1 0

/-- A band configured: IDLE, its lanes tuned, the budget of its slot checked, and its configuration sent down. -/
def Dev.configBand (d : Dev) (b : Nat) (c : BandCfg) (slot : Nat) : Dev :=
  ((c.channels.foldl Dev.tuneLane (d.newBand b c)).budgetCheck slot).bandDown b 0

section BandConfigRun
variable {d : Dev} {r : Request}

theorem bandConfig_run_busy (hclear : rq r 1 1 = 1) (h : d.bandState (bandIx r.slot (rq r 0 1)) ≠ 1) :
    cmdBandConfig.run d r = refuse d (fail .state) :=
  (if_pos hclear).trans (if_pos h)

theorem bandConfig_run_clears (hclear : rq r 1 1 = 1) (h : d.bandState (bandIx r.slot (rq r 0 1)) = 1) :
    cmdBandConfig.run d r = { dev := (d.dropBand (bandIx r.slot (rq r 0 1))).budgetCheck r.slot
                              reply := (d.dropBand (bandIx r.slot (rq r 0 1))).bandReply (bandIx r.slot (rq r 0 1)) } :=
  (if_pos hclear).trans (if_neg (not_not.2 h))

/-- SET, step by step as Table BP-1 has them. -/
def Dev.setBandRun (d : Dev) (r : Request) (b : Nat) (c : BandCfg) : Answer :=
  if !d.bandCfgOk r.slot c then refuse d (fail .badArg)
  else if d.bandClash b c then refuse d (fail .state)
  else match d.permitStatus r.slot c.channels with
  | some st => refuse d (fail st)
  | none => if (d.overShare r.slot c b).isSome then refuse d (fail .wouldExceed)
    else { dev := d.configBand b c r.slot, reply := (d.configBand b c r.slot).bandReply b }

theorem bandConfig_run_set (hset : rq r 1 1 = 0) : cmdBandConfig.run d r = d.setBandRun r (bandIx r.slot (rq r 0 1)) (bandCfgOf r) :=
  (if_neg (by omega)).trans rfl

variable {b : Nat} {c : BandCfg}

theorem Dev.setBandRun_bad (h : d.bandCfgOk r.slot c = false) : d.setBandRun r b c = refuse d (fail .badArg) := if_pos (by simp [h])

theorem Dev.setBandRun_held (hok : d.bandCfgOk r.slot c = true) (h : d.bandHeld b c) : d.setBandRun r b c = refuse d (fail .state) :=
  (if_neg (by simp [hok])).trans (if_pos ((d.bandClash_iff b c).2 h))

variable (hok : d.bandCfgOk r.slot c = true) (hfree : ¬d.bandHeld b c)
include hok hfree

theorem Dev.setBandRun_unpermitted {st : Status} (h : d.permitStatus r.slot c.channels = some st) : d.setBandRun r b c = refuse d (fail st) := by
  rw [Dev.setBandRun, if_neg (by simp [hok]), if_neg fun hclash => hfree ((d.bandClash_iff b c).1 hclash), h]

variable (hpermit : d.permitStatus r.slot c.channels = none)
include hpermit

theorem Dev.setBandRun_permitted : d.setBandRun r b c = if (d.overShare r.slot c b).isSome then refuse d (fail .wouldExceed)
    else { dev := d.configBand b c r.slot, reply := (d.configBand b c r.slot).bandReply b } := by
  rw [Dev.setBandRun, if_neg (by simp [hok]), if_neg fun hclash => hfree ((d.bandClash_iff b c).1 hclash), hpermit]

end BandConfigRun

section Configured
variable {d : Dev} {b : Nat} (hb : b < 64)
include hb

/-- A band that is taken away is of no state. -/
theorem Dev.dropBand_state : (d.dropBand b).bandState b = 0 := Dev.setBandState_state _ hb 0 0

theorem Dev.dropBand_reply : (d.dropBand b).bandReply b = okBody (e8 (b % 8) ++ e8 0 ++ zs 2 ++ e32 0 ++ e32 0) := by
  rw [Dev.bandReply, Dev.dropBand_state hb]
  rfl

theorem Dev.dropBand_outbox : (d.dropBand b).host.outbox = d.host.outbox := (d.setBandState_beside hb 0 0).outbox

theorem Dev.newBand_beside (c : BandCfg) : Beside (Off (pBandState :: lossIds)) (d.updBand b (fun _ => { cfg := c })) (d.newBand b c) :=
  Dev.setBandState_beside _ hb 1 0

/-- What a configured band leaves: the band IDLE, and every one of its channels tuned. -/
theorem Dev.configBand_reads {c : BandCfg} (hlanes : ∀ l ∈ c.lanes, l < 8) (hdist : c.channels.Pairwise (fun x y => y.lane ≠ x.lane))
    (slot : Nat) : (d.configBand b c slot).bandState b = 1 ∧ (b < d.bands.length → ((d.configBand b c slot).band b).cfg = c) ∧
      (∀ x ∈ c.channels, (d.configBand b c slot).tuned x) ∧ (d.configBand b c slot).host.outbox = d.host.outbox := by
  have hchannels : ∀ x ∈ c.channels, x.lane < 8 := fun x hx => hlanes _ (BandCfg.channel_lane hx)
  have hnew := Dev.newBand_beside (d := d) hb c
  have hstate : (d.newBand b c).bandState b = 1 := Dev.setBandState_state _ hb 1 0
  have hlisten : Beside (Off laneWorkIds) (d.newBand b c) (c.channels.foldl Dev.tuneLane (d.newBand b c)) :=
    .foldl (fun e x hx => (e.tuneLane_beside x).offLanes (hchannels x hx)) _
  have htuned := Dev.tuneLanes_tuned hchannels hdist (d.newBand b c)
  have hchecked := (c.channels.foldl Dev.tuneLane (d.newBand b c)).budgetCheck_beside slot
  obtain ⟨n, hn⟩ := ((c.channels.foldl Dev.tuneLane (d.newBand b c)).budgetCheck slot).bandDown_frame b 0
  rw [Dev.configBand, hn]
  have hatLane (l : Nat) (hl : l < 8) : Beside (AtLane l) (c.channels.foldl Dev.tuneLane (d.newBand b c))
      ((c.channels.foldl Dev.tuneLane (d.newBand b c)).budgetCheck slot) :=
    hchecked.mono fun id i ⟨hid, hi⟩ => by
      have hoff : ∀ id ∈ [pLaneFreq, pLaneRate, pLaneState], id ∉ budgetIds := by decide
      exact ⟨by omega, hoff id hid⟩
  have hlistens {x : Channel} (hx : x ∈ c.channels) : ((c.channels.foldl Dev.tuneLane (d.newBand b c)).budgetCheck slot).tuned x :=
    Dev.tuned_same (hatLane x.lane (hchannels x hx)) (htuned x hx)
  refine ⟨(hchecked.getN ⟨by omega, by decide⟩).trans ((hlisten.getN ⟨by omega, by decide⟩).trans hstate), fun hlen => ?_,
    fun x hx => hlistens hx, hchecked.outbox.trans (hlisten.outbox.trans hnew.outbox)⟩
  have hband : ((c.channels.foldl Dev.tuneLane (d.newBand b c)).budgetCheck slot).band b = { cfg := c } :=
    (hchecked.band b).trans ((hlisten.band b).trans ((hnew.band b).trans (Dev.band_updBand (fun _ => { cfg := c }) hlen)))
  exact congrArg Band.cfg hband

end Configured

/-- The lanes of the configuration that a SET carries (Table BP-8). -/
theorem bandConfig_lanes {s : State} {r : Request} (ht : Takes cmdBandConfig s r) (hset : rq r 1 1 = 0) : ∀ l ∈ (bandCfgOf r).lanes, l < 8 := by
  have hchecks := firstBad_rest (firstBad_rest (firstBad_rest ht.bad_none))
  have hdl := firstBad_first hchecks
  have hul := firstBad_first (firstBad_rest hchecks)
  simp only [hset, decide_true, Bool.not_true, Bool.false_or, decide_eq_true_eq] at hdl hul
  intro l hl
  unfold BandCfg.lanes at hl
  split at hl
  · rw [List.mem_singleton.1 hl]
    exact hdl
  · next hfdd =>
    rw [if_neg hfdd] at hul
    obtain rfl | hl := List.mem_cons.1 hl
    · exact hdl
    · rw [List.mem_singleton.1 hl]
      exact of_decide_eq_true hul

/-- The two lanes of an FDD band differ (Table BP-1). -/
theorem Dev.bandCfgOk_distinct {d : Dev} {slot : Nat} {c : BandCfg} (h : d.bandCfgOk slot c = true) :
    c.channels.Pairwise (fun x y => y.lane ≠ x.lane) := by
  unfold BandCfg.channels
  split
  · exact List.pairwise_singleton _ _
  · next hfdd =>
    have hlanes : c.ulLane ≠ c.dlLane := by
      simp only [Dev.bandCfgOk, Bool.and_eq_true] at h
      obtain ⟨-, h⟩ := h
      rw [if_neg hfdd] at h
      simp only [Bool.and_eq_true, decide_eq_true_eq] at h
      exact h.1
    simpa using hlanes

theorem bandConfig_clears {s : State} {r : Request} (ht : Takes cmdBandConfig s r) (hslot : r.slot < 8) (hclear : rq r 1 1 = 1)
    (hidle : s.dev.bandState (bandIx r.slot (rq r 0 1)) = 1) :
    ∃ e, exec (.bandConfig r) s = .next (s.on e) ∧ e.bandState (bandIx r.slot (rq r 0 1)) = 0 ∧
      e.host.outbox = s.dev.host.outbox ++ [answer r 0x0A01 (okBody (e8 (bandIx r.slot (rq r 0 1) % 8) ++ e8 0 ++ zs 2 ++ e32 0 ++ e32 0))] := by
  have hb := bandIx_lt hslot (of_decide_eq_true (firstBad_first ht.bad_none))
  have hrun := bandConfig_run_clears (d := { s.dev with cause := some (r.slot, r.ref) }) hclear hidle
  rw [Dev.dropBand_reply hb] at hrun
  have hchecked := (({ s.dev with cause := some (r.slot, r.ref) } : Dev).dropBand (bandIx r.slot (rq r 0 1))).budgetCheck_beside r.slot
  have hdropped := Dev.dropBand_outbox (d := { s.dev with cause := some (r.slot, r.ref) }) hb
  refine ⟨_, act_answers ht hrun rfl nofun rfl, (hchecked.getN ⟨by omega, by decide⟩).trans (Dev.dropBand_state hb), ?_⟩
  exact congrArg (· ++ [_]) (hchecked.outbox.trans hdropped)

theorem bandConfig_sets {s : State} {r : Request} (ht : Takes cmdBandConfig s r) (hslot : r.slot < 8) (hset : rq r 1 1 = 0)
    (hok : s.dev.bandCfgOk r.slot (bandCfgOf r) = true) (hfree : ¬s.dev.bandHeld (bandIx r.slot (rq r 0 1)) (bandCfgOf r))
    (hpermit : s.dev.permitStatus r.slot (bandCfgOf r).channels = none)
    (hshare : s.dev.overShare r.slot (bandCfgOf r) (bandIx r.slot (rq r 0 1)) = none) :
    ∃ e, exec (.bandConfig r) s = .next (s.on e) ∧ e.bandState (bandIx r.slot (rq r 0 1)) = 1 ∧
      (bandIx r.slot (rq r 0 1) < s.dev.bands.length → (e.band (bandIx r.slot (rq r 0 1))).cfg = bandCfgOf r) ∧
      (∀ k ∈ (bandCfgOf r).channels, e.tuned k) ∧
      e.host.outbox = s.dev.host.outbox ++ [answer r 0x0A01 (e.bandReply (bandIx r.slot (rq r 0 1)))] := by
  have hb := bandIx_lt hslot (of_decide_eq_true (firstBad_first ht.bad_none))
  obtain ⟨hstate, hcfg, htuned, houtbox⟩ := Dev.configBand_reads (d := { s.dev with cause := some (r.slot, r.ref) }) hb (bandConfig_lanes ht hset)
    (Dev.bandCfgOk_distinct hok) r.slot
  have hwithin : ¬(s.dev.overShare r.slot (bandCfgOf r) (bandIx r.slot (rq r 0 1))).isSome = true := by
    rw [hshare]
    exact Bool.false_ne_true
  have hrun := (bandConfig_run_set (d := { s.dev with cause := some (r.slot, r.ref) }) hset).trans
    ((Dev.setBandRun_permitted (d := { s.dev with cause := some (r.slot, r.ref) }) hok hfree hpermit).trans (if_neg hwithin))
  generalize ({ s.dev with cause := some (r.slot, r.ref) } : Dev).configBand (bandIx r.slot (rq r 0 1)) (bandCfgOf r) r.slot = e at *
  exact ⟨_, act_answers ht hrun rfl nofun rfl, hstate, hcfg, htuned, congrArg (· ++ [_]) houtbox⟩

end Sys2Proof.Machine

open Sys2Proof Sys2Proof.Machine

/-- Settles O55, command by command. -/
theorem bridgeCommands : Obligations.BridgeCommands := by
  unfold Obligations.BridgeCommands
  intro s r b hslot id x
  refine ⟨fun ht hb => ?_, fun ht hb => ?_, fun hb hlen hlanes hstart => ?_, fun ht hb => ?_, fun ht hb => ?_, fun ht => ?_⟩
  · subst hb
    intro c say held
    have hset (hzero : rq r 1 1 = 0) := bandConfig_run_set (d := { s.dev with cause := some (r.slot, r.ref) }) hzero
    refine ⟨fun hclear hstate => act_refuses ht (bandConfig_run_busy hclear hstate) (by decide) rfl,
      fun hclear hidle => bandConfig_clears ht hslot hclear hidle,
      fun hzero hbad => act_refuses ht ((hset hzero).trans (Dev.setBandRun_bad hbad)) (by decide) rfl,
      fun hzero hok hheld => act_refuses ht ((hset hzero).trans (Dev.setBandRun_held hok hheld)) (by decide) rfl,
      fun st hzero hok hfree hpermit => ?_, fun hzero hok hfree hpermit hshare => ?_,
      fun hzero hok hfree hpermit hshare => bandConfig_sets ht hslot hzero hok hfree hpermit hshare⟩
    · exact act_refuses ht ((hset hzero).trans (Dev.setBandRun_unpermitted (d := { s.dev with cause := some (r.slot, r.ref) }) hok hfree hpermit))
        (Dev.permitStatus_refuses hpermit) rfl
    · exact act_refuses ht ((hset hzero).trans
        ((Dev.setBandRun_permitted (d := { s.dev with cause := some (r.slot, r.ref) }) hok hfree hpermit).trans (if_pos hshare))) (by decide) rfl
  · subst hb
    have hfails {k : Nat} {st : Status} (hhead : s.dev.isFollower = false) (hchecks : s.dev.startChecks (bandIx r.slot id) none = .error (k, st))
        (hacc : st ≠ .accepted) : exec (.bridgeStart r) s = .next (s.on (s.dev.respond r 0x0A02 (startRefusal k st))) := by
      obtain ⟨hok, hnot, hblk⟩ := startRefusal_status (k := k) (Dev.startChecks_refuses hchecks) hacc
      exact act_refuses ht (bridgeStart_run_fails (d := { s.dev with cause := some (r.slot, r.ref) }) hhead hchecks) ⟨hok, hnot⟩ hblk
    refine ⟨fun hfollower => act_refuses ht (bridgeStart_run_follower hfollower) (by decide) rfl, fun k hhead hchecks => ?_,
      fun st hhead hchecks hyet hacc => ?_, fun k st hhead hchecks hten hyet hacc => ?_, fun h p y hhead hchecks => ⟨?_, ?_⟩⟩
    · exact hfails hhead hchecks nofun
    · have hsay := hfails hhead hchecks hacc
      rwa [startRefusal, if_neg hyet, if_pos rfl] at hsay
    · have hsay := hfails hhead hchecks hacc
      rwa [startRefusal, if_neg hyet, if_neg hten] at hsay
    · exact fun rep herr hblk hst => bridgeStart_error ht hhead hchecks herr hblk hst
    · intro j d1 hok hlen hlanes
      have hb := bandIx_lt hslot (of_decide_eq_true (firstBad_first ht.bad_none))
      obtain ⟨e, hexec, hs⟩ := bridgeStart_starts ht hhead hchecks hslot hok hlen hlanes
      obtain ⟨hstate, hpermit, hrung, htriggers, houtbox⟩ := hs.accepts hslot hb 0x0A02 2200
      exact ⟨_, hexec, hstate, hpermit, hrung, htriggers, hs.job, hs.delay, hs.start, hs.startAt, hs.setFixed, houtbox⟩
  · intro ready text ended late came blind
    have hends {why : Nat} (hstarting : s.dev.starting b = true) (hwhy : why ≠ 0) : ended (s.dev.failStart b why) why :=
      (Dev.failStart_ended hb hlen hlanes hstart hstarting hwhy).completes
    refine ⟨fun hwaits => State.act_unchanged (bridgeStartComplete_waits hwaits),
      fun hready => ⟨_, State.act_of_eq rfl, bridgeStartComplete_bridges hb hlen hstart hready⟩,
      fun hearly => State.act_unchanged (followerAnswerTimeout_early hearly), fun hlate hnone => ?_, fun hlate hsome => ?_,
      fun hearly => State.act_unchanged (startNoCellTimeout_early hearly),
      fun hblind => ⟨_, State.act_of_eq (startNoCellTimeout_late hblind), hends hblind.1 (by decide)⟩⟩
    · exact ⟨_, State.act_of_eq ((followerAnswerTimeout_late hlate).trans (if_pos hnone)), hends hlate.1 (by decide)⟩
    · exact ⟨_, State.act_of_eq ((followerAnswerTimeout_late hlate).trans (if_neg hsome)), rfl, Dev.fixSet_reads hlen _⟩
  · subst hb
    refine ⟨fun hidle => act_refuses ht (bridgeStop_run_idle hidle) (by decide) rfl, fun hbusy hlen hlanes hstart => ?_⟩
    obtain ⟨e, hexec, hended⟩ := bridgeStop_stops ht hslot hbusy hlen hlanes hstart
    exact ⟨_, hexec, hended.state, hended.permit, hended.units, hended.trig, hended.muted, List.getLast?_concat⟩
  · subst hb
    exact ⟨fun hnone => act_refuses ht (tddPatternGet_run_none hnone) (by decide) rfl,
      fun hpattern => act_answers ht (tddPatternGet_run_reads (d := { s.dev with cause := some (r.slot, r.ref) }) hpattern) rfl nofun rfl⟩
  · exact ⟨fun hnone => protectionStatusGet_reads ht hnone, fun o ho => protectionStatusGet_reads ht ho⟩

end
